-- ==== Sys2Proof/Word.lean ====
section
/-! DEFINITION. The word types of the FX-860 (R45) and a sparse table keyed by numbers: the one container in which the
model holds registers, memory and the records of the device. -/
namespace Sys2Proof

/-- 8, 16, 32 and 64 bits (R45). -/
abbrev Byte := BitVec 8
abbrev Half := BitVec 16
abbrev Word := BitVec 32
abbrev Dword := BitVec 64

/-- The two halves of a 64-bit value, low half first in a pair (R137). -/
abbrev lowWord (d : Dword) : Word := BitVec.ofNat 32 d.toNat
abbrev highWord (d : Dword) : Word := BitVec.ofNat 32 (d.toNat / 4294967296)
/-- The 64-bit value of a pair, low half in the even register (R137). -/
abbrev pairOf (lo hi : Word) : Dword := BitVec.ofNat 64 (lo.toNat + hi.toNat * 4294967296)

end Sys2Proof
end

