-- ==== Sys2Proof/Config.lean ====
section
/-! DEFINITION. What one implementation fixes and what the spec leaves open. The opaque constants have no body: nothing
can be proved of their values, so a claim holds whatever they are (log 7 names each). -/
namespace Sys2Proof.Config

/-- Units of the package (R6). -/
def stackCount : Nat := 8
def bandCount : Nat := 64
def clusterCount : Nat := 512
def coreCount : Nat := 2048
def lanesPerCore : Nat := 64

/-- Bytes of DRAM of one band, 6 GiB (R14). -/
def bandBytes : Nat := 6442450944
/-- Start of host memory in both physical maps, 2^50 (R14, R15). -/
def hostBase : Nat := 0x4000000000000
/-- Start of the peer range, 2^51 (R14). -/
def peerBase : Nat := 0x8000000000000
/-- Start of the VF pages in a partition's map (R14). -/
def vfBase : Nat := 0xC000000000000

/-- A free bit, one for each draw. Used where a rule says "zero or one" or "may" (R78, R101). -/
opaque freeBit : Nat → Bool
/-- Free 64-bit values, by draw and index: what a peer device answers (R375), and every other value left open. -/
opaque freeDword : Nat → Nat → Dword
/-- Whether a peer device refuses an access (R391), by draw and cycle. -/
opaque peerRefuses : Nat → Nat → Bool
/-- Which translation an access uses where a TLB may hold one that memory no longer gives (R348), by draw and cycle:
0, or a number past the last candidate, for the one in memory. -/
opaque staleChoice : Nat → Nat → Nat
/-- The length of a lease less one; R101 asks that a lease be at least 1. -/
opaque leaseExtra : Nat → Nat
/-- R390: what bytes encrypted under one key read as to a holder of another, or of none (0): by the two key numbers, the
address, and the 16 bytes of the unit before encryption. -/
opaque cipherByte : Nat → Nat → Nat → List Byte → Byte
/-- R3: whether the lower die of a stack comes from the second fabrication source. -/
opaque fabSecond : Nat → Bool
/-- R3: the stepping of the package. -/
opaque stepping : BitVec 8
/-- R387: the SHA-384 digest of the verifying key in the fuses of a stack. -/
opaque fuseDigest : Nat → List Byte
/-- R387: the minimum version in the fuses of a stack. -/
opaque fusedVersion : Nat → Nat
/-- R202: which neighbour a faithful function (5 sin, 6 cos, 7 tanh) delivers for an operand whose exact value is not
representable: the lower one when false. A function of the function and the operand, as R202 asks. -/
opaque faithfulUp : Nat → Word → Bool

end Sys2Proof.Config
end

