-- ==== Sys2Proof/Syntax.lean ====
section
/-! DEFINITION. The instructions and device events of the FX-860: one constructor per row of the opcode table
(R131, R142 for the words, 95_what_each_step_holds for the events). The operands of a word are its fields, high bits
first, under the table's letters; the operands of an event say which unit it strikes. -/
namespace Sys2Proof

/-- One row of the opcode table each. -/
inductive Instr where
  /-- MOV, R131. -/
  | mov (a : BitVec 5) (d : BitVec 6)
  /-- IADD, R131. -/
  | iadd (a : BitVec 5) (d : BitVec 6)
  /-- ISUB, R131. -/
  | isub (a : BitVec 5) (d : BitVec 6)
  /-- IAND, R131. -/
  | iand (a : BitVec 5) (d : BitVec 6)
  /-- IOR, R131. -/
  | ior (a : BitVec 5) (d : BitVec 6)
  /-- IXOR, R131. -/
  | ixor (a : BitVec 5) (d : BitVec 6)
  /-- ISHL, R131. -/
  | ishl (a : BitVec 5) (d : BitVec 6)
  /-- ISHR, R131. -/
  | ishr (a : BitVec 5) (d : BitVec 6)
  /-- IMIN, R131. -/
  | imin (a : BitVec 5) (d : BitVec 6)
  /-- IMAX, R131. -/
  | imax (a : BitVec 5) (d : BitVec 6)
  /-- FADD, R131. -/
  | fadd (a : BitVec 5) (d : BitVec 6)
  /-- FSUB, R131. -/
  | fsub (a : BitVec 5) (d : BitVec 6)
  /-- FMUL, R131. -/
  | fmul (a : BitVec 5) (d : BitVec 6)
  /-- FMAX, R131. -/
  | fmax (a : BitVec 5) (d : BitVec 6)
  /-- FMIN, R131. -/
  | fmin (a : BitVec 5) (d : BitVec 6)
  /-- FMAC, R131. -/
  | fmac (a : BitVec 5) (d : BitVec 6)
  /-- SALU_ADD, R174. -/
  | saluAdd (b : BitVec 7) (a : BitVec 7) (d : BitVec 6)
  /-- SALU_SUB, R174. -/
  | saluSub (b : BitVec 7) (a : BitVec 7) (d : BitVec 6)
  /-- SALU_AND, R174. -/
  | saluAnd (b : BitVec 7) (a : BitVec 7) (d : BitVec 6)
  /-- SALU_OR, R174. -/
  | saluOr (b : BitVec 7) (a : BitVec 7) (d : BitVec 6)
  /-- SALU_XOR, R174. -/
  | saluXor (b : BitVec 7) (a : BitVec 7) (d : BitVec 6)
  /-- SALU_SHL, R174. -/
  | saluShl (b : BitVec 7) (a : BitVec 7) (d : BitVec 6)
  /-- SALU_SHR, R174. -/
  | saluShr (b : BitVec 7) (a : BitVec 7) (d : BitVec 6)
  /-- SALU_SRA, R174. -/
  | saluSra (b : BitVec 7) (a : BitVec 7) (d : BitVec 6)
  /-- SALU_MIN, R174. -/
  | saluMin (b : BitVec 7) (a : BitVec 7) (d : BitVec 6)
  /-- SALU_MAX, R174. -/
  | saluMax (b : BitVec 7) (a : BitVec 7) (d : BitVec 6)
  /-- SALU_MINN, R174. -/
  | saluMinn (b : BitVec 7) (a : BitVec 7) (d : BitVec 6)
  /-- SALU_MAXN, R174. -/
  | saluMaxn (b : BitVec 7) (a : BitVec 7) (d : BitVec 6)
  /-- SALU_MUL, R174. -/
  | saluMul (b : BitVec 7) (a : BitVec 7) (d : BitVec 6)
  /-- SALU_MULH, R174. -/
  | saluMulh (b : BitVec 7) (a : BitVec 7) (d : BitVec 6)
  /-- SALU_DIV, R174. -/
  | saluDiv (b : BitVec 7) (a : BitVec 7) (d : BitVec 6)
  /-- SALU_REM, R174. -/
  | saluRem (b : BitVec 7) (a : BitVec 7) (d : BitVec 6)
  /-- VALU_ADD, R174. -/
  | valuAdd (b : BitVec 7) (a : BitVec 7) (w : BitVec 1) (d : BitVec 6)
  /-- VALU_SUB, R174. -/
  | valuSub (b : BitVec 7) (a : BitVec 7) (w : BitVec 1) (d : BitVec 6)
  /-- VALU_AND, R174. -/
  | valuAnd (b : BitVec 7) (a : BitVec 7) (w : BitVec 1) (d : BitVec 6)
  /-- VALU_OR, R174. -/
  | valuOr (b : BitVec 7) (a : BitVec 7) (w : BitVec 1) (d : BitVec 6)
  /-- VALU_XOR, R174. -/
  | valuXor (b : BitVec 7) (a : BitVec 7) (w : BitVec 1) (d : BitVec 6)
  /-- VALU_SHL, R174. -/
  | valuShl (b : BitVec 7) (a : BitVec 7) (w : BitVec 1) (d : BitVec 6)
  /-- VALU_SHR, R174. -/
  | valuShr (b : BitVec 7) (a : BitVec 7) (w : BitVec 1) (d : BitVec 6)
  /-- VALU_SRA, R174. -/
  | valuSra (b : BitVec 7) (a : BitVec 7) (w : BitVec 1) (d : BitVec 6)
  /-- VALU_MIN, R174. -/
  | valuMin (b : BitVec 7) (a : BitVec 7) (w : BitVec 1) (d : BitVec 6)
  /-- VALU_MAX, R174. -/
  | valuMax (b : BitVec 7) (a : BitVec 7) (w : BitVec 1) (d : BitVec 6)
  /-- VALU_MINN, R174. -/
  | valuMinn (b : BitVec 7) (a : BitVec 7) (w : BitVec 1) (d : BitVec 6)
  /-- VALU_MAXN, R174. -/
  | valuMaxn (b : BitVec 7) (a : BitVec 7) (w : BitVec 1) (d : BitVec 6)
  /-- VALU_MUL, R174. -/
  | valuMul (b : BitVec 7) (a : BitVec 7) (w : BitVec 1) (d : BitVec 6)
  /-- VALU_MULH, R174. -/
  | valuMulh (b : BitVec 7) (a : BitVec 7) (w : BitVec 1) (d : BitVec 6)
  /-- VALU_DIV, R174. -/
  | valuDiv (b : BitVec 7) (a : BitVec 7) (w : BitVec 1) (d : BitVec 6)
  /-- VALU_REM, R174. -/
  | valuRem (b : BitVec 7) (a : BitVec 7) (w : BitVec 1) (d : BitVec 6)
  /-- SADDI, R175. -/
  | saddi (i : BitVec 11) (a : BitVec 7) (d : BitVec 6)
  /-- VADDI, R175. -/
  | vaddi (i : BitVec 11) (a : BitVec 7) (w : BitVec 1) (d : BitVec 6)
  /-- SLOGI_AND, R176. -/
  | slogiAnd (i : BitVec 14) (d : BitVec 6)
  /-- SLOGI_OR, R176. -/
  | slogiOr (i : BitVec 14) (d : BitVec 6)
  /-- SLOGI_XOR, R176. -/
  | slogiXor (i : BitVec 14) (d : BitVec 6)
  /-- SLOGI_SHL, R176. -/
  | slogiShl (i : BitVec 14) (d : BitVec 6)
  /-- SLOGI_SHR, R176. -/
  | slogiShr (i : BitVec 14) (d : BitVec 6)
  /-- SLOGI_SRA, R176. -/
  | slogiSra (i : BitVec 14) (d : BitVec 6)
  /-- SLOGI_CLR, R176. -/
  | slogiClr (i : BitVec 14) (d : BitVec 6)
  /-- VLOGI_AND, R176. -/
  | vlogiAnd (i : BitVec 14) (w : BitVec 1) (d : BitVec 6)
  /-- VLOGI_OR, R176. -/
  | vlogiOr (i : BitVec 14) (w : BitVec 1) (d : BitVec 6)
  /-- VLOGI_XOR, R176. -/
  | vlogiXor (i : BitVec 14) (w : BitVec 1) (d : BitVec 6)
  /-- VLOGI_SHL, R176. -/
  | vlogiShl (i : BitVec 14) (w : BitVec 1) (d : BitVec 6)
  /-- VLOGI_SHR, R176. -/
  | vlogiShr (i : BitVec 14) (w : BitVec 1) (d : BitVec 6)
  /-- VLOGI_SRA, R176. -/
  | vlogiSra (i : BitVec 14) (w : BitVec 1) (d : BitVec 6)
  /-- VLOGI_CLR, R176. -/
  | vlogiClr (i : BitVec 14) (w : BitVec 1) (d : BitVec 6)
  /-- SLIH, R177. -/
  | slih (i : BitVec 18) (d : BitVec 6)
  /-- VLIH, R177. -/
  | vlih (i : BitVec 18) (w : BitVec 1) (d : BitVec 6)
  /-- SMISC_DIVN, R178. -/
  | smiscDivn (b : BitVec 7) (a : BitVec 7) (d : BitVec 6)
  /-- SMISC_REMN, R178. -/
  | smiscRemn (b : BitVec 7) (a : BitVec 7) (d : BitVec 6)
  /-- SMISC_CLZ, R178. -/
  | smiscClz (a : BitVec 7) (d : BitVec 6)
  /-- SMISC_CTZ, R178. -/
  | smiscCtz (a : BitVec 7) (d : BitVec 6)
  /-- SMISC_POPC, R178. -/
  | smiscPopc (a : BitVec 7) (d : BitVec 6)
  /-- SMISC_BREV, R178. -/
  | smiscBrev (a : BitVec 7) (d : BitVec 6)
  /-- SMISC_SEXT8, R178. -/
  | smiscSext8 (a : BitVec 7) (d : BitVec 6)
  /-- SMISC_SEXT16, R178. -/
  | smiscSext16 (a : BitVec 7) (d : BitVec 6)
  /-- SMISC_MULHN, R178. -/
  | smiscMulhn (b : BitVec 7) (a : BitVec 7) (d : BitVec 6)
  /-- SMISC_ROT, R178. -/
  | smiscRot (b : BitVec 7) (a : BitVec 7) (d : BitVec 6)
  /-- SMISC_ADD64, R179. -/
  | smiscAdd64 (b : BitVec 7) (a : BitVec 7) (d : BitVec 6)
  /-- SMISC_SUB64, R179. -/
  | smiscSub64 (b : BitVec 7) (a : BitVec 7) (d : BitVec 6)
  /-- SMISC_MAD, R178. -/
  | smiscMad (b : BitVec 7) (a : BitVec 7) (d : BitVec 6)
  /-- SMISC_MAD64, R179. -/
  | smiscMad64 (b : BitVec 7) (a : BitVec 7) (d : BitVec 6)
  /-- VMISC_DIVN, R178. -/
  | vmiscDivn (b : BitVec 7) (a : BitVec 7) (w : BitVec 1) (d : BitVec 6)
  /-- VMISC_REMN, R178. -/
  | vmiscRemn (b : BitVec 7) (a : BitVec 7) (w : BitVec 1) (d : BitVec 6)
  /-- VMISC_CLZ, R178. -/
  | vmiscClz (a : BitVec 7) (w : BitVec 1) (d : BitVec 6)
  /-- VMISC_CTZ, R178. -/
  | vmiscCtz (a : BitVec 7) (w : BitVec 1) (d : BitVec 6)
  /-- VMISC_POPC, R178. -/
  | vmiscPopc (a : BitVec 7) (w : BitVec 1) (d : BitVec 6)
  /-- VMISC_BREV, R178. -/
  | vmiscBrev (a : BitVec 7) (w : BitVec 1) (d : BitVec 6)
  /-- VMISC_SEXT8, R178. -/
  | vmiscSext8 (a : BitVec 7) (w : BitVec 1) (d : BitVec 6)
  /-- VMISC_SEXT16, R178. -/
  | vmiscSext16 (a : BitVec 7) (w : BitVec 1) (d : BitVec 6)
  /-- VMISC_MULHN, R178. -/
  | vmiscMulhn (b : BitVec 7) (a : BitVec 7) (w : BitVec 1) (d : BitVec 6)
  /-- VMISC_ROT, R178. -/
  | vmiscRot (b : BitVec 7) (a : BitVec 7) (w : BitVec 1) (d : BitVec 6)
  /-- VMISC_ADD64, R179. -/
  | vmiscAdd64 (b : BitVec 7) (a : BitVec 7) (w : BitVec 1) (d : BitVec 6)
  /-- VMISC_SUB64, R179. -/
  | vmiscSub64 (b : BitVec 7) (a : BitVec 7) (w : BitVec 1) (d : BitVec 6)
  /-- VMISC_MAD, R178. -/
  | vmiscMad (b : BitVec 7) (a : BitVec 7) (w : BitVec 1) (d : BitVec 6)
  /-- VMISC_MAD64, R179. -/
  | vmiscMad64 (b : BitVec 7) (a : BitVec 7) (w : BitVec 1) (d : BitVec 6)
  /-- SCMP_EQ, R180. -/
  | scmpEq (b : BitVec 7) (a : BitVec 7) (d : BitVec 6)
  /-- SCMP_NE, R180. -/
  | scmpNe (b : BitVec 7) (a : BitVec 7) (d : BitVec 6)
  /-- SCMP_LT, R180. -/
  | scmpLt (b : BitVec 7) (a : BitVec 7) (d : BitVec 6)
  /-- SCMP_LE, R180. -/
  | scmpLe (b : BitVec 7) (a : BitVec 7) (d : BitVec 6)
  /-- SCMP_LTN, R180. -/
  | scmpLtn (b : BitVec 7) (a : BitVec 7) (d : BitVec 6)
  /-- SCMP_LEN, R180. -/
  | scmpLen (b : BitVec 7) (a : BitVec 7) (d : BitVec 6)
  /-- VCMP_EQ, R180. -/
  | vcmpEq (b : BitVec 7) (a : BitVec 7) (p : BitVec 3)
  /-- VCMP_NE, R180. -/
  | vcmpNe (b : BitVec 7) (a : BitVec 7) (p : BitVec 3)
  /-- VCMP_LT, R180. -/
  | vcmpLt (b : BitVec 7) (a : BitVec 7) (p : BitVec 3)
  /-- VCMP_LE, R180. -/
  | vcmpLe (b : BitVec 7) (a : BitVec 7) (p : BitVec 3)
  /-- VCMP_LTN, R180. -/
  | vcmpLtn (b : BitVec 7) (a : BitVec 7) (p : BitVec 3)
  /-- VCMP_LEN, R180. -/
  | vcmpLen (b : BitVec 7) (a : BitVec 7) (p : BitVec 3)
  /-- VCMP_EQ64, R180. -/
  | vcmpEq64 (b : BitVec 7) (a : BitVec 7) (p : BitVec 3)
  /-- VCMP_LT64, R180. -/
  | vcmpLt64 (b : BitVec 7) (a : BitVec 7) (p : BitVec 3)
  /-- VCMP_LTN64, R180. -/
  | vcmpLtn64 (b : BitVec 7) (a : BitVec 7) (p : BitVec 3)
  /-- PRED_AND, R182. -/
  | predAnd (b : BitVec 4) (a : BitVec 4) (d : BitVec 3)
  /-- PRED_OR, R182. -/
  | predOr (b : BitVec 4) (a : BitVec 4) (d : BitVec 3)
  /-- PRED_XOR, R182. -/
  | predXor (b : BitVec 4) (a : BitVec 4) (d : BitVec 3)
  /-- PRED_ANDN, R182. -/
  | predAndn (b : BitVec 4) (a : BitVec 4) (d : BitVec 3)
  /-- PRED_ANY, R182. -/
  | predAny (a : BitVec 4) (d : BitVec 3)
  /-- PRED_ALL, R182. -/
  | predAll (a : BitVec 4) (d : BitVec 3)
  /-- PRED_UNI, R182. -/
  | predUni (a : BitVec 4) (d : BitVec 3)
  /-- PRED_BALLOT, R182. -/
  | predBallot (a : BitVec 4) (w : BitVec 1) (d : BitVec 6)
  /-- PRED_TOV, R182. -/
  | predTov (w : BitVec 1) (d : BitVec 6)
  /-- PRED_FROMV, R182. -/
  | predFromv (a : BitVec 7)
  /-- XCH_SHFL, R183. -/
  | xchShfl (b : BitVec 7) (a : BitVec 7) (w : BitVec 1) (d : BitVec 6)
  /-- XCH_SHUP, R183. -/
  | xchShup (b : BitVec 7) (a : BitVec 7) (w : BitVec 1) (d : BitVec 6)
  /-- XCH_SHDN, R183. -/
  | xchShdn (b : BitVec 7) (a : BitVec 7) (w : BitVec 1) (d : BitVec 6)
  /-- XCH_SHXOR, R183. -/
  | xchShxor (b : BitVec 7) (a : BitVec 7) (w : BitVec 1) (d : BitVec 6)
  /-- XCH_BCAST, R183. -/
  | xchBcast (a : BitVec 7) (w : BitVec 1) (d : BitVec 6)
  /-- XCH_RADD, R184. -/
  | xchRadd (a : BitVec 7) (w : BitVec 1) (d : BitVec 6)
  /-- XCH_RMIN, R184. -/
  | xchRmin (a : BitVec 7) (w : BitVec 1) (d : BitVec 6)
  /-- XCH_RMAX, R184. -/
  | xchRmax (a : BitVec 7) (w : BitVec 1) (d : BitVec 6)
  /-- XCH_RMINN, R184. -/
  | xchRminn (a : BitVec 7) (w : BitVec 1) (d : BitVec 6)
  /-- XCH_RMAXN, R184. -/
  | xchRmaxn (a : BitVec 7) (w : BitVec 1) (d : BitVec 6)
  /-- XCH_RAND, R184. -/
  | xchRand (a : BitVec 7) (w : BitVec 1) (d : BitVec 6)
  /-- XCH_RIOR, R184. -/
  | xchRior (a : BitVec 7) (w : BitVec 1) (d : BitVec 6)
  /-- XCH_RXOR, R184. -/
  | xchRxor (a : BitVec 7) (w : BitVec 1) (d : BitVec 6)
  /-- XCH_RFADD, R184. -/
  | xchRfadd (a : BitVec 7) (w : BitVec 1) (d : BitVec 6)
  /-- XCH_RFMIN, R184. -/
  | xchRfmin (a : BitVec 7) (w : BitVec 1) (d : BitVec 6)
  /-- XCH_RFMAX, R184. -/
  | xchRfmax (a : BitVec 7) (w : BitVec 1) (d : BitVec 6)
  /-- BR, R186. -/
  | br (i : BitVec 21) (n : BitVec 1) (p : BitVec 3)
  /-- CALL, R187. -/
  | call (i : BitVec 21)
  /-- JR_JMP, R188. -/
  | jrJmp (a : BitVec 7)
  /-- JR_JCALL, R188. -/
  | jrJcall (a : BitVec 7) (d : BitVec 6)
  /-- JR_RET, R188. -/
  | jrRet (a : BitVec 7)
  /-- CVB_ARM, R32. -/
  | cvbArm (n : BitVec 4)
  /-- CVB_WAIT, R32. -/
  | cvbWait (b : BitVec 7) (n : BitVec 4) (k : BitVec 3)
  /-- CVB_DROP, R32. -/
  | cvbDrop (h : BitVec 7) (l : BitVec 7) (m : BitVec 2)
  /-- CTRL_NOP, R191. -/
  | ctrlNop
  /-- CTRL_EXIT, R192. -/
  | ctrlExit
  /-- CTRL_YIELD, R192. -/
  | ctrlYield
  /-- CTRL_BRK, R193. -/
  | ctrlBrk (h : BitVec 7) (l : BitVec 7)
  /-- CTRL_TRAP, R193. -/
  | ctrlTrap (h : BitVec 7) (l : BitVec 7)
  /-- CTRL_CLK, R194. -/
  | ctrlClk (d : BitVec 6)
  /-- GUARD, R139. -/
  | guard (n : BitVec 1) (p : BitVec 3)
  /-- FALU_ADD, R198. -/
  | faluAdd (b : BitVec 7) (a : BitVec 7) (w : BitVec 1) (d : BitVec 6)
  /-- FALU_SUB, R198. -/
  | faluSub (b : BitVec 7) (a : BitVec 7) (w : BitVec 1) (d : BitVec 6)
  /-- FALU_MUL, R198. -/
  | faluMul (b : BitVec 7) (a : BitVec 7) (w : BitVec 1) (d : BitVec 6)
  /-- FALU_MIN, R198. -/
  | faluMin (b : BitVec 7) (a : BitVec 7) (w : BitVec 1) (d : BitVec 6)
  /-- FALU_MAX, R198. -/
  | faluMax (b : BitVec 7) (a : BitVec 7) (w : BitVec 1) (d : BitVec 6)
  /-- FALU_CPYS, R198. -/
  | faluCpys (b : BitVec 7) (a : BitVec 7) (w : BitVec 1) (d : BitVec 6)
  /-- FALU_ABS, R198. -/
  | faluAbs (a : BitVec 7) (w : BitVec 1) (d : BitVec 6)
  /-- FALU_NEG, R198. -/
  | faluNeg (a : BitVec 7) (w : BitVec 1) (d : BitVec 6)
  /-- FALU_ADD_FTZ, R198. -/
  | faluAddFtz (b : BitVec 7) (a : BitVec 7) (w : BitVec 1) (d : BitVec 6)
  /-- FALU_SUB_FTZ, R198. -/
  | faluSubFtz (b : BitVec 7) (a : BitVec 7) (w : BitVec 1) (d : BitVec 6)
  /-- FALU_MUL_FTZ, R198. -/
  | faluMulFtz (b : BitVec 7) (a : BitVec 7) (w : BitVec 1) (d : BitVec 6)
  /-- FALU_MIN_FTZ, R198. -/
  | faluMinFtz (b : BitVec 7) (a : BitVec 7) (w : BitVec 1) (d : BitVec 6)
  /-- FALU_MAX_FTZ, R198. -/
  | faluMaxFtz (b : BitVec 7) (a : BitVec 7) (w : BitVec 1) (d : BitVec 6)
  /-- FFMA_FMA, R199. -/
  | ffmaFma (b : BitVec 7) (a : BitVec 7) (w : BitVec 1) (d : BitVec 6)
  /-- FFMA_FMS, R199. -/
  | ffmaFms (b : BitVec 7) (a : BitVec 7) (w : BitVec 1) (d : BitVec 6)
  /-- FFMA_FNMA, R199. -/
  | ffmaFnma (b : BitVec 7) (a : BitVec 7) (w : BitVec 1) (d : BitVec 6)
  /-- FFMA_FNMS, R199. -/
  | ffmaFnms (b : BitVec 7) (a : BitVec 7) (w : BitVec 1) (d : BitVec 6)
  /-- FFMA_FMA_FTZ, R199. -/
  | ffmaFmaFtz (b : BitVec 7) (a : BitVec 7) (w : BitVec 1) (d : BitVec 6)
  /-- FFMA_FMS_FTZ, R199. -/
  | ffmaFmsFtz (b : BitVec 7) (a : BitVec 7) (w : BitVec 1) (d : BitVec 6)
  /-- FFMA_FNMA_FTZ, R199. -/
  | ffmaFnmaFtz (b : BitVec 7) (a : BitVec 7) (w : BitVec 1) (d : BitVec 6)
  /-- FFMA_FNMS_FTZ, R199. -/
  | ffmaFnmsFtz (b : BitVec 7) (a : BitVec 7) (w : BitVec 1) (d : BitVec 6)
  /-- FCMP_EQ, R201. -/
  | fcmpEq (b : BitVec 7) (a : BitVec 7) (p : BitVec 3)
  /-- FCMP_NE, R201. -/
  | fcmpNe (b : BitVec 7) (a : BitVec 7) (p : BitVec 3)
  /-- FCMP_LT, R201. -/
  | fcmpLt (b : BitVec 7) (a : BitVec 7) (p : BitVec 3)
  /-- FCMP_LE, R201. -/
  | fcmpLe (b : BitVec 7) (a : BitVec 7) (p : BitVec 3)
  /-- FCMP_UN, R201. -/
  | fcmpUn (b : BitVec 7) (a : BitVec 7) (p : BitVec 3)
  /-- FCMP_DEQ, R201. -/
  | fcmpDeq (b : BitVec 7) (a : BitVec 7) (p : BitVec 3)
  /-- FCMP_DNE, R201. -/
  | fcmpDne (b : BitVec 7) (a : BitVec 7) (p : BitVec 3)
  /-- FCMP_DLT, R201. -/
  | fcmpDlt (b : BitVec 7) (a : BitVec 7) (p : BitVec 3)
  /-- FCMP_DLE, R201. -/
  | fcmpDle (b : BitVec 7) (a : BitVec 7) (p : BitVec 3)
  /-- FCMP_DUN, R201. -/
  | fcmpDun (b : BitVec 7) (a : BitVec 7) (p : BitVec 3)
  /-- FSPEC_RCP, R202. -/
  | fspecRcp (a : BitVec 7) (w : BitVec 1) (d : BitVec 6)
  /-- FSPEC_RSQRT, R202. -/
  | fspecRsqrt (a : BitVec 7) (w : BitVec 1) (d : BitVec 6)
  /-- FSPEC_SQRT, R202. -/
  | fspecSqrt (a : BitVec 7) (w : BitVec 1) (d : BitVec 6)
  /-- FSPEC_EXP2, R202. -/
  | fspecExp2 (a : BitVec 7) (w : BitVec 1) (d : BitVec 6)
  /-- FSPEC_LOG2, R202. -/
  | fspecLog2 (a : BitVec 7) (w : BitVec 1) (d : BitVec 6)
  /-- FSPEC_SIN, R202. -/
  | fspecSin (a : BitVec 7) (w : BitVec 1) (d : BitVec 6)
  /-- FSPEC_COS, R202. -/
  | fspecCos (a : BitVec 7) (w : BitVec 1) (d : BitVec 6)
  /-- FSPEC_TANH, R202. -/
  | fspecTanh (a : BitVec 7) (w : BitVec 1) (d : BitVec 6)
  /-- FSPEC_DIV, R202. -/
  | fspecDiv (b : BitVec 7) (a : BitVec 7) (w : BitVec 1) (d : BitVec 6)
  /-- DALU_ADD, R200. -/
  | daluAdd (b : BitVec 7) (a : BitVec 7) (w : BitVec 1) (d : BitVec 6)
  /-- DALU_SUB, R200. -/
  | daluSub (b : BitVec 7) (a : BitVec 7) (w : BitVec 1) (d : BitVec 6)
  /-- DALU_MUL, R200. -/
  | daluMul (b : BitVec 7) (a : BitVec 7) (w : BitVec 1) (d : BitVec 6)
  /-- DALU_MIN, R200. -/
  | daluMin (b : BitVec 7) (a : BitVec 7) (w : BitVec 1) (d : BitVec 6)
  /-- DALU_MAX, R200. -/
  | daluMax (b : BitVec 7) (a : BitVec 7) (w : BitVec 1) (d : BitVec 6)
  /-- DALU_DIV, R200. -/
  | daluDiv (b : BitVec 7) (a : BitVec 7) (w : BitVec 1) (d : BitVec 6)
  /-- DALU_SQRT, R200. -/
  | daluSqrt (a : BitVec 7) (w : BitVec 1) (d : BitVec 6)
  /-- DALU_ADD_FTZ, R200. -/
  | daluAddFtz (b : BitVec 7) (a : BitVec 7) (w : BitVec 1) (d : BitVec 6)
  /-- DALU_SUB_FTZ, R200. -/
  | daluSubFtz (b : BitVec 7) (a : BitVec 7) (w : BitVec 1) (d : BitVec 6)
  /-- DALU_MUL_FTZ, R200. -/
  | daluMulFtz (b : BitVec 7) (a : BitVec 7) (w : BitVec 1) (d : BitVec 6)
  /-- DALU_MIN_FTZ, R200. -/
  | daluMinFtz (b : BitVec 7) (a : BitVec 7) (w : BitVec 1) (d : BitVec 6)
  /-- DALU_MAX_FTZ, R200. -/
  | daluMaxFtz (b : BitVec 7) (a : BitVec 7) (w : BitVec 1) (d : BitVec 6)
  /-- DALU_DIV_FTZ, R200. -/
  | daluDivFtz (b : BitVec 7) (a : BitVec 7) (w : BitVec 1) (d : BitVec 6)
  /-- DALU_SQRT_FTZ, R200. -/
  | daluSqrtFtz (a : BitVec 7) (w : BitVec 1) (d : BitVec 6)
  /-- DFMA_FMA, R199. -/
  | dfmaFma (b : BitVec 7) (a : BitVec 7) (w : BitVec 1) (d : BitVec 6)
  /-- DFMA_FMS, R199. -/
  | dfmaFms (b : BitVec 7) (a : BitVec 7) (w : BitVec 1) (d : BitVec 6)
  /-- DFMA_FNMA, R199. -/
  | dfmaFnma (b : BitVec 7) (a : BitVec 7) (w : BitVec 1) (d : BitVec 6)
  /-- DFMA_FNMS, R199. -/
  | dfmaFnms (b : BitVec 7) (a : BitVec 7) (w : BitVec 1) (d : BitVec 6)
  /-- DFMA_FMA_FTZ, R199. -/
  | dfmaFmaFtz (b : BitVec 7) (a : BitVec 7) (w : BitVec 1) (d : BitVec 6)
  /-- DFMA_FMS_FTZ, R199. -/
  | dfmaFmsFtz (b : BitVec 7) (a : BitVec 7) (w : BitVec 1) (d : BitVec 6)
  /-- DFMA_FNMA_FTZ, R199. -/
  | dfmaFnmaFtz (b : BitVec 7) (a : BitVec 7) (w : BitVec 1) (d : BitVec 6)
  /-- DFMA_FNMS_FTZ, R199. -/
  | dfmaFnmsFtz (b : BitVec 7) (a : BitVec 7) (w : BitVec 1) (d : BitVec 6)
  /-- FCVT_F32_F64, R204. -/
  | fcvtF32F64 (r : BitVec 2) (a : BitVec 7) (w : BitVec 1) (d : BitVec 6)
  /-- FCVT_F64_F32, R204. -/
  | fcvtF64F32 (a : BitVec 7) (w : BitVec 1) (d : BitVec 6)
  /-- FCVT_F16_F32, R204. -/
  | fcvtF16F32 (r : BitVec 2) (a : BitVec 7) (w : BitVec 1) (d : BitVec 6)
  /-- FCVT_F32_F16, R204. -/
  | fcvtF32F16 (a : BitVec 7) (w : BitVec 1) (d : BitVec 6)
  /-- FCVT_BF16_F32, R204. -/
  | fcvtBf16F32 (r : BitVec 2) (a : BitVec 7) (w : BitVec 1) (d : BitVec 6)
  /-- FCVT_F32_BF16, R204. -/
  | fcvtF32Bf16 (a : BitVec 7) (w : BitVec 1) (d : BitVec 6)
  /-- FCVT_S32_F32, R205. -/
  | fcvtS32F32 (r : BitVec 2) (a : BitVec 7) (w : BitVec 1) (d : BitVec 6)
  /-- FCVT_N32_F32, R205. -/
  | fcvtN32F32 (r : BitVec 2) (a : BitVec 7) (w : BitVec 1) (d : BitVec 6)
  /-- FCVT_F32_S32, R204. -/
  | fcvtF32S32 (r : BitVec 2) (a : BitVec 7) (w : BitVec 1) (d : BitVec 6)
  /-- FCVT_F32_N32, R204. -/
  | fcvtF32N32 (r : BitVec 2) (a : BitVec 7) (w : BitVec 1) (d : BitVec 6)
  /-- FCVT_S64_F64, R204. -/
  | fcvtS64F64 (r : BitVec 2) (a : BitVec 7) (w : BitVec 1) (d : BitVec 6)
  /-- FCVT_F64_S64, R204. -/
  | fcvtF64S64 (r : BitVec 2) (a : BitVec 7) (w : BitVec 1) (d : BitVec 6)
  /-- FCVT_S32_F64, R204. -/
  | fcvtS32F64 (r : BitVec 2) (a : BitVec 7) (w : BitVec 1) (d : BitVec 6)
  /-- FCVT_F64_S32, R204. -/
  | fcvtF64S32 (a : BitVec 7) (w : BitVec 1) (d : BitVec 6)
  /-- FCVT_N64_F64, R204. -/
  | fcvtN64F64 (r : BitVec 2) (a : BitVec 7) (w : BitVec 1) (d : BitVec 6)
  /-- FCVT_F64_N64, R204. -/
  | fcvtF64N64 (r : BitVec 2) (a : BitVec 7) (w : BitVec 1) (d : BitVec 6)
  /-- FRND_RND, R206. -/
  | frndRnd (r : BitVec 2) (a : BitVec 7) (w : BitVec 1) (d : BitVec 6)
  /-- FRND_CLS, R207. -/
  | frndCls (a : BitVec 7) (w : BitVec 1) (d : BitVec 6)
  /-- FRND_FREXPM, R208. -/
  | frndFrexpm (a : BitVec 7) (w : BitVec 1) (d : BitVec 6)
  /-- FRND_FREXPE, R208. -/
  | frndFrexpe (a : BitVec 7) (w : BitVec 1) (d : BitVec 6)
  /-- FRND_LDEXP, R208. -/
  | frndLdexp (b : BitVec 7) (a : BitVec 7) (w : BitVec 1) (d : BitVec 6)
  /-- FRND_RND_F64, R206. -/
  | frndRndF64 (r : BitVec 2) (a : BitVec 7) (w : BitVec 1) (d : BitVec 6)
  /-- FRND_CLS_F64, R207. -/
  | frndClsF64 (a : BitVec 7) (w : BitVec 1) (d : BitVec 6)
  /-- FRND_FREXPM_F64, R208. -/
  | frndFrexpmF64 (a : BitVec 7) (w : BitVec 1) (d : BitVec 6)
  /-- FRND_FREXPE_F64, R208. -/
  | frndFrexpeF64 (a : BitVec 7) (w : BitVec 1) (d : BitVec 6)
  /-- FRND_LDEXP_F64, R208. -/
  | frndLdexpF64 (b : BitVec 7) (a : BitVec 7) (w : BitVec 1) (d : BitVec 6)
  /-- HALU2_BF16_ADD, R209. -/
  | halu2Bf16Add (b : BitVec 7) (a : BitVec 7) (w : BitVec 1) (d : BitVec 6)
  /-- HALU2_BF16_SUB, R209. -/
  | halu2Bf16Sub (b : BitVec 7) (a : BitVec 7) (w : BitVec 1) (d : BitVec 6)
  /-- HALU2_BF16_MUL, R209. -/
  | halu2Bf16Mul (b : BitVec 7) (a : BitVec 7) (w : BitVec 1) (d : BitVec 6)
  /-- HALU2_BF16_FMA, R209. -/
  | halu2Bf16Fma (b : BitVec 7) (a : BitVec 7) (w : BitVec 1) (d : BitVec 6)
  /-- HALU2_BF16_MIN, R209. -/
  | halu2Bf16Min (b : BitVec 7) (a : BitVec 7) (w : BitVec 1) (d : BitVec 6)
  /-- HALU2_BF16_MAX, R209. -/
  | halu2Bf16Max (b : BitVec 7) (a : BitVec 7) (w : BitVec 1) (d : BitVec 6)
  /-- HALU2_BF16_PACK, R209. -/
  | halu2Bf16Pack (b : BitVec 7) (a : BitVec 7) (w : BitVec 1) (d : BitVec 6)
  /-- HALU2_F16_ADD, R209. -/
  | halu2F16Add (b : BitVec 7) (a : BitVec 7) (w : BitVec 1) (d : BitVec 6)
  /-- HALU2_F16_SUB, R209. -/
  | halu2F16Sub (b : BitVec 7) (a : BitVec 7) (w : BitVec 1) (d : BitVec 6)
  /-- HALU2_F16_MUL, R209. -/
  | halu2F16Mul (b : BitVec 7) (a : BitVec 7) (w : BitVec 1) (d : BitVec 6)
  /-- HALU2_F16_FMA, R209. -/
  | halu2F16Fma (b : BitVec 7) (a : BitVec 7) (w : BitVec 1) (d : BitVec 6)
  /-- HALU2_F16_MIN, R209. -/
  | halu2F16Min (b : BitVec 7) (a : BitVec 7) (w : BitVec 1) (d : BitVec 6)
  /-- HALU2_F16_MAX, R209. -/
  | halu2F16Max (b : BitVec 7) (a : BitVec 7) (w : BitVec 1) (d : BitVec 6)
  /-- HALU2_F16_PACK, R209. -/
  | halu2F16Pack (b : BitVec 7) (a : BitVec 7) (w : BitVec 1) (d : BitVec 6)
  /-- QCVT_E4M3N, R210. -/
  | qcvtE4m3n (s : BitVec 1) (b : BitVec 7) (g : BitVec 4) (r : BitVec 2) (w : BitVec 1) (d : BitVec 6)
  /-- QCVT_E5M2N, R210. -/
  | qcvtE5m2n (s : BitVec 1) (b : BitVec 7) (g : BitVec 4) (r : BitVec 2) (w : BitVec 1) (d : BitVec 6)
  /-- QCVT_DM8, R210. -/
  | qcvtDm8 (s : BitVec 1) (b : BitVec 7) (g : BitVec 4) (r : BitVec 2) (w : BitVec 1) (d : BitVec 6)
  /-- QDEC_E4M3N_F32, R212. -/
  | qdecE4m3nF32 (b : BitVec 7) (a : BitVec 7) (w : BitVec 1) (d : BitVec 6)
  /-- QDEC_E5M2N_F32, R212. -/
  | qdecE5m2nF32 (b : BitVec 7) (a : BitVec 7) (w : BitVec 1) (d : BitVec 6)
  /-- QDEC_DM8_F32, R212. -/
  | qdecDm8F32 (b : BitVec 7) (a : BitVec 7) (w : BitVec 1) (d : BitVec 6)
  /-- QDEC_E4M3N_BF16, R212. -/
  | qdecE4m3nBf16 (b : BitVec 7) (a : BitVec 7) (w : BitVec 1) (d : BitVec 6)
  /-- QDEC_E5M2N_BF16, R212. -/
  | qdecE5m2nBf16 (b : BitVec 7) (a : BitVec 7) (w : BitVec 1) (d : BitVec 6)
  /-- QDEC_DM8_BF16, R212. -/
  | qdecDm8Bf16 (b : BitVec 7) (a : BitVec 7) (w : BitVec 1) (d : BitVec 6)
  /-- QDEC_E4M3N_F16, R212. -/
  | qdecE4m3nF16 (b : BitVec 7) (a : BitVec 7) (w : BitVec 1) (d : BitVec 6)
  /-- QDEC_E5M2N_F16, R212. -/
  | qdecE5m2nF16 (b : BitVec 7) (a : BitVec 7) (w : BitVec 1) (d : BitVec 6)
  /-- QDEC_DM8_F16, R212. -/
  | qdecDm8F16 (b : BitVec 7) (a : BitVec 7) (w : BitVec 1) (d : BitVec 6)
  /-- CMPR_COMP16, R214. -/
  | cmprComp16 (f : BitVec 1) (a : BitVec 7) (w : BitVec 1) (d : BitVec 6)
  /-- CMPR_COMP8, R214. -/
  | cmprComp8 (a : BitVec 7) (w : BitVec 1) (d : BitVec 6)
  /-- CMPR_EXP16, R216. -/
  | cmprExp16 (b : BitVec 7) (a : BitVec 7) (w : BitVec 1) (d : BitVec 6)
  /-- CMPR_EXP8, R216. -/
  | cmprExp8 (b : BitVec 7) (a : BitVec 7) (w : BitVec 1) (d : BitVec 6)
  /-- CMPR_META16, R215. -/
  | cmprMeta16 (f : BitVec 1) (a : BitVec 7) (w : BitVec 1) (d : BitVec 6)
  /-- CMPR_META8, R215. -/
  | cmprMeta8 (a : BitVec 7) (w : BitVec 1) (d : BitVec 6)
  /-- GEO_ORIENT2, R218. -/
  | geoOrient2 (s : BitVec 1) (b : BitVec 7) (x : BitVec 1) (a : BitVec 6) (w : BitVec 1) (d : BitVec 6)
  /-- GEO_ORIENT3, R218. -/
  | geoOrient3 (s : BitVec 1) (b : BitVec 7) (x : BitVec 1) (a : BitVec 6) (w : BitVec 1) (d : BitVec 6)
  /-- GEO_INCIRCLE, R218. -/
  | geoIncircle (s : BitVec 1) (b : BitVec 7) (x : BitVec 1) (a : BitVec 6) (w : BitVec 1) (d : BitVec 6)
  /-- GEO_INSPHERE, R218. -/
  | geoInsphere (s : BitVec 1) (b : BitVec 7) (x : BitVec 1) (a : BitVec 6) (w : BitVec 1) (d : BitVec 6)
  /-- GEO_SEGX, R219. -/
  | geoSegx (x : BitVec 1) (a : BitVec 6) (w : BitVec 1) (d : BitVec 6)
  /-- LD, R227. -/
  | ld (s : BitVec 3) (o : BitVec 5) (q : BitVec 3) (a : BitVec 7) (d : BitVec 6)
  /-- ST, R227. -/
  | st (s : BitVec 3) (o : BitVec 5) (q : BitVec 3) (a : BitVec 7) (d : BitVec 6)
  /-- LDO32, R229. -/
  | ldo32 (f : BitVec 11) (a : BitVec 7) (d : BitVec 6)
  /-- LDO64, R229. -/
  | ldo64 (f : BitVec 11) (a : BitVec 7) (d : BitVec 6)
  /-- STO32, R229. -/
  | sto32 (f : BitVec 11) (a : BitVec 7) (d : BitVec 6)
  /-- STO64, R229. -/
  | sto64 (f : BitVec 11) (a : BitVec 7) (d : BitVec 6)
  /-- LDAQ, R228. -/
  | ldaq (s : BitVec 2) (o : BitVec 5) (q : BitVec 3) (a : BitVec 7) (d : BitVec 6)
  /-- STRL, R228. -/
  | strl (s : BitVec 2) (o : BitVec 5) (q : BitVec 3) (a : BitVec 7) (d : BitVec 6)
  /-- AMO32_ADD, R230. -/
  | amo32Add (o : BitVec 5) (q : BitVec 3) (a : BitVec 7) (d : BitVec 6)
  /-- AMO32_AND, R230. -/
  | amo32And (o : BitVec 5) (q : BitVec 3) (a : BitVec 7) (d : BitVec 6)
  /-- AMO32_OR, R230. -/
  | amo32Or (o : BitVec 5) (q : BitVec 3) (a : BitVec 7) (d : BitVec 6)
  /-- AMO32_XOR, R230. -/
  | amo32Xor (o : BitVec 5) (q : BitVec 3) (a : BitVec 7) (d : BitVec 6)
  /-- AMO32_MIN, R230. -/
  | amo32Min (o : BitVec 5) (q : BitVec 3) (a : BitVec 7) (d : BitVec 6)
  /-- AMO32_MAX, R230. -/
  | amo32Max (o : BitVec 5) (q : BitVec 3) (a : BitVec 7) (d : BitVec 6)
  /-- AMO32_MINN, R230. -/
  | amo32Minn (o : BitVec 5) (q : BitVec 3) (a : BitVec 7) (d : BitVec 6)
  /-- AMO32_MAXN, R230. -/
  | amo32Maxn (o : BitVec 5) (q : BitVec 3) (a : BitVec 7) (d : BitVec 6)
  /-- AMOX_XCHG, R231. -/
  | amoxXchg (o : BitVec 5) (q : BitVec 3) (a : BitVec 7) (d : BitVec 6)
  /-- AMOX_XCHG64, R231. -/
  | amoxXchg64 (o : BitVec 5) (q : BitVec 3) (a : BitVec 7) (d : BitVec 6)
  /-- AMOX_CAS, R231. -/
  | amoxCas (o : BitVec 5) (q : BitVec 3) (a : BitVec 7) (d : BitVec 6)
  /-- AMOX_CAS64, R231. -/
  | amoxCas64 (o : BitVec 5) (q : BitVec 3) (a : BitVec 7) (d : BitVec 6)
  /-- AMOX_FADD, R231. -/
  | amoxFadd (o : BitVec 5) (q : BitVec 3) (a : BitVec 7) (d : BitVec 6)
  /-- AMOX_ADD64, R231. -/
  | amoxAdd64 (o : BitVec 5) (q : BitVec 3) (a : BitVec 7) (d : BitVec 6)
  /-- LST, R234. -/
  | lst (b : BitVec 7) (a : BitVec 7) (d : BitVec 6)
  /-- LLD, R235. -/
  | lld (b : BitVec 7) (a : BitVec 7) (d : BitVec 6)
  /-- LPOLL, R235. -/
  | lpoll (b : BitVec 7) (a : BitVec 7) (d : BitVec 6)
  /-- FENCE, R118. -/
  | fence (m : BitVec 5)
  /-- CWB, R119. -/
  | cwb (b : BitVec 7) (a : BitVec 7) (m : BitVec 5)
  /-- CINV, R120. -/
  | cinv (b : BitVec 7) (a : BitVec 7)
  /-- DISCARD, R121. -/
  | discard (b : BitVec 7) (a : BitVec 7)
  /-- ZLINE, R238. -/
  | zline (a : BitVec 7) (m : BitVec 5)
  /-- PIN, R81. -/
  | pin (b : BitVec 7) (a : BitVec 7) (w : BitVec 1) (d : BitVec 6)
  /-- UNPIN, R81. -/
  | unpin (a : BitVec 7) (w : BitVec 1) (d : BitVec 6)
  /-- DIST, R82. -/
  | dist (a : BitVec 7) (w : BitVec 1) (d : BitVec 6)
  /-- TOUCH, R242. -/
  | touch (b : BitVec 7) (a : BitVec 7) (w : BitVec 1) (d : BitVec 6)
  /-- DEMOTE, R85. -/
  | demote (a : BitVec 7) (d : BitVec 6)
  /-- EVICT, R86. -/
  | evict (a : BitVec 7) (d : BitVec 6)
  /-- RHSET, R87. -/
  | rhset (b : BitVec 7) (a : BitVec 7) (d : BitVec 6)
  /-- SPAD_LD32, R240. -/
  | spadLd32 (b : BitVec 7) (a : BitVec 7) (d : BitVec 6)
  /-- SPAD_LD64, R240. -/
  | spadLd64 (b : BitVec 7) (a : BitVec 7) (d : BitVec 6)
  /-- SPAD_LD128, R240. -/
  | spadLd128 (b : BitVec 7) (a : BitVec 7) (d : BitVec 6)
  /-- SPAD_ST32, R240. -/
  | spadSt32 (b : BitVec 7) (a : BitVec 7) (d : BitVec 6)
  /-- SPAD_ST64, R240. -/
  | spadSt64 (b : BitVec 7) (a : BitVec 7) (d : BitVec 6)
  /-- SPAD_ST128, R240. -/
  | spadSt128 (b : BitVec 7) (a : BitVec 7) (d : BitVec 6)
  /-- CPY_G2B, R258. -/
  | cpyG2b (r : BitVec 1) (q : BitVec 1) (t : BitVec 6) (x : BitVec 4) (c : BitVec 5) (k : BitVec 5)
  /-- CPY_G2S, R258. -/
  | cpyG2s (r : BitVec 1) (q : BitVec 1) (t : BitVec 6) (c : BitVec 5) (k : BitVec 5)
  /-- CPY_S2G, R258. -/
  | cpyS2g (r : BitVec 1) (q : BitVec 1) (t : BitVec 6) (c : BitVec 5) (k : BitVec 5)
  /-- CPY_G2G, R258. -/
  | cpyG2g (r : BitVec 1) (q : BitVec 1) (t : BitVec 6) (c : BitVec 5) (k : BitVec 5)
  /-- CPY_S2B, R258. -/
  | cpyS2b (r : BitVec 1) (q : BitVec 1) (t : BitVec 6) (x : BitVec 4) (c : BitVec 5) (k : BitVec 5)
  /-- CPY_S2S, R258. -/
  | cpyS2s (r : BitVec 1) (q : BitVec 1) (t : BitVec 6) (c : BitVec 5) (k : BitVec 5)
  /-- SEAL, R251. -/
  | seal (d : BitVec 6)
  /-- WAITN, R252. -/
  | waitn (a : BitVec 7)
  /-- TDSET, R255. -/
  | tdset (a : BitVec 7) (d : BitVec 6)
  /-- TDGET, R254. -/
  | tdget (x : BitVec 4) (a : BitVec 6) (d : BitVec 6)
  /-- MMA, R266. -/
  | mma (p : BitVec 1) (t : BitVec 1) (b : BitVec 5) (a : BitVec 5) (y : BitVec 1) (x : BitVec 1) (c : BitVec 3)
  /-- MMAZ, R266. -/
  | mmaz (p : BitVec 1) (t : BitVec 1) (b : BitVec 5) (a : BitVec 5) (y : BitVec 1) (x : BitVec 1) (c : BitVec 3)
  /-- ACQ, R269. -/
  | acq (c : BitVec 3)
  /-- REL, R269. -/
  | rel (c : BitVec 3)
  /-- AMOV, R268. -/
  | amov (a : BitVec 7) (c : BitVec 3)
  /-- AZERO, R268. -/
  | azero (c : BitVec 3)
  /-- AST, R268. -/
  | ast (a : BitVec 7) (c : BitVec 3)
  /-- CAP_PASS, R272. -/
  | capPass
  /-- TSK_SUB, R273. -/
  | tskSub (x : BitVec 4) (c : BitVec 5) (k : BitVec 5)
  /-- TSK_WAIT, R273. -/
  | tskWait (k : BitVec 5)
  /-- TSK_BSTAT, R273. -/
  | tskBstat (k : BitVec 5)
  /-- TSK_BCLR, R273. -/
  | tskBclr (x : BitVec 4)
  /-- KV_KVG, R275. -/
  | kvKvg (r : BitVec 1) (q : BitVec 1) (t : BitVec 6) (x : BitVec 4) (c : BitVec 5) (k : BitVec 5)
  /-- KV_KVGS, R275. -/
  | kvKvgs (r : BitVec 1) (q : BitVec 1) (t : BitVec 6) (c : BitVec 5) (k : BitVec 5)
  /-- KV_KVS, R275. -/
  | kvKvs (r : BitVec 1) (q : BitVec 1) (t : BitVec 6) (c : BitVec 5) (k : BitVec 5)
  /-- KV_KVINV, R276. -/
  | kvKvinv (c : BitVec 5)
  /-- COL_SUM, R277. -/
  | colSum (r : BitVec 1) (q : BitVec 1) (t : BitVec 6) (c : BitVec 5) (k : BitVec 5)
  /-- COL_MAX, R277. -/
  | colMax (r : BitVec 1) (q : BitVec 1) (t : BitVec 6) (c : BitVec 5) (k : BitVec 5)
  /-- COL_MIN, R277. -/
  | colMin (r : BitVec 1) (q : BitVec 1) (t : BitVec 6) (c : BitVec 5) (k : BitVec 5)
  /-- COL_TRI, R383. -/
  | colTri (r : BitVec 1) (q : BitVec 1) (t : BitVec 6) (c : BitVec 5) (k : BitVec 5)
  /-- COL_BCAST, R277. -/
  | colBcast (r : BitVec 1) (q : BitVec 1) (t : BitVec 6) (c : BitVec 5) (k : BitVec 5)
  /-- COL_GATH, R277. -/
  | colGath (r : BitVec 1) (q : BitVec 1) (t : BitVec 6) (c : BitVec 5) (k : BitVec 5)
  /-- COL_BAR, R380. -/
  | colBar (r : BitVec 1) (q : BitVec 1) (c : BitVec 5) (k : BitVec 5)
  /-- TRET, R284. -/
  | tret (a : BitVec 7)
  /-- SYSCALL, R285. -/
  | syscall (h : BitVec 7) (l : BitVec 7)
  /-- CSRR, R286. -/
  | csrr (h : BitVec 5) (l : BitVec 7) (d : BitVec 6)
  /-- CSRW, R286. -/
  | csrw (b : BitVec 7) (l : BitVec 7) (h : BitVec 5)
  /-- CSRS, R286. -/
  | csrs (b : BitVec 7) (l : BitVec 7) (h : BitVec 5)
  /-- CSRC, R286. -/
  | csrc (b : BitVec 7) (l : BitVec 7) (h : BitVec 5)
  /-- EGY_RD, R289. -/
  | egyRd (d : BitVec 6)
  /-- EGY_REQ, R290. -/
  | egyReq (a : BitVec 7) (d : BitVec 6)
  /-- PWR_GATE, R291. -/
  | pwrGate (a : BitVec 7) (d : BitVec 6)
  /-- RSEND, R293. -/
  | rsend (a : BitVec 7)
  /-- RRECV, R293. -/
  | rrecv (w : BitVec 1) (d : BitVec 6)
  /-- LNCH, R296. -/
  | lnch (b : BitVec 7) (a : BitVec 7) (d : BitVec 6)
  /-- EVT_SIG, R297. -/
  | evtSig (b : BitVec 7) (a : BitVec 7) (m : BitVec 5)
  /-- EVT_WAIT, R297. -/
  | evtWait (b : BitVec 7) (a : BitVec 7) (m : BitVec 5)
  /-- BAR_CREW, R298. -/
  | barCrew
  /-- BAR_GANG, R298. -/
  | barGang
  /-- QENQ, R299. -/
  | qenq (b : BitVec 7) (a : BitVec 7)
  /-- QDEQ, R299. -/
  | qdeq (b : BitVec 7) (a : BitVec 7) (k : BitVec 3)
  /-- PCRD, R302. -/
  | pcrd (b : BitVec 7) (w : BitVec 1) (d : BitVec 6)
  /-- PCWR, R302. -/
  | pcwr (b : BitVec 7) (a : BitVec 7)
  /-- CVBRD, R303. -/
  | cvbrd (b : BitVec 7) (n : BitVec 4) (d : BitVec 6)
  /-- CVBWR, R303. -/
  | cvbwr (b : BitVec 7) (n : BitVec 4) (d : BitVec 6)
  /-- CVB_TIMEOUT, R33. -/
  | cvbTimeout (w : Nat) (t : Nat)
  /-- LLD_TIMEOUT, R127. -/
  | lldTimeout (w : Nat) (t : Nat)
  /-- WATCHDOG, R336. -/
  | watchdog (w : Nat) (t : Nat)
  /-- TRAP_ENTRY, R330. -/
  | trapEntry (w : Nat)
  /-- NESTED_TRAP_ENTRY, R332. -/
  | nestedTrapEntry (w : Nat)
  /-- TASK_START, R246. -/
  | taskStart (core : Nat) (ent : Nat)
  /-- TASK_COMPLETE, R262. -/
  | taskComplete (core : Nat) (ent : Nat)
  /-- RANGE_OP_COMPLETE, R237. -/
  | rangeOpComplete (w : Nat) (t : Nat)
  /-- DEMOTE_EVICT_STATUS, R243. -/
  | demoteEvictStatus (w : Nat) (d : Nat)
  /-- LATTICE_ROUND, R125. -/
  | latticeRound (part : Nat)
  /-- LXSCHED_WRITE, R126. -/
  | lxschedWrite (part : Nat) (val : BitVec 32)
  /-- SMAP_MAP, R92. -/
  | smapMap (cluster : Nat) (n : Nat)
  /-- SMAP_UNMAP, R93. -/
  | smapUnmap (cluster : Nat) (n : Nat)
  /-- SMAP_WRITEBACK_DONE, R93. -/
  | smapWritebackDone (cluster : Nat) (n : Nat)
  /-- SHDW_RESERVE_RING8, R95. -/
  | shdwReserveRing8 (band : Nat)
  /-- SHDW_RESERVE_RINGS_7_8, R95. -/
  | shdwReserveRings78 (band : Nat)
  /-- SHDW_RELEASE, R95. -/
  | shdwRelease (band : Nat)
  /-- SPIRAL_UNCORRECTABLE_ERROR, R89. -/
  | spiralUncorrectableError (addr : Nat)
  /-- POWER_ALARM, R11. -/
  | powerAlarm
  /-- ENERGY_WINDOW, R322. -/
  | energyWindow (part : Nat)
  /-- BUDGET_WRITE, R322. -/
  | budgetWrite (part : Nat) (val : BitVec 32)
  /-- QCTL_WRITE, R312. -/
  | qctlWrite (part : Nat) (q : Nat) (val : BitVec 32)
  /-- QTAIL_WRITE, R313. -/
  | qtailWrite (part : Nat) (q : Nat) (val : BitVec 32)
  /-- QOWN_WRITE, R386. -/
  | qownWrite (part : Nat) (q : Nat) (val : BitVec 32)
  /-- EVENT_COUNTER_WRITE, R317. -/
  | eventCounterWrite (part : Nat) (n : Nat) (val : BitVec 32)
  /-- LAUNCH_BEGIN, R314. -/
  | launchBegin (part : Nat) (q : Nat)
  /-- GANG_DISPATCH, R315. -/
  | gangDispatch (launch : Nat) (band : Nat)
  /-- GANG_STEAL, R321. -/
  | gangSteal (gang : Nat) (band : Nat)
  /-- CREW_FINISH, R253. -/
  | crewFinish (crew : Nat)
  /-- LAUNCH_COMPLETION, R316. -/
  | launchCompletion (launch : Nat)
  /-- PCMD_VACATE, R338. -/
  | pcmdVacate (part : Nat) (core : Nat)
  /-- PCMD_RETURN, R340. -/
  | pcmdReturn (part : Nat) (core : Nat)
  /-- HELD_STOP, R339. -/
  | heldStop (core : Nat)
  /-- PREEMPT_SAVE_ENTRY, R340. -/
  | preemptSaveEntry (core : Nat)
  /-- PHLIM_EXPIRY, R340. -/
  | phlimExpiry (core : Nat)
  /-- PREEMPT_RESTORE_ENTRY, R341. -/
  | preemptRestoreEntry (crew : Nat) (core : Nat)
  /-- TINVC_PAGE, R348. -/
  | tinvcPage (part : Nat)
  /-- TINVC_ALL, R348. -/
  | tinvcAll (part : Nat)
  /-- TINVC_COMPLETE, R348. -/
  | tinvcComplete (part : Nat)
  /-- FLCTL_WRITE, R349. -/
  | flctlWrite (part : Nat) (val : BitVec 32)
  /-- CORE_GATE_OFF, R326. -/
  | coreGateOff (core : Nat)
  /-- CORE_POWER_RESTORED, R326. -/
  | corePowerRestored (core : Nat)
  /-- ROUTER_POWER_DOWN, R370. -/
  | routerPowerDown (r : Nat)
  /-- ROUTER_WAKE_SIGNAL, R370. -/
  | routerWakeSignal (r : Nat)
  /-- ROUTER_POWER_RESTORED, R370. -/
  | routerPowerRestored (r : Nat)
  /-- GROUP_RECORD_WRITE, R377. -/
  | groupRecordWrite (part : Nat) (g : Nat) (word : Nat) (val : BitVec 32)
  /-- JALEF_LINK_CHANGE, R376. -/
  | jalefLinkChange (port : Nat) (lanes : Nat) (peer : BitVec 8)
  /-- HOST_PORT_LINK_CHANGE, R396. -/
  | hostPortLinkChange (port : Nat) (proto : BitVec 2)
  /-- HOST_ACCESS, R115. -/
  | hostAccess (vf : Nat) (region : Nat) (addr : Nat) (size : Nat) (write : BitVec 1) (val : BitVec 64)
  /-- PEER_ACCESS, R391. -/
  | peerAccess (part : Nat) (peer : BitVec 8) (off : Nat) (size : Nat) (kind : Nat) (write : BitVec 1) (val : BitVec 64)
  /-- POOL_ADMIT, R360. -/
  | poolAdmit (vf : Nat) (tier : Nat) (n : Nat)
  /-- POOL_GROW, R360. -/
  | poolGrow (vf : Nat) (tier : Nat) (n : Nat)
  /-- POOL_RET, R360. -/
  | poolRet (vf : Nat) (tier : Nat) (n : Nat)
  /-- GUAR_WRITE, R359. -/
  | guarWrite (vf : Nat) (tier : Nat) (val : BitVec 32)
  /-- MIG_WRITE, R359. -/
  | migWrite (vf : Nat) (off : Nat) (val : BitVec 32)
  /-- VFBIND_WRITE, R397. -/
  | vfbindWrite (part : Nat) (val : BitVec 64)
  /-- VFPORT_WRITE, R397. -/
  | vfportWrite (part : Nat) (val : BitVec 64)
  /-- RESET, R388. -/
  | reset
  /-- BOOTCTL_GO, R388. -/
  | bootctlGo
  /-- FIRMWARE_CHECK_DONE, R388. -/
  | firmwareCheckDone (stack : Nat)
  /-- RAISE_FULL_SERVICE, R389. -/
  | raiseFullService (stack : Nat)
  /-- PARTITION_CREATE, R390. -/
  | partitionCreate (top : Nat) (bot : Nat) (left : Nat) (right : Nat)
  /-- PBOOT_GO, R390. -/
  | pbootGo (part : Nat) (val : BitVec 64)
  /-- STACK_FENCE, R319. -/
  | stackFence (stack : Nat)
  /-- SECURITY_ALARM, R395. -/
  | securityAlarm (cls : Nat) (scope : Nat)
  /-- REGISTER_WRITE, R2. -/
  | registerWrite (burdy : BitVec 1) (region : Nat) (n : Nat) (off : Nat) (size : Nat) (val : BitVec 64)
  /-- RESERVED_INSTRUCTION_WORD, R144. -/
  | reservedInstructionWord (cause : Nat) (sub : Nat) (word : BitVec 32)
  /-- WRITEBACK_ACCEPTED, R121. -/
  | writebackAccepted (band : Nat)
  /-- ONLY_COPY_UNCORRECTABLE_ERROR, R122. -/
  | onlyCopyUncorrectableError (core : Nat) (addr : Nat)
  /-- PARTITION_DESTROY, R371. -/
  | partitionDestroy (part : Nat)
  /-- POWER_ALARM_END, R11. -/
  | powerAlarmEnd
  /-- PEER_COLLECTIVE_MESSAGE, R381. -/
  | peerCollectiveMessage (part : Nat) (g : Nat) (rank : Nat) (cancel : BitVec 1)
  deriving DecidableEq, Repr

end Sys2Proof
end

