-- ==== Sys2Proof/Machine/State.lean ====
section
/-! DEFINITION. The state of the FX-860 package as plain data, what can stop the machine, and the state after reset.
Sparse things are tables keyed by numbers: a key that a table does not list stands for the unit's reset record. -/
namespace Sys2Proof.Machine

/-- A sparse table: keys rise and none is listed twice when it is built by the operations of Ops. -/
abbrev Tab (α : Type) := List (Nat × α)

/-- Bytes of memory listed by address; an address not listed reads 0 (log 1). Canonical: addresses strictly rising, and
no entry holds 0. -/
abbrev Memory := List Host.Cell

/-- Why the machine stops. The device of the spec never stops; these two mark states that no step reaches. -/
inductive Fault where
  /-- `exec` of an instruction word in a state in which no warp issues. Raised by every meaning of a word; safe: the
  step always names the issuing warp first. -/
  | noIssue
  /-- The issue names a warp that does not exist. Raised as above; safe. -/
  | noWarp
  deriving DecidableEq, Repr

/-- Why an instruction has no meaning here. -/
inductive Refusal where
  /-- The instruction is not modelled yet; raised by its arm of `exec` alone; safe. -/
  | notModelled (mnemonic : String)
  deriving DecidableEq, Repr

/-- What a thread waits for before it issues the instruction at its PC again (R24, R28). -/
inductive Wait where
  /-- A pending scalar register (R251). -/
  | scalar (n : Nat)
  /-- A free task-table entry of its core (R246). -/
  | tableFull
  /-- Fewer than 16 sealed unfinished batches (R251). -/
  | sealLimit
  /-- At most n sealed unfinished batches (R252). -/
  | batches (n : Nat)
  /-- Its turn for the mitt of an accumulator (R269). -/
  | mitt (a : Nat)
  /-- The end of the task that a token names (R273). -/
  | task (ent seq : Nat)
  /-- An event counter that reaches a threshold (R297). -/
  | event (n : Nat) (threshold : Word)
  /-- A lattice cell that reaches a threshold (R127): the cell's package address and stack, and its type code. -/
  | lattice (cell stack lt : Nat) (threshold : Dword)
  /-- Room in, or an entry of, a stage queue (R299). -/
  | enqueue (q : Nat)
  | dequeue (q : Nat)
  /-- A free entry, or an entry, of the riser FIFO (R293). -/
  | riserFree
  | riserEntry
  /-- The write-backs of a range form, by number, and the next instruction (R237). -/
  | range (ids : List Nat) (next : Dword)
  /-- The end of a nested handler, before a `tret` of the outer frame (R332). -/
  | nestedEnd
  /-- The crew's commands and the warp's seals, before the leaving `tret` (R340). -/
  | commandsEnd
  /-- A host port that is up (R16), 2 for either; a Jalef port of a mask that is up (R376). With them, the window that the
  access goes through, by partition and number: it is outstanding there. -/
  | link (port : Nat) (window : Option (Nat × Nat))
  | peerLink (mask : Nat) (window : Nat × Nat)
  deriving DecidableEq, Repr

/-- The kinds of access that differ in what they order (R104): an atomic with observers both acquires and releases. -/
inductive Kind where
  | weak
  | strong
  | acquire
  | release
  deriving DecidableEq, Repr

/-- What a thread is doing (R24, R301). -/
inductive Status where
  | ready
  | waiting (w : Wait)
  /-- Arrived at convergence barrier `n`; predicate `k` is written at release; it resumes at `next` (R32, R34). -/
  | converge (n k : Nat) (next : Dword)
  | crewBarrier (next : Dword)
  | gangBarrier (next : Dword)
  | finished
  | parked
  deriving DecidableEq, Repr

/-- The handler that a thread runs (R284, R332). -/
inductive Handler where
  | none
  | trap
  | preempt
  /-- A nested handler over a trap handler, and one over a pre-emption handler. -/
  | nestedTrap
  | nestedPreempt
  deriving DecidableEq, Repr

/-- What a thread that has begun to wait has read (R190, R235): the scalar registers of its warp, the sampled cycle counter
(R194), and its latches. -/
structure Held where
  s : Tab Word
  clk : Dword
  l0 : Option Word
  l1 : Option Word
  l2 : Option Word
  l3 : Option Word
  deriving DecidableEq, Repr

/-- One thread: R17, R24, R29, R101, R301. -/
structure Thread where
  pc : Dword
  /-- v0 to v63; a register not listed holds 0. -/
  v : Tab Word
  /-- p0 to p7 in bits 0 to 7. -/
  p : Byte
  /-- The latches; `none` is an invalid one (R29). -/
  l0 : Option Word
  l1 : Option Word
  l2 : Option Word
  l3 : Option Word
  /-- The view time V (R101). -/
  view : Dword
  /-- The wait count W (R25). -/
  count : Nat
  status : Status
  handler : Handler
  /-- Supervisor mode. -/
  sup : Bool
  /-- The resume record of R301: the resume word, and the cycles left to an `lld`, 0 for none. -/
  resume : Dword
  left : Nat
  /-- The cycle at which a waiting `lld` expires; 0 for none. -/
  timeout : Nat
  /-- The cycle at which the thread became blocked (R336). -/
  since : Nat
  /-- What the blocking instruction in which the thread waits has read (the model's own). -/
  held : Option Held
  /-- The observers of the fences that the thread has executed (R105, R116), and the draw number of the last one with c:
  a lease granted before it serves the thread no more (R111). -/
  fences : BitVec 5
  fenced : Nat
  /-- The largest write time that the thread's strong reads of class c have met (R105). -/
  met : Dword
  deriving DecidableEq, Repr

/-- A convergence barrier (R32): members, arrived, and the cycle at which each arrived thread's timeout expires. -/
structure Barrier where
  m : Word
  z : Word
  expiry : Tab Nat
  deriving DecidableEq, Repr

/-- A batch of engine commands (R251). -/
structure Batch where
  id : Nat
  /-- The register bound by `seal`; none for the open batch and for one sealed without a register (R253). -/
  reg : Option Nat
  closed : Bool
  /-- Commands not completed, and the largest code so far. -/
  left : Nat
  code : Nat
  /-- The timestamp of the completions with REL (R117). -/
  stamp : Dword
  deriving DecidableEq, Repr

/-- What fills a pending scalar register. -/
inductive Pending where
  /-- A sealed batch (R251). -/
  | batch (id : Nat)
  /-- A `demote` or `evict` whose write-backs are these (R243). -/
  | spiral (ids : List Nat)
  /-- A `pwr.gate` of a core (R291). -/
  | gate (core : Nat)
  deriving DecidableEq, Repr

/-- A parked sub-warp that has not entered its handler (R330). -/
structure Sub where
  mask : Word
  cause : Nat
  sub : Nat
  addr : Dword
  word : Word
  /-- The frame's PC (R333), and the instruction that trapped (R301). -/
  pc : Dword
  origin : Dword
  detail : Dword
  nested : Bool
  /-- Its frame stands in the slot already: a save or restore handler has written it (R302). -/
  framed : Bool
  deriving DecidableEq, Repr

/-- Whether a warp is on its core, stopped in held mode, or has left in handler mode (R339, R340). -/
inductive WarpRun where
  | resident
  | held
  | left
  deriving DecidableEq, Repr

structure Warp where
  crew : Nat
  /-- Index in the crew, lane of the core, index among the warps of the lane (R328). -/
  wix : Nat
  lane : Nat
  slot : Nat
  /-- Declared register counts (R172). -/
  kv : Nat
  ks : Nat
  /-- s0 to s31; a register not listed holds 0. -/
  s : Tab Word
  frm : BitVec 2
  fflags : BitVec 5
  threads : List Thread
  bars : Tab Barrier
  pend : Tab Pending
  batches : List Batch
  subs : List Sub
  run : WarpRun
  /-- The cycle from which the timeouts of the warp do not count (R33, R339): they move on by what it lasts. -/
  pausedAt : Option Nat
  /-- What the hardware's next access to the warp's save slot waits for (R16, R376). -/
  stuck : Option Wait
  /-- Timestamps that a later read of a seal register, or a `waitn`, acquires (R117): by register, and of the batches that
  have finished without one. -/
  seals : Tab Dword
  ended : Dword
  deriving DecidableEq, Repr

inductive CrewState where
  | resident
  | suspended
  | finished
  deriving DecidableEq, Repr

structure Crew where
  launch : Nat
  gang : Nat
  cix : Nat
  core : Nat
  /-- First byte of its scratchpad run in the cluster, and its size (R320). -/
  spad : Nat
  size : Nat
  warps : List Nat
  /-- Tensor descriptors td0 to td63: the 16 words of each that is valid (R244, R254). -/
  td : Tab (List Word)
  /-- The cap group that holds the cap and the marks of its warps (R271, R272). -/
  cap : Nat
  marks : Word
  /-- `cbar`: arrivals at the crew barrier (R288). -/
  arrived : Word
  /-- Cover in µJ (R324). -/
  cover : Nat
  state : CrewState
  /-- Spill pointers kept with a suspended crew, by warp index (R340). -/
  spill : Tab Dword
  /-- A scratchpad run that has been scanned out to shadow storage (R339): its bytes, and which of them are poison, by offset. -/
  scanned : Option (Memory × Tab Unit)
  deriving DecidableEq, Repr

inductive GangState where
  | assigned
  | running
  | finished
  deriving DecidableEq, Repr

structure Gang where
  launch : Nat
  index : Dword
  band : Nat
  stage : Nat
  crews : List Nat
  /-- Crews that have arrived at the gang barrier, by crew index (R298). -/
  arrived : Word
  state : GangState
  deriving DecidableEq, Repr

/-- A kernel header (R158), with the address of the first instruction. -/
structure Header where
  entry : Dword
  kv : Nat
  ks : Nat
  warps : Nat
  spad : Nat
  crews : Nat
  role : Nat
  traps : Word
  energy : Nat
  stages : Dword
  deriving DecidableEq, Repr

/-- One stage of a staged launch and the queue to the next (R39, R162). -/
structure Stage where
  header : Header
  /-- Entry size, capacity and high-water mark; all 0 without an output queue. -/
  size : Nat
  capacity : Nat
  mark : Nat
  /-- Entries of the output queue, the head first, with the timestamp of the enqueuer (R299). -/
  entries : List (List Byte × Dword)
  deriving DecidableEq, Repr

structure Launch where
  part : Nat
  /-- The launch queue, or none for the boot gang of R390. -/
  queue : Option Nat
  /-- The ring index of its record (R312). -/
  idx : Word
  /-- The VF it acts for (R352). -/
  vf : Option Nat
  /-- The address of the kernel header (R309). -/
  hdr : Dword
  header : Header
  gangs : Nat
  args : Dword
  qstore : Dword
  dev : Word
  dinc : Word
  wev : Word
  wth : Word
  dobs : BitVec 5
  wobs : BitVec 5
  ser : Bool
  refused : Bool
  begun : Bool
  /-- The next gang index never dispatched, and the indices to dispatch again (R319). -/
  next : Nat
  redo : List Nat
  /-- Gangs finished. -/
  done : Nat
  stages : List Stage
  /-- The band of a staged launch, once it is placed (R39). -/
  band : Option Nat
  aborted : Bool
  reissued : Bool
  /-- STATUS has been written (R316). -/
  finished : Bool
  /-- The largest visibility time of its crews' writes and what its begin acquired (R314, R316). -/
  stamp : Dword
  /-- Its queue has been enabled again since it began (R312): the ring's indices count it no more (log 119, DESIGN CHOICE). -/
  detached : Bool
  /-- What the write of its STATUS waits for (R16, R376). -/
  stuck : Option Wait
  deriving DecidableEq, Repr

/-- The descriptor of a command, read whole at issue: its 16 words (R160, R256). -/
abbrev Desc := List Word

/-- What an engine command does. -/
inductive Command where
  /-- CPY form 0 to 5 (R258): buffer, descriptors, the two coordinate words. -/
  | copy (form x : Nat) (td td2 : Desc) (c0 c1 : Word)
  /-- `mma` (R263): sparse, transposed, overwrite, the operands and their scratchpad words when the source bit is set. -/
  | mma (sparse trans overwrite : Bool) (a b : Nat) (sa sb : Option (Word × Word)) (acc : Nat)
  /-- `tsk.sub` (R273). -/
  | hold (x n : Nat)
  /-- KV form 0 to 2 (R275): buffer, descriptor, the four control words. -/
  | kv (form x : Nat) (td : Desc) (q0 q1 q2 q3 : Word)
  /-- COL function 0 to 6 (R277): descriptors and the group word. -/
  | col (fn : Nat) (td td2 : Desc) (g : Word)
  deriving DecidableEq, Repr

/-- A submitted task (R246). -/
structure Task where
  cmd : Command
  /-- Its place in the core's submission order. -/
  order : Nat
  started : Bool
  warp : Nat
  crew : Nat
  launch : Nat
  batch : Option Nat
  acq : Bool
  rel : Bool
  /-- What the sequence record held when a KV command started (R355): bytes 0 to 23; and the word that holds its GEN, with the
  time at which it had last been written, where it has one. -/
  seqRecord : Option (List Byte)
  genTime : Option (Nat × Dword)
  /-- The instance that a collective command joined, if any (R378). -/
  inst : Option Nat
  /-- Cancelled by a write of its group record, a fence or another participant's fault (R377, R379, R381). -/
  cancelled : Bool
  /-- Whether the issuing threads ran in supervisor mode. -/
  sup : Bool
  /-- The view time that the issue passes on (R116). -/
  stamp : Dword
  /-- Whether R355 refuses a KV command by what STCTL held at its start, and the quarantine list of its VF then (R365). -/
  refused : Bool
  quar : Tab Dword
  /-- The tiles, by band and number, that the command has touched (R78). -/
  seen : List (Nat × Nat)
  /-- What the first access that has not been performed waits for, once the command's run has met it (R16, R376). -/
  stalled : Option Wait
  deriving DecidableEq, Repr

structure Entry where
  /-- Submission count (R250), and the unfinished task. -/
  seq : Nat
  task : Option Task
  /-- The timestamp of the last completion with REL (R273). -/
  stamp : Dword
  deriving DecidableEq, Repr

/-- An operand buffer (R244). -/
structure Buf where
  data : Tab Byte
  full : Bool
  fmt : Nat
  side : Tab Byte
  sfmt : Nat
  poison : Bool
  use : Nat
  deriving DecidableEq, Repr

/-- A waiting `acq` (R269): the warp, and the last submission it waits for. -/
structure MittWait where
  warp : Nat
  upTo : Nat
  deriving DecidableEq, Repr

/-- An accumulator (R244): element (i, j) at 32 i + j. -/
structure Acc where
  el : Tab Word
  defined : Bool
  poison : Bool
  /-- The warp that holds the mitt; none when the engine does. -/
  mitt : Option Nat
  waiting : List MittWait
  deriving DecidableEq, Repr

/-- A KTB entry (R356), with the word that held the GEN of its tag and its write time. -/
structure KtbEntry where
  vf : Nat
  slot : Nat
  gen : Word
  written : Nat × Dword
  block : Nat
  value : Word
  deriving DecidableEq, Repr

/-- The power gate of an upper core (R326). -/
inductive Gate where
  | on
  | drain
  | off
  | wake
  deriving DecidableEq, Repr

/-- A request for a core whose token is not written: the warp, its register, and the code it gets when the gate reaches
the state it asks for (R326). -/
structure GateRequest where
  warp : Nat
  reg : Nat
  code : Nat
  deriving DecidableEq, Repr

/-- Whether a core is in service, asked to be vacated (and in which mode), or vacated (R337 to R340). -/
inductive Vacate where
  | inService
  | asked (handler : Bool)
  /-- Handler mode: the frames are entered, and warps are leaving. -/
  | leaving
  | vacated
  deriving DecidableEq, Repr

structure Core where
  bufs : Tab Buf
  accs : Tab Acc
  entries : Tab Entry
  /-- The number of submissions so far: the submission order (R246). -/
  submitted : Nat
  ktb : List KtbEntry
  gate : Gate
  gateRequests : List GateRequest
  /-- The riser FIFO of a lower core, the head first: the sender's launch, the words, the sender's view time (R293). -/
  fifo : List (Nat × List Word × Dword)
  vacate : Vacate
  /-- The cycle at which a handler-mode vacate was asked (R337). -/
  askedAt : Nat
  deriving DecidableEq, Repr

/-- A tile of a spiral (R77, R84): the partition-physical tile number. -/
structure Tile where
  tile : Nat
  handle : Nat
  dirty : Bool
  /-- The VF that owns the pin (R362). -/
  owner : Option Nat
  deriving DecidableEq, Repr

/-- A spiral: unpinned tiles, the most recently touched first; pinned tiles by position; the rings reserved (R76, R94).
The position of an unpinned tile follows from R77. -/
structure Spiral where
  order : List Tile
  pinned : Tab Tile
  res : Nat
  deriving DecidableEq, Repr

/-- A queued write-back: package addresses and the bytes to write (R121). -/
structure WriteBack where
  id : Nat
  bytes : List Host.Cell
  priority : Nat
  deriving DecidableEq, Repr

/-- The clock values of a word at its home slice (R100). -/
structure WordClock where
  wts : Dword
  rts : Dword
  deriving DecidableEq, Repr

/-- A leased copy of a word in a core's data cache (R101). -/
structure Copy where
  value : Word
  /-- The lease end L, and the write time of the value. -/
  lease : Dword
  stamp : Dword
  /-- The draw number of the grant, one for each access: words of one access have one (R98). -/
  born : Nat
  deriving DecidableEq, Repr

/-- A word that a core owns (R98): the core, and the threads whose stores it holds, by 32 × warp + thread (R102). -/
structure Owned where
  core : Nat
  writers : List Nat
  deriving DecidableEq, Repr

/-- A scratchpad mapping entry (R90). -/
structure Smap where
  v : Bool
  wb : Bool
  nt : Nat
  soff : Nat
  gtn : Nat
  deriving DecidableEq, Repr

/-- A launch queue (R312, R386). -/
structure Queue where
  base : Dword
  en : Bool
  src : Bool
  err : Bool
  pri : Nat
  logn : Nat
  tail : Word
  head : Word
  disp : Word
  /-- QOWN: valid, and the owning VF. -/
  owned : Bool
  owner : Nat
  deriving DecidableEq, Repr

/-- A rank that has joined a collective instance (R378). -/
structure Joined where
  rank : Nat
  core : Nat
  ent : Nat
  deriving DecidableEq, Repr

/-- An unfinished collective instance (R378). -/
structure Inst where
  k : Nat
  joined : List Joined
  deriving DecidableEq, Repr

/-- A group record (R377) with the instance count of each rank (R378). -/
structure Group where
  gctl : Word
  gloc : Word
  gport : Word
  gseq : Word
  counts : Tab Nat
  insts : List Inst
  deriving DecidableEq, Repr

/-- A host window, peer window or export entry (R16, R375, R391). -/
structure Window where
  base : Dword
  ctl : Word
  size : Word
  deriving DecidableEq, Repr

/-- A translation that the TLBs of a cluster and of its cores may hold (R347): the partition, the virtual address and the
size of the page, the physical address of the leaf, and the leaf as it was read, with A and D as they were then set. -/
structure Cached where
  part : Nat
  cluster : Nat
  base : Nat
  size : Nat
  leaf : Nat
  entry : Nat
  deriving DecidableEq, Repr

/-- A halfword that a core has fetched and may keep (R130): the core, the place, and the contents. A place is a package
address, or 2^60 and more for a byte of a scratchpad. -/
structure Kept where
  core : Nat
  place : Nat
  half : Nat
  deriving DecidableEq, Repr

structure Partition where
  top : Nat
  bot : Nat
  left : Nat
  right : Nat
  /-- The AES key exists; false after key erasure (R390, R395). -/
  key : Bool
  /-- The number of that key, one for each partition made (R390). -/
  keyId : Nat
  /-- BUDGET as written, and as it bounds the current window (R322). -/
  budget : Word
  budgetNow : Word
  /-- REM of `egyrem`, as s32 (R288). -/
  rem : Int
  windows : Word
  /-- Fenced by a security alarm (R395): its bands have stopped. -/
  stopped : Bool
  pboot : Dword
  secpol : Byte
  vfbind : Dword
  vfport : Dword
  pcmd : Word
  /-- Commands written with GO and not yet accepted, in the order written (R337). -/
  pcmdQueue : List Word
  pstat : Word
  phlim : Word
  wdog : Word
  troot : Dword
  tinva : Dword
  tinvc : Word
  /-- Invalidations begun and not completed: of the page that holds an address, or of every page (R348). -/
  tinvDue : List (Option Dword)
  flbase : Dword
  flen : Bool
  flovf : Bool
  fllogn : Nat
  fltail : Word
  flhead : Word
  cap : Tab Word
  groups : Tab Group
  peerWindows : Tab Window
  exports : Tab Window
  hostWindows : Tab Window
  queues : Tab Queue
  /-- The queue served last at each priority level (R315). -/
  served : Tab Nat
  events : Tab Word
  /-- The largest timestamp signalled to each observer of an event counter (R297), by 8 × event + observer. -/
  eventRel : Tab Dword
  trapvec : Dword
  savebase : Dword
  per : Nat
  /-- The period that takes effect from the next round (R126). -/
  nextPer : Nat
  rnd : Word
  /-- Handle priorities (R87). -/
  priority : Tab Nat
  /-- Rounds since the partition was made: the round index of R125. -/
  round : Nat
  /-- What the device's reads of the partition's rings and kernel headers wait for (R16, R376), by queue number; 64 stands for
  PBOOT. -/
  stuck : Tab Wait
  deriving DecidableEq, Repr

/-- A claim of reclaimed pages (R361): the tier, the claimant, the pages asked of each borrower and still owed, and the
pages held for it. -/
structure Claim where
  tier : Nat
  vf : Nat
  owed : Nat
  held : Nat
  deriving DecidableEq, Repr

/-- The counts of one tier of a VF (R359). -/
structure Quota where
  used : Word
  guar : Word
  blim : Word
  rsv : Word
  recl : Word
  deriving DecidableEq, Repr

structure VfPage where
  stbase : Dword
  sten : Bool
  stlogn : Nat
  evtn : Word
  quota : Tab Quota
  qcnt : Word
  quar : Tab Dword
  /-- Interrupts raised to the host: reclaim and error (R361, R365). -/
  reclaimIrq : Nat
  errorIrq : Nat
  deriving DecidableEq, Repr

/-- The boot state of a stack (R388, R389). -/
inductive Boot where
  | rom
  | checking
  | refused
  | running
  deriving DecidableEq, Repr

structure Stack where
  boot : Boot
  /-- `bsl`.LVL (R288). -/
  lvl : Nat
  fenced : Bool
  /-- It was fenced off under R319: the acceptance of an image does not undo that (R395). -/
  struck : Bool
  deriving DecidableEq, Repr

/-- A Jalef port (R374). -/
structure Jalef where
  up : Bool
  lanes : Nat
  peer : Nat
  deriving DecidableEq, Repr

/-- The state of a router (R370). -/
inductive Router where
  | active
  | idle
  | down
  | waking
  deriving DecidableEq, Repr

/-- Something sent out of the package: an access to a peer device or a message of a collective. -/
structure Sent where
  peer : Nat
  /-- The Jalef port of the flow (R376). -/
  port : Nat
  off : Nat
  bytes : List Byte
  write : Bool
  /-- The kind that the access keeps on the peer's side (R115). -/
  kind : Kind
  deriving DecidableEq, Repr

/-- The issue being executed (R24, R139): the warp, the threads of the PC group, those whose guard is true, the PC, the
address after the instruction, the word that a trap frame shows, and the cycle counter sampled for the issue (R194). -/
structure Cur where
  warp : Nat
  group : Word
  taking : Word
  pc : Dword
  next : Dword
  word : Word
  clk : Dword
  /-- What the instruction read when it began to wait, for threads that waited in it. -/
  held : Option Held
  deriving DecidableEq, Repr

/-- The rest of an issue: group B and its PC (R27). -/
structure Rest where
  warp : Nat
  groupB : Option (Word × Dword)
  clk : Dword
  deriving DecidableEq, Repr

/-- Who moves next (the model's own): an event, an issue of a warp, or cycles that pass. -/
inductive Turn where
  | event (i : Instr)
  | issue (warp : Nat)
  /-- Metered credits and draws outside every crew change REM of a partition (R322); a crew draws energy (R324). -/
  | meter (part : Nat) (delta : Int)
  | draw (crew energy : Nat)
  | pass (cycles : Nat)
  /-- A core fetches ahead at a place (R130). -/
  | ahead (core place : Nat)
  /-- In a cycle a packet arrives at a router, or the router neither holds nor receives one (R370). -/
  | route (router : Nat) (packet : Bool)
  /-- A data cache evicts a word, or takes the rest of the line of a word that it holds (R96). -/
  | shed (core word : Nat)
  | spread (core word : Nat)
  deriving DecidableEq, Repr

/-- How a lane chooses among its warps (R28, R37): the warp that keeps it until a switch point, the warp it served last,
whether that warp gave way by `yield` (R192), and for each warp the switch points at which it was passed over in a row. -/
structure Lane where
  keeps : Option Nat
  last : Nat
  gave : Bool
  passed : Tab Nat
  deriving DecidableEq, Repr

/-- The HDM decoder of a host port (R385): the range of a partition's DRAM that the host reaches through it. -/
structure Decoder where
  on : Bool
  part : Nat
  base : Nat
  size : Nat
  deriving DecidableEq, Repr

structure State where
  /-- Cycles of the arithmetic clock since reset (R135). -/
  cycle : Nat
  /-- The value that an access finds at each package address: stack DRAM at R15's addresses, host memory from 2^50. -/
  mem : Memory
  /-- What DRAM itself holds where it is older than `mem`: bytes dirty in a data cache or a spiral (R79, R119, R121). -/
  under : Tab Byte
  /-- Bytes that stand under a key which neither their band nor `sealedBands` tells (R390), with the number of the key, 0 for
  none: what has been written to host memory, and to DRAM of no partition or of a band that `sealedBands` lists. -/
  ciphered : Tab Nat
  /-- Bands of partitions destroyed, with the number of the key under which every other byte of theirs stands (R390). -/
  sealedBands : Tab Nat
  /-- Words that a core owns (R98), by word number. -/
  owned : Tab Owned
  /-- What the home slice of an owned word holds, where DRAM holds something older (R79, R98) or the home is a scratchpad. -/
  homes : Tab Word
  /-- OW copies and leased copies in data caches (R96, R101), by 4096 × word number + core. -/
  shared : Tab Unit
  copies : Tab Copy
  clocks : Tab WordClock
  /-- The logical clocks of the home slices (R100), by band; 64 stands for host memory. -/
  slices : Tab Dword
  /-- The directories (R99): for each 512-byte region of words, the clusters that may hold OW copies; and the filters: for
  each 128-byte line, by 4096 × line + cluster, the cores of the cluster that may. -/
  directory : Tab (List Nat)
  filters : Tab (List Nat)
  /-- Poison bytes of memory and of the scratchpads (R89, R262). -/
  poison : Tab Unit
  spadPoison : Tab Unit
  /-- Lost lines, by line number (R122), and lost lines of a replica, by 8 × line number + stack (R128). -/
  lost : Tab Unit
  repLost : Tab Unit
  /-- Poison bytes of replicas (R123), by 8 × address + stack. -/
  repPoison : Tab Unit
  /-- Replicas of lattice cells that differ from the page, by 8 × cell number + stack (R125), and the pages that are
  lattice pages, with their type code (R123). -/
  reps : Tab Dword
  latPages : Tab Nat
  /-- The scratchpads: cluster × 2 MiB + offset. -/
  spad : Memory
  /-- Mapping entries: 16 × cluster + n (R90). -/
  smap : Tab Smap
  spirals : Tab Spiral
  /-- What the TLBs may hold (R347). -/
  tlb : List Cached
  /-- What the cores may keep of the instructions that they have fetched (R130). -/
  code : List Kept
  /-- Fields of `shdw` (R94). -/
  shdwBand : Nat
  shdwSt : Nat
  /-- Write-backs queued in each band, the next to be accepted first (R87, R121). -/
  wbq : Tab (List WriteBack)
  parts : Tab Partition
  launches : Tab Launch
  gangs : Tab Gang
  crews : Tab Crew
  warps : Tab Warp
  cores : Tab Core
  vfs : Tab VfPage
  /-- Open claims, the oldest first (R361). -/
  claims : List Claim
  stackTab : Tab Stack
  /-- Protocol of host ports 0 and 1: 0 down, 1 PCIe, 2 CXL (R396). -/
  hostPorts : Tab Nat
  decoders : Tab Decoder
  jalef : Tab Jalef
  routers : Tab Router
  /-- The package power alarm (R11). -/
  alarm : Bool
  bootGo : Bool
  bootDone : Byte
  bootAcpt : Byte
  /-- The firmware staging window (R385). -/
  staging : Memory
  /-- The value that the last read by the host, Burdy or a peer delivered. -/
  delivered : Dword
  sent : List Sent
  /-- The issue being executed, and what is left of it. -/
  cur : Option Cur
  rest : Option Rest
  /-- Whether the issue is a switch point so far (R28). -/
  switch : Bool
  agenda : List Turn
  /-- Whether the default scheduler tries events before warps this time, and the warp it served last. -/
  phase : Bool
  lastWarp : Nat
  /-- The lanes, by 64 × core + lane. -/
  lanes : Tab Lane
  /-- Draws of free values so far. -/
  draws : Nat
  /-- The next unused key of a launch, gang, crew, warp or write-back. -/
  fresh : Nat
  deriving DecidableEq, Repr

/-- The package right after reset (R388): every stack in its boot ROM, nothing resident, no partition. -/
def State.reset : State where
  cycle := 0
  mem := []
  under := []
  ciphered := []
  sealedBands := []
  owned := []
  homes := []
  shared := []
  copies := []
  clocks := []
  slices := []
  directory := []
  filters := []
  poison := []
  spadPoison := []
  lost := []
  repLost := []
  repPoison := []
  reps := []
  latPages := []
  spad := []
  smap := []
  spirals := []
  tlb := []
  code := []
  shdwBand := 0
  shdwSt := 0
  wbq := []
  parts := []
  launches := []
  gangs := []
  crews := []
  warps := []
  cores := []
  vfs := []
  claims := []
  stackTab := []
  hostPorts := []
  decoders := []
  jalef := []
  routers := []
  alarm := false
  bootGo := false
  bootDone := 0
  bootAcpt := 0
  staging := []
  delivered := 0
  sent := []
  cur := none
  rest := none
  switch := false
  agenda := []
  phase := false
  lastWarp := 0
  lanes := []
  draws := 0
  fresh := 1

end Sys2Proof.Machine
end

