-- ==== Sys2Proof/Machine/Table.lean ====
section
/-! DEFINITION. Reading and writing sparse tables, masks of threads and groups of bytes: the plain operations under all
others. -/
namespace Sys2Proof.Machine

/-- The record listed under a key. -/
def tfind {α : Type} : Tab α → Nat → Option α
  | [], _ => none
  | (j, a) :: r, k => if j = k then some a else tfind r k

/-- List a record under a key, in the place of any listed before. -/
def tput {α : Type} : Tab α → Nat → α → Tab α
  | [], k, a => [(k, a)]
  | (j, b) :: r, k, a =>
    if j < k then (j, b) :: tput r k a else if j = k then (k, a) :: r else (k, a) :: (j, b) :: r

/-- List nothing under a key. -/
def tdel {α : Type} (t : Tab α) (k : Nat) : Tab α := t.filter fun e => e.1 != k

/-- The word listed under a key, 0 when none is: a register, a byte of memory. -/
def wget {n : Nat} (t : Tab (BitVec n)) (k : Nat) : BitVec n := (tfind t k).getD 0

/-- Make the table read `x` under a key; 0 is never listed. -/
def wput {n : Nat} (t : Tab (BitVec n)) (k : Nat) (x : BitVec n) : Tab (BitVec n) :=
  if x = 0 then tdel t k else tput t k x

/-- The next key that a table does not list. -/
def tnext {α : Type} : Tab α → Nat
  | [] => 0
  | (j, _) :: r => max (j + 1) (tnext r)

/-- Keys that strictly rise. -/
def rising : List Nat → Bool
  | [] => true
  | [_] => true
  | a :: b :: r => decide (a < b) && rising (b :: r)

/-- The canonical form of a memory: strictly rising addresses, and no entry that holds what an unlisted address reads
(log 1). -/
def Memory.wf (m : Memory) : Bool := rising (m.map Prod.fst) && m.all fun e => e.2 != 0

/-- `n` bytes from an address, the lowest first. -/
def memBytes (m : Memory) (a : Nat) : Nat → List Byte
  | 0 => []
  | n + 1 => wget m a :: memBytes m (a + 1) n

/-- Write bytes from an address on. -/
def memPut (m : Memory) (a : Nat) : List Byte → Memory
  | [] => m
  | b :: r => memPut (wput m a b) (a + 1) r

/-- The number that bytes hold, the lowest first. -/
def bytesNat : List Byte → Nat
  | [] => 0
  | b :: r => b.toNat + 256 * bytesNat r

/-- The lowest `n` bytes of a number. -/
def natBytes : Nat → Nat → List Byte
  | 0, _ => []
  | n + 1, x => BitVec.ofNat 8 (x % 256) :: natBytes n (x / 256)

/-- Bits [lo + k - 1 : lo] of a number. -/
def bits (x lo k : Nat) : Nat := x / 2 ^ lo % 2 ^ k

/-- The number of a bit. -/
def bitNat (b : Bool) : Nat := if b then 1 else 0

/-- The mask whose bit t is `f t`, for t below 32. -/
def maskOf (f : Nat → Bool) : Word :=
  BitVec.ofNat 32 ((List.range 32).foldl (fun m t => m + bitNat (f t) * 2 ^ t) 0)

/-- Whether thread t stands in a mask. -/
def inMask (m : Word) (t : Nat) : Bool := m.getLsbD t

/-- The threads of a mask, ascending. -/
def threadsOf (m : Word) : List Nat := (List.range 32).filter (inMask m)

/-- The lowest index of a mask. -/
def lowestOf (m : Word) : Option Nat := (threadsOf m).head?

/-- Set or clear one bit. -/
def setBit {n : Nat} (x : BitVec n) (k : Nat) (b : Bool) : BitVec n :=
  if b then x ||| BitVec.ofNat n (2 ^ k) else x &&& ~~~(BitVec.ofNat n (2 ^ k))

/-- The larger of two times (R100). -/
def laterOf (a b : Dword) : Dword := if a.toNat < b.toNat then b else a

/-- A number read as two's complement of `w` bits (R45). -/
def signedNat (w x : Nat) : Int := if 2 * x < 2 ^ w then (x : Int) else (x : Int) - (2 ^ w : Nat)

/-- The low `w` bits of an integer (R45). -/
def wrapInt (w : Nat) (i : Int) : Nat := (i % (2 ^ w : Nat)).toNat

end Sys2Proof.Machine
end

