-- ==== Sys2Proof/Machine/Crypto.lean ====
section
/-! DEFINITION. The signature that a stack checks (R387): SHA-384 (FIPS 180-4) and the verification of ECDSA over P-384
(FIPS 186-5), which R387 names. Numbers stand in bytes with the highest byte first, as those standards encode them (log 91). -/
namespace Sys2Proof.Machine

/-! ## SHA-384 -/

/-- The round constants: 64 bits of the fractional parts of the cube roots of the first 80 primes. -/
def shaConstants1 : List (BitVec 64) :=
  [
    0x428A2F98D728AE22, 0x7137449123EF65CD, 0xB5C0FBCFEC4D3B2F, 0xE9B5DBA58189DBBC,
    0x3956C25BF348B538, 0x59F111F1B605D019, 0x923F82A4AF194F9B, 0xAB1C5ED5DA6D8118,
    0xD807AA98A3030242, 0x12835B0145706FBE, 0x243185BE4EE4B28C, 0x550C7DC3D5FFB4E2,
    0x72BE5D74F27B896F, 0x80DEB1FE3B1696B1, 0x9BDC06A725C71235, 0xC19BF174CF692694,
    0xE49B69C19EF14AD2, 0xEFBE4786384F25E3, 0x0FC19DC68B8CD5B5, 0x240CA1CC77AC9C65,
    0x2DE92C6F592B0275, 0x4A7484AA6EA6E483, 0x5CB0A9DCBD41FBD4, 0x76F988DA831153B5,
    0x983E5152EE66DFAB, 0xA831C66D2DB43210, 0xB00327C898FB213F, 0xBF597FC7BEEF0EE4,
    0xC6E00BF33DA88FC2, 0xD5A79147930AA725, 0x06CA6351E003826F, 0x142929670A0E6E70,
    0x27B70A8546D22FFC, 0x2E1B21385C26C926, 0x4D2C6DFC5AC42AED, 0x53380D139D95B3DF,
    0x650A73548BAF63DE, 0x766A0ABB3C77B2A8, 0x81C2C92E47EDAEE6, 0x92722C851482353B]
def shaConstants2 : List (BitVec 64) :=
  [
    0xA2BFE8A14CF10364, 0xA81A664BBC423001, 0xC24B8B70D0F89791, 0xC76C51A30654BE30,
    0xD192E819D6EF5218, 0xD69906245565A910, 0xF40E35855771202A, 0x106AA07032BBD1B8,
    0x19A4C116B8D2D0C8, 0x1E376C085141AB53, 0x2748774CDF8EEB99, 0x34B0BCB5E19B48A8,
    0x391C0CB3C5C95A63, 0x4ED8AA4AE3418ACB, 0x5B9CCA4F7763E373, 0x682E6FF3D6B2B8A3,
    0x748F82EE5DEFB2FC, 0x78A5636F43172F60, 0x84C87814A1F0AB72, 0x8CC702081A6439EC,
    0x90BEFFFA23631E28, 0xA4506CEBDE82BDE9, 0xBEF9A3F7B2C67915, 0xC67178F2E372532B,
    0xCA273ECEEA26619C, 0xD186B8C721C0C207, 0xEADA7DD6CDE0EB1E, 0xF57D4F7FEE6ED178,
    0x06F067AA72176FBA, 0x0A637DC5A2C898A6, 0x113F9804BEF90DAE, 0x1B710B35131C471B,
    0x28DB77F523047D84, 0x32CAAB7B40C72493, 0x3C9EBE0A15C9BEBC, 0x431D67C49C100D4C,
    0x4CC5D4BECB3E42B6, 0x597F299CFC657E2A, 0x5FCB6FAB3AD6FAEC, 0x6C44198C4A475817]
def shaConstants : List (BitVec 64) := shaConstants1 ++ shaConstants2

/-- The eight words of the state. -/
structure ShaState where
  a : BitVec 64
  b : BitVec 64
  c : BitVec 64
  d : BitVec 64
  e : BitVec 64
  f : BitVec 64
  g : BitVec 64
  h : BitVec 64
  deriving DecidableEq, Repr

def ShaState.start : ShaState :=
  { a := 0xCBBB9D5DC1059ED8, b := 0x629A292A367CD507, c := 0x9159015A3070DD17, d := 0x152FECD8F70E5939,
    e := 0x67332667FFC00B31, f := 0x8EB44A8768581511, g := 0xDB0C2E0D64F98FA7, h := 0x47B5481DBEFA4FA4 }

/-- The functions of FIPS 180-4, 4.1.3. -/
def shaCh (x y z : BitVec 64) : BitVec 64 := (x &&& y) ^^^ (~~~x &&& z)
def shaMaj (x y z : BitVec 64) : BitVec 64 := (x &&& y) ^^^ (x &&& z) ^^^ (y &&& z)
def shaTurn (x : BitVec 64) (i j k : Nat) : BitVec 64 := x.rotateRight i ^^^ x.rotateRight j ^^^ x.rotateRight k
def shaMix (x : BitVec 64) (i j k : Nat) : BitVec 64 := x.rotateRight i ^^^ x.rotateRight j ^^^ (x >>> k)

/-- One round. -/
def ShaState.round (s : ShaState) (k w : BitVec 64) : ShaState :=
  let t1 := s.h + shaTurn s.e 14 18 41 + shaCh s.e s.f s.g + k + w
  let t2 := shaTurn s.a 28 34 39 + shaMaj s.a s.b s.c
  { a := t1 + t2, b := s.a, c := s.b, d := s.c, e := s.d + t1, f := s.e, g := s.f, h := s.g }

def ShaState.add (x y : ShaState) : ShaState :=
  { a := x.a + y.a, b := x.b + y.b, c := x.c + y.c, d := x.d + y.d, e := x.e + y.e, f := x.f + y.f, g := x.g + y.g, h := x.h + y.h }

/-- The rounds of a block: `w` is the window of the sixteen latest words of the schedule, the oldest first. -/
def shaRounds : List (BitVec 64) → List (BitVec 64) → ShaState → ShaState
  | [], _, s => s
  | k :: ks, w, s =>
    let x := w.getD 0 0
    let next := x + shaMix (w.getD 1 0) 1 8 7 + w.getD 9 0 + shaMix (w.getD 14 0) 19 61 6
    shaRounds ks (w.drop 1 ++ [next]) (s.round k x)

/-- Bytes as a number, the highest first. -/
def bigNat (bs : List Byte) : Nat := bs.foldl (fun n b => 256 * n + b.toNat) 0
/-- A number as `n` bytes, the highest first. -/
def bigBytes (n x : Nat) : List Byte := (List.range n).map fun i => BitVec.ofNat 8 (x / 256 ^ (n - 1 - i))

/-- The blocks of a padded message, `n` of them. -/
def shaBlocks : Nat → List Byte → ShaState → ShaState
  | 0, _, s => s
  | n + 1, m, s =>
    let w := (List.range 16).map fun i => BitVec.ofNat 64 (bigNat ((m.drop (8 * i)).take 8))
    shaBlocks n (m.drop 128) (s.add (shaRounds shaConstants w s))

/-- A message padded to whole blocks of 128 bytes. -/
def shaPad (m : List Byte) : List Byte :=
  m ++ 0x80 :: List.replicate ((239 - m.length % 128) % 128) 0 ++ bigBytes 16 (8 * m.length)

/-- SHA-384 of a message: 48 bytes. -/
def sha384 (m : List Byte) : List Byte :=
  let x := shaPad m
  let s := shaBlocks (x.length / 128) x ShaState.start
  [s.a, s.b, s.c, s.d, s.e, s.f].flatMap fun w => bigBytes 8 w.toNat

/-! ## P-384 -/

/-- The prime of the field, the order of the base point, the coefficient b (a is -3), and the base point. -/
def curveP : Nat := 2 ^ 384 - 2 ^ 128 - 2 ^ 96 + 2 ^ 32 - 1
def curveN : Nat := 0xFFFFFFFFFFFFFFFFFFFFFFFFFFFFFFFFFFFFFFFFFFFFFFFFC7634D81F4372DDF581A0DB248B0A77AECEC196ACCC52973
def curveB : Nat := 0xB3312FA7E23EE7E4988E056BE3F82D19181D9C6EFE8141120314088F5013875AC656398D8A2ED19D2A85C8EDD3EC2AEF
def curveG : Nat × Nat :=
  (0xAA87CA22BE8B05378EB1C71EF320AD746E1D3B628BA79B9859F741E082542A385502F25DBF55296C3A545E3872760AB7,
   0x3617DE4A96262C6F5D9E98BF9292DC29F8F41DBD289A147CE9DA3113B5F0B8C00A60B1CE1D7E819D7A431D7C90EA0E5F)

/-- x to the power k modulo m, by the k's lowest `n` bits. -/
def powMod (m : Nat) : Nat → Nat → Nat → Nat
  | 0, _, _ => 1 % m
  | n + 1, x, k =>
    let r := powMod m n (x * x % m) (k / 2)
    if k % 2 = 1 then x * r % m else r
/-- The inverse modulo a prime of at most 384 bits. -/
def invMod (m x : Nat) : Nat := powMod m 384 (x % m) (m - 2)

/-- The sum of two points; none is the point at infinity. -/
def addPoints (x y : Option (Nat × Nat)) : Option (Nat × Nat) :=
  match x, y with
  | none, q => q
  | some a, none => some a
  | some a, some b =>
    let p := curveP
    if a.1 = b.1 ∧ (a.2 + b.2) % p = 0 then none
    else
      let l := if a = b then (3 * a.1 * a.1 + p - 3) * invMod p (2 * a.2) % p
        else (b.2 + p - a.2) * invMod p (b.1 + p - a.1) % p
      let u := (l * l + 2 * p - a.1 - b.1) % p
      some (u, (l * (a.1 + p - u) + p - a.2) % p)

/-- A multiple of a point, by the factor's lowest `n` bits. -/
def mulPoint : Nat → Nat → Option (Nat × Nat) → Option (Nat × Nat)
  | 0, _, _ => none
  | n + 1, k, q =>
    let r := mulPoint n (k / 2) (addPoints q q)
    if k % 2 = 1 then addPoints q r else r

/-- Whether a pair of numbers is a point of the curve. -/
def onCurve (q : Nat × Nat) : Bool :=
  decide (q.1 < curveP ∧ q.2 < curveP) && q.2 * q.2 % curveP == (q.1 * q.1 * q.1 + (curveP - 3) * q.1 + curveB) % curveP

/-- ECDSA verification (FIPS 186-5, 6.4.2) of a signature (r, s) over a message under a public key, each of 96 bytes. -/
def ecdsaVerifies (key msg sig : List Byte) : Bool :=
  let q := (bigNat (key.take 48), bigNat ((key.drop 48).take 48))
  let r := bigNat (sig.take 48)
  let s := bigNat ((sig.drop 48).take 48)
  let e := bigNat (sha384 msg)
  let w := invMod curveN s
  let x := addPoints (mulPoint 384 (e * w % curveN) (some curveG)) (mulPoint 384 (r * w % curveN) (some q))
  onCurve q && decide (1 ≤ r ∧ r < curveN ∧ 1 ≤ s ∧ s < curveN) &&
    match x with
    | some x => x.1 % curveN == r
    | none => false

end Sys2Proof.Machine
end

