-- ==== Sys2Proof/Machine/Spiral.lean ====
section
/-! DEFINITION. One Dravias spiral (R73 to R87, R94, R95) on its own: positions, touches, pins, demotes and evictions.
The unpinned tiles stand in recency order, and the i-th of them has the i-th position that is not pinned, which is what
R77 says of every unpinned tile. -/
namespace Sys2Proof.Machine

/-- The first reserved position (R94, R95). -/
def Spiral.limit (sp : Spiral) : Nat := if sp.res = 1 then 32768 else if sp.res = 2 then 16384 else 65536

/-- A spiral with nothing resident. -/
def emptySpiral : Spiral := { order := [], pinned := [], res := 0 }

/-- The i-th position that is not in an ascending list of pinned positions (R77). -/
def nthFree : List Nat → Nat → Nat
  | [], p => p
  | q :: r, p => if q ≤ p then nthFree r (p + 1) else p

/-- Positions neither pinned nor reserved (R81). -/
def Spiral.room (sp : Spiral) : Nat := sp.limit - sp.pinned.length

/-- The place of a tile in a recency list. -/
def recencyOf : List Tile → Nat → Option Nat
  | [], _ => none
  | t :: r, k => if t.tile = k then some 0 else (recencyOf r k).map (· + 1)

/-- The position at which a pinned tile stands. -/
def pinnedAt : Tab Tile → Nat → Option Nat
  | [], _ => none
  | (p, t) :: r, k => if t.tile = k then some p else pinnedAt r k

/-- The position of a resident tile and whether it is pinned (R77); none when absent. -/
def Spiral.position (sp : Spiral) (tile : Nat) : Option (Nat × Bool) :=
  match pinnedAt sp.pinned tile with
  | some p => some (p, true)
  | none => (recencyOf sp.order tile).map fun i => (nthFree (sp.pinned.map Prod.fst) i, false)

/-- The record of a resident tile. -/
def Spiral.record (sp : Spiral) (tile : Nat) : Option Tile :=
  match sp.order.find? (fun t => t.tile == tile) with
  | some t => some t
  | none => (sp.pinned.find? fun e => e.2.tile == tile).map Prod.snd

/-- The ring of a position (R76). -/
def ringOf (p : Nat) : Nat := if p < 256 then 0 else Nat.log2 p - 7

/-- Change the record of a tile where it stands. -/
def Spiral.amend (sp : Spiral) (tile : Nat) (f : Tile → Tile) : Spiral :=
  { sp with order := sp.order.map (fun t => if t.tile = tile then f t else t),
            pinned := sp.pinned.map (fun e => if e.2.tile = tile then (e.1, f e.2) else e) }

/-- Take the tiles that a list names no longer has room for: what stays, and what leaves, outermost first (R73). -/
def overflow (room : Nat) (l : List Tile) : List Tile × List Tile := (l.take room, (l.drop room).reverse)

/-- `touch` (R73, R79, R84): a pinned tile is left as it is; any other comes to the front of recency, and the tile that
this pushes beyond the last position leaves. -/
def Spiral.touch (sp : Spiral) (tile handle : Nat) : Spiral × List Tile :=
  match pinnedAt sp.pinned tile with
  | some _ => (sp, [])
  | none =>
    let old := (sp.order.find? fun t => t.tile == tile).getD { tile := tile, handle := handle, dirty := false, owner := none }
    let new := if handle = 0 then old else { old with handle := handle }
    let kept := overflow sp.room (new :: sp.order.filter fun t => t.tile != tile)
    ({ sp with order := kept.1 }, kept.2)

/-- A store marks its tile dirty (R79, R80). -/
def Spiral.soil (sp : Spiral) (tile : Nat) : Spiral := sp.amend tile fun t => { t with dirty := true }

/-- Take a tile out of the spiral without moving any other in recency. -/
def Spiral.remove (sp : Spiral) (tile : Nat) : Spiral :=
  { sp with order := sp.order.filter (fun t => t.tile != tile),
            pinned := sp.pinned.filter fun e => e.2.tile != tile }

/-- Set the hatpin of a resident unpinned tile where it stands (R81). -/
def Spiral.pinResident (sp : Spiral) (tile : Nat) (owner : Option Nat) : Spiral :=
  match sp.position tile, sp.record tile with
  | some (p, false), some t =>
    { sp with order := sp.order.filter (fun u => u.tile != tile), pinned := tput sp.pinned p { t with owner := owner } }
  | _, _ => sp

/-- Clear the hatpin: the tile takes its place in recency after every unpinned tile at a lower position (R81). -/
def Spiral.unpin (sp : Spiral) (tile : Nat) : Spiral :=
  match sp.position tile, sp.record tile with
  | some (p, true), some t =>
    let pins := sp.pinned.map Prod.fst
    let lower := (List.range sp.order.length).filter fun i => nthFree pins i < p
    let k := lower.length
    { sp with order := sp.order.take k ++ { t with owner := none } :: sp.order.drop k, pinned := tdel sp.pinned p }
  | _, _ => sp

/-- `demote` at one band (R85): the unpinned tiles of a handle become the least recent, keeping their order. -/
def Spiral.demote (sp : Spiral) (handle : Nat) : Spiral :=
  { sp with order := sp.order.filter (fun t => t.handle != handle) ++ sp.order.filter fun t => t.handle == handle }

/-- `evict` at one band (R86): every tile of a handle leaves, pinned or not; the pinned ones, which no touch orders, first,
then the others as they were touched (R87, log 83). -/
def Spiral.evict (sp : Spiral) (handle : Nat) : Spiral × List Tile :=
  ({ sp with order := sp.order.filter (fun t => t.handle != handle),
             pinned := sp.pinned.filter fun e => e.2.handle != handle },
   (sp.pinned.map Prod.snd).filter (fun t => t.handle == handle) ++ (sp.order.filter fun t => t.handle == handle).reverse)

/-- A change of reservation (R94, R95): the status of `shdw`, the spiral, and the tiles that leave. Tiles stand in the
rings asked for when their position is at or beyond the first reserved one. -/
def Spiral.reserve (sp : Spiral) (res : Nat) : Nat × Spiral × List Tile :=
  let lim := Spiral.limit { sp with res := res }
  if lim < sp.limit && sp.pinned.any (fun e => decide (lim ≤ e.1)) then (1, sp, [])
  else if lim < sp.limit && decide (lim - sp.pinned.length < 1024) then (2, sp, [])
  else
    let kept := overflow (lim - sp.pinned.length) sp.order
    (0, { sp with res := res, order := kept.1 }, kept.2)

/-- Every resident tile. -/
def Spiral.tiles (sp : Spiral) : List Tile := sp.order ++ sp.pinned.map Prod.snd

/-- The word of `dist` for a tile of the spiral (R82). -/
def Spiral.distWord (sp : Spiral) (tile : Nat) : Word :=
  match sp.position tile with
  | none => 0x80000000
  | some (p, pin) => BitVec.ofNat 32 (bitNat pin * 2 ^ 30 + ringOf p * 2 ^ 16 + p)

end Sys2Proof.Machine
end

