-- ==== Sys2Proof/Machine/Units.lean ====
section
/-! DEFINITION. The units of the device: where bands, cores and partitions lie, the record of each unit and its reset
value, and the reads and writes of registers, predicates and latches that everything else goes through. -/
namespace Sys2Proof.Machine

/-! ## Records of units -/

/-- A unit's record is read and written under its key; a key not listed stands for the reset record. -/
def Buf.init : Buf := { data := [], full := false, fmt := 0, side := [], sfmt := 0, poison := false, use := 0 }
/-- R244: elements +0, not DEF, no poison, mitt held by the engine. -/
def Acc.init : Acc := { el := [], defined := false, poison := false, mitt := none, waiting := [] }
def Entry.init : Entry := { seq := 0, task := none, stamp := 0 }
/-- R244, R326: engine state at reset, the gate ON, the core in service. -/
def Core.init : Core :=
  { bufs := [], accs := [], entries := [], submitted := 0, ktb := [], gate := .on, gateRequests := [], fifo := [],
    vacate := .inService, askedAt := 0 }
/-- R32: a free barrier. -/
def Barrier.init : Barrier := { m := 0, z := 0, expiry := [] }
def Queue.init : Queue :=
  { base := 0, en := false, src := false, err := false, pri := 0, logn := 0, tail := 0, head := 0, disp := 0,
    owned := false, owner := 0 }
def Group.init : Group := { gctl := 0, gloc := 0, gport := 0, gseq := 0, counts := [], insts := [] }
/-- The unfinished instances of a group complete, with code 4 at whoever has issued (R377, R381). -/
def Group.ended (g : Group) : Group := { g with gseq := g.gseq + BitVec.ofNat 32 g.insts.length, insts := [] }
def Window.init : Window := { base := 0, ctl := 0, size := 0 }
def Smap.init : Smap := { v := false, wb := false, nt := 0, soff := 0, gtn := 0 }
def Quota.init : Quota := { used := 0, guar := 0, blim := 0, rsv := 0, recl := 0 }
/-- R359: EVTN resets to 0xFFFF_FFFF, every other field to 0. -/
def VfPage.init : VfPage :=
  { stbase := 0, sten := false, stlogn := 0, evtn := 0xFFFFFFFF, quota := [], qcnt := 0, quar := [], reclaimIrq := 0,
    errorIrq := 0 }
/-- R388; `bsl` reads 1 until the stack is raised (log 4). -/
def Stack.init : Stack := { boot := .rom, lvl := 1, fenced := false, struck := false }
def Jalef.init : Jalef := { up := false, lanes := 0, peer := 0 }
def WordClock.init : WordClock := { wts := 0, rts := 0 }
/-- A thread of a starting crew (R311): registers, predicates and view time 0, latches invalid. -/
def Thread.init (pc : Dword) (sup : Bool) : Thread :=
  { pc := pc, v := [], p := 0, l0 := none, l1 := none, l2 := none, l3 := none, view := 0, count := 0,
    status := .ready, handler := .none, sup := sup, resume := 0, left := 0, timeout := 0, since := 0, held := none,
    fences := 0, fenced := 0, met := 0 }
/-- The thread slot that a warp does not hold. -/
def Thread.absent : Thread := { Thread.init 0 false with status := .finished }

def Spiral.of (s : State) (band : Nat) : Spiral := (tfind s.spirals band).getD emptySpiral
def State.core (s : State) (k : Nat) : Core := (tfind s.cores k).getD Core.init
def State.stack (s : State) (k : Nat) : Stack := (tfind s.stackTab k).getD Stack.init
def State.vf (s : State) (k : Nat) : VfPage := (tfind s.vfs k).getD VfPage.init
def State.smapOf (s : State) (cluster n : Nat) : Smap := (tfind s.smap (16 * cluster + n)).getD Smap.init
def State.clockOf (s : State) (word : Nat) : WordClock := (tfind s.clocks word).getD WordClock.init
def State.warp (s : State) (k : Nat) : Option Warp := tfind s.warps k
def State.crew (s : State) (k : Nat) : Option Crew := tfind s.crews k
def State.gang (s : State) (k : Nat) : Option Gang := tfind s.gangs k
def State.launch (s : State) (k : Nat) : Option Launch := tfind s.launches k
def State.part (s : State) (k : Nat) : Option Partition := tfind s.parts k
def Core.buf (c : Core) (x : Nat) : Buf := (tfind c.bufs x).getD Buf.init
def Core.acc (c : Core) (a : Nat) : Acc := (tfind c.accs a).getD Acc.init
def Core.entry (c : Core) (e : Nat) : Entry := (tfind c.entries e).getD Entry.init
def Warp.bar (w : Warp) (n : Nat) : Barrier := (tfind w.bars n).getD Barrier.init
def Partition.queue (p : Partition) (q : Nat) : Queue := (tfind p.queues q).getD Queue.init
def Partition.group (p : Partition) (g : Nat) : Group := (tfind p.groups g).getD Group.init
def VfPage.tier (v : VfPage) (t : Nat) : Quota := (tfind v.quota t).getD Quota.init

def State.setSpiral (s : State) (k : Nat) (x : Spiral) : State := { s with spirals := tput s.spirals k x }
def State.setCore (s : State) (k : Nat) (x : Core) : State := { s with cores := tput s.cores k x }
def State.setStack (s : State) (k : Nat) (x : Stack) : State := { s with stackTab := tput s.stackTab k x }
def State.setVf (s : State) (k : Nat) (x : VfPage) : State := { s with vfs := tput s.vfs k x }
def State.setSmap (s : State) (cluster n : Nat) (x : Smap) : State :=
  { s with smap := tput s.smap (16 * cluster + n) x }
def State.setClock (s : State) (word : Nat) (x : WordClock) : State := { s with clocks := tput s.clocks word x }
def State.setWarp (s : State) (k : Nat) (x : Warp) : State := { s with warps := tput s.warps k x }
def State.setCrew (s : State) (k : Nat) (x : Crew) : State := { s with crews := tput s.crews k x }
def State.setGang (s : State) (k : Nat) (x : Gang) : State := { s with gangs := tput s.gangs k x }
def State.setLaunch (s : State) (k : Nat) (x : Launch) : State := { s with launches := tput s.launches k x }
def State.setPart (s : State) (k : Nat) (x : Partition) : State := { s with parts := tput s.parts k x }
def Core.setBuf (c : Core) (x : Nat) (b : Buf) : Core := { c with bufs := tput c.bufs x b }
def Core.setAcc (c : Core) (a : Nat) (x : Acc) : Core := { c with accs := tput c.accs a x }
def Core.setEntry (c : Core) (e : Nat) (x : Entry) : Core := { c with entries := tput c.entries e x }
def Warp.setBar (w : Warp) (n : Nat) (b : Barrier) : Warp := { w with bars := tput w.bars n b }
def Partition.setQueue (p : Partition) (q : Nat) (x : Queue) : Partition := { p with queues := tput p.queues q x }
def Partition.setGroup (p : Partition) (g : Nat) (x : Group) : Partition := { p with groups := tput p.groups g x }
def VfPage.setTier (v : VfPage) (t : Nat) (q : Quota) : VfPage := { v with quota := tput v.quota t q }

def State.onWarp (s : State) (k : Nat) (f : Warp → Warp) : State :=
  match s.warp k with | some w => s.setWarp k (f w) | none => s
def State.onCrew (s : State) (k : Nat) (f : Crew → Crew) : State :=
  match s.crew k with | some c => s.setCrew k (f c) | none => s
def State.onGang (s : State) (k : Nat) (f : Gang → Gang) : State :=
  match s.gang k with | some c => s.setGang k (f c) | none => s
def State.onLaunch (s : State) (k : Nat) (f : Launch → Launch) : State :=
  match s.launch k with | some l => s.setLaunch k (f l) | none => s
def State.onPart (s : State) (k : Nat) (f : Partition → Partition) : State :=
  match s.part k with | some p => s.setPart k (f p) | none => s
def State.onCore (s : State) (k : Nat) (f : Core → Core) : State := s.setCore k (f (s.core k))
def State.onSpiral (s : State) (k : Nat) (f : Spiral → Spiral) : State := s.setSpiral k (f (Spiral.of s k))
def State.onVf (s : State) (k : Nat) (f : VfPage → VfPage) : State := s.setVf k (f (s.vf k))

/-- Take the next free value number. -/
def State.drawn (s : State) : State := { s with draws := s.draws + 1 }

/-! ## Places of the device (R6, R7, R9) -/

def coreBand (core : Nat) : Nat := core / 32
/-- The package-wide cluster of a core. -/
def coreCluster (core : Nat) : Nat := core / 4
/-- Cores 2048 to 2055 stand for the supervisor cores of stacks 0 to 7 (log 8). -/
def isSupervisorCore (core : Nat) : Bool := 2048 ≤ core
def coreStack (core : Nat) : Nat := if isSupervisorCore core then core - 2048 else core / 256
/-- Whether a core lies on the upper die: clusters 4 to 7 of its band (R7). -/
def isUpperCore (core : Nat) : Bool := core / 4 % 8 ≥ 4
/-- The lower core of a core's riser pair. -/
def lowerCore (core : Nat) : Nat := if isUpperCore core then core - 16 else core
/-- The upper core of a core's riser pair. -/
def upperCore (core : Nat) : Nat := if isUpperCore core then core else core + 16
/-- Grid row and column of a band (R9). -/
def gridRow (b : Nat) : Nat := 2 * (b / 8 / 4) + b % 8 / 4
def gridCol (b : Nat) : Nat := 4 * (b / 8 % 4) + b % 8 % 4

/-- Whether a band lies in a partition's rectangle (R371). -/
def Partition.holds (p : Partition) (b : Nat) : Bool :=
  decide (p.top ≤ gridRow b) && decide (gridRow b ≤ p.bot) && decide (p.left ≤ gridCol b) && decide (gridCol b ≤ p.right)
/-- The bands of a partition, ascending (R14, R75). -/
def Partition.bandList (p : Partition) : List Nat := (List.range 64).filter p.holds
/-- The stacks that hold its bands, ascending (R125). -/
def Partition.stackList (p : Partition) : List Nat :=
  (List.range 8).filter fun st => p.bandList.any fun b => b / 8 == st
/-- The cores of its bands. -/
def Partition.holdsCore (p : Partition) (core : Nat) : Bool := decide (core < 2048) && p.holds (coreBand core)
/-- The number of the band at the top-left corner of a rectangle: the key of its control page (R386). -/
def cornerBand (top left : Nat) : Nat := 8 * (4 * (top / 2) + left / 4) + 4 * (top % 2) + left % 4

def Partition.corner (p : Partition) : Nat := cornerBand p.top p.left

/-- The partition that holds a band. -/
def State.partOfBand (s : State) (b : Nat) : Option (Nat × Partition) := s.parts.find? fun e => e.2.holds b

/-- Whether a band's stack runs at reduced service, in which no tile leaves its spiral (R389). -/
def State.atReduced (s : State) (band : Nat) : Bool := (s.stack (band / 8)).lvl == 1

/-- Bytes of a partition's DRAM range that exist (R14); at reduced service the first 128 MiB (R389). -/
def dramBytes (s : State) (p : Partition) : Nat :=
  if p.bandList.any s.atReduced then 134217728 else Config.bandBytes * p.bandList.length

/-- The package address of a partition's DRAM address (R14, R15). -/
def Partition.toPackage (p : Partition) (pa : Nat) : Nat :=
  Config.bandBytes * (p.bandList.getD (pa / Config.bandBytes) 0) + pa % Config.bandBytes

/-- The home band of a tile among some bands (R75). -/
def homeAmong (bs : List Nat) (tile : Nat) : Nat :=
  bs.getD ((tile ^^^ tile / 65536 ^^^ tile / 4294967296) % max bs.length 1) 0
def Partition.home (p : Partition) (tile : Nat) : Nat := homeAmong p.bandList tile

/-! ## Threads and warps -/

def Warp.thread (w : Warp) (t : Nat) : Thread := (w.threads[t]?).getD Thread.absent
/-- Change every thread of a warp; a warp always holds 32 (R18). -/
def Warp.mapThreads (w : Warp) (f : Nat → Thread → Thread) : Warp :=
  { w with threads := (List.range 32).map fun t => f t (w.thread t) }
/-- Change the threads of a mask. -/
def Warp.onThreads (w : Warp) (m : Word) (f : Thread → Thread) : Warp :=
  w.mapThreads fun t th => if inMask m t then f th else th
/-- The threads that satisfy a test. -/
def Warp.where_ (w : Warp) (f : Thread → Bool) : Word := maskOf fun t => f (w.thread t)

def Thread.vreg (th : Thread) (n : Nat) : Word := wget th.v n
def Thread.setV (th : Thread) (n : Nat) (x : Word) : Thread := { th with v := wput th.v n x }
/-- The pair v(n):v(n+1) (R137). -/
def Thread.vpair (th : Thread) (n : Nat) : Dword := pairOf (th.vreg n) (th.vreg (n + 1))
/-- What a thread reads for the instruction in which it waits: its latches as they were when it began. -/
def Thread.reader (th : Thread) : Thread :=
  match th.held with | none => th | some h => { th with l0 := h.l0, l1 := h.l1, l2 := h.l2, l3 := h.l3 }
def Warp.reader (w : Warp) (t : Nat) : Thread := (w.thread t).reader
def Warp.sreg (w : Warp) (n : Nat) : Word := wget w.s n
/-- A scalar register is written: it no longer holds a completion code that a read would acquire (R117). -/
def Warp.setS (w : Warp) (n : Nat) (x : Word) : Warp := { w with s := wput w.s n x, seals := tdel w.seals n }
def Warp.spair (w : Warp) (n : Nat) : Dword := pairOf (w.sreg n) (w.sreg (n + 1))
def Warp.setSPair (w : Warp) (n : Nat) (x : Dword) : Warp := (w.setS n (lowWord x)).setS (n + 1) (highWord x)
def Thread.pred (th : Thread) (k : Nat) : Bool := th.p.getLsbD k
def Thread.setP (th : Thread) (k : Nat) (b : Bool) : Thread := { th with p := setBit th.p k b }
/-- One word enters the latches (R29). -/
def Thread.latch (th : Thread) (x : Word) : Thread := { th with l0 := some x, l1 := th.l0, l2 := th.l1, l3 := th.l2 }
/-- Write consecutive registers from n on, the lowest first. -/
def Thread.setVs (th : Thread) (n : Nat) : List Word → Thread
  | [] => th
  | x :: r => Thread.setVs (th.setV n x) (n + 1) r
/-- The result of a lane instruction: its words enter the latches in ascending register order, and the registers unless
NW is set (R29, R196). -/
def Thread.result (th : Thread) (nw : Bool) (d : Nat) (xs : List Word) : Thread :=
  let th' := xs.foldl Thread.latch th
  if nw then th' else th'.setVs d xs
/-- Invalidate the latches (R30). -/
def Thread.clearLatches (th : Thread) : Thread := { th with l0 := none, l1 := none, l2 := none, l3 := none }

/-- What the special codes deliver to a warp (R19). -/
structure Place where
  wix : Nat
  cix : Nat
  gix : Dword
  stg : Nat
  band : Nat
  deriving DecidableEq, Repr

/-- The core of a warp: its crew's. -/
def State.coreOf (s : State) (w : Warp) : Nat :=
  match s.crew w.crew with | some c => c.core | none => 0

/-- The place of a warp in the levels of work (R19). A stage above 0 reads a gang index of 0 (R40). -/
def State.placeOf (s : State) (w : Warp) : Place :=
  match s.crew w.crew with
  | none => { wix := w.wix, cix := 0, gix := 0, stg := 0, band := 0 }
  | some c =>
    match s.gang c.gang with
    | none => { wix := w.wix, cix := c.cix, gix := 0, stg := 0, band := coreBand c.core }
    | some g => { wix := w.wix, cix := c.cix, gix := if g.stage = 0 then g.index else 0, stg := g.stage, band := g.band }

/-- The launch of a warp, with its key. -/
def State.launchOf (s : State) (w : Warp) : Option (Nat × Launch) :=
  match s.crew w.crew with
  | none => none
  | some c => (s.launch c.launch).map fun l => (c.launch, l)

/-- The partition of a core, with its key. -/
def State.partOfCore (s : State) (core : Nat) : Option (Nat × Partition) := s.partOfBand (coreBand core)

/-- The warp's save-slot number (R328). -/
def slotNumber (core lane j : Nat) : Nat := 512 * core + 8 * lane + j

end Sys2Proof.Machine
end

