-- ==== Sys2Proof/Machine/Memory.lean ====
section
/-! DEFINITION. Memory below translation: tiles and write-backs (R73 to R87, R121), ownership, leases and logical clocks
(R96 to R102), the scratchpads and their mapping (R92), poison and lost lines (R89, R122), and what a physical address
reaches (R14 to R16, R225, R375). -/
namespace Sys2Proof.Machine

/-! ## Tiles -/

/-- The partition's own address of a package address of its DRAM (R14). -/
def Partition.fromPackage (p : Partition) (a : Nat) : Nat :=
  Config.bandBytes * (p.bandList.findIdx (· == a / Config.bandBytes)) + a % Config.bandBytes

/-- The partition, home band and tile number of a package address of DRAM (R75). -/
def State.tileOf (s : State) (a : Nat) : Option (Partition × Nat × Nat) :=
  (s.partOfBand (a / Config.bandBytes)).map fun e =>
    let t := e.2.fromPackage a / 2048
    (e.2, e.2.home t, t)

/-- Whether a tile is resident in a band. -/
def State.resident (s : State) (band tile : Nat) : Bool := ((Spiral.of s band).position tile).isSome

/-- The bytes of a range that a tile holds and DRAM does not: what a write-back of the range carries (R79). Of a word that a
core owns the tile may hold an older value, or none that DRAM lacks. -/
def State.staleBytes (s : State) (a n : Nat) : List Host.Cell :=
  (s.under.filter fun e => decide (a ≤ e.1) && decide (e.1 < a + n)).filterMap fun e =>
    if (tfind s.owned (e.1 / 4)).isNone then some (e.1, wget s.mem e.1)
    else (tfind s.homes (e.1 / 4)).map fun w => (e.1, BitVec.ofNat 8 (w.toNat / 256 ^ (e.1 % 4)))

/-- Queue a write-back in a band (R87, R121): behind those queued; the number it gets. Nothing to write queues nothing. -/
def State.queueBack (s : State) (band pri : Nat) (bytes : List Host.Cell) : State × List Nat :=
  if bytes.isEmpty then (s, [])
  else
    let q := (tfind s.wbq band).getD []
    ({ s with wbq := tput s.wbq band (q ++ [{ id := s.fresh, bytes := bytes, priority := pri }]), fresh := s.fresh + 1 },
     [s.fresh])

/-- The priority of a handle (R87). -/
def Partition.priorityOf (p : Partition) (h : Nat) : Nat := (tfind p.priority h).getD 0

/-- Tiles that left a band's spiral: the dirty ones are written back, in descending priority of their handles (R87). -/
def State.leave (s : State) (p : Partition) (band : Nat) (ts : List Tile) : State × List Nat :=
  let sorted := (List.range 16).reverse.flatMap fun pr => ts.filter fun t => t.dirty && p.priorityOf t.handle == pr
  sorted.foldl (fun acc t =>
    let r := acc.1.queueBack band (p.priorityOf t.handle) (acc.1.staleBytes (p.toPackage (2048 * t.tile)) 2048)
    (r.1, acc.2 ++ r.2)) (s, [])

/-- One touch of a tile at a band (R73, R78, R84). -/
def State.touch (s : State) (p : Partition) (band tile handle : Nat) : State :=
  let r := (Spiral.of s band).touch tile handle
  ((s.setSpiral band r.1).leave p band r.2).1

/-- A touch that happens or not, as a free choice may decide; the rest of the state never depends on the choice. -/
def State.touchWhen (s : State) (b : Bool) (p : Partition) (band tile handle : Nat) : State :=
  let t := s.touch p band tile handle
  { s with spirals := if b then t.spirals else s.spirals, wbq := if b then t.wbq else s.wbq,
           fresh := if b then t.fresh else s.fresh }

/-! ## Bytes -/

/-- The number of the key of the partition that holds the band of an address (R390), 0 for none. -/
def State.bandKey (s : State) (a : Nat) : Nat :=
  match s.partOfBand (a / Config.bandBytes) with
  | some e => e.2.keyId
  | none => 0

/-- The number of the key under which a byte stands when it is not the one that its place implies (R390). -/
def State.standsUnder (s : State) (a : Nat) : Option Nat :=
  match tfind s.ciphered a with
  | some k => some k
  | none => if a < Config.hostBase then tfind s.sealedBands (a / Config.bandBytes) else none

/-- Bytes of memory as the holder of a key reads them (R390): what stands under another key, the host's plain bytes among it,
reads as free bytes. -/
def State.plainBytes (s : State) (key a n : Nat) : List Byte :=
  if s.ciphered.isEmpty && s.sealedBands.isEmpty then memBytes s.mem a n
  else (List.range n).map fun i => match s.standsUnder (a + i) with
    | none => wget s.mem (a + i)
    | some k => if k = key then wget s.mem (a + i) else Config.cipherByte k key (a + i) (memBytes s.mem ((a + i) / 16 * 16) 16)

/-- The keys of `ciphered` once a byte of DRAM has been written, which encrypts it under the key of its band (R390). -/
def State.sealByte (s : State) (a : Nat) : Tab Nat :=
  if s.bandKey a = 0 || (tfind s.sealedBands (a / Config.bandBytes)).isSome then tput s.ciphered a (s.bandKey a)
  else tdel s.ciphered a

/-- Write one byte; a dirty one leaves DRAM as it was (R79, R98), a clean one reaches it. Writing ends poison, and the byte
is encrypted under the key that its address implies (R390). -/
def State.putByte (s : State) (dirty : Bool) (a : Nat) (b : Byte) : State :=
  { s with under := if dirty then
                      (if (tfind s.under a).isSome then s.under else tput s.under a ((s.plainBytes (s.bandKey a) a 1).getD 0 0))
                    else tdel s.under a,
           mem := wput s.mem a b, poison := tdel s.poison a, ciphered := s.sealByte a }

/-- Write bytes from an address on. -/
def State.putBytes (s : State) (dirty : Bool) (a : Nat) : List Byte → State
  | [] => s
  | b :: r => State.putBytes (s.putByte dirty a b) dirty (a + 1) r

/-- Bytes of host memory that the holder of a key writes (R390); 0 for the host and a supervisor core, which hold none. -/
def State.putSealed (s : State) (key a : Nat) (bs : List Byte) : State :=
  let s1 := s.putBytes false a bs
  { s1 with ciphered := (List.range bs.length).foldl (fun t i => tput t (a + i) key) s1.ciphered }

/-- Bytes of the scratchpads. -/
def State.putPad (s : State) (a : Nat) (bs : List Byte) : State :=
  { s with spad := memPut s.spad a bs,
           spadPoison := s.spadPoison.filter fun e => !(decide (a ≤ e.1) && decide (e.1 < a + bs.length)) }

/-- Whether a range meets a table of marked places. -/
def marked {α : Type} (t : Tab α) (a n : Nat) : Bool := t.any fun e => decide (a ≤ e.1) && decide (e.1 < a + n)

/-! ## Scratchpad mapping -/

/-- The scratchpad byte that serves a partition's DRAM address (R92, R93): entries that are valid, those that wait for
the write-back of R93 among them. Where entries of two clusters cover it, which R91 does not forbid, the lowest-numbered one
serves (log 87). -/
def State.mapped (s : State) (p : Partition) (pa : Nat) : Option Nat :=
  (s.smap.find? fun e => e.2.v && p.holds (e.1 / 16 / 8) && decide (e.2.gtn ≤ pa / 2048) &&
      decide (pa / 2048 ≤ e.2.gtn + e.2.nt)).map fun e =>
    2097152 * (e.1 / 16) + 2048 * (e.2.soff + (pa / 2048 - e.2.gtn)) + pa % 2048

/-- Whether a mapping entry of a cluster, by its key, covers a scratchpad byte. -/
def Smap.holds (e : Nat × Smap) (k : Nat) : Bool :=
  e.2.v && decide (e.1 / 16 = k / 2097152) && decide (e.2.soff ≤ k % 2097152 / 2048) &&
    decide (k % 2097152 / 2048 ≤ e.2.soff + e.2.nt)
def State.padMapped (s : State) (k : Nat) : Bool := s.smap.any fun e => Smap.holds e k

/-- The partition's own address of which a scratchpad byte holds the contents (R92). -/
def State.padRange (s : State) (k : Nat) : Option Nat :=
  (s.smap.find? fun e => Smap.holds e k).map fun e =>
    2048 * (e.2.gtn + (k % 2097152 / 2048 - e.2.soff)) + k % 2048

/-! ## Clocks and ownership -/

/-- The words that `n` bytes from `a` lie in. -/
def wordsOf (a n : Nat) : List Nat := (List.range ((a % 4 + n + 3) / 4)).map (a / 4 + ·)
/-- The numbers of scratchpad words that serve as home slice. -/
def padWords (k n : Nat) : List Nat := wordsOf (2 ^ 60 + k) n
/-- The number of the word at an address in a stack's replica (R125), under which a line and a region of one replica hold
numbers that follow each other; and the address and the stack of such a number. -/
def repWord (a stack : Nat) : Nat := 2 ^ 61 + 128 * (8 * (a / 512) + stack) + a % 512 / 4
def repAddress (w : Nat) : Nat := (w - 2 ^ 61) / 1024 * 512 + 4 * (w % 128)
def repStack (w : Nat) : Nat := w / 128 % 8
/-- The words of a replica that `n` bytes at an address lie in. -/
def repWords (a stack n : Nat) : List Nat := (wordsOf a n).map fun w => repWord (4 * w) stack

/-- The key of a stack's replica of the cell at a package address (R125). -/
def repKey (a stack : Nat) : Nat := 8 * (a / 8) + stack
/-- A replica's cell. -/
def State.replica (s : State) (a stack : Nat) : Dword := wget s.reps (repKey a stack)
/-- The cells that `n` bytes at a package address lie in, by address. -/
def cellsOf (a n : Nat) : List Nat := (List.range ((a % 8 + n + 7) / 8)).map fun i => a / 8 * 8 + 8 * i
/-- Bytes of a replica. -/
def State.repBytes (s : State) (a stack n : Nat) : List Byte :=
  (((cellsOf a n).flatMap fun c => natBytes 8 (s.replica c stack).toNat).drop (a % 8)).take n

/-- The bytes of a word as the holder of a key reads them: of memory, of a scratchpad that acts as home slice, or of a
replica. -/
def State.wordBytes (s : State) (key w : Nat) : List Byte :=
  if 2 ^ 61 ≤ w then s.repBytes (repAddress w) (repStack w) 4
  else if 2 ^ 58 ≤ w then memBytes s.spad (4 * w - 2 ^ 60) 4 else s.plainBytes key (4 * w) 4

/-- Whether bytes of a replica hold poison (R123). -/
def State.repMarked (s : State) (a stack n : Nat) : Bool :=
  s.repPoison.any fun e => e.1 % 8 == stack && decide (a ≤ e.1 / 8) && decide (e.1 / 8 < a + n)
/-- Whether a word holds poison. -/
def State.wordMarked (s : State) (w : Nat) : Bool :=
  if 2 ^ 61 ≤ w then s.repMarked (repAddress w) (repStack w) 4
  else if 2 ^ 58 ≤ w then marked s.spadPoison (4 * w - 2 ^ 60) 4 else marked s.poison (4 * w) 4
/-- Words hold poison no more. -/
def State.cleanse (s : State) (ws : List Nat) : State :=
  { s with poison := s.poison.filter fun e => !ws.contains (e.1 / 4),
           spadPoison := s.spadPoison.filter fun e => !ws.contains ((2 ^ 60 + e.1) / 4) }

/-- The bytes of a word as they stand. -/
def State.rawWord (s : State) (w : Nat) : List Byte :=
  if 2 ^ 58 ≤ w then memBytes s.spad (4 * w - 2 ^ 60) 4 else memBytes s.mem (4 * w) 4

/-- V := max(V, wts) for every word read (R101). -/
def State.readTime (s : State) (ws : List Nat) (v : Dword) : Dword := ws.foldl (fun v w => laterOf v (s.clockOf w).wts) v

/-- A write of some words by an agent at view time V (R100): the clocks, and the agent's view time. -/
def State.writeTime (s : State) (ws : List Nat) (v : Dword) : State × Dword :=
  ws.foldl (fun acc w =>
    let c := acc.1.clockOf w
    let vt := laterOf acc.2 (laterOf (c.wts + 1) (c.rts + 1))
    (acc.1.setClock w { c with wts := vt }, vt)) (s, v)

/-- The latest time that any word has been written at (R100). -/
def State.latest (s : State) : Dword := s.clocks.foldl (fun v e => laterOf v e.2.wts) 0

/-- The logical clock of a home slice reaches a time (R100): the latest that it has given to a write or a lease. -/
def State.tick (s : State) (slice : Nat) (t : Dword) : State :=
  { s with slices := wput s.slices slice (laterOf (wget s.slices slice) t) }

/-- Leases for the words of an SI load (R101), with the copies that the core then holds in the place of OW copies. -/
def State.grant (s : State) (key slice core : Nat) (ws : List Nat) (v : Dword) : State × Dword :=
  ws.foldl (fun acc w =>
    let c := acc.1.clockOf w
    let l := laterOf c.rts (laterOf c.wts acc.2) + BitVec.ofNat 64 (Config.leaseExtra acc.1.draws + 1)
    let x : Copy :=
      { value := BitVec.ofNat 32 (bytesNat (acc.1.wordBytes key w)), lease := l, stamp := c.wts, born := s.draws }
    ({ (((acc.1.setClock w { c with rts := l }).tick slice l).drawn) with
        copies := tput acc.1.copies (4096 * w + core) x, shared := tdel acc.1.shared (4096 * w + core) },
     laterOf acc.2 c.wts)) (s, v)

/-! ## Copies in data caches (R96, R98, R99) -/

/-- Record a core among those that a directory or a filter names. -/
def recorded (t : Tab (List Nat)) (k x : Nat) : Tab (List Nat) :=
  let l := (tfind t k).getD []
  if l.contains x then t else tput t k (x :: l)

/-- A core may hold OW copies of a word (R99). -/
def State.track (s : State) (core w : Nat) : State :=
  { s with directory := recorded s.directory (w / 128) (coreCluster core),
           filters := recorded s.filters (4096 * (w / 32) + coreCluster core) core }

/-- A core obtains OW copies of words that it does not own (R96), in the place of leased ones. -/
def State.obtain (s : State) (core : Nat) (ws : List Nat) : State :=
  ws.foldl (fun s w =>
    if (tfind s.owned w).isSome then s
    else { s.track core w with shared := tput s.shared (4096 * w + core) (), copies := tdel s.copies (4096 * w + core) }) s

/-- A write ends every OW copy of its words but those of one core (R96): `keep` is 4095 when none is spared. -/
def State.probe (s : State) (keep : Nat) (ws : List Nat) : State :=
  { s with shared := s.shared.filter fun e => !ws.contains (e.1 / 4096) || e.1 % 4096 == keep }

/-- A core drops its copies of some words (R97, R120). -/
def State.dropCopies (s : State) (core : Nat) (ws : List Nat) : State :=
  let gone := fun (k : Nat) => k % 4096 == core && ws.contains (k / 4096)
  { s with shared := s.shared.filter (fun e => !gone e.1), copies := s.copies.filter fun e => !gone e.1 }

/-- Whether a core owns a word, and whether it holds the word in a form that stays coherent: as owner or as an OW copy. -/
def State.owns (s : State) (core w : Nat) : Bool := match tfind s.owned w with | some o => o.core == core | none => false
def State.keeps (s : State) (core w : Nat) : Bool :=
  match tfind s.owned w with | some o => o.core == core | none => (tfind s.shared (4096 * w + core)).isSome

/-- Whether leased copies may serve a load at a view time (R101), of a thread whose last fence had a draw number (R111); the
two words of an aligned 8-byte unit come from one grant (R98). -/
def State.leased (s : State) (core : Nat) (v : Dword) (after : Nat) (ws : List Nat) : Bool :=
  ws.all fun w => match tfind s.copies (4096 * w + core) with
    | none => false
    | some c => decide (v.toNat ≤ c.lease.toNat ∧ after ≤ c.born) &&
        (!ws.contains (w ^^^ 1) || ((tfind s.copies (4096 * (w ^^^ 1) + core)).map Copy.born) == some c.born)

/-- An owned word goes back to its home slice (R98, R119, R120): its tile becomes dirty, or DRAM takes the bytes when
the tile is absent. -/
def State.giveBack (s : State) (w : Nat) : State :=
  let s := { s with owned := tdel s.owned w, homes := tdel s.homes w }
  match s.tileOf (4 * w) with
  | some (_, band, tile) =>
    if s.resident band tile then s.onSpiral band (Spiral.soil · tile)
    else { s with under := s.under.filter fun e => e.1 / 4 != w }
  | none => { s with under := s.under.filter fun e => e.1 / 4 != w }

/-- Recall the words that cores other than the given one own (R98). -/
def State.recall (s : State) (core : Nat) (ws : List Nat) : State :=
  ws.foldl (fun s w => match tfind s.owned w with
    | some o => if o.core = core then s else s.giveBack w
    | none => s) s

/-- Recall the words that any core owns. -/
def State.recallAll (s : State) (ws : List Nat) : State :=
  (s.owned.filter fun e => ws.contains e.1).foldl (fun s e => s.giveBack e.1) s

/-- The words that hold stores of some threads go home, as a release of theirs asks (R102). -/
def State.sendHome (s : State) (mine : Nat → Bool) : State :=
  (s.owned.filter fun e => e.2.writers.any mine).foldl (fun s e => s.giveBack e.1) s

/-- What the home slice keeps of a word that a core takes into ownership: a value that DRAM does not hold (R79). -/
def State.homeKept (s : State) (w : Nat) : Tab Word :=
  if 2 ^ 58 ≤ w || s.under.any fun e => e.1 / 4 == w then tput s.homes w (BitVec.ofNat 32 (bytesNat (s.rawWord w)))
  else tdel s.homes w

/-- A store takes words of a core into ownership (R98), each with the thread that wrote it, in the place of any copy. -/
def State.own (s : State) (core id : Nat) (ws : List Nat) : State :=
  ws.foldl (fun s w =>
    let old := match tfind s.owned w with | some o => if o.core = core then o.writers else [] | none => []
    { s.track core w with owned := tput s.owned w { core := core, writers := if old.contains id then old else id :: old },
                          homes := if (tfind s.owned w).isSome then s.homes else s.homeKept w })
    ((s.probe 4095 ws).dropCopies core ws)

/-- A store updates the leased copies in the writer's own cache (R96); each counts as a grant of its own. -/
def State.refresh (s : State) (key core : Nat) (ws : List Nat) : State :=
  ws.foldl (fun s w => match tfind s.copies (4096 * w + core) with
    | some c =>
      let x : Copy :=
        { c with value := BitVec.ofNat 32 (bytesNat (s.wordBytes key w)), stamp := (s.clockOf w).wts, born := s.draws }
      { s.drawn with copies := tput s.copies (4096 * w + core) x }
    | none => s) s

/-- A data cache evicts a word (R96): an owned one goes home. -/
def State.shed (s : State) (core w : Nat) : State :=
  (if s.owns core w then s.giveBack w else s).dropCopies core [w]

/-- The key under which a core reads an address (R390): of the partition whose band it lies in, or of the core's own. -/
def State.keyAt (s : State) (core a : Nat) : Nat :=
  match (if Config.hostBase ≤ a then s.partOfCore core else s.partOfBand (a / Config.bandBytes)) with
  | some e => e.2.keyId
  | none => 0

/-- A data cache takes the rest of the line of a word of which it holds a copy, in the form of that copy; never poison. -/
def State.spread (s : State) (core w : Nat) : State :=
  let rest := ((List.range 32).map (w / 32 * 32 + ·)).filter fun x =>
    !s.keeps core x && (tfind s.copies (4096 * x + core)).isNone && !s.wordMarked x
  if s.keeps core w then s.obtain core (rest.filter fun x => (tfind s.owned x).isNone)
  else match tfind s.copies (4096 * w + core) with
    | some _ => (rest.foldl (fun (s : State) x => if (tfind s.owned x).isSome then s else (s.grant (s.keyAt core (4 * x)) 64 core [x] 0).1) s)
    | none => s

/-! ## What an address reaches -/

/-- What a physical address reaches (R14 to R16, R92, R375, R386). -/
inductive Target where
  /-- DRAM of a partition: the partition, its own address, the package address. -/
  | dram (p : Partition) (pa a : Nat)
  /-- DRAM of a band in no partition (R15). -/
  | bare (a : Nat)
  | pad (k : Nat)
  /-- Host memory, at its package address: the port, whether the port is trained as CXL 3.1, and the number of the key under
  which the access encrypts (R390), 0 for none. -/
  | host (a port : Nat) (cxl : Bool) (key : Nat)
  /-- A host port that is down (R16), or a peer window with no port up (R376): the access waits. -/
  | down (w : Wait)
  | vfPage (v off : Nat)
  | control (part off : Nat)
  /-- A peer window: device number and offset in the window. -/
  | peer (dev port off : Nat)
  /-- A lattice page (R123), whatever its physical address reaches: the partition, the physical address, the address that
  numbers the cell, and the type code. -/
  | cells (p : Partition) (pa a lt : Nat)
  /-- A stack's replica of a lattice page (R125): the partition, the physical address, the address that numbers the cell. -/
  | rep (p : Partition) (pa a stack : Nat)
  | nothing

/-- The protocol of a host port (R396). -/
def State.proto (s : State) (port : Nat) : Nat := (tfind s.hostPorts port).getD 0
def State.jalefPort (s : State) (k : Nat) : Jalef := (tfind s.jalef k).getD Jalef.init
/-- Whether the port is up that a wait is for (R16), or one of the ports (R376). -/
def State.linkUp (s : State) (w : Wait) : Bool :=
  match w with
  | .link port _ => if port = 2 then s.proto 0 != 0 || s.proto 1 != 0 else s.proto port != 0
  | .peerLink mask _ => (List.range 16).any fun k => mask.testBit k && (s.jalefPort k).up
  | _ => true
def Partition.hostWindow (p : Partition) (k : Nat) : Window := (tfind p.hostWindows k).getD Window.init
def Partition.peerWindow (p : Partition) (k : Nat) : Window := (tfind p.peerWindows k).getD Window.init
def Partition.export (p : Partition) (k : Nat) : Window := (tfind p.exports k).getD Window.init

/-- The lowest valid window of 16 that holds an offset, in units of its size field, with its number. -/
def windowAt (f : Nat → Window) (unit x : Nat) : Option (Nat × Window) :=
  ((List.range 16).map fun k => (k, f k)).find? fun w =>
    w.2.ctl.getLsbD 31 && decide (w.2.base.toNat ≤ x) && decide (x < w.2.base.toNat + unit * w.2.size.toNat)

/-- Host memory through a port. -/
def State.hostTarget (s : State) (key a port : Nat) (window : Option (Nat × Nat)) : Target :=
  if s.proto port = 0 then .down (.link port window) else .host a port (s.proto port == 2) key

/-- The port of a flow (R376): among the ports of a window that are UP, the one at index core mod their number. -/
def State.flowPort (s : State) (core mask : Nat) : Option Nat :=
  let up := (List.range 16).filter fun k => mask.testBit k && (s.jalefPort k).up
  up[core % max up.length 1]?

/-- What an address of a partition's physical space reaches for a core (R14); nothing of its DRAM after key erasure
(R395). -/
def State.reach (s : State) (p : Partition) (core pa : Nat) : Target :=
  if pa < dramBytes s p && p.key then
    match s.mapped p pa with
    | some k => .pad k
    | none => .dram p pa (p.toPackage pa)
  else if pa < Config.hostBase then .nothing
  else if pa < Config.peerBase then
    match windowAt p.hostWindow 2097152 (pa - Config.hostBase) with
    | some w => s.hostTarget p.keyId pa (bitNat (w.2.ctl.getLsbD 0)) (some (p.corner, w.1))
    | none => .nothing
  else if pa < Config.vfBase then
    match windowAt p.peerWindow 1073741824 pa with
    | some (k, w) =>
      match s.flowPort core (bits w.ctl.toNat 0 16) with
      | some port => .peer (bits w.ctl.toNat 16 8) port (pa - w.base.toNat)
      | none => .down (.peerLink (bits w.ctl.toNat 0 16) (p.corner, k))
    | none => .nothing
  else
    let v := (pa - Config.vfBase) / 4096
    if v < 64 && p.vfbind.getLsbD v then .vfPage v (pa % 4096) else .nothing

/-- What an address of the package physical space reaches for a supervisor core (R15). The spec does not say what becomes of
an access to host memory while both ports are down: it waits for either, as R16 has an access wait (log 76). -/
def State.reachPackage (s : State) (core a : Nat) : Target :=
  if a < Config.bandBytes * Config.bandCount then
    match s.partOfBand (a / Config.bandBytes) with
    | some (_, p) => s.reach p core (p.fromPackage a)
    | none => .bare a
  else if 0xFF00000000 ≤ a && a < 0xFF00000000 + 0x10000 * 64 then
    let n := (a - 0xFF00000000) / 0x10000
    if (s.part n).isSome then .control n (a % 0x10000) else .nothing
  else if 0xFF80000000 ≤ a && a < 0xFF80000000 + 4096 * 64 then .vfPage ((a - 0xFF80000000) / 4096) (a % 4096)
  else if Config.hostBase ≤ a && a < Config.peerBase then
    if s.proto 0 = 0 && s.proto 1 = 0 then .down (.link 2 none) else s.hostTarget 0 a (if s.proto 0 = 0 then 1 else 0) none
  else .nothing

/-- The target some bytes further on. -/
def Target.shift (t : Target) (o : Nat) : Target :=
  match t with
  | .dram p pa a => .dram p (pa + o) (a + o)
  | .bare a => .bare (a + o)
  | .pad k => .pad (k + o)
  | .host a port cxl key => .host (a + o) port cxl key
  | .peer dev port off => .peer dev port (off + o)
  | .rep p pa a st => .rep p (pa + o) (a + o) st
  | t => t

/-- The line of a target under which it is marked lost (R122): of memory, or of a scratchpad that acts as home slice. -/
def Target.line (t : Target) : Option Nat :=
  match t with
  | .dram _ _ a => some (a / 128)
  | .bare a => some (a / 128)
  | .host a _ _ _ => some (a / 128)
  | .pad k => some ((2 ^ 60 + k) / 128)
  | _ => none

/-- A target's line is lost no more, or is lost (R122). -/
def State.findLine (s : State) (t : Target) : State :=
  match t.line with | some l => { s with lost := tdel s.lost l } | none => s
def State.loseLine (s : State) (t : Target) : State :=
  match t.line with | some l => { s with lost := tput s.lost l () } | none => s

/-- The words of a target that carry clocks (R100): those of memory and of a scratchpad that acts as home slice. -/
def Target.words (t : Target) (n : Nat) : List Nat :=
  match t with
  | .dram _ _ a => wordsOf a n
  | .bare a => wordsOf a n
  | .host a _ _ _ => wordsOf a n
  | .pad k => padWords k n
  | .rep _ _ a st => repWords a st n
  | _ => []

/-- The number of the key under which an access reads a target (R390). -/
def Target.key (t : Target) : Nat :=
  match t with
  | .dram p _ _ => p.keyId
  | .host _ _ _ key => key
  | _ => 0

/-- The bytes that memory holds at a target. -/
def State.bytesAt (s : State) (t : Target) (n : Nat) : List Byte :=
  match t with
  | .dram _ _ a => s.plainBytes t.key a n
  | .bare a => s.plainBytes 0 a n
  | .host a _ _ _ => s.plainBytes t.key a n
  | .pad k => memBytes s.spad k n
  | .rep _ _ a st => s.repBytes a st n
  | _ => []

/-- Whether a target's bytes hold poison (R89): those of the word that its home slice holds, or of an owned word those that its
owner holds. -/
def State.poisonAt (s : State) (t : Target) (n : Nat) : Bool :=
  match t with
  | .dram _ _ a => marked s.poison a n
  | .bare a => marked s.poison a n
  | .host a _ _ _ => marked s.poison a n
  | .pad k => marked s.spadPoison k n
  | .rep _ _ a st => s.repMarked a st n
  | _ => false

/-- Whether bytes hold poison in words of which a core has no OW copy: such a copy is none of poison. -/
def State.poisonPast (s : State) (core : Nat) (t : Target) (n : Nat) : Bool :=
  let past := fun (m : Tab Unit) (a base : Nat) =>
    m.any fun e => decide (a ≤ e.1) && decide (e.1 < a + n) && (tfind s.shared (4096 * ((base + e.1) / 4) + core)).isNone
  match t with
  | .dram _ _ a => past s.poison a 0
  | .bare a => past s.poison a 0
  | .host a _ _ _ => past s.poison a 0
  | .pad k => past s.spadPoison k (2 ^ 60)
  | .rep _ _ a st => s.repMarked a st n && !(repWords a st n).all fun w => (tfind s.shared (4096 * w + core)).isSome
  | _ => false

/-- Mark scratchpad bytes as poison (R262, R268), and the bytes of a target. -/
def State.poisonPad (s : State) (k n : Nat) : State :=
  { s with spadPoison := (List.range n).foldl (fun t i => tput t (k + i) ()) s.spadPoison }
def State.poisonTarget (s : State) (t : Target) (n : Nat) : State :=
  let put := fun (a : Nat) => { s with poison := (List.range n).foldl (fun m i => tput m (a + i) ()) s.poison }
  match t with
  | .dram _ _ a => put a
  | .bare a => put a
  | .host a _ _ _ => put a
  | .pad k => s.poisonPad k n
  | _ => s

/-- Whether an address is homed in a fenced stack, or its partition has been fenced: its lines behave as lost
(R319, R395). A mapped scratchpad is the home of what it serves (R92). -/
def State.deadHome (s : State) (t : Target) : Bool :=
  match t with
  | .dram p pa _ => p.stopped || (s.stack (p.home (pa / 2048) / 8)).fenced
  | .pad k => (s.partOfBand (k / 2097152 / 8)).any fun e => e.2.stopped
  | _ => false

/-- The home band of a replica (R125): among the stack's bands of the partition. -/
def Partition.repHome (p : Partition) (stack tile : Nat) : Nat :=
  homeAmong (p.bandList.filter fun b => b / 8 == stack) tile

/-- Whether the tiles of a physical address can be resident in a spiral: DRAM not mapped to scratchpad (R74, R92). -/
def State.cacheable (s : State) (p : Partition) (pa : Nat) : Bool := decide (pa < dramBytes s p) && (s.mapped p pa).isNone

/-- One touch of a replica's tile. -/
def State.touchRep (s : State) (b : Bool) (p : Partition) (stack pa : Nat) : State :=
  s.touchWhen (b && s.cacheable p pa) p (p.repHome stack (pa / 2048)) (pa / 2048) 0

/-- Whether a replica's line is lost (R128): struck, or homed in a fenced stack. -/
def State.repDead (s : State) (p : Partition) (a stack : Nat) : Bool :=
  (tfind s.repLost (8 * (a / 128) + stack)).isSome || (s.stack stack).fenced || p.stopped

/-- Whether a target lies on a lost line (R122, R128). -/
def State.lostTarget (s : State) (t : Target) : Bool :=
  (match t.line with | some l => (tfind s.lost l).isSome | none => false) ||
    (match t with | .rep p _ a st => s.repDead p a st | _ => s.deadHome t)

/-- One touch of the tile of a target, when it has one and the choice asks for it (R78). -/
def State.touchTarget (s : State) (b : Bool) (t : Target) (handle : Nat) : State :=
  match t with
  | .dram p pa _ => s.touchWhen b p (p.home (pa / 2048)) (pa / 2048) handle
  | .rep p pa _ st => s.touchRep b p st pa
  | _ => s

/-- The home slice of a target, by band: of its tile (R75), of its scratchpad (R92), of a replica (R125); 64 for host memory. -/
def Target.slice (t : Target) : Nat :=
  match t with
  | .dram p pa _ => p.home (pa / 2048)
  | .rep p pa _ st => p.repHome st (pa / 2048)
  | .bare a => a / Config.bandBytes
  | .pad k => k / 2097152 / 8
  | _ => 64

/-- Whole cells put into a replica (R125), from an address on. -/
def State.putCells (s : State) (a stack : Nat) (bs : List Byte) : State :=
  { s with reps := (List.range (bs.length / 8)).foldl (fun t i =>
      wput t (repKey (a + 8 * i) stack) (BitVec.ofNat 64 (bytesNat ((bs.drop (8 * i)).take 8)))) s.reps }

/-- Bytes put where a target's home slice keeps them (R80): in its tile, which becomes dirty, or past it in DRAM when it is
absent. -/
def State.putHome (s : State) (t : Target) (bs : List Byte) : State :=
  match t with
  | .dram p pa a =>
    let band := p.home (pa / 2048)
    if s.resident band (pa / 2048) then (s.putBytes true a bs).onSpiral band (Spiral.soil · (pa / 2048))
    else s.putBytes false a bs
  | .bare a => s.putBytes false a bs
  | .host a _ _ key => s.putSealed key a bs
  | .pad k => s.putPad k bs
  | .rep p pa a st => (s.putCells a st bs).onSpiral (p.repHome st (pa / 2048)) (Spiral.soil · (pa / 2048))
  | _ => s

/-- A write performed at the home slice (R96, R98, R100): owners are recalled, the clocks advance, OW copies end but for
those of the core `keep`, and the bytes are put. -/
def State.writeKeep (s : State) (keep : Nat) (v : Dword) (t : Target) (bs : List Byte) : State × Dword :=
  let ws := t.words bs.length
  let r := (s.recallAll ws).writeTime ws v
  match t with
  | .dram _ _ _ => ((((r.1.tick t.slice r.2).probe keep ws).putHome t bs), r.2)
  | .bare _ => ((((r.1.tick t.slice r.2).probe keep ws).putHome t bs), r.2)
  | .host _ _ _ _ => ((((r.1.tick t.slice r.2).probe keep ws).putHome t bs), r.2)
  | .pad _ => ((((r.1.tick t.slice r.2).probe keep ws).putHome t bs), r.2)
  | .rep _ _ _ _ => ((((r.1.tick t.slice r.2).probe keep ws).putHome t bs), r.2)
  | _ => (s, v)
def State.writeHome (s : State) (v : Dword) (t : Target) (bs : List Byte) : State × Dword := s.writeKeep 4095 v t bs

/-- A read performed at the home slice (R98, R101): the state and the reader's view time. -/
def State.readHome (s : State) (v : Dword) (t : Target) (n : Nat) : State × Dword :=
  (s.recallAll (t.words n), s.readTime (t.words n) v)

/-- The request type that an access gets at a target (R15, R16, R92, R225). -/
def Target.typeOf (t : Target) (rq : Nat) : Nat :=
  match t with
  | .dram _ _ _ => rq
  | .pad _ => rq
  | .host _ _ true _ => rq
  | .rep _ _ _ _ => rq
  | _ => 3

/-- The place of an access's first byte in its first word. -/
def Target.start (t : Target) : Nat :=
  match t with
  | .dram _ _ a => a % 4
  | .host a _ _ _ => a % 4
  | .bare a => a % 4
  | .pad k => k % 4
  | .rep _ _ a _ => a % 4
  | _ => 0

/-- Whether a leased copy serves a load that one may serve: timing decides (R101); never an acquire (R112). -/
def State.leaseServes (s : State) (core : Nat) (acq : Bool) (after : Nat) (v : Dword) (ws : List Nat) : Bool :=
  !acq && s.leased core v after ws && Config.freeBit s.draws

/-- Whether a load of a thread finds poison (R89): where no valid copy in its core's data cache serves it. -/
def State.loadPoison (s : State) (core rq : Nat) (acq : Bool) (after : Nat) (v : Dword) (t : Target) (n : Nat) : Bool :=
  if t.typeOf rq = 3 then s.poisonAt t n
  else if decide (2 ≤ t.typeOf rq) && s.leaseServes core acq after v (t.words n) then false
  else s.poisonPast core t n

/-- A load of a thread (R96, R98, R101): the state, the thread's view time, the bytes, and the write time of what it read.
`acq` marks an acquire of class c, which no lease serves (R112) and which takes that time whoever serves it (R102); `after`
is the draw number of the thread's last fence. -/
def State.load (s : State) (core rq : Nat) (acq : Bool) (after : Nat) (v : Dword) (t : Target) (n : Nat) :
    State × Dword × List Byte × Dword :=
  let ws := t.words n
  let home := s.readTime ws v
  let made := s.readTime ws 0
  let rq := t.typeOf rq
  if rq = 3 then
    let r := s.readHome v t n
    (r.1.touchTarget true t 0, r.2, s.bytesAt t n, made)
  else if ws.all (s.keeps core) then (s, if acq then home else v, s.bytesAt t n, made)
  else if rq ≤ 1 then (((s.recall core ws).touchTarget true t 0).obtain core ws, home, s.bytesAt t n, made)
  else
    let copies := ws.map fun w => (tfind s.copies (4096 * w + core)).getD { value := 0, lease := 0, stamp := 0, born := 0 }
    let served := s.leaseServes core acq after v ws
    let s0 := s.recallAll ws
    let r := if rq = 2 then (s0.touchTarget true t 0).grant t.key t.slice core ws v else (s0, home)
    if served then
      (s.drawn, v, ((copies.flatMap fun c => natBytes 4 c.value.toNat).drop t.start).take n,
        copies.foldl (fun x c => laterOf x c.stamp) 0)
    else (r.1.drawn, r.2, s.bytesAt t n, made)

/-- A store of a thread (R96, R98, R100). A word of which the core held an OW copy is poison no more, for the core's own copy is
what it then owns. -/
def State.store (s : State) (core id rq : Nat) (v : Dword) (t : Target) (bs : List Byte) : State × Dword :=
  let ws := t.words bs.length
  if t.typeOf rq = 0 then
    let hit := ws.all (s.owns core)
    let r := ((s.recall core ws).touchTarget (!hit) t 0).writeTime ws v
    let s2 := ((r.1.tick t.slice r.2).cleanse (ws.filter fun w => (tfind s.shared (4096 * w + core)).isSome)).own core id ws
    (match t with
      | .dram p pa a =>
        let s3 := s2.putBytes true a bs
        if hit then s3 else s3.onSpiral (p.home (pa / 2048)) (Spiral.soil · (pa / 2048))
      | .host a _ _ key => s2.putSealed key a bs
      | .pad k => s2.putPad k bs
      | _ => s2, r.2)
  else
    let r := (s.touchTarget (decide (rq ≠ 4)) t 0).writeKeep (if t.typeOf rq = 3 then 4095 else core) v t bs
    (if t.typeOf rq = 3 then r.1 else r.1.refresh t.key core ws, r.2)

end Sys2Proof.Machine
end

