-- ==== Sys2Proof/Machine/Pool.lean ====
section
/-! DEFINITION. Event counters (R297) and the pools of the VF pages: quotas, claims and holds (R358 to R362). -/
namespace Sys2Proof.Machine

/-! ## Event counters -/

/-- Add to an event counter, saturating (R297), as a release with a mask at a timestamp. -/
def State.signal (s : State) (part n : Nat) (inc : Word) (mask : BitVec 5) (stamp : Dword) : State :=
  s.onPart part fun p =>
    let x := min 0xFFFFFFFF ((wget p.events n).toNat + inc.toNat)
    { p with events := wput p.events n (BitVec.ofNat 32 x),
             eventRel := (List.range 5).foldl (fun t o =>
               if mask.getLsbD o then wput t (8 * n + o) (laterOf (wget t (8 * n + o)) stamp) else t) p.eventRel }

/-- What an acquire of an event counter with a mask finds (R297). -/
def Partition.eventStamp (p : Partition) (n : Nat) (mask : BitVec 5) : Dword :=
  (List.range 5).foldl (fun v o => if mask.getLsbD o then laterOf v (wget p.eventRel (8 * n + o)) else v) 0

/-- A notice to a VF through its counter EVTN (R361, R365): an increment of 1 as a release with a mask. -/
def State.notify (s : State) (part vf : Nat) (mask : BitVec 5) : State :=
  let n := (s.vf vf).evtn.toNat
  if n < 4096 then s.signal part n 1 mask 0 else s

/-! ## Pools -/

/-- The VFs bound to a partition (R397), ascending. -/
def Partition.vfList (p : Partition) : List Nat := (List.range 64).filter fun v => p.vfbind.getLsbD v

/-- Pages held for a VF in a tier (R361). -/
def State.holdOf (s : State) (t v : Nat) : Nat :=
  ((s.claims.filter fun c => c.tier == t && c.vf == v).map Claim.held).sum

/-- Pins owned by no VF among a partition's spirals (R362). -/
def State.freePins (s : State) (p : Partition) : Nat :=
  (p.bandList.map fun b => ((Spiral.of s b).pinned.filter fun e => e.2.owner.isNone).length).sum

/-- FREE of a tier (R360); pins owned by no VF reduce it in tier 0 (R362). -/
def State.freeOf (s : State) (p : Partition) (t : Nat) : Int :=
  ((wget p.cap t).toNat : Int) - ((p.vfList.map fun v => ((s.vf v).tier t).used.toNat).sum : Nat) -
    ((p.vfList.map (s.holdOf t)).sum : Nat) - ((if t = 0 then s.freePins p else 0) : Nat)

/-- Pages that a VF borrows and does not owe yet (R361). -/
def Quota.claimable (q : Quota) : Nat := q.used.toNat - q.guar.toNat - q.recl.toNat

/-- The VF with the most claimable pages, ties to the lower number (R361). -/
def State.richest (s : State) (vs : List Nat) (t : Nat) : Option Nat :=
  vs.foldl (fun best v =>
    let c := ((s.vf v).tier t).claimable
    if c = 0 then best
    else match best with
      | some b => if ((s.vf b).tier t).claimable < c then some v else best
      | none => some v) none

/-- Demand pages from borrowers until the claim is covered or nobody borrows (R361): the state and the pages asked. One
round asks one VF, so at most 64 rounds ask all. -/
def State.demand (part : Nat) (vs : List Nat) (t : Nat) : Nat → State → Nat → State × Nat
  | 0, s, _ => (s, 0)
  | k + 1, s, need =>
    if need = 0 then (s, 0)
    else match s.richest vs t with
      | none => (s, 0)
      | some v =>
        let q := (s.vf v).tier t
        let share := min need q.claimable
        let s1 := s.onVf v fun x =>
          { x.setTier t { q with recl := q.recl + BitVec.ofNat 32 share } with reclaimIrq := x.reclaimIrq + 1 }
        let r := State.demand part vs t k (s1.notify part v 1) (need - share)
        (r.1, share + r.2)

/-- A claim of `n` pages by a VF (R361). -/
def State.claim (s : State) (part : Nat) (p : Partition) (v t n : Nat) : State :=
  let r := State.demand part p.vfList t 64 s n
  if r.2 = 0 then r.1 else { r.1 with claims := r.1.claims ++ [{ tier := t, vf := v, owed := r.2, held := 0 }] }

/-- Release what is held for a VF in a tier (R361); claims that owe nothing any more end. -/
def State.releaseHolds (s : State) (t v : Nat) : State :=
  { s with claims := (s.claims.map fun c => if c.tier = t ∧ c.vf = v then { c with held := 0 } else c).filter fun c =>
      decide (0 < c.owed + c.held) }

/-- Pages that an indebted VF returns are held for the claimants, the oldest first (R361). -/
def fillClaims (vs : List Nat) (t : Nat) : List Claim → Nat → List Claim
  | [], _ => []
  | c :: r, n =>
    if c.tier = t ∧ c.vf ∈ vs then
      let k := min n c.owed
      { c with owed := c.owed - k, held := c.held + k } :: fillClaims vs t r (n - k)
    else c :: fillClaims vs t r n

/-- A VF gives back `n` pages or pins of a tier: USED falls, and its debt is paid first (R361, R362). -/
def State.giveUp (s : State) (p : Partition) (v t n : Nat) : State :=
  let q := (s.vf v).tier t
  let paid := min n q.recl.toNat
  let s1 := s.onVf v fun x => x.setTier t
    { q with used := q.used - BitVec.ofNat 32 n, recl := q.recl - BitVec.ofNat 32 paid }
  { s1 with claims := fillClaims p.vfList t s1.claims paid }

/-- F of R360. -/
def Quota.slack (q : Quota) : Int := (q.guar.toNat : Int) + q.blim.toNat - q.used.toNat

/-- A pool operation (R360): op 0 ADMIT, 1 GROW, 2 RET; the state and the status. -/
def State.pool (s : State) (part : Nat) (p : Partition) (v t op n : Nat) : State × Nat :=
  let q := (s.vf v).tier t
  let free := s.freeOf p t
  let hold := s.holdOf t v
  let take := fun (s : State) => (s.onVf v fun x => x.setTier t { q with used := q.used + BitVec.ofNat 32 n }).releaseHolds t v
  if q.recl ≠ 0 ∧ op ≠ 2 then (s, 3)
  else if op = 2 then
    if q.used.toNat < n then (s, 2) else ((s.giveUp p v t n).releaseHolds t v, 0)
  else if q.slack < n then (s, 2)
  else if op = 0 ∧ q.slack - n < q.rsv.toNat then (s, 1)
  else if q.used.toNat + n ≤ q.guar.toNat then
    if (n : Int) ≤ free + hold then (take s, 0) else (s.claim part p v t (n - free - hold).toNat, 4)
  else if (n : Int) ≤ free then (take s, 0)
  else (s, 2)

/-- The pair that a pool operation delivers (R360): the status below, F after the operation above. -/
def State.poolPair (s : State) (v t st : Nat) : Dword :=
  BitVec.ofNat 64 (st + 2 ^ 32 * wrapInt 32 ((s.vf v).tier t).slack)

/-- A pin ends: its owner's count falls (R362). -/
def State.unpinned (s : State) (p : Partition) (owner : Option Nat) : State :=
  match owner with
  | some v => if ((s.vf v).tier 0).used = 0 then s else s.giveUp p v 0 1
  | none => s

/-- The summary RECL (R359): the lowest tier in which a VF owes, and what it owes there. -/
def VfPage.summary (x : VfPage) : Word :=
  match (List.range 3).find? fun t => (x.tier t).recl != 0 with
  | some t => BitVec.ofNat 32 (t * 2 ^ 30 + (x.tier t).recl.toNat % 2 ^ 30)
  | none => 0

end Sys2Proof.Machine
end

