-- ==== Sys2Proof/Machine/Registers.lean ====
section
/-! DEFINITION. Device registers: the control page of a partition (R312, R337, R386) and the VF pages (R359), read and
written by Burdy, by the host through a VF, and by supervisor cores. Registers are handled word by word; a field of 8
bytes is two words. -/
namespace Sys2Proof.Machine

/-- Who accesses a register: Burdy, or the host through a VF (R386). -/
abbrev Party := Option Nat

/-- The word of a field written as a flag and a number: bit `hi`, and bits from 0. -/
def flagWord (hi : Nat) (b : Bool) (x : Nat) : Nat := bitNat b * 2 ^ hi + x

/-- FENCED (R318, R319): the fenced stacks of the package. -/
def State.fencedMask (s : State) : Word := maskOf fun k => decide (k < 8) && (s.stack k).fenced
/-- MASTER (R318): the lowest-numbered unfenced stack of the partition; 0 where every stack is fenced and none is master (log 116,
DESIGN CHOICE). -/
def State.master (s : State) (p : Partition) : Nat := ((p.stackList.filter fun k => !(s.stack k).fenced).head?).getD 0
/-- PRECT (R371). -/
def Partition.rect (p : Partition) : Word := BitVec.ofNat 32 (p.top * 2 ^ 24 + p.bot * 2 ^ 16 + p.left * 2 ^ 8 + p.right)
/-- HPORT (R396). -/
def State.hport (s : State) : Word := BitVec.ofNat 32 (s.proto 0 + 256 * s.proto 1)
/-- JSTAT (R374). -/
def Jalef.word (j : Jalef) : Word := BitVec.ofNat 32 (flagWord 31 j.up (j.lanes * 2 ^ 28 + j.peer))
/-- QCTL (R312). -/
def Queue.ctl (q : Queue) : Word :=
  BitVec.ofNat 32 (bitNat q.en * 2 ^ 31 + bitNat q.src * 2 ^ 30 + bitNat q.err * 2 ^ 29 + q.pri * 2 ^ 16 + q.logn)
/-- FLCTL (R349). -/
def Partition.flctl (p : Partition) : Word := BitVec.ofNat 32 (bitNat p.flen * 2 ^ 31 + bitNat p.flovf * 2 ^ 30 + p.fllogn)
/-- STCTL (R359). -/
def VfPage.stctl (x : VfPage) : Word := BitVec.ofNat 32 (flagWord 31 x.sten x.stlogn)

/-- A half of a 64-bit field. -/
def halfOf (d : Dword) (hi : Bool) : Word := if hi then highWord d else lowWord d
/-- A 64-bit field with one half replaced. -/
def withHalf (d : Dword) (hi : Bool) (x : Word) : Dword := if hi then pairOf (lowWord d) x else pairOf x (highWord d)

/-- Word `k` of a window record: base, control, size. -/
def Window.word (w : Window) (k : Nat) : Word :=
  if k = 0 then lowWord w.base else if k = 1 then highWord w.base else if k = 2 then w.ctl else w.size
/-- A word of it written. The spec does not say what a base that is no multiple of the window's unit does (R16, R375): it is stored as
written, and addresses are matched from it (log 110, DESIGN CHOICE). -/
def Window.setWord (w : Window) (k : Nat) (x : Word) : Window :=
  if k = 0 then { w with base := withHalf w.base false x } else if k = 1 then { w with base := withHalf w.base true x }
  else if k = 2 then { w with ctl := x } else { w with size := x }

/-- The value of a control-page word (R312, R337, R386). `host` is a host access through a VF, which sees only what the
host column gives it. -/
def State.controlRead (s : State) (p : Partition) (who : Party) (off : Nat) : Word :=
  let burdy := fun (x : Word) => if who.isNone then x else 0
  let q := p.queue ((off - 0x1000) / 32)
  let mine := match who with | none => true | some v => q.owned && q.owner == v
  if off = 0x0 then p.budget
  else if off = 0x4 then BitVec.ofNat 32 (s.master p)
  else if off = 0x8 then s.fencedMask
  else if off = 0xC then p.rect
  else if off = 0x10 ∨ off = 0x14 then burdy (halfOf p.pboot (off == 0x14))
  else if off = 0x18 then s.hport
  else if off = 0x20 then BitVec.ofNat 32 p.secpol.toNat
  else if off = 0x30 ∨ off = 0x34 then halfOf p.vfbind (off == 0x34)
  else if off = 0x38 ∨ off = 0x3C then halfOf p.vfport (off == 0x3C)
  else if off = 0x100 then burdy p.pcmd
  else if off = 0x104 then burdy p.pstat
  else if off = 0x108 then burdy p.phlim
  else if off = 0x110 then p.wdog
  else if off = 0x118 ∨ off = 0x11C then burdy (halfOf p.troot (off == 0x11C))
  else if off = 0x120 ∨ off = 0x124 then burdy (halfOf p.tinva (off == 0x124))
  else if off = 0x128 then burdy p.tinvc
  else if off = 0x140 ∨ off = 0x144 then halfOf p.flbase (off == 0x144)
  else if off = 0x148 then p.flctl
  else if off = 0x14C then p.fltail
  else if off = 0x150 then p.flhead
  else if 0x200 ≤ off ∧ off < 0x20C then wget p.cap ((off - 0x200) / 4)
  else if 0x400 ≤ off ∧ off < 0x800 then
    let g := p.group ((off - 0x400) / 16)
    let k := off % 16 / 4
    if k = 0 then g.gctl else if k = 1 then g.gloc else if k = 2 then g.gport else g.gseq
  else if 0x800 ≤ off ∧ off < 0x900 then (p.peerWindow ((off - 0x800) / 16)).word (off % 16 / 4)
  else if 0x900 ≤ off ∧ off < 0x940 then (s.jalefPort ((off - 0x900) / 4)).word
  else if 0xA00 ≤ off ∧ off < 0xB00 then (p.export ((off - 0xA00) / 16)).word (off % 16 / 4)
  else if 0xB00 ≤ off ∧ off < 0xC00 then (p.hostWindow ((off - 0xB00) / 16)).word (off % 16 / 4)
  else if 0x1000 ≤ off ∧ off < 0x1800 then
    if !mine then 0
    else
      let k := off % 32 / 4
      if k = 0 then lowWord q.base else if k = 1 then highWord q.base else if k = 2 then q.ctl
      else if k = 3 then q.tail else if k = 4 then q.head else if k = 5 then q.disp else 0
  else if 0x1800 ≤ off ∧ off < 0x1900 then
    let q := p.queue ((off - 0x1800) / 4)
    BitVec.ofNat 32 (flagWord 31 q.owned q.owner)
  else if 0x4000 ≤ off ∧ off < 0x8000 then wget p.events ((off - 0x4000) / 4)
  else 0

/-- A write of a queue's word is ignored, and sets ERR (R312). -/
def Queue.refuse (q : Queue) : Queue := { q with err := true }

/-- QCTL (R312): a write that raises EN clears the indices; LOGN above 16, or a change of SRC or LOGN while EN is 1, is
ignored with ERR. ERR is cleared by a 1. -/
def Queue.writeCtl (q : Queue) (x : Word) : Queue :=
  let logn := bits x.toNat 0 5
  let src := x.getLsbD 30
  if 16 < logn ∨ (q.en ∧ (src ≠ q.src ∨ logn ≠ q.logn)) then q.refuse
  else
    let q1 := { q with en := x.getLsbD 31, src := src, pri := bits x.toNat 16 2, logn := logn,
                       err := q.err && !x.getLsbD 29 }
    if x.getLsbD 31 && !q.en then { q1 with tail := 0, head := 0, disp := 0 } else q1

/-- QBASE (R312): a change while EN is 1 is ignored with ERR. A value that is no multiple of 64 is stored as it is written
(log 107). -/
def Queue.writeBase (q : Queue) (b : Dword) : Queue := if q.en ∧ b ≠ q.base then q.refuse else { q with base := b }

/-- QTAIL (R313): accepted on a host-fed queue when QTAIL ≤ t ≤ QHEAD + 2^LOGN, in distances from QHEAD. -/
def Queue.writeTail (q : Queue) (t : Word) : Queue :=
  if q.src then q.refuse
  else if (q.tail - q.head).toNat ≤ (t - q.head).toNat ∧ (t - q.head).toNat ≤ 2 ^ q.logn then { q with tail := t }
  else q.refuse

/-- QOWN (R386): ignored, with ERR, while EN is 1 or for a VF not bound to the partition. -/
def Queue.writeOwn (q : Queue) (p : Partition) (x : Word) : Queue :=
  let v := bits x.toNat 0 6
  if q.en ∨ (x.getLsbD 31 ∧ ¬ p.vfbind.getLsbD v) then q.refuse else { q with owned := x.getLsbD 31, owner := v }

/-- Whether any partition has a queue that a VF owns (R385, R397). -/
def State.ownsQueue (s : State) (v : Nat) : Bool := s.parts.any fun e => e.2.queues.any fun q => q.2.owned && q.2.owner == v

/-- VFBIND (R397): ignored whole when it would bind a VF bound elsewhere or change a VF that owns a queue; a VF that
becomes bound gets the reset values of its page, its GUAR lowered to 0, so that its holds and its claims end (R361). -/
def State.writeVfbind (s : State) (k : Nat) (p : Partition) (x : Dword) : State :=
  let changed := x ^^^ p.vfbind
  if (List.range 64).any fun v => (changed.getLsbD v && s.ownsQueue v) ||
      (x.getLsbD v && s.parts.any fun e => e.1 != k && e.2.vfbind.getLsbD v) then s
  else
    let s1 := s.setPart k { p with vfbind := x }
    let fresh := fun (v : Nat) => changed.getLsbD v && x.getLsbD v
    { (List.range 64).foldl (fun s v => if fresh v then s.setVf v VfPage.init else s) s1 with
      claims := s.claims.filter fun c => !fresh c.vf }

/-- VFPORT (R397): ignored whole when it would set the bit of a VF bound elsewhere or change the bit of a VF that owns a
queue. -/
def State.writeVfport (s : State) (k : Nat) (p : Partition) (x : Dword) : State :=
  if (List.range 64).any fun v => ((x ^^^ p.vfport).getLsbD v && s.ownsQueue v) ||
      ((x &&& ~~~p.vfport).getLsbD v && s.parts.any fun e => e.1 != k && e.2.vfbind.getLsbD v) then s
  else s.setPart k { p with vfport := x }

/-- SECPOL (R394): a class written 3 keeps its policy. -/
def secpolWrite (old x : Byte) : Byte :=
  (List.range 4).foldl (fun m n =>
    let v := bits x.toNat (2 * n) 2
    let v := if v = 3 then bits old.toNat (2 * n) 2 else v
    m + BitVec.ofNat 8 (v * 2 ^ (2 * n))) 0

/-- TINVC (R348): a 1 in GO begins an invalidation of the page that holds TINVA, or of every page, and a 0 ends none. -/
def Partition.writeTinvc (p : Partition) (x : Word) : Partition :=
  { p with tinvc := (x &&& 0x40000000) ||| ((x ||| p.tinvc) &&& 0x80000000),
           tinvDue := if x.getLsbD 31 then p.tinvDue ++ [if x.getLsbD 30 then none else some p.tinva] else p.tinvDue }

/-- FLCTL (R349). OVF is cleared by a 1. -/
def Partition.writeFlctl (p : Partition) (x : Word) : Partition :=
  let logn := bits x.toNat 0 5
  if 16 < logn ∨ (p.flen ∧ logn ≠ p.fllogn) then p
  else { p with flen := x.getLsbD 31, fllogn := logn, flovf := p.flovf && !x.getLsbD 30 }

/-- The tasks of a partition that have joined an instance of a group are cancelled (R377, R381). -/
def State.cancelGroup (s : State) (p : Partition) (g : Nat) : State :=
  { s with cores := s.cores.map fun e =>
      if p.holdsCore e.1 then
        (e.1, { e.2 with entries := e.2.entries.map fun n =>
          (n.1, { n.2 with task := n.2.task.map fun t =>
            match t.cmd with
            | .col _ _ _ w => if t.inst.isSome ∧ w.toNat % 64 = g then { t with cancelled := true } else t
            | _ => t }) })
      else e }

/-- A write of any word of a group record (R377). -/
def State.writeGroup (s : State) (k : Nat) (p : Partition) (g word : Nat) (x : Word) : State :=
  let r := p.group g
  let r := { r with gseq := 0, counts := [], insts := [] }
  let r := if word = 0 then { r with gctl := x &&& 0xC00000FF }
    else if word = 1 then { r with gloc := x &&& 0x00FF00FF }
    else if word = 2 then { r with gport := x &&& 0x0000FFFF } else r
  (s.setPart k (p.setGroup g r)).cancelGroup p g

/-- Whether a wait is of an access through a host window, or a peer window. -/
def Wait.through (w : Wait) (host : Bool) (window : Nat × Nat) : Bool :=
  match w with
  | .link _ x => host && x == some window
  | .peerLink _ x => !host && x == window
  | _ => false

/-- Whether an access to a window is outstanding (R16, R375): of a thread, of a save slot, of an engine command, or of the device
to a ring slot, a kernel header or STATUS. -/
def State.outstanding (s : State) (host : Bool) (window : Nat × Nat) : Bool :=
  (s.parts.any fun e => e.2.stuck.any fun x => x.2.through host window) ||
  (s.launches.any fun e => e.2.stuck.any fun w => w.through host window) ||
  (s.warps.any fun e => (e.2.threads.any fun t => match t.status with | .waiting w => w.through host window | _ => false) ||
    e.2.stuck.any fun w => w.through host window) ||
  s.cores.any fun e => e.2.entries.any fun n => n.2.task.any fun t => t.stalled.any fun w => w.through host window

/-- A write to a window record, ignored while an access to the window is outstanding (R16, R375). -/
def Window.written (w : Window) (busy : Bool) (k : Nat) (x mask : Word) : Window :=
  if busy then w else w.setWord k (if k = 2 then x &&& mask else x)

/-- QCTL of a queue is written (R312). Where EN rises, the launches that still run from before stand in the ring no more: what has
finished of them is forgotten, and the others run to their end (log 119, DESIGN CHOICE). -/
def State.writeQueueCtl (s : State) (k : Nat) (p : Partition) (n : Nat) (x : Word) : State :=
  let q := (p.queue n).writeCtl x
  let s1 := s.setPart k (p.setQueue n q)
  if q.en && !(p.queue n).en then
    { s1 with launches := s1.launches.filterMap fun e =>
        if e.2.part = k ∧ e.2.queue = some n then
          if e.2.finished then none else some (e.1, { e.2 with detached := true })
        else some e }
  else s1

/-- A write of a control-page word by Burdy, or by the host through a VF (R312, R337, R386). -/
def State.controlWrite (s : State) (k : Nat) (who : Party) (off : Nat) (x : Word) : State :=
  match s.part k with
  | none => s
  | some p =>
    let q := p.queue ((off - 0x1000) / 32)
    let mine := match who with | none => true | some v => q.owned && q.owner == v
    if 0x1000 ≤ off ∧ off < 0x1800 then
      if !mine then s
      else
        let n := (off - 0x1000) / 32
        let w := off % 32 / 4
        if w = 0 ∨ w = 1 then s.setPart k (p.setQueue n (q.writeBase (withHalf q.base (w == 1) x)))
        else if w = 2 then s.writeQueueCtl k p n x
        else if w = 3 then s.setPart k (p.setQueue n (q.writeTail x)) else s
    else if 0x4000 ≤ off ∧ off < 0x8000 then s.setPart k { p with events := wput p.events ((off - 0x4000) / 4) x }
    else if off = 0x150 then s.setPart k { p with flhead := x }
    else if who.isSome then s
    else if off = 0x0 then s.setPart k { p with budget := x }
    else if off = 0x10 ∨ off = 0x14 then
      s.setPart k { p with pboot := withHalf p.pboot (off == 0x14) (if off = 0x10 then x &&& 0xFFFFFFCF else x) }
    else if off = 0x20 then s.setPart k { p with secpol := secpolWrite p.secpol (BitVec.ofNat 8 x.toNat) }
    else if off = 0x30 ∨ off = 0x34 then s.writeVfbind k p (withHalf p.vfbind (off == 0x34) x)
    else if off = 0x38 ∨ off = 0x3C then s.writeVfport k p (withHalf p.vfport (off == 0x3C) x)
    else if off = 0x100 then
      s.setPart k { p with pcmd := x &&& 0xC00007FF,
                           pcmdQueue := if x.getLsbD 31 then p.pcmdQueue ++ [x &&& 0xC00007FF] else p.pcmdQueue }
    else if off = 0x108 then s.setPart k { p with phlim := x }
    else if off = 0x110 then s.setPart k { p with wdog := x }
    else if off = 0x118 ∨ off = 0x11C then s.setPart k { p with troot := withHalf p.troot (off == 0x11C) x }
    else if off = 0x120 ∨ off = 0x124 then s.setPart k { p with tinva := withHalf p.tinva (off == 0x124) x }
    else if off = 0x128 then
      s.setPart k (p.writeTinvc x)
    else if off = 0x140 ∨ off = 0x144 then
      if p.flen then s else s.setPart k { p with flbase := withHalf p.flbase (off == 0x144) x }
    else if off = 0x148 then s.setPart k (p.writeFlctl x)
    else if 0x200 ≤ off ∧ off < 0x20C then s.setPart k { p with cap := wput p.cap ((off - 0x200) / 4) x }
    else if 0x400 ≤ off ∧ off < 0x800 then s.writeGroup k p ((off - 0x400) / 16) (off % 16 / 4) x
    else if 0x800 ≤ off ∧ off < 0x900 then
      let n := (off - 0x800) / 16
      let w := p.peerWindow n
      let w := w.written (s.outstanding false (k, n)) (off % 16 / 4) x 0x80FFFFFF
      s.setPart k { p with peerWindows := tput p.peerWindows n w }
    else if 0xA00 ≤ off ∧ off < 0xB00 then
      let n := (off - 0xA00) / 16
      let w := (p.export n).written false (off % 16 / 4) x 0x80FF0000
      s.setPart k { p with exports := tput p.exports n w }
    else if 0xB00 ≤ off ∧ off < 0xC00 then
      let n := (off - 0xB00) / 16
      let w := p.hostWindow n
      let w := w.written (s.outstanding true (k, n)) (off % 16 / 4) x 0x80000001
      s.setPart k { p with hostWindows := tput p.hostWindows n w }
    else if 0x1800 ≤ off ∧ off < 0x1900 then
      let n := (off - 0x1800) / 4
      s.setPart k (p.setQueue n ((p.queue n).writeOwn p x))
    else s

/-- The value of a VF-page word at an offset below the windows (R359). -/
def VfPage.read (x : VfPage) (off : Nat) : Word :=
  if off = 0x0 ∨ off = 0x4 then halfOf x.stbase (off == 4)
  else if off = 0x8 then x.stctl
  else if off = 0xC then x.evtn
  else if 0x10 ≤ off ∧ off < 0x40 then
    let q := x.tier ((off - 0x10) / 16)
    let w := off % 16 / 4
    if w = 0 then q.used else if w = 1 then q.guar else if w = 2 then q.blim else q.rsv
  else if off = 0x40 then x.summary
  else if off = 0x44 then x.qcnt
  else if 0x48 ≤ off ∧ off < 0x54 then (x.tier ((off - 0x48) / 4)).recl
  else if 0x80 ≤ off ∧ off < 0x100 then halfOf (wget x.quar ((off - 0x80) / 8)) (off % 8 == 4)
  else if 0x300 ≤ off ∧ off < 0x30C then (x.tier ((off - 0x300) / 4)).used
  else if off = 0x30C then x.summary
  else if off = 0x310 then x.qcnt
  else if 0x314 ≤ off ∧ off < 0x320 then (x.tier ((off - 0x314) / 4)).recl
  else 0

/-- GUAR of a tier (R359): ignored when the sum over the partition's VFs would exceed CAP; lowering it releases the
VF's holds (R361). -/
def State.writeGuar (s : State) (v t : Nat) (x : Word) : State :=
  let q := (s.vf v).tier t
  let set := s.onVf v fun y => y.setTier t { q with guar := x }
  match s.parts.find? fun e => e.2.vfbind.getLsbD v with
  | none => set
  | some (_, p) =>
    let others := ((p.vfList.filter (· != v)).map fun u => ((s.vf u).tier t).guar.toNat).sum
    if (wget p.cap t).toNat < others + x.toNat then s
    else if x.toNat < q.guar.toNat then set.releaseHolds t v else set

/-- A write to the migration block by Burdy (R359, R392). -/
def State.writeMig (s : State) (v off : Nat) (x : Word) : State :=
  if off < 12 then s.onVf v fun y => y.setTier (off / 4) { y.tier (off / 4) with used := x }
  else if off = 16 then s.onVf v fun y => { y with qcnt := x }
  else if 20 ≤ off ∧ off < 32 then
    s.onVf v fun y => y.setTier ((off - 20) / 4) { y.tier ((off - 20) / 4) with recl := x }
  else s

/-- A write of a VF-page word by Burdy, or by the host (R359). -/
def State.vfWrite (s : State) (v : Nat) (burdy : Bool) (off : Nat) (x : Word) : State :=
  if off = 0x0 ∨ off = 0x4 then s.onVf v fun y => { y with stbase := withHalf y.stbase (off == 4) x }
  else if off = 0x8 then
    if 16 < bits x.toNat 0 5 then s
    else s.onVf v fun y => { y with sten := x.getLsbD 31, stlogn := bits x.toNat 0 5 }
  else if off = 0xC then s.onVf v fun y => { y with evtn := x }
  else if 0x10 ≤ off ∧ off < 0x40 then
    let t := (off - 0x10) / 16
    let w := off % 16 / 4
    if w = 1 then s.writeGuar v t x
    else if w = 2 then s.onVf v fun y => y.setTier t { y.tier t with blim := x }
    else if w = 3 then s.onVf v fun y => y.setTier t { y.tier t with rsv := x }
    else s
  else if burdy && decide (0x80 ≤ off ∧ off < 0x100) then
    s.onVf v fun y =>
      let i := (off - 0x80) / 8
      { y with quar := wput y.quar i (withHalf (wget y.quar i) (off % 8 == 4) (if off % 8 = 4 then x &&& 1 else x &&& 0x7FFFFFFF)) }
  else if burdy && decide (0x300 ≤ off ∧ off < 0x340) then s.writeMig v (off - 0x300) x
  else s

/-- Register pages by region: 0 the control page of a partition, 1 a VF page. -/
def State.regWord (s : State) (region n : Nat) (who : Party) (off : Nat) : Word :=
  if region = 0 then match s.part n with | some p => s.controlRead p who off | none => 0
  else if off < 0x400 then (s.vf n).read off else 0
def State.setRegWord (s : State) (region n : Nat) (who : Party) (off : Nat) (x : Word) : State :=
  if region = 0 then s.controlWrite n who off x else s.vfWrite n who.isNone off x

/-- A read of 4 or 8 aligned bytes of a register page; any other access delivers 0 (R359). -/
def State.regRead (s : State) (region n : Nat) (who : Party) (off size : Nat) : Dword :=
  if size = 4 ∧ off % 4 = 0 then pairOf (s.regWord region n who off) 0
  else if size = 8 ∧ off % 8 = 0 then pairOf (s.regWord region n who off) (s.regWord region n who (off + 4))
  else 0

/-- A write of 4 or 8 aligned bytes of a register page; any other is ignored (R359). -/
def State.regWrite (s : State) (region n : Nat) (who : Party) (off size : Nat) (x : Dword) : State :=
  if size = 4 ∧ off % 4 = 0 then s.setRegWord region n who off (lowWord x)
  else if size = 8 ∧ off % 8 = 0 then
    if region = 0 ∧ (off = 0x30 ∨ off = 0x38 ∨ off = 0x10 ∨ (0x1000 ≤ off ∧ off < 0x1800 ∧ off % 32 = 0)) then
      match s.part n with
      | none => s
      | some p =>
        if off = 0x30 then (if who.isSome then s else s.writeVfbind n p x)
        else if off = 0x38 then (if who.isSome then s else s.writeVfport n p x)
        else if off = 0x10 then
          (if who.isSome then s else s.setPart n { p with pboot := x &&& 0xFFFFFFFFFFFFFFCF })
        else
          let q := p.queue ((off - 0x1000) / 32)
          let mine := match who with | none => true | some v => q.owned && q.owner == v
          if mine then s.setPart n (p.setQueue ((off - 0x1000) / 32) (q.writeBase x)) else s
    else (s.setRegWord region n who off (lowWord x)).setRegWord region n who (off + 4) (highWord x)
  else s

end Sys2Proof.Machine
end

