-- ==== Sys2Proof/Machine/Translate.lean ====
section
/-! DEFINITION. Translation (R343 to R348): the walk of the page tables, permissions, and the lattice pages that the walk
finds (R123). -/
namespace Sys2Proof.Machine

/-- A trap before it is taken: cause, sub-cause, faulting address, detail (R329). -/
structure Trap where
  cause : Nat
  sub : Nat
  addr : Dword
  detail : Dword
  deriving DecidableEq, Repr

/-- What an attempt gives: a result, a trap, or a wait. -/
inductive Answer (α : Type) where
  | ok (a : α)
  | trap (t : Trap)
  | wait (w : Wait)

/-- Go on with the result of an attempt. -/
def Answer.andThen {α β : Type} (x : Answer α) (f : α → Answer β) : Answer β :=
  match x with
  | .ok a => f a
  | .trap t => .trap t
  | .wait w => .wait w

/-- A trap without detail. -/
def trapAt (cause sub : Nat) (addr : Dword) : Trap := { cause := cause, sub := sub, addr := addr, detail := 0 }

/-- Bits [63:57] of an address all equal bit 56 (R223). -/
def canonical (va : Dword) : Bool := va.toNat / 2 ^ 56 = 0 || va.toNat / 2 ^ 56 = 255

/-- What an access asks of a page (R345). -/
structure Need where
  read : Bool
  write : Bool
  fetch : Bool
  deriving DecidableEq, Repr

/-- An entry of a page table (R344) on the walk of an address, at a physical address: it waits for a port that is down
(R16, R376); a peer answers with a free value, or refuses (R375, R391); and an address that reaches no memory is a routing
breach (R373). R89 names no walker among the consumers of poison: an entry that holds some is used as its bytes stand (log 111,
DESIGN CHOICE). -/
def State.entryAt (s : State) (p : Partition) (core : Nat) (va : Dword) (pa : Nat) : Answer (Target × Nat) :=
  let t := s.reach p core pa
  match t with
  | .dram _ _ _ => .ok (t, bytesNat (s.bytesAt t 8))
  | .pad _ => .ok (t, bytesNat (s.bytesAt t 8))
  | .host _ _ _ _ => .ok (t, bytesNat (s.bytesAt t 8))
  | .down w => .wait w
  | .peer _ _ _ =>
    if Config.peerRefuses s.draws s.cycle then .trap (trapAt 6 5 va) else .ok (t, (Config.freeDword s.draws pa).toNat)
  | _ => .trap (trapAt 6 5 va)

/-- What a walk that reads an entry there sends to a peer (R375). -/
def Target.asked (t : Target) : List Sent :=
  match t with
  | .peer dev port off => [{ peer := dev, port := port, off := off, bytes := [], write := false, kind := .weak }]
  | _ => []

/-- Physical address bits [51:12] of an entry. -/
def entryPa (e : Nat) : Nat := bits e 12 40 * 4096

/-- Whether the 16 leaves of a 64 KiB page agree: each is valid, carries C, and the physical range is contiguous and
aligned (R343). `table` is the address of the L0 table, `i` the index of the leaf found, `e` the leaf. -/
def State.groupAgrees (s : State) (p : Partition) (core table i e : Nat) : Bool :=
  let first := entryPa e - 4096 * (i % 16)
  decide (first % 65536 = 0 ∧ 4096 * (i % 16) ≤ entryPa e) && (List.range 16).all fun k =>
    match s.entryAt p core 0 (table + 8 * (i - i % 16 + k)) with
    | .ok (_, x) => x.testBit 0 && !x.testBit 1 && x.testBit 8 && entryPa x == first + 4096 * k
    | _ => false

/-- A leaf that a walk has found: its physical address, where it lies, its bits, the bits that give its whole page (the
physical address of the first of the 16 leaves of a 64 KiB page), the size of that page, what the walk has sent to peers, and
the words that it has read. -/
structure Leaf where
  address : Nat
  place : Target
  entry : Nat
  whole : Nat
  size : Nat
  asked : List Sent
  words : List Nat

/-- A walk from a table at a level down (R343, R345). Of a table entry only V, T and PA are read (R344). -/
def State.walk (s : State) (p : Partition) (core : Nat) (va : Dword) : Nat → Nat → Answer Leaf
  | level, table =>
    let i := bits va.toNat (12 + 9 * level) 9
    match s.entryAt p core va (table + 8 * i) with
    | .trap t => .trap t
    | .wait w => .wait w
    | .ok (place, e) =>
      if s.lostTarget place then .trap (trapAt 0xB 0 va)
      else if !e.testBit 0 then .trap (trapAt 5 1 va)
      else if e.testBit 1 then
        match level with
        | 0 => .trap (trapAt 5 2 va)
        | n + 1 => (State.walk s p core va n (entryPa e)).andThen fun l =>
            .ok { l with asked := place.asked ++ l.asked, words := place.words 8 ++ l.words }
      else
        let size := 4096 * 512 ^ level
        if bits e 57 7 ≠ 0 ∨ bits e 9 3 ≠ 0 ∨ 2 < level ∨ entryPa e % size ≠ 0 then .trap (trapAt 5 2 va)
        else if e.testBit 8 && (level != 0 || !s.groupAgrees p core table i e) then .trap (trapAt 5 2 va)
        else if e.testBit 8 then
          let group := (List.range 16).map fun k => s.reach p core (table + 8 * (i - i % 16 + k))
          .ok { address := table + 8 * i, place := place, entry := e, whole := e - 4096 * (i % 16), size := 65536,
                asked := place.asked ++ group.flatMap Target.asked, words := group.flatMap (Target.words · 8) }
        else .ok { address := table + 8 * i, place := place, entry := e, whole := e, size := size, asked := place.asked,
                   words := place.words 8 }

/-- The permissions of a leaf (R345). -/
def leafFault (e : Nat) (sup : Bool) (need : Need) : Option Nat :=
  if (need.read && !e.testBit 2) || (need.fetch && !e.testBit 4) then some 1
  else if need.write && !e.testBit 3 then some 2
  else if !sup && !e.testBit 5 then some 3
  else if e.testBit 52 && decide (6 ≤ bits e 53 4) then some 4
  else none

/-- A translated address: the physical address, and the type code of a lattice page (R123). -/
structure Site where
  pa : Nat
  lat : Option Nat
  deriving DecidableEq, Repr

/-- The address that a leaf gives, and its lattice type (R123, R344). -/
def siteOf (entry size : Nat) (va : Dword) : Site :=
  { pa := entryPa entry + va.toNat % size, lat := if entry.testBit 52 then some (bits entry 53 4) else none }

/-- A TLB takes a translation (R347); the same one from before D was set in it goes. -/
def State.fill (s : State) (c : Cached) : State :=
  if s.tlb.contains c then s
  else { s with tlb := c :: s.tlb.filter fun o => decide ({ o with entry := o.entry ||| 128 } ≠ c) }

/-- A and `d` are set in the leaf that stands in memory, by an atomic OR, unless the translation has them already (R346). Where
the leaf lies behind a peer window, or a host window on a port trained as PCIe, no atomic can be performed (R16, R345): the
access takes cause 0x06, sub-cause 6 (log 99, DEDUCED). -/
def State.markLeaf (s : State) (va : Dword) (c : Cached) (l : Leaf) (d : Nat) : Answer State :=
  let e := l.entry ||| (if c.entry ||| 64 ||| d = c.entry then 0 else 64 ||| d)
  if e = l.entry then .ok s
  else match l.place with
    | .host _ _ false _ => .trap (trapAt 6 6 va)
    | .peer _ _ _ => .trap (trapAt 6 6 va)
    | t => .ok (s.writeHome 0 t (natBytes 8 e)).1

/-- What a walk has sent to peers is sent (R375). -/
def State.ask (s : State) (l : List Sent) : State := if l.isEmpty then s else { s.drawn with sent := s.sent ++ l }

/-- Use a translation (R345, R346): its permissions, D before the first write through it, and the TLB that holds it from
then on. The walk that found it has recalled the table words that cores own (R98, R347); of an access that traps nothing is
recalled (R224; log 16). -/
def State.through (s : State) (core : Nat) (sup : Bool) (need : Need) (va : Dword) (c : Cached) (l : Leaf) :
    Answer (State × Site) :=
  match leafFault c.entry sup need with
  | some k => .trap (trapAt 6 k va)
  | none =>
    let d := if need.write then 128 else 0
    (((s.recallAll l.words).ask l.asked).markLeaf va c l d).andThen fun s =>
      .ok (s.fill { c with cluster := coreCluster core, entry := c.entry ||| 64 ||| d }, siteOf c.entry l.size va)

/-- The translations of an address that a TLB of the core may hold and that memory no longer gives (R348), each with its
leaf as it stands. One that differs only in that D is not yet set in it, or that a change of LAT has overtaken (R123 has
system software keep accesses away then), is none. -/
def State.staleLeaves (s : State) (p : Partition) (core : Nat) (va : Dword) (now : Answer Leaf) : List (Cached × Leaf) :=
  s.tlb.filterMap fun c =>
    if c.part = p.corner && c.cluster = coreCluster core && decide (c.base ≤ va.toNat ∧ va.toNat < c.base + c.size) &&
        (match now with
        | .ok l => decide (l.size ≠ c.size ∨ l.whole ||| 128 ≠ c.entry ||| 128 ∨ c.entry.testBit 7 ∧ ¬l.whole.testBit 7) &&
            decide (bits l.entry 52 5 = bits c.entry 52 5)
        | _ => true) then
      match s.entryAt p core va c.leaf with
      | .ok r => some (c, { address := c.leaf, place := r.1, entry := r.2, whole := c.entry, size := c.size, asked := [], words := [] })
      | _ => none
    else none

/-- Translate an address (R343 to R348), setting A, and D for a write (R346). -/
def State.translate (s : State) (p : Partition) (core : Nat) (sup : Bool) (need : Need) (va : Dword) :
    Answer (State × Site) :=
  if !canonical va then .trap (trapAt 5 1 va)
  else
    let now := s.walk p core va 4 p.troot.toNat
    let fresh := now.andThen fun l => s.through core sup need va
      { part := p.corner, cluster := coreCluster core, base := va.toNat - va.toNat % l.size, size := l.size, leaf := l.address,
        entry := l.whole } l
    match s.staleLeaves p core va now with
    | [] => fresh
    | x :: xs =>
      let k := Config.staleChoice s.draws s.cycle
      match k, (x :: xs)[k - 1]? with
      | _ + 1, some (c, l) => (s.through core sup need va c l).andThen fun r => .ok (r.1.drawn, r.2)
      | _, _ => fresh.andThen fun r => .ok (r.1.drawn, r.2)

/-- The size of the page that holds an address, as its leaf gives it; 4 KiB where a walk finds none. -/
def State.pageSize (s : State) (p : Partition) (core : Nat) (va : Dword) : Nat :=
  match s.walk p core va 4 p.troot.toNat with
  | .ok l => l.size
  | _ => 4096

/-- The only copy of a word dies: its line is lost, of memory or of a scratchpad that is its home (R122). -/
def State.loseWord (s : State) (w : Nat) : State :=
  { s with owned := tdel s.owned w, homes := tdel s.homes w, lost := tput s.lost (w / 32) () }
/-- The words that a partition's cores own die with them: their lines are lost. -/
def State.losePart (s : State) (p : Partition) : State :=
  (s.owned.filter fun e => p.holdsCore e.2.core).foldl (fun s e => s.loseWord e.1) s
/-- The words that a partition's cores own go home. -/
def State.sendPart (s : State) (p : Partition) : State :=
  (s.owned.filter fun e => p.holdsCore e.2.core).foldl (fun s e => s.giveBack e.1) s

/-- The invalidations that have been asked for complete (R348): every write that used an older translation has then reached its
home slice (R393). -/
def State.invalidate (s : State) (part : Nat) : State :=
  match s.part part with
  | none => s
  | some p =>
    let s := if p.tinvDue.isEmpty then s else s.sendPart p
    { s.setPart part { p with tinvc := p.tinvc &&& 0x40000000, tinvDue := [] } with
      tlb := s.tlb.filter fun c => c.part != part || !p.tinvDue.any fun v => match v with
        | none => true
        | some v => decide (c.base ≤ v.toNat ∧ v.toNat < c.base + c.size) }

/-! ## Instructions that a core keeps (R130) -/

/-- The place under which a core keeps what it fetches at a physical address: the package address, whatever serves it there
(a spiral, a scratchpad, a replica). -/
def State.codePlace (s : State) (core pa : Nat) : Nat :=
  if isSupervisorCore core || decide (Config.hostBase ≤ pa) then pa
  else match s.partOfCore core with
    | some (_, p) => p.toPackage pa
    | none => pa

/-- A core keeps what it has fetched. -/
def State.keepCode (s : State) (core place half : Nat) : State :=
  let k : Kept := { core := core, place := place, half := half }
  if s.code.contains k then s else { s with code := k :: s.code }

/-- What a core may keep at a place that is no longer there. -/
def State.oldCode (s : State) (core place now : Nat) : List Nat :=
  s.code.filterMap fun k => if k.core = core && k.place = place && decide (k.half ≠ now) then some k.half else none

/-- `cinv` of a line ends what its core keeps there. -/
def State.dropCode (s : State) (core pa : Nat) : State :=
  { s with code := s.code.filter fun k => !(k.core == core && k.place / 128 == s.codePlace core pa / 128) }

/-! ## Lattice pages -/

/-- The place of an FP32 word in the total order of lattice type 4 (R72). -/
def floatRank (x : Word) : Int :=
  let m : Nat := x.toNat % 2 ^ 31
  if 0x7F800000 < m then 2 ^ 32 else if x.getLsbD 31 then -(m : Int) - 1 else (m : Int)

/-- The join of two cells under a lattice type code (R72). -/
def join (c : Nat) (a b : Dword) : Dword :=
  match c with
  | 0 => if a.toNat < b.toNat then b else a
  | 1 => if a.toInt < b.toInt then b else a
  | 2 => if b.toNat < a.toNat then b else a
  | 3 => a ||| b
  | 4 =>
    let w := if floatRank (lowWord a) < floatRank (lowWord b) then lowWord b else lowWord a
    pairOf (if 0x7F800000 < w.toNat % 2 ^ 31 then 0x7FC00000 else w) 0
  | _ => if a.toNat < b.toNat then b else a

/-- The address that numbers the cells of a lattice page: the package address for DRAM, and a place of the partition's own for
anything else that a physical address can reach. -/
def State.cellAddress (s : State) (p : Partition) (pa : Nat) : Nat :=
  if pa < dramBytes s p then p.toPackage pa else 2 ^ 54 * (p.corner + 1) + pa
/-- Whether a page of cells, by its number, is a partition's. -/
def Partition.ownsCells (p : Partition) (page : Nat) : Bool :=
  if page < 2 ^ 42 then p.holds (4096 * page / Config.bandBytes) else page / 2 ^ 42 == p.corner + 1

/-- What the two tiles of a page reach. -/
def State.pageTiles (s : State) (p : Partition) (core pa : Nat) : List (Nat × Target) :=
  [(0, s.reach p core pa), (2048, s.reach p core (pa + 2048))]

/-- The offsets in a page of the cells of a tile that may read other than 0: those that its target holds a nonzero byte of, and
all where bytes may stand under another key (R390). -/
def State.heldCells (s : State) (x : Nat × Target) : List Nat :=
  let within := fun (m : Memory) (a : Nat) =>
    ((m.filter fun e => decide (a ≤ e.1 ∧ e.1 < a + 2048)).map fun e => x.1 + (e.1 - a) / 8 * 8).eraseDups
  if !(s.ciphered.isEmpty && s.sealedBands.isEmpty) then (List.range 256).map fun i => x.1 + 8 * i
  else match x.2 with
  | .pad k => within s.spad k
  | .dram _ _ a => within s.mem a
  | .host a _ _ _ => within s.mem a
  | _ => []

/-- The entries of a table of poison that lie in a tile, by offset in its page. -/
def State.heldPoison (s : State) (x : Nat × Target) : List Nat :=
  let within := fun (m : Tab Unit) (a : Nat) =>
    (m.filter fun e => decide (a ≤ e.1 ∧ e.1 < a + 2048)).map fun e => x.1 + (e.1 - a)
  match x.2 with
  | .pad k => within s.spadPoison k
  | .dram _ _ a => within s.poison a
  | .host a _ _ _ => within s.poison a
  | _ => []

/-- The clocks that a tile's words have, by offset of the word in its page. -/
def State.heldClocks (s : State) (x : Nat × Target) : List (Nat × WordClock) :=
  match x.2.words 2048 with
  | [] => []
  | b :: _ => (s.clocks.filter fun e => decide (b ≤ e.1 ∧ e.1 < b + 512)).map fun e => (x.1 + 4 * (e.1 - b), e.2)

/-- Whether a word is one of a replica of the page at an address. -/
def inReplica (a w : Nat) : Bool := decide (2 ^ 61 ≤ w) && decide (a ≤ repAddress w) && decide (repAddress w < a + 4096)

/-- A page becomes a lattice page: every replica takes its contents, with its clocks, its lost lines and its poison (R123; what
becomes of poison in replicas is log 100, DESIGN CHOICE). `pa` is the page's physical address, `a` the one that numbers its
cells. -/
def State.enterLattice (s : State) (p : Partition) (core pa a lt : Nat) : State :=
  let tiles := s.pageTiles p core pa
  let s0 := tiles.foldl (fun s x => s.recallAll (x.2.words 2048)) s
  let reps := tiles.foldl (fun r x => (s0.heldCells x).foldl (fun r o =>
    let v := BitVec.ofNat 64 (bytesNat (s0.bytesAt (x.2.shift (o - x.1)) 8))
    p.stackList.foldl (fun r st => wput r (a + o + st) v) r) r) s0.reps
  let lost := tiles.flatMap fun x => ((List.range 16).map fun i => (x.1 / 128 + i, x.2.shift (128 * i))).filter fun l =>
    s0.lostTarget l.2
  let hurt := tiles.flatMap s0.heldPoison
  let clocks := (tiles.flatMap s0.heldClocks).foldl (fun t c =>
    p.stackList.foldl (fun t st => tput t (repWord (a + c.1) st) c.2) t) (s0.clocks.filter fun e => !inReplica a e.1)
  let s1 := lost.foldl (fun s l => s.findLine l.2) (tiles.foldl (fun s x => s.cleanse (x.2.words 2048)) s0)
  { s1 with latPages := tput s1.latPages (a / 4096) lt, reps := reps, clocks := clocks,
            repPoison := hurt.foldl (fun t o => p.stackList.foldl (fun t st => tput t (8 * (a + o) + st) ()) t)
              (s1.repPoison.filter fun e => e.1 / 8 / 4096 != a / 4096),
            repLost := lost.foldl (fun t l => p.stackList.foldl (fun t st => tput t (8 * (a / 128 + l.1) + st) ()) t)
              (s1.repLost.filter fun e => e.1 / 8 / 32 != a / 4096) }

/-- The join of the replicas of a cell. -/
def State.joinedCell (s : State) (p : Partition) (a lt : Nat) : Dword :=
  ((p.stackList.map (s.replica a)).foldl (fun v w => match v with
    | none => some w
    | some v => some (join lt v w)) none).getD 0

/-- A page ceases to be a lattice page: it takes the join of all replicas, each cell written at the latest time that one of them
was, with the poison of any (log 100); and a line that a replica has lost is lost, every one when the stack of a replica is fenced (R123,
R128, R319). Copies of replicas end. SI copies of the page leased before it became a lattice page are left as they are, and may
serve until V passes their leases: R123 does not speak of them (log 101). -/
def State.leaveLattice (s : State) (p : Partition) (core pa a lt : Nat) : State :=
  let fenced := p.stackList.any fun k => (s.stack k).fenced
  let mine := fun (k : Nat) => decide (a ≤ k ∧ k < a + 4096)
  let timed := (s.clocks.filter fun e => inReplica a e.1).map fun e => (repAddress e.1 - a) / 8 * 8
  let written := (((s.reps.filter fun e => mine e.1).map fun e => (e.1 - a) / 8 * 8) ++ timed).eraseDups
  let hurt := ((s.repPoison.filter fun e => e.1 / 8 / 4096 == a / 4096).map fun e => e.1 / 8 - a).eraseDups
  let tiles := s.pageTiles p core pa
  let s1 := tiles.foldl (fun s x =>
    let cells := ((written.filter fun o => o / 2048 == x.1 / 2048) ++ s.heldCells x).eraseDups
    cells.foldl (fun s o =>
      let time := p.stackList.foldl (fun v st => s.readTime (repWords (a + o) st 8) v) 0
      (s.writeHome time (x.2.shift (o - x.1)) (natBytes 8 (s.joinedCell p (a + o) lt).toNat)).1) s) s
  let s2 := tiles.foldl (fun s x => (List.range 16).foldl (fun s i =>
    if fenced || p.stackList.any fun st => (tfind s.repLost (8 * (a / 128 + x.1 / 128 + i) + st)).isSome
    then s.loseLine (x.2.shift (128 * i)) else s) s) s1
  let s2 := tiles.foldl (fun s x => (hurt.filter fun o => o / 2048 == x.1 / 2048).foldl (fun s o =>
    s.poisonTarget (x.2.shift (o - x.1)) 1) s) s2
  { s2 with latPages := tdel s2.latPages (a / 4096), reps := s2.reps.filter fun e => !mine e.1,
            clocks := s2.clocks.filter fun e => !inReplica a e.1,
            shared := s2.shared.filter fun e => !inReplica a (e.1 / 4096),
            copies := s2.copies.filter fun e => !inReplica a (e.1 / 4096),
            repPoison := s2.repPoison.filter fun e => e.1 / 8 / 4096 != a / 4096,
            repLost := s2.repLost.filter fun e => e.1 / 8 / 32 != a / 4096 }

/-- Bring a page into the form that its entry gives it (R123): the change that system software made to LAT takes effect
at the first access that finds it. What the access then reaches. -/
def State.settlePage (s : State) (p : Partition) (core : Nat) (site : Site) : State × Target :=
  let a := s.cellAddress p site.pa
  let page := site.pa - site.pa % 4096
  let t := s.reach p core site.pa
  match t with
  | .nothing => (s, t)
  | .down _ => (s, t)
  | _ =>
    match site.lat, tfind s.latPages (a / 4096) with
    | none, none => (s, t)
    | none, some old => (s.leaveLattice p core page (a - a % 4096) old, t)
    | some lt, none => (s.enterLattice p core page (a - a % 4096) lt, .cells p site.pa a lt)
    | some lt, some old =>
      (if lt = old then s else (s.leaveLattice p core page (a - a % 4096) old).enterLattice p core page (a - a % 4096) lt,
       .cells p site.pa a lt)

end Sys2Proof.Machine
end

