-- ==== Sys2Proof/Machine/Access.lean ====
section
/-! DEFINITION. The accesses of a thread (R223 to R243): a load, a store, an atomic, the lattice forms, `zline`, the
scratchpad, and the spiral forms, each for one thread. An access that traps leaves the state as it was. -/
namespace Sys2Proof.Machine

/-- What an access needs to know of who makes it: core, mode and view time; the kind and the mask of the access (R104); and
of a thread its number, 32 × warp + thread, with the fences that it has executed (R105, R111). An access of no thread is a
weak one under a number that no thread has. -/
structure Who where
  core : Nat
  sup : Bool
  view : Dword
  kind : Kind := .weak
  obs : BitVec 5 := 0
  id : Nat := 2 ^ 40
  fences : BitVec 5 := 0
  fenced : Nat := 0
  deriving DecidableEq, Repr

def Who.stack (w : Who) : Nat := coreStack w.core
/-- The kind of an access that is weak without observers (R104). -/
def kindOf (o : BitVec 5) (k : Kind) : Kind := if o = 0 then .weak else k
/-- An access of a kind with a mask. -/
def Who.as (w : Who) (kind : Kind) (obs : BitVec 5) : Who := { w with kind := kind, obs := obs }
/-- A load that is an acquire, whatever its mask (R104, R112), and one that a later fence may make an acquire for class c
(R105). -/
def Who.acquires (w : Who) : Bool := w.kind == .acquire
def Who.mayAcquire (w : Who) : Bool := w.kind == .strong && w.obs.getLsbD 0
/-- A store that releases: an STRL, or a strong one after a fence, each for an observer (R104, R105). -/
def Who.releases (w : Who) : Bool :=
  (w.kind == .release && w.obs != 0) || (w.kind == .strong && w.fences &&& w.obs != 0)

/-- The number under which the frame of a warp's handler is written: in the program order of the handler (R330). -/
def frameId (wk : Nat) : Nat := 2 ^ 41 + wk
/-- The writes that stand before a thread's in program order: its own, and the frame of the handler that it runs. -/
def writtenFor (id k : Nat) : Bool := k == id || k == frameId (id / 32)
/-- The writes of some warps, and of their handlers' frames. -/
def writtenByWarps (keys : List Nat) (id : Nat) : Bool := keys.any fun k => id / 32 == k || id == frameId k

/-- A release of a thread comes after its earlier writes have reached their home slices (R102). -/
def State.released (s : State) (w : Who) (b : Bool) : State := if b then s.sendHome (writtenFor w.id) else s
/-- A strong load of class c has met a write time (R105). -/
def State.meet (s : State) (w : Who) (t : Dword) : State :=
  if w.mayAcquire then
    s.onWarp (w.id / 32) fun x => x.onThreads (setBit 0 (w.id % 32) true) fun th => { th with met := laterOf th.met t }
  else s

/-- The checks and the translation of R223: canonical, aligned, mapped, permitted; then the page's lattice state
(R123) and what the physical address reaches. A supervisor core addresses the package space untranslated (R15). -/
def State.site (s : State) (w : Who) (va : Dword) (align : Nat) (need : Need) : Answer (State × Site × Target) :=
  if isSupervisorCore w.core then
    if va.toNat % align ≠ 0 then .trap (trapAt 4 align va)
    else .ok (s, { pa := va.toNat, lat := none }, s.reachPackage w.core va.toNat)
  else if !canonical va then .trap (trapAt 5 1 va)
  else if va.toNat % align ≠ 0 then .trap (trapAt 4 align va)
  else match s.partOfCore w.core with
    | none => .trap (trapAt 6 5 va)
    | some (_, p) => (s.translate p w.core w.sup need va).andThen fun r =>
      let q := r.1.settlePage p w.core r.2
      .ok (q.1, r.2, q.2)

/-- A load's, a store's and a lattice store's needs (R345). -/
def needRead : Need := { read := true, write := false, fetch := false }
def needWrite : Need := { read := false, write := true, fetch := false }
def needBoth : Need := { read := true, write := true, fetch := false }

/-! ## Lattice replicas -/

/-- Join values into consecutive cells of a stack's replica, as a write at a view time (R100, R124, R125): performed at the home
slice, with the copies in the writer's own cache updated (R96, R128); a writer of 4095 has none. -/
def State.joinCells (s : State) (p : Partition) (stack pa a lt writer : Nat) (v : Dword) (xs : List Dword) : State × Dword :=
  let t : Target := .rep p pa a stack
  let bs := (List.range xs.length).flatMap fun i =>
    natBytes 8 (join lt (s.replica (a + 8 * i) stack) (xs.getD i 0)).toNat
  let r := s.writeKeep writer v t bs
  (r.1.refresh 0 writer (t.words bs.length), r.2)

/-- The time that a reader of cells takes (R101, R127): what the stores joined into the replica have reached. -/
def State.cellTime (s : State) (stack a n : Nat) (v : Dword) : Dword := s.readTime (repWords a stack n) v

/-! ## Loads, stores and atomics -/

/-- The answer of a peer device to an access (R375, R391): refused, which is a routing breach at its side and cause 0x06
here, or performed. Both the choice and the data are the peer's, and free. -/
def State.peerLoad (s : State) (kind : Kind) (dev port off n : Nat) (v : Dword) (va : Dword) :
    Answer (State × Dword × List Byte) :=
  let x : Sent := { peer := dev, port := port, off := off, bytes := [], write := false, kind := kind }
  if Config.peerRefuses s.draws s.cycle then .trap (trapAt 6 5 va)
  else
    let words := (List.range 8).flatMap fun i => natBytes 8 (Config.freeDword s.draws i).toNat
    .ok ({ s.drawn with sent := s.sent ++ [x] }, v, words.take n)
/-- A write to a peer device, refused or performed. -/
def State.peerStore (s : State) (kind : Kind) (dev port off : Nat) (bs : List Byte) (va : Dword) : Answer State :=
  let x : Sent := { peer := dev, port := port, off := off, bytes := bs, write := true, kind := kind }
  if Config.peerRefuses s.draws s.cycle then .trap (trapAt 6 5 va) else .ok { s.drawn with sent := s.sent ++ [x] }

/-- A load of `n` bytes by a thread from memory, a scratchpad or a replica (R89, R122, R128). -/
def State.loadAt (s : State) (w : Who) (rq : Nat) (va : Dword) (n : Nat) (t : Target) : Answer (State × Dword × List Byte) :=
  if s.lostTarget t then .trap (trapAt 0xB 0 va)
  else if s.loadPoison w.core rq w.acquires w.fenced w.view t n then .trap (trapAt 0xA 0 va)
  else
    let r := s.load w.core rq w.acquires w.fenced w.view t n
    .ok (r.1.meet w r.2.2.2, r.2.1, r.2.2.1)

/-- A load of `n` bytes by a thread (R227): the state, the view time, the bytes. -/
def State.threadLoad (s : State) (w : Who) (rq : Nat) (va : Dword) (n : Nat) : Answer (State × Dword × List Byte) :=
  (s.site w va n needRead).andThen fun r =>
    let s := r.1
    match r.2.2 with
    | .cells p pa a _ => s.loadAt w rq va n (.rep p pa a w.stack)
    | .nothing => .trap (trapAt 6 5 va)
    | .down x => .wait x
    | .peer dev port off => s.peerLoad w.kind dev port off n w.view va
    | .control part off => .ok (s, w.view, natBytes n (s.regRead 0 part none off n).toNat)
    | .vfPage v off =>
      if n = 8 ∧ 0x400 ≤ off ∧ off < 0x1000 ∧ (off - 0x400) / 0x200 < 6 ∧ !isSupervisorCore w.core then
        match s.partOfCore w.core with
        | some (k, p) =>
          let x := (off - 0x400) / 0x200
          let q := s.pool k p v (1 + x / 3) (x % 3) ((off - 0x400) % 0x200 / 8 + 1)
          .ok (q.1, w.view, natBytes 8 (q.1.poolPair v (1 + x / 3) q.2).toNat)
        | none => .ok (s, w.view, List.replicate n 0)
      else if n < 4 ∧ !isSupervisorCore w.core then
        .ok (s, w.view, ((natBytes 4 (s.regWord 1 v none (off / 4 * 4)).toNat).drop (off % 4)).take n)
      else
        .ok (s, w.view, ((List.range (n / 8 + 1)).flatMap fun i =>
          natBytes (min n 8) (s.regRead 1 v none (off + 8 * i) (min n 8)).toNat).take n)
    | t => s.loadAt w rq va n t

/-- Whether a value lies strictly below a cell (R124). -/
def strictlyBelow (lt : Nat) (x c : Dword) : Bool := x != c && join lt x c == c

/-- A store of a thread (R227). To a lost line of a replica every store takes cause 0x0B, one that R124 refuses too (R128 lets
0x07 come first for `zline` alone; log 102, DEDUCED); a poison cell is met before its value is compared (log 100). -/
def State.threadStore (s : State) (w : Who) (rq : Nat) (va : Dword) (bs : List Byte) : Answer (State × Dword) :=
  let n := bs.length
  (s.site w va n needWrite).andThen fun r =>
    let s := r.1
    match r.2.2 with
    | .cells p pa a lt =>
      let xs := (List.range (n / 8)).map fun i => BitVec.ofNat 64 (bytesNat ((bs.drop (8 * i)).take 8))
      if s.repDead p a w.stack then .trap (trapAt 0xB 0 va)
      else if n < 8 ∨ w.kind = .release then .trap (trapAt 7 0 va)
      else if s.repMarked a w.stack n then .trap (trapAt 0xA 0 va)
      else if (List.range xs.length).any fun i => strictlyBelow lt (xs.getD i 0) (s.replica (a + 8 * i) w.stack) then
        .trap (trapAt 7 0 va)
      else
        .ok (((s.released w (w.obs != 0)).touchRep (rq != 4) p w.stack pa).joinCells p w.stack pa a lt
          (if rq = 3 then 4095 else w.core) w.view xs)
    | .nothing => .trap (trapAt 6 5 va)
    | .down x => .wait x
    | .peer dev port off =>
      (s.peerStore w.kind dev port off bs va).andThen fun s => .ok (s.released w w.releases, w.view)
    | .control part off => .ok ((s.released w w.releases).regWrite 0 part none off n (BitVec.ofNat 64 (bytesNat bs)), w.view)
    | .vfPage v off =>
      if isSupervisorCore w.core then
        .ok ((s.released w w.releases).regWrite 1 v none off n (BitVec.ofNat 64 (bytesNat bs)), w.view)
      else .trap (trapAt 6 2 va)
    | t =>
      if s.lostTarget t then .trap (trapAt 0xB 0 va)
      else .ok ((s.released w w.releases).store w.core w.id rq w.view t bs)

/-- A read-modify-write of `n` bytes by a thread (R97, R230 to R232): what `f` gives for the old value is written, when
it gives something. The state, the view time, the old value. On a lost line of a replica it takes cause 0x0B, as a store does
(log 102). -/
def State.threadAtomic (s : State) (w : Who) (rq : Nat) (va : Dword) (n : Nat) (f : Dword → Option Dword) :
    Answer (State × Dword × Dword) :=
  (s.site w va n needBoth).andThen fun r =>
    let s := r.1
    let perform := fun (t : Target) =>
      if s.lostTarget t then Answer.trap (trapAt 0xB 0 va)
      else if s.poisonAt t n then .trap (trapAt 0xA 0 va)
      else
        let old := BitVec.ofNat 64 (bytesNat (s.bytesAt t n))
        let s1 := ((s.released w (w.obs != 0)).touchTarget (rq != 4) t 0).dropCopies w.core (t.words n)
        let rd := s1.readHome w.view t n
        match f old with
        | none => .ok (rd.1, rd.2, old)
        | some x =>
          let wr := rd.1.writeHome rd.2 t (natBytes n x.toNat)
          .ok (wr.1, wr.2, old)
    match r.2.2 with
    | .cells p _ a _ => .trap (if s.repDead p a w.stack then trapAt 0xB 0 va else trapAt 7 0 va)
    | .nothing => .trap (trapAt 6 5 va)
    | .down x => .wait x
    | .peer _ _ _ => .trap (trapAt 6 6 va)
    | .control _ _ => .trap (trapAt 6 6 va)
    | .vfPage _ _ => .trap (trapAt 6 6 va)
    | .host _ _ false _ => .trap (trapAt 6 6 va)
    | t => perform t

/-! ## Lattice forms -/

/-- The cell that a lattice form names (R233): neither lost (R128) nor poison (R89, log 100). -/
def State.cellSite (s : State) (w : Who) (va : Dword) (need : Need) :
    Answer (State × Partition × Nat × Nat × Nat) :=
  (s.site w va 8 need).andThen fun r =>
    match r.2.1.lat, r.2.2 with
    | none, _ => .trap (trapAt 6 8 va)
    | some _, .cells p pa a lt =>
      if r.1.repDead p a w.stack then .trap (trapAt 0xB 0 va)
      else if r.1.repMarked a w.stack 8 then .trap (trapAt 0xA 0 va)
      else .ok (r.1, p, pa, a, lt)
    | some _, .nothing => .trap (trapAt 6 5 va)
    | some _, .down x => .wait x
    | some _, _ => .trap (trapAt 6 8 va)

/-- `lst` (R234). -/
def State.threadJoin (s : State) (w : Who) (va : Dword) (x : Dword) : Answer (State × Dword) :=
  (s.cellSite w va needBoth).andThen fun r =>
    let p := r.2.1
    .ok (((r.1.released w (w.obs != 0)).touchRep true p w.stack r.2.2.1).joinCells p w.stack r.2.2.1 r.2.2.2.1 r.2.2.2.2
      w.core w.view [x])

/-- The cell of `lld` and `lpoll`, and whether it satisfies a threshold (R127, R235); no touch yet. -/
def State.threadCell (s : State) (w : Who) (va : Dword) (x : Dword) :
    Answer (State × Partition × Nat × Nat × Dword × Bool) :=
  (s.cellSite w va needRead).andThen fun r =>
    let c := r.1.replica r.2.2.2.1 w.stack
    .ok (r.1, r.2.1, r.2.2.1, r.2.2.2.1, c, join r.2.2.2.2 c x == c)

/-! ## Lines -/

/-- `zline` (R238): the only access that a lost line does not trap. A line homed in a fenced stack stays lost until the
partition is rebuilt, and holds nothing to write (R319). -/
def State.threadZero (s : State) (w : Who) (va : Dword) : Answer (State × Dword) :=
  (s.site w va 128 needWrite).andThen fun r =>
    let s := r.1
    let zeros : List Byte := List.replicate 128 0
    match r.2.2 with
    | .cells _ _ _ _ => .trap (trapAt 7 0 va)
    | .nothing => .trap (trapAt 6 5 va)
    | .down x => .wait x
    | .peer dev port off =>
      (s.peerStore w.kind dev port off zeros va).andThen fun s => .ok (s.released w w.releases, w.view)
    | .control _ _ => .ok (s.released w w.releases, w.view)
    | .vfPage _ _ => if isSupervisorCore w.core then .ok (s.released w w.releases, w.view) else .trap (trapAt 6 2 va)
    | t =>
      let s := s.released w w.releases
      .ok (if s.deadHome t then (s, w.view) else (s.findLine t).store w.core w.id 1 w.view t zeros)

/-! ## The scratchpad -/

/-- The bytes of a crew's allocation (R240), at an offset. -/
def Crew.padAt (c : Crew) (o : Nat) : Nat := 2097152 * coreCluster c.core + c.spad + o

/-- Clock keys of the scratchpad words that a mapping entry covers (R92, R240). -/
def State.padClocks (s : State) (k n : Nat) : List Nat := (padWords k n).filter fun w => s.padMapped (4 * w - 2 ^ 60)

/-- Whether mapped lines of a scratchpad range are lost (R122). -/
def State.padLost (s : State) (k n : Nat) : Bool :=
  (s.padClocks k n).any fun w => s.lostTarget (.pad (4 * w - 2 ^ 60))

/-- A read of scratchpad bytes, and a write (R240): where they are mapped, performed at the home slice that they are (R92). -/
def State.padGet (s : State) (v : Dword) (k n : Nat) : State × Dword × List Byte :=
  let ws := s.padClocks k n
  (s.recallAll ws, s.readTime ws v, memBytes s.spad k n)
def State.padPut (s : State) (v : Dword) (k : Nat) (bs : List Byte) : State × Dword :=
  let ws := s.padClocks k bs.length
  if ws.isEmpty then (s.putPad k bs, v)
  else
    let r := (s.recallAll ws).writeTime ws v
    (((r.1.tick (k / 2097152 / 8) r.2).probe 4095 ws).putPad k bs, r.2)

/-- `spad.ld*` (R240). `o` is the offset, `c` the crew. -/
def State.padLoad (s : State) (c : Crew) (v : Dword) (o n : Nat) : Answer (State × Dword × List Byte) :=
  if o % n ≠ 0 then .trap (trapAt 4 n (BitVec.ofNat 64 o))
  else if c.size < o + n then .trap (trapAt 0xE 1 (BitVec.ofNat 64 o))
  else
    let k := c.padAt o
    if s.padLost k n then .trap (trapAt 0xB 0 (BitVec.ofNat 64 o))
    else if marked s.spadPoison k n then .trap (trapAt 0xA 0 (BitVec.ofNat 64 o))
    else .ok (s.padGet v k n)

/-- `spad.st*` (R240). -/
def State.padStore (s : State) (c : Crew) (v : Dword) (o : Nat) (bs : List Byte) : Answer (State × Dword) :=
  let n := bs.length
  if o % n ≠ 0 then .trap (trapAt 4 n (BitVec.ofNat 64 o))
  else if c.size < o + n then .trap (trapAt 0xE 1 (BitVec.ofNat 64 o))
  else
    if s.padLost (c.padAt o) n then .trap (trapAt 0xB 0 (BitVec.ofNat 64 o)) else .ok (s.padPut v (c.padAt o) bs)

/-! ## Spiral forms -/

/-- The tile of an address for the spiral forms (R241, R242): the partition, home band and tile, none when the address
is not spiral-cacheable DRAM or is mapped to scratchpad; `mapped` tells which. Of a lattice page, the tile of the replica of
the thread's stack (R125). Where the spec is silent (log 77): a lost line does not keep these forms from its tile, for they
read and write none of its bytes; an address that reaches nothing takes the cause of a routing breach. -/
structure TileSite where
  state : State
  home : Option (Nat × Partition × Nat × Nat)
  mapped : Bool

def State.tileSite (s : State) (w : Who) (va : Dword) : Answer TileSite :=
  (s.site w va 1 needRead).andThen fun r =>
    let at_ := fun (p : Partition) (home pa : Nat) => Answer.ok
      { state := r.1, home := (r.1.partOfBand home).map fun e => (e.1, p, home, pa / 2048), mapped := false : TileSite }
    match r.2.2 with
    | .dram p pa _ => at_ p (p.home (pa / 2048)) pa
    | .cells p pa _ _ =>
      if r.1.cacheable p pa then at_ p (p.repHome w.stack (pa / 2048)) pa
      else .ok { state := r.1, home := none, mapped := (r.1.mapped p pa).isSome && decide (pa < dramBytes r.1 p) }
    | .pad _ => .ok { state := r.1, home := none, mapped := true }
    | .nothing => .trap (trapAt 6 5 va)
    | _ => .ok { state := r.1, home := none, mapped := false }

/-- `pin` of a tile at its home band (R81, R242, R362): the state and the status. `vf` is the VF for which the launch
acts. -/
def State.pinTile (s : State) (k : Nat) (p : Partition) (band tile handle : Nat) (vf : Option Nat) : State × Nat :=
  let sp := Spiral.of s band
  match sp.position tile with
  | some (_, true) => (s, 1)
  | _ =>
    if sp.room < 1025 then (s, 2)
    else
      let g := match vf with
        | some v => s.pool k p v 0 1 1
        | none => if s.freeOf p 0 < 1 then (s, 2) else (s, 0)
      if g.2 ≠ 0 then (g.1, 2)
      else
        let s1 := if (sp.position tile).isSome then g.1 else g.1.touch p band tile handle
        (s1.onSpiral band (Spiral.pinResident · tile vf), 0)

/-- `unpin` of a tile (R81, R362). -/
def State.unpinTile (s : State) (p : Partition) (band tile : Nat) : State × Nat :=
  let sp := Spiral.of s band
  match sp.position tile with
  | some (_, true) =>
    let owner := ((sp.record tile).map Tile.owner).getD none
    ((s.setSpiral band (sp.unpin tile)).unpinned p owner, 0)
  | _ => (s, 1)

end Sys2Proof.Machine
end

