-- ==== Sys2Proof/Machine/Flags.lean ====
section
/-! DEFINITION. The flags of `fflags` (R50), the rounding modes of `frm` (R49), and the results of integer compares
(R180), which are all the flag computations of the instruction set: integer arithmetic raises none (R171). -/
namespace Sys2Proof.Machine

/-- The flags that an operation raises (R50). -/
structure Raised where
  nv : Bool
  dz : Bool
  ovf : Bool
  unf : Bool
  nx : Bool
  deriving DecidableEq, Repr

def Raised.none : Raised := { nv := false, dz := false, ovf := false, unf := false, nx := false }
def Raised.invalid : Raised := { Raised.none with nv := true }
def Raised.divZero : Raised := { Raised.none with dz := true }
def Raised.inexact : Raised := { Raised.none with nx := true }
/-- Flags accrue (R50). -/
def Raised.or (a b : Raised) : Raised :=
  { nv := a.nv || b.nv, dz := a.dz || b.dz, ovf := a.ovf || b.ovf, unf := a.unf || b.unf, nx := a.nx || b.nx }
/-- The bits of `fflags`: NV 4, DZ 3, OF 2, UF 1, NX 0 (R50). -/
def Raised.bits (a : Raised) : BitVec 5 :=
  BitVec.ofNat 5 (16 * bitNat a.nv + 8 * bitNat a.dz + 4 * bitNat a.ovf + 2 * bitNat a.unf + bitNat a.nx)

/-- The rounding modes (R49). -/
inductive Mode where
  | rne
  | rtz
  | rup
  | rdn
  deriving DecidableEq, Repr

def Mode.of (x : Nat) : Mode := match x % 4 with | 0 => .rne | 1 => .rtz | 2 => .rup | _ => .rdn

/-- The relations of SCMP and VCMP (R180) on words and on 64-bit values. -/
def cmpEq (a b : Word) : Bool := a == b
def cmpNe (a b : Word) : Bool := a != b
def cmpLt (a b : Word) : Bool := decide (a.toInt < b.toInt)
def cmpLe (a b : Word) : Bool := decide (a.toInt ≤ b.toInt)
def cmpLtn (a b : Word) : Bool := decide (a.toNat < b.toNat)
def cmpLen (a b : Word) : Bool := decide (a.toNat ≤ b.toNat)
def cmpEq64 (a b : Dword) : Bool := a == b
def cmpLt64 (a b : Dword) : Bool := decide (a.toInt < b.toInt)
def cmpLtn64 (a b : Dword) : Bool := decide (a.toNat < b.toNat)

end Sys2Proof.Machine
end

