-- ==== Sys2Proof/Machine/Float.lean ====
section
/-! DEFINITION. Binary floating point (R47 to R53, R65) on exact values: every operation computes exactly and rounds
once. A result is a bit pattern, as a number, with the flags raised. -/
namespace Sys2Proof.Machine

/-! ## Formats and values -/

/-- A binary format: exponent bits and fraction bits (R47). -/
structure Fmt where
  ebits : Nat
  mbits : Nat
  deriving DecidableEq, Repr

def fp64 : Fmt := { ebits := 11, mbits := 52 }
def fp32 : Fmt := { ebits := 8, mbits := 23 }
def bf16 : Fmt := { ebits := 8, mbits := 7 }
def fp16 : Fmt := { ebits := 5, mbits := 10 }

def Fmt.bias (f : Fmt) : Nat := 2 ^ (f.ebits - 1) - 1
/-- The exponent of the smallest normal value. -/
def Fmt.emin (f : Fmt) : Int := 1 - (f.bias : Int)
/-- The pattern of +∞, of the canonical NaN (R47, R48), and of the sign bit. -/
def Fmt.infCode (f : Fmt) : Nat := (2 ^ f.ebits - 1) * 2 ^ f.mbits
def Fmt.nanCode (f : Fmt) : Nat := f.infCode + 2 ^ (f.mbits - 1)
def Fmt.signBit (f : Fmt) : Nat := 2 ^ (f.ebits + f.mbits)

/-- A value: a NaN, signalling or quiet; an infinity; or (-1)^neg × m × 2^e. -/
inductive Fv where
  | nan (sig : Bool)
  | inf (neg : Bool)
  | fin (neg : Bool) (m : Nat) (e : Int)
  deriving DecidableEq, Repr

/-- The magnitude bits and the sign of a pattern. -/
def Fmt.mag (f : Fmt) (x : Nat) : Nat := x % f.signBit
def Fmt.neg (f : Fmt) (x : Nat) : Bool := x / f.signBit % 2 == 1
/-- The pattern of a sign and magnitude bits. -/
def Fmt.signed (f : Fmt) (neg : Bool) (x : Nat) : Nat := if neg then x + f.signBit else x

/-- The value of a pattern (R47). -/
def Fmt.value (f : Fmt) (x : Nat) : Fv :=
  let e := f.mag x / 2 ^ f.mbits
  let m := x % 2 ^ f.mbits
  if e = 2 ^ f.ebits - 1 then (if m = 0 then .inf (f.neg x) else .nan (m < 2 ^ (f.mbits - 1)))
  else if e = 0 then .fin (f.neg x) m (f.emin - f.mbits)
  else .fin (f.neg x) (2 ^ f.mbits + m) ((e : Int) - f.bias - f.mbits)

/-- A subnormal operand of an `ftz` form is a zero of its sign (R51). -/
def Fmt.flush (f : Fmt) (x : Nat) : Nat := if f.mag x < 2 ^ f.mbits then f.signed (f.neg x) 0 else x

def Fv.isNan : Fv → Bool | .nan _ => true | _ => false
def Fv.isSig : Fv → Bool | .nan s => s | _ => false
/-- The value with its sign inverted. -/
def Fv.negate : Fv → Fv | .inf n => .inf !n | .fin n m e => .fin (!n) m e | v => v

/-- A bit pattern with the flags raised. -/
abbrev Rounded := Nat × Raised

/-- The canonical NaN, with NV when asked (R48). -/
def Fmt.nanOut (f : Fmt) (nv : Bool) : Rounded := (f.nanCode, { Raised.none with nv := nv })
/-- An exact result. -/
def exactly (x : Nat) : Rounded := (x, Raised.none)
def Fmt.infOut (f : Fmt) (neg : Bool) : Rounded := exactly (f.signed neg f.infCode)

/-! ## Rounding -/

/-- Whether a remainder rounds up in magnitude (R49): `odd` of the kept part, remainder and divisor. -/
def Mode.up (mode : Mode) (neg odd : Bool) (rem div : Nat) : Bool :=
  match mode with
  | .rne => decide (div < 2 * rem) || (decide (div = 2 * rem) && odd)
  | .rtz => false
  | .rup => decide (0 < rem) && !neg
  | .rdn => decide (0 < rem) && neg

/-- m × 2^-k rounded to an integer magnitude, and whether it is inexact. -/
def roundShift (mode : Mode) (neg : Bool) (m : Nat) (k : Int) : Nat × Bool :=
  if k ≤ 0 then (m * 2 ^ (-k).toNat, false)
  else
    let d := 2 ^ k.toNat
    let q := m / d
    (if mode.up neg (q % 2 == 1) (m % d) d then q + 1 else q, m % d != 0)

/-- (-1)^neg × m × 2^e rounded once to a format (R49, R50, R53); `ftz` delivers a zero for a subnormal result (R51). -/
def Fmt.round (f : Fmt) (mode : Mode) (ftz neg : Bool) (m : Nat) (e : Int) : Rounded :=
  if m = 0 then exactly (f.signed neg 0)
  else
    let top : Int := (Nat.log2 m : Int) + e
    let qmin : Int := f.emin - f.mbits
    let q : Int := max (top - f.mbits) qmin
    let r := roundShift mode neg m (q - e)
    let code := (q - qmin).toNat * 2 ^ f.mbits + r.1
    let full := (roundShift mode neg m (top - f.mbits - e)).1
    let tiny := decide (top < f.emin) && !(decide (top = f.emin - 1) && full == 2 ^ (f.mbits + 1))
    if f.infCode ≤ code then
      let toInf := match mode with | .rne => true | .rtz => false | .rup => !neg | .rdn => neg
      (f.signed neg (if toInf then f.infCode else f.infCode - 1), { Raised.none with ovf := true, nx := true })
    else if ftz ∧ 0 < code ∧ code < 2 ^ f.mbits then
      (f.signed neg 0, { Raised.none with unf := true, nx := true })
    else (f.signed neg code, { Raised.none with unf := tiny && r.2, nx := r.2 })

/-- (-1)^neg × (n / d) × 2^e rounded once: the quotient to more bits than any format keeps, and a bit for what is left. -/
def Fmt.roundRatio (f : Fmt) (mode : Mode) (ftz neg : Bool) (n d : Nat) (e : Int) : Rounded :=
  let k := 64 + Nat.log2 d - Nat.log2 n
  let a := n * 2 ^ k
  f.round mode ftz neg (2 * (a / d) + bitNat (a % d != 0)) (e - k - 1)

/-! ## Arithmetic -/

/-- The signed sum of two finite values, over the smaller exponent. -/
def alignSum (n1 : Bool) (m1 : Nat) (e1 : Int) (n2 : Bool) (m2 : Nat) (e2 : Int) : Int × Int :=
  let e := min e1 e2
  let a : Int := m1 * 2 ^ (e1 - e).toNat
  let b : Int := m2 * 2 ^ (e2 - e).toNat
  ((if n1 then -a else a) + (if n2 then -b else b), e)

/-- The sum of two values that are no NaN, rounded; the sign of an exact zero by R198. -/
def Fmt.sum (f : Fmt) (mode : Mode) (ftz : Bool) (x y : Fv) : Rounded :=
  match x, y with
  | .inf n1, .inf n2 => if n1 = n2 then f.infOut n1 else f.nanOut true
  | .inf n1, _ => f.infOut n1
  | _, .inf n2 => f.infOut n2
  | .fin n1 m1 e1, .fin n2 m2 e2 =>
    let r := alignSum n1 m1 e1 n2 m2 e2
    if r.1 = 0 then exactly (f.signed (if n1 = n2 then n1 else mode == .rdn) 0)
    else f.round mode ftz (decide (r.1 < 0)) r.1.natAbs r.2
  | _, _ => f.nanOut false

/-- Operands as an instruction reads them. -/
def Fmt.read (f : Fmt) (ftz : Bool) (x : Nat) : Fv := f.value (if ftz then f.flush x else x)

def Fmt.add (f : Fmt) (ftz : Bool) (mode : Mode) (a b : Nat) : Rounded :=
  let x := f.read ftz a
  let y := f.read ftz b
  if x.isNan || y.isNan then f.nanOut (x.isSig || y.isSig) else f.sum mode ftz x y
def Fmt.sub (f : Fmt) (ftz : Bool) (mode : Mode) (a b : Nat) : Rounded :=
  let x := f.read ftz a
  let y := f.read ftz b
  if x.isNan || y.isNan then f.nanOut (x.isSig || y.isSig) else f.sum mode ftz x y.negate

/-- The exact product of two values; none for 0 × ∞ (R65). -/
def Fv.times (x y : Fv) : Option Fv :=
  match x, y with
  | .fin n1 m1 e1, .fin n2 m2 e2 => some (.fin (n1 ^^ n2) (m1 * m2) (e1 + e2))
  | .inf n1, .inf n2 => some (.inf (n1 ^^ n2))
  | .inf n1, .fin n2 m2 _ => if m2 = 0 then none else some (.inf (n1 ^^ n2))
  | .fin n1 m1 _, .inf n2 => if m1 = 0 then none else some (.inf (n1 ^^ n2))
  | _, _ => some (.nan false)

def Fmt.mul (f : Fmt) (ftz : Bool) (mode : Mode) (a b : Nat) : Rounded :=
  let x := f.read ftz a
  let y := f.read ftz b
  if x.isNan || y.isNan then f.nanOut (x.isSig || y.isSig)
  else match x.times y with
    | some (.fin n m e) => f.round mode ftz n m e
    | some (.inf n) => f.infOut n
    | _ => f.nanOut true

/-- ±(a × b) ± d rounded once (R65, R199). -/
def Fmt.fma (f : Fmt) (ftz negProduct negAddend : Bool) (mode : Mode) (a b d : Nat) : Rounded :=
  let x := f.read ftz a
  let y := f.read ftz b
  let z := f.read ftz d
  let sig := x.isSig || y.isSig || z.isSig
  match x.times y with
  | none => f.nanOut true
  | some p =>
    if p.isNan || z.isNan then f.nanOut sig
    else f.sum mode ftz (if negProduct then p.negate else p) (if negAddend then z.negate else z)

/-- The place of a pattern that is no NaN in value order, −0 below +0 (R52). -/
def Fmt.rank (f : Fmt) (x : Nat) : Int := if f.neg x then -(f.mag x : Int) - 1 else (f.mag x : Int)

/-- minimumNumber and maximumNumber (R52). -/
def Fmt.pickOf (f : Fmt) (ftz larger : Bool) (a b : Nat) : Rounded :=
  let a := if ftz then f.flush a else a
  let b := if ftz then f.flush b else b
  let x := f.value a
  let y := f.value b
  let nv := x.isSig || y.isSig
  if x.isNan && y.isNan then f.nanOut nv
  else (if x.isNan then b else if y.isNan then a
        else if decide (f.rank a ≤ f.rank b) == larger then b else a, { Raised.none with nv := nv })
def Fmt.min (f : Fmt) (ftz : Bool) (_ : Mode) (a b : Nat) : Rounded := f.pickOf ftz false a b
def Fmt.max (f : Fmt) (ftz : Bool) (_ : Mode) (a b : Nat) : Rounded := f.pickOf ftz true a b

/-- Division (R200). -/
def Fmt.div (f : Fmt) (ftz : Bool) (mode : Mode) (a b : Nat) : Rounded :=
  let x := f.read ftz a
  let y := f.read ftz b
  match x, y with
  | .fin n1 m1 e1, .fin n2 m2 e2 =>
    if m2 = 0 then (if m1 = 0 then f.nanOut true else (f.signed (n1 ^^ n2) f.infCode, Raised.divZero))
    else if m1 = 0 then exactly (f.signed (n1 ^^ n2) 0)
    else f.roundRatio mode ftz (n1 ^^ n2) m1 m2 (e1 - e2)
  | .inf n1, .fin n2 _ _ => f.infOut (n1 ^^ n2)
  | .fin n1 _ _, .inf n2 => exactly (f.signed (n1 ^^ n2) 0)
  | .inf _, .inf _ => f.nanOut true
  | _, _ => f.nanOut (x.isSig || y.isSig)

/-- The integer square root, bit by bit from 2^k down. -/
def rootFrom (n : Nat) : Nat → Nat → Nat
  | 0, r => if (r + 1) * (r + 1) ≤ n then r + 1 else r
  | k + 1, r => rootFrom n k (if (r + 2 ^ (k + 1)) * (r + 2 ^ (k + 1)) ≤ n then r + 2 ^ (k + 1) else r)
def floorRoot (n : Nat) : Nat := rootFrom n (Nat.log2 n / 2 + 1) 0

/-- Square root (R200, R203). -/
def Fmt.sqrt (f : Fmt) (ftz : Bool) (mode : Mode) (a : Nat) : Rounded :=
  match f.read ftz a with
  | .nan s => f.nanOut s
  | .inf n => if n then f.nanOut true else f.infOut false
  | .fin n m e =>
    if m = 0 then exactly (f.signed n 0)
    else if n then f.nanOut true
    else
      let m := if e % 2 = 0 then m else 2 * m
      let e := if e % 2 = 0 then e else e - 1
      let x := m * 2 ^ 128
      let r := floorRoot x
      f.round mode ftz false (2 * r + bitNat (r * r != x)) (e / 2 - 64 - 1)

/-! ## Comparisons (R201) -/

/-- Relations of FCMP on patterns, with NV. -/
def Fmt.unordered (f : Fmt) (a b : Nat) : Bool := (f.value a).isNan || (f.value b).isNan
def Fmt.anySig (f : Fmt) (a b : Nat) : Bool := (f.value a).isSig || (f.value b).isSig
/-- Value order, with −0 equal to +0. -/
def Fmt.order (f : Fmt) (a : Nat) : Int := if f.neg a then -(f.mag a : Int) else (f.mag a : Int)
def Fmt.eq (f : Fmt) (a b : Nat) : Bool × Bool := (!f.unordered a b && f.order a == f.order b, f.anySig a b)
def Fmt.ne (f : Fmt) (a b : Nat) : Bool × Bool := (f.unordered a b || f.order a != f.order b, f.anySig a b)
def Fmt.lt (f : Fmt) (a b : Nat) : Bool × Bool := (!f.unordered a b && decide (f.order a < f.order b), f.unordered a b)
def Fmt.le (f : Fmt) (a b : Nat) : Bool × Bool := (!f.unordered a b && decide (f.order a ≤ f.order b), f.unordered a b)
def Fmt.un (f : Fmt) (a b : Nat) : Bool × Bool := (f.unordered a b, f.anySig a b)

/-! ## Conversions (R53, R204 to R208) -/

/-- From one format to another. -/
def convert (src dst : Fmt) (mode : Mode) (a : Nat) : Rounded :=
  match src.value a with
  | .nan s => dst.nanOut s
  | .inf n => dst.infOut n
  | .fin n m e => dst.round mode false n m e

/-- To an integer of `w` bits, signed or natural (R53, R205). -/
def Fmt.toInteger (f : Fmt) (signed : Bool) (w : Nat) (mode : Mode) (a : Nat) : Rounded :=
  let lo : Int := if signed then -(2 ^ (w - 1) : Nat) else 0
  let hi : Int := if signed then ((2 ^ (w - 1) : Nat) : Int) - 1 else ((2 ^ w : Nat) : Int) - 1
  match f.value a with
  | .nan _ => (0, Raised.invalid)
  | .inf n => (wrapInt w (if n then lo else hi), Raised.invalid)
  | .fin n m e =>
    let r := roundShift mode n m (-e)
    let i : Int := if n then -(r.1 : Int) else (r.1 : Int)
    if i < lo then (wrapInt w lo, Raised.invalid)
    else if hi < i then (wrapInt w hi, Raised.invalid)
    else (wrapInt w i, { Raised.none with nx := r.2 })

/-- From an integer of `w` bits. -/
def Fmt.ofInteger (f : Fmt) (signed : Bool) (w : Nat) (mode : Mode) (a : Nat) : Rounded :=
  let i : Int := if signed then signedNat w a else (a : Int)
  f.round mode false (decide (i < 0)) i.natAbs 0

/-- `rnd` (R206). -/
def Fmt.integral (f : Fmt) (mode : Mode) (a : Nat) : Rounded :=
  match f.value a with
  | .nan s => f.nanOut s
  | .inf n => f.infOut n
  | .fin n m e => if 0 ≤ e then exactly a else exactly (f.round .rne false n (roundShift mode n m (-e)).1 0).1

/-- `cls` (R207). -/
def Fmt.classOf (f : Fmt) (a : Nat) : Nat :=
  match f.value a with
  | .nan s => if s then 256 else 512
  | .inf n => if n then 1 else 128
  | .fin n m _ =>
    if m = 0 then (if n then 8 else 16)
    else if m < 2 ^ f.mbits then (if n then 4 else 32)
    else (if n then 2 else 64)

/-- `frexpm` and `frexpe` (R208). -/
def Fmt.frexpm (f : Fmt) (a : Nat) : Rounded :=
  match f.value a with
  | .nan s => f.nanOut s
  | .inf n => f.infOut n
  | .fin n m _ => if m = 0 then exactly a else f.round .rne false n m (-(Nat.log2 m : Int) - 1)
def Fmt.frexpe (f : Fmt) (a : Nat) : Rounded :=
  match f.value a with
  | .nan s => (0, { Raised.none with nv := s })
  | .inf _ => exactly 0
  | .fin _ m e => if m = 0 then exactly 0 else exactly (wrapInt 32 ((Nat.log2 m : Int) + 1 + e))

/-- `ldexp` (R208). Every exponent beyond ±8192 gives what ±8192 gives: the result lies outside every format's range. -/
def Fmt.ldexp (f : Fmt) (mode : Mode) (a b : Nat) : Rounded :=
  match f.value a with
  | .nan s => f.nanOut s
  | .inf n => f.infOut n
  | .fin n m e =>
    let k := signedNat 32 b
    f.round mode false n m (e + (if k < -8192 then -8192 else if 8192 < k then 8192 else k))

/-! ## Special functions of FP32 (R202, R203)

Each works on a fixed-point number of `P` fraction bits. A value that no format holds is rounded from an approximation
that lies on the same side of every rounding boundary: one extra bit, always set, stands for what is cut off. -/

/-- Products in fixed point. -/
def fixMul (p a b : Nat) : Nat := a * b / 2 ^ p
/-- The sum of `n` terms of a series in which term k + 1 is term k times `x` over `den k`, alternating when asked. -/
def series (p : Nat) (x : Nat) (alt : Bool) (den : Nat → Nat) : Nat → Nat → Nat → Int
  | 0, _, _ => 0
  | n + 1, k, t => (t : Int) + (if alt then -1 else 1) * series p x alt den n (k + 1) (fixMul p t x / den k)

/-- ln 2 and log2 e to 256 bits, π/2 to 640 bits. -/
def ln2Fix : Nat := 0xb17217f7d1cf79abc9e3b39803f2f6af40f343267298b62d8a0d175b8baafa2b
def log2eFix : Nat := 0x171547652b82fe1777d0ffda0d23a7d11d6aef551bad2b4b1164a2cd9a342648f
def halfPiFix : Nat :=
  0x1921fb54442d18469898cc51701b839a252049c1114cf98e804177d4c76273644a29410f31c6809bbdf2a33679a748636605614dbe4be286e9fc26adadaa3848bc90b6aecc4bcfd8de89885d34c6fdad6

/-- 1 / √a, to nearest (R203). -/
def rsqrt32 (a : Nat) : Rounded :=
  match fp32.value a with
  | .nan s => fp32.nanOut s
  | .inf n => if n then fp32.nanOut true else exactly 0
  | .fin n m e =>
    if m = 0 then (fp32.signed n fp32.infCode, Raised.divZero)
    else if n then fp32.nanOut true
    else
      let m := if e % 2 = 0 then m else 2 * m
      let e := if e % 2 = 0 then e else e - 1
      let r := floorRoot (2 ^ 192 / m)
      fp32.round .rne false false (2 * r + bitNat (r * r * m != 2 ^ 192)) (-(e / 2) - 96 - 1)

/-- 2^a, to nearest (R203). -/
def exp2of32 (a : Nat) : Rounded :=
  match fp32.value a with
  | .nan s => fp32.nanOut s
  | .inf n => if n then exactly 0 else fp32.infOut false
  | .fin n m e =>
    if 0 ≤ (Nat.log2 m : Int) + e - 8 ∧ m ≠ 0 then fp32.round .rne false false 1 (if n then -512 else 512)
    else
      let x : Nat := m * 2 ^ (256 + e).toNat
      let y : Int := if n then -(x : Int) else (x : Int)
      let k : Int := y / (2 ^ 256 : Nat)
      let f : Nat := (y % (2 ^ 256 : Nat)).toNat
      if f = 0 then fp32.round .rne false false 1 k
      else
        let v := series 256 (fixMul 256 f ln2Fix) false (· + 1) 64 0 (2 ^ 256)
        fp32.round .rne false false (2 * v.toNat + 1) (k - 257)

/-- log2 a, to nearest (R203): n + log2 m for a = m × 2^n with 3/4 ≤ m < 3/2. -/
def log2of32 (a : Nat) : Rounded :=
  match fp32.value a with
  | .nan s => fp32.nanOut s
  | .inf n => if n then fp32.nanOut true else fp32.infOut false
  | .fin n m e =>
    if m = 0 then (fp32.signed true fp32.infCode, Raised.divZero)
    else if n then fp32.nanOut true
    else
      let l := Nat.log2 m
      if m = 2 ^ l then
        let i : Int := (l : Int) + e
        fp32.round .rne false (decide (i < 0)) i.natAbs 0
      else
        let up := decide (3 * 2 ^ l ≤ 2 * m)
        let d : Nat := if up then 2 ^ (l + 1) else 2 ^ l
        let k : Int := (l : Int) + e + bitNat up
        let below := decide (m < d)
        let z := (if below then d - m else m - d) * 2 ^ 256 / (m + d)
        let zz := fixMul 256 z z
        let s := (List.range 64).foldl (fun (acc : Nat × Nat) i => (acc.1 + acc.2 / (2 * i + 1), fixMul 256 acc.2 zz)) (0, z)
        let v : Nat := fixMul 256 (2 * s.1) log2eFix
        let r : Int := k * (2 ^ 256 : Nat) + (if below then -(v : Int) else (v : Int))
        fp32.round .rne false (decide (r < 0)) (2 * r.natAbs + 1) (-257)

/-- The result of a faithful function whose exact value is not representable, from its magnitude in 512 bits (R202). -/
def faithful (fn : Nat) (a : Nat) (neg : Bool) (v : Nat) : Rounded :=
  let up := Config.faithfulUp fn (BitVec.ofNat 32 a)
  let r := fun (mode : Mode) => (fp32.round mode false neg (2 * v + 1) (-513)).1
  let lower := r .rdn
  let upper := r .rup
  (if up then upper else lower, { Raised.none with nx := true, unf := decide (v < 2 ^ 386) })

/-- sin r and cos r for r of 512 fraction bits below π/2. -/
def sinFix (r : Nat) : Nat := (series 512 (fixMul 512 r r) true (fun k => (2 * k + 2) * (2 * k + 3)) 56 0 r).toNat
def cosFix (r : Nat) : Nat := (series 512 (fixMul 512 r r) true (fun k => (2 * k + 1) * (2 * k + 2)) 56 0 (2 ^ 512)).toNat

/-- sin a, or cos a when `shift` is 1 (R202, R203): the argument is reduced by π/2. -/
def sinOf32 (fn shift : Nat) (a : Nat) : Rounded :=
  match fp32.value a with
  | .nan s => fp32.nanOut s
  | .inf _ => fp32.nanOut true
  | .fin n m e =>
    if m = 0 then exactly (if shift = 1 then 0x3F800000 else a)
    else
      let x := m * 2 ^ (640 + e).toNat
      let q := x / halfPiFix + shift
      let r := x % halfPiFix / 2 ^ 128
      let v := if q % 2 = 0 then sinFix r else cosFix r
      faithful fn a ((decide (2 ≤ q % 4)) ^^ (n && shift == 0)) (Nat.min v (2 ^ 512 - 1))

/-- tanh a (R202, R203), from exp(-2 |a|) by six squarings. -/
def tanh32 (a : Nat) : Rounded :=
  match fp32.value a with
  | .nan s => fp32.nanOut s
  | .inf n => exactly (fp32.signed n 0x3F800000)
  | .fin n m e =>
    if m = 0 then exactly a
    else if 4 ≤ (Nat.log2 m : Int) + e then faithful 7 a n (2 ^ 512 - 1)
    else
      let y := m * 2 ^ (512 + e).toNat / 32
      let t := (series 512 y true (· + 1) 96 0 (2 ^ 512)).toNat
      let t := (List.range 6).foldl (fun t _ => fixMul 512 t t) t
      faithful 7 a n ((2 ^ 512 - t) * 2 ^ 512 / (2 ^ 512 + t))

end Sys2Proof.Machine
end

