-- ==== Sys2Proof/Machine/Operands.lean ====
section
/-! DEFINITION. Operands (R134, R135, R137): what each source code delivers in a lane form and in a uniform form, and
which registers a form names (R172). A source that is an invalid latch delivers nothing (R31). -/
namespace Sys2Proof.Machine

/-- What an operand can depend on beside the thread: the warp, its place, the sampled cycle counter (R194). -/
structure Ctx where
  warp : Warp
  place : Place
  clk : Dword

/-- The special codes as 32-bit values (R135). -/
def Ctx.special (c : Ctx) (t code : Nat) : Word :=
  match code with
  | 0x65 => BitVec.ofNat 32 t
  | 0x66 => BitVec.ofNat 32 c.place.wix
  | 0x67 => BitVec.ofNat 32 c.place.cix
  | 0x68 => lowWord c.place.gix
  | 0x69 => highWord c.place.gix
  | 0x6A => BitVec.ofNat 32 c.place.stg
  | 0x6B => BitVec.ofNat 32 c.place.band
  | 0x6C => lowWord c.clk
  | 0x6D => 0x3F800000
  | _ => 0

/-- The special codes as 64-bit values (R135); `fp` marks an FP64 operand. -/
def Ctx.special64 (c : Ctx) (fp : Bool) (t code : Nat) : Dword :=
  match code with
  | 0x68 => c.place.gix
  | 0x6C => c.clk
  | 0x6D => if fp then 0x3FF0000000000000 else pairOf 0x3F800000 0
  | _ => pairOf (c.special t code) 0

/-- A latch (R29). -/
def Thread.latchOf (th : Thread) (k : Nat) : Option Word :=
  match k with | 0 => th.l0 | 1 => th.l1 | 2 => th.l2 | _ => th.l3

/-- A 32-bit source of a lane form (R134). -/
def Ctx.src (c : Ctx) (t : Nat) (th : Thread) (code : BitVec 7) : Option Word :=
  let n := code.toNat
  if n < 0x40 then some (th.vreg n)
  else if n < 0x60 then some (c.warp.sreg (n - 0x40))
  else if n < 0x64 then th.latchOf (n - 0x60)
  else some (c.special t n)

/-- A latch pair: 0x60 is l1 below l0, 0x62 is l3 below l2 (R137). -/
def Thread.latchPair (th : Thread) (n : Nat) : Option Dword :=
  match if n = 0x60 then th.l1 else th.l3, if n = 0x60 then th.l0 else th.l2 with
  | some lo, some hi => some (pairOf lo hi)
  | _, _ => none

/-- A 64-bit source of a lane form (R135, R137). -/
def Ctx.src64 (c : Ctx) (fp : Bool) (t : Nat) (th : Thread) (code : BitVec 7) : Option Dword :=
  let n := code.toNat
  if n < 0x40 then some (th.vpair n)
  else if n < 0x60 then some (c.warp.spair (n - 0x40))
  else if n < 0x64 then th.latchPair n
  else some (c.special64 fp t n)

/-- A 32-bit source of a uniform form (R134). -/
def Ctx.usrc (c : Ctx) (code : BitVec 7) : Word :=
  let n := code.toNat
  if n < 0x20 then c.warp.sreg n else if n < 0x60 then c.warp.sreg (n - 0x40) else c.special 0 n

/-- A 64-bit source of a uniform form: a scalar pair (R179). -/
def Ctx.usrc64 (c : Ctx) (code : BitVec 7) : Dword :=
  c.warp.spair (code.toNat % 0x40)

/-- The A5 code of a 16-bit instruction as a source code: v0 to v27, then l0 to l3 (R131). -/
def shortCode (a : BitVec 5) : BitVec 7 := BitVec.ofNat 7 (if a.toNat < 28 then a.toNat else 0x60 + (a.toNat - 28))

/-! ## The registers that a form names (R172) -/

/-- Vector registers, scalar registers read, and scalar registers written. -/
structure Uses where
  v : List Nat
  s : List Nat
  d : List Nat

def Uses.none : Uses := { v := [], s := [], d := [] }
def Uses.and (a b : Uses) : Uses := { v := a.v ++ b.v, s := a.s ++ b.s, d := a.d ++ b.d }
/-- `k` consecutive vector registers, scalar registers read, or scalar registers written. -/
def useV (n k : Nat) : Uses := { v := (List.range k).map (n + ·), s := [], d := [] }
def useS (n k : Nat) : Uses := { v := [], s := (List.range k).map (n + ·), d := [] }
def useD (n k : Nat) : Uses := { v := [], s := [], d := (List.range k).map (n + ·) }
/-- A source code of a lane form that delivers `k` registers. -/
def useSrc (code : BitVec 7) (k : Nat) : Uses :=
  let n := code.toNat
  if n < 0x40 then useV n k else if n < 0x60 then useS (n - 0x40) k else Uses.none
/-- A source code of a uniform form. -/
def useUni (code : BitVec 7) (k : Nat) : Uses :=
  let n := code.toNat
  if n < 0x20 then useS n k else if n < 0x60 then useS (n - 0x40) k else Uses.none

/-- Whether every register named is declared (R172). -/
def Uses.declared (u : Uses) (w : Warp) : Bool := u.v.all (· < w.kv) && u.s.all (· < w.ks) && u.d.all (· < w.ks)

/-- The first pending scalar register that a form reads, or writes (R251). -/
def Uses.pendingRead (u : Uses) (w : Warp) : Option Nat := u.s.find? fun n => (tfind w.pend n).isSome
def Uses.pendingWrite (u : Uses) (w : Warp) : Option Nat := u.d.find? fun n => (tfind w.pend n).isSome

end Sys2Proof.Machine
end

