-- ==== Sys2Proof/Machine/Ops.lean ====
section
/-! DEFINITION. The shared operations of the machine: the fault log and alarms (R349, R395), barriers (R32, R36, R298),
the end of threads, warps and launches (R20, R253, R335), taking a trap and returning from one (R328 to R334, R284), and
the shapes that every instruction's meaning has. -/
namespace Sys2Proof.Machine

/-! ## The fault log -/

/-- A fault record (R349). -/
structure FaultRec where
  va : Dword
  cause : Nat
  sub : Nat
  core : Nat
  source : Nat
  queue : Nat

def FaultRec.bytes (r : FaultRec) : List Byte :=
  natBytes 8 r.va.toNat ++ natBytes 4 r.cause ++ natBytes 4 r.sub ++ natBytes 2 r.core ++ natBytes 2 r.source ++
    natBytes 4 r.queue ++ List.replicate 8 0

/-- A device write to a partition's physical address at a view time (R313, R316, R349): it waits for a port that is down (R16,
R376), and cannot be performed where the address reaches nothing or a register, on a lost line, or when a peer refuses it. -/
def State.deviceWrite (s : State) (p : Partition) (v : Dword) (pa : Nat) (bs : List Byte) : Answer (State × Dword) :=
  let t := s.reach p 0 pa
  let put := if s.lostTarget t then Answer.trap (trapAt 0xB 0 0) else .ok (s.writeHome v t bs)
  match t with
  | .down x => .wait x
  | .peer dev port off => (s.peerStore .weak dev port off bs 0).andThen fun s => .ok (s, v)
  | .dram _ _ _ => put
  | .pad _ => put
  | .host _ _ _ _ => put
  | _ => .trap (trapAt 6 5 0)

/-- Write a record at FLTAIL, or drop it and set OVF (R349). The spec does not say what becomes of a record whose address lies
behind a port that is down: it counts as one that cannot be written (log 78). -/
def State.logFault (s : State) (k : Nat) (r : FaultRec) : State :=
  match s.part k with
  | none => s
  | some p =>
    let dropped := s.setPart k { p with flovf := true }
    if !p.flen then s
    else if (p.fltail - p.flhead).toNat = 2 ^ p.fllogn then dropped
    else match s.deviceWrite p 0 (p.flbase.toNat + 32 * (p.fltail.toNat % 2 ^ p.fllogn)) r.bytes with
      | .ok w => w.1.onPart k fun p => { p with fltail := p.fltail + 1 }
      | _ => dropped

/-- The queue number that a record shows for a launch. -/
def Launch.queueNo (l : Launch) : Nat := l.queue.getD 0xFFFFFFFF

/-! ## Barriers -/

/-- The threads of a warp that have not finished. -/
def Warp.unfinished (w : Warp) : Word := w.where_ fun t => t.status != .finished

/-- A thread that a convergence barrier releases (R32, R34). -/
def Thread.release (n : Nat) (expired : Bool) (th : Thread) : Thread :=
  match th.status with
  | .converge m k next => if m = n then { th.setP k expired with status := .ready, pc := next } else th
  | _ => th

/-- The completion or freedom check of a convergence barrier (R32). -/
def Warp.settleBar (w : Warp) (n : Nat) : Warp :=
  let b := w.bar n
  if b.m = 0 then (w.onThreads b.z (Thread.release n false)).setBar n { b with z := 0, expiry := [] }
  else if b.m &&& ~~~b.z = 0 then (w.onThreads b.z (Thread.release n false)).setBar n Barrier.init
  else w

/-- `cvb.drop` (R32): the threads leave the barriers of a mask, and each of those is checked. -/
def Warp.dropBars (w : Warp) (ts : Word) (mask : BitVec 16) : Warp :=
  (List.range 16).foldl (fun w n =>
    if mask.getLsbD n then
      let b := w.bar n
      (w.setBar n { m := b.m &&& ~~~ts, z := b.z &&& ~~~ts, expiry := b.expiry.filter fun e => !inMask ts e.1 }).settleBar n
    else w) w

/-- Whether every unfinished thread of a warp, and one at least, has a status. -/
def Warp.allIn (w : Warp) (f : Status → Bool) : Bool :=
  w.unfinished != 0 && (List.range 32).all fun t =>
    let st := (w.thread t).status
    st == .finished || f st

def Status.inCrew : Status → Bool | .crewBarrier _ => true | _ => false
def Status.inGang : Status → Bool | .gangBarrier _ => true | _ => false

/-- The keys and records of a crew's warps. -/
def State.warpsOf (s : State) (c : Crew) : List (Nat × Warp) := c.warps.filterMap fun k => (s.warp k).map fun w => (k, w)

/-- The largest view time among the threads of some warps. -/
def viewOf (ws : List (Nat × Warp)) : Dword :=
  ws.foldl (fun v e => e.2.threads.foldl (fun v t => laterOf v t.view) v) 0

/-- A thread that a crew or gang barrier releases; it has then seen what every party had done (R36). -/
def Thread.pass (f : Status → Bool) (v : Dword) (th : Thread) : Thread :=
  if f th.status then
    match th.status with
    | .crewBarrier next => { th with status := .ready, pc := next, view := laterOf th.view v }
    | .gangBarrier next => { th with status := .ready, pc := next, view := laterOf th.view v }
    | _ => th
  else th

/-- Release every thread of a crew that waits in a crew, or a gang, barrier. -/
def State.passCrew (s : State) (c : Crew) (f : Status → Bool) (v : Dword) : State :=
  c.warps.foldl (fun s k => s.onWarp k fun w => w.mapThreads fun _ th => th.pass f v) s

/-- The arrivals and the completion of a crew barrier (R36, R298). -/
def State.settleCrew (s : State) (ck : Nat) : State :=
  match s.crew ck with
  | none => s
  | some c =>
    let ws := s.warpsOf c
    let arrived := ws.foldl (fun m e => if e.2.allIn Status.inCrew then setBit m e.2.wix true else m) c.arrived
    let live := ws.filter fun e => e.2.unfinished != 0
    if !live.isEmpty && live.all fun e => arrived.getLsbD e.2.wix then
      (s.setCrew ck { c with arrived := 0 }).passCrew c Status.inCrew (viewOf ws)
    else s.setCrew ck { c with arrived := arrived }

/-- Whether a crew is on its core and not being pre-empted (R342). -/
def State.crewHere (s : State) (c : Crew) : Bool :=
  c.state == .resident && (s.warpsOf c).all fun e => e.2.unfinished == 0 ||
    (e.2.run == .resident && e.2.threads.all fun t => t.handler != .preempt && t.handler != .nestedPreempt)

/-- The arrivals and the completion of a gang barrier (R36, R298, R342): suspended crews must have resumed. -/
def State.settleGang (s : State) (gk : Nat) : State :=
  match s.gang gk with
  | none => s
  | some g =>
    let crews := g.crews.filterMap fun k => s.crew k
    let live := crews.filter fun c => c.state != .finished && (s.warpsOf c).any fun e => e.2.unfinished != 0
    let here := fun (c : Crew) => s.crewHere c &&
      (s.warpsOf c).all fun e => e.2.unfinished == 0 || e.2.allIn Status.inGang
    let arrived := live.foldl (fun m c => if here c then setBit m c.cix true else m) g.arrived
    if !live.isEmpty && live.all fun c => s.crewHere c && arrived.getLsbD c.cix then
      let v := viewOf (crews.flatMap s.warpsOf)
      crews.foldl (fun s c => s.passCrew c Status.inGang v) (s.setGang gk { g with arrived := 0 })
    else s.setGang gk { g with arrived := arrived }

/-- Both barriers of a warp's crew and gang. -/
def State.settleBarriers (s : State) (w : Warp) : State :=
  match s.crew w.crew with
  | some c => (s.settleCrew w.crew).settleGang c.gang
  | none => s

/-! ## Mitts, caps and the end of a warp -/

/-- Whether an unfinished task of a core targets an accumulator and was submitted before an order number. -/
def Core.targeted (c : Core) (a upTo : Nat) : Bool :=
  c.entries.any fun e => match e.2.task with
    | some t => decide (t.order < upTo) && (match t.cmd with | .mma _ _ _ _ _ _ _ x => x == a | _ => false)
    | none => false

/-- Serve the first waiting `acq` of an accumulator whose turn it is (R269). -/
def Core.grant (c : Core) (a : Nat) : Core :=
  let x := c.acc a
  match x.mitt, x.waiting with
  | none, m :: r => if c.targeted a m.upTo then c else c.setAcc a { x with mitt := some m.warp, waiting := r }
  | _, _ => c

/-- Mitts served on every accumulator. -/
def Core.grantAll (c : Core) : Core := (List.range 8).foldl Core.grant c

/-- The mitts and waits of a warp end (R253, R269). -/
def Core.dropWarp (c : Core) (wk : Nat) : Core :=
  Core.grantAll { c with accs := c.accs.map fun e =>
    (e.1, { e.2 with mitt := if e.2.mitt = some wk then none else e.2.mitt,
                     waiting := e.2.waiting.filter fun m => m.warp != wk }) }

/-- Group 0 or 1 of a warp index, of W warps (R271). -/
def capGroup (n wix : Nat) : Nat := if wix < (n + 1) / 2 then 0 else 1

/-- Whether the whole holding group has passed; then the cap moves and the marks clear (R272). -/
def State.settleCap (s : State) (ck : Nat) : State :=
  match s.crew ck with
  | none => s
  | some c =>
    let live := (s.warpsOf c).filter fun e => e.2.unfinished != 0
    let n := c.warps.length
    let holding := live.filter fun e => capGroup n e.2.wix == c.cap
    let other := live.filter fun e => capGroup n e.2.wix != c.cap
    if holding.all fun e => c.marks.getLsbD e.2.wix then
      s.setCrew ck { c with marks := 0, cap := if other.isEmpty then c.cap else 1 - c.cap }
    else s

/-- The open batch of a warp, if it has commands (R251). -/
def Warp.openBatch (w : Warp) : Option Batch := w.batches.find? fun b => !b.closed

/-- Close the open batch, binding a register or none (R251, R253). An empty batch has nothing to finish. -/
def Warp.closeBatch (w : Warp) (reg : Option Nat) : Warp :=
  { w with batches := (w.batches.map fun b => if b.closed then b else { b with closed := true, reg := reg }).filter fun b =>
      decide (0 < b.left) || b.reg.isSome }

/-- A warp whose threads have all finished ends (R253). -/
def State.warpEnds (s : State) (wk : Nat) : State :=
  match s.warp wk with
  | none => s
  | some w =>
    let s1 := s.setWarp wk { w.closeBatch none with subs := [] }
    let s2 := s1.onCore (s1.coreOf w) (Core.dropWarp · wk)
    s2.settleCap w.crew

/-- Threads of a warp finish (R20, R32, R192): they leave every convergence barrier, and what waited for them is
checked. -/
def State.finishThreads (s : State) (wk : Nat) (m : Word) : State :=
  match s.warp wk with
  | none => s
  | some w =>
    let v := (threadsOf m).foldl (fun v t => laterOf v (w.thread t).view) 0
    let w1 := (w.onThreads m fun th => { th with status := .finished, timeout := 0, held := none }).dropBars m 0xFFFF
    let s1 := s.setWarp wk w1
    let s2 := match s1.launchOf w1 with
      | some (lk, l) => s1.setLaunch lk { l with stamp := laterOf l.stamp v }
      | none => s1
    let s3 := if w1.unfinished = 0 then s2.warpEnds wk else s2
    s3.settleBarriers w1

/-! ## The end of a launch -/

/-- QDISP passes a begun launch every gang of which has been dispatched (R314), unless its queue has been enabled again since: such
a launch stands in no ring (R312; log 119, DESIGN CHOICE). -/
def State.advanceDisp (s : State) (lk : Nat) : State :=
  match s.launch lk with
  | some l =>
    match l.queue with
    | some q => if l.gangs ≤ l.next ∧ l.redo.isEmpty ∧ !l.detached then
        s.onPart l.part fun p =>
          if (p.queue q).disp = l.idx then p.setQueue q { p.queue q with disp := (p.queue q).disp + 1 } else p
      else s
    | none => s
  | none => s

/-- A gang all of whose crews have finished has finished; one of stage 0 counts in its launch (R20). -/
def State.settleGangEnd (s : State) (gk : Nat) : State :=
  match s.gang gk with
  | none => s
  | some g =>
    if g.state != .finished && g.crews.all fun k => match s.crew k with | some c => c.state == .finished | none => true then
      let s1 := s.setGang gk { g with state := .finished }
      if g.stage = 0 then s1.onLaunch g.launch fun l => { l with done := l.done + 1 } else s1
    else s

/-- An aborted launch (R335): it starts no further crew, and its threads issue nothing further. -/
def State.abort (s : State) (lk : Nat) : State :=
  match s.launch lk with
  | none => s
  | some l =>
    let s1 := (s.setLaunch lk { l with aborted := true, next := max l.next l.gangs, redo := [] }).advanceDisp lk
    s1.crews.foldl (fun s e =>
      if e.2.launch = lk then
        let s := e.2.warps.foldl (fun s wk => s.finishThreads wk 0xFFFFFFFF) s
        if e.2.state = .suspended then (s.onCrew e.1 fun c => { c with state := .finished }).settleGangEnd e.2.gang else s
      else s) s1

/-- An abort with its fault record (R335, R349). -/
def State.abortFor (s : State) (lk core : Nat) (t : Trap) : State :=
  match s.launch lk with
  | none => s
  | some l =>
    (s.logFault l.part { va := t.addr, cause := t.cause, sub := t.sub, core := core, source := 5, queue := l.queueNo }).abort lk

/-! ## Security alarms -/

/-- The pins of a partition end (R362), and its spirals are cleared. -/
def State.clearSpirals (s : State) (p : Partition) : State :=
  p.bandList.foldl (fun s b =>
    let sp := Spiral.of s b
    let s1 := sp.pinned.foldl (fun s e => s.unpinned p e.2.owner) s
    s1.setSpiral b { emptySpiral with res := sp.res }) s

/-- The fence of a partition (R395): its launches are aborted, its bands stop, its lines become lost, those of host memory too of
which its cores hold the only modified words (R122). -/
def State.fencePart (s : State) (k : Nat) (p : Partition) : State :=
  let s1 := s.launches.foldl (fun s e => if e.2.part = k then s.abort e.1 else s) (s.losePart p)
  (s1.clearSpirals p).onPart k fun p => { p with stopped := true }

/-- Key erasure (R395): beyond the fence, queued write-backs of the partition are dropped, and its spirals, scratchpads with what
has been scanned out of them, register files and engine state (R244) are cleared. -/
def State.eraseKeys (s : State) (k : Nat) (p : Partition) : State :=
  let s1 := (s.fencePart k p).onPart k fun p => { p with key := false }
  { s1 with crews := s1.crews.map fun e =>
              if p.holdsCore e.2.core then (e.1, { e.2 with td := [], cap := 0, marks := 0, scanned := e.2.scanned.map fun _ => ([], []) }) else e,
            owned := s1.owned.filter fun e => !p.holdsCore e.2.core,
            shared := s1.shared.filter fun e => !p.holdsCore (e.1 % 4096),
            copies := s1.copies.filter fun e => !p.holdsCore (e.1 % 4096),
            wbq := s1.wbq.filter fun e => !p.holds e.1,
            spad := s1.spad.filter fun e => !p.holds (e.1 / 2097152 / 8),
            spadPoison := s1.spadPoison.filter fun e => !p.holds (e.1 / 2097152 / 8),
            cores := s1.cores.filter fun e => !p.holdsCore e.1,
            warps := s1.warps.map fun e =>
              if p.holdsCore (s1.coreOf e.2) then
                (e.1, { e.2.mapThreads (fun _ th => { th.clearLatches with v := [], p := 0 }) with
                  s := [], pend := [], batches := [], seals := [], ended := 0 })
              else e }

/-- A security alarm at a partition (R394, R395): the record, then the policy of its class. -/
def State.alarmAt (s : State) (k cls core queue : Nat) : State :=
  match s.part k with
  | none => s
  | some p =>
    let s1 := s.logFault k { va := 0, cause := 0, sub := cls, core := core, source := 6, queue := queue }
    match bits p.secpol.toNat (2 * cls) 2 with
    | 1 => s1.fencePart k p
    | 2 => s1.eraseKeys k p
    | _ => s1

/-! ## Taking a trap -/

/-- The issue is a switch point from now on (R28); the latches become invalid at its end (R30). -/
def State.switched (s : State) : State := { s with switch := true }

/-- The trap settings of a warp's launch enable a cause (R334); `syscall` is taken whatever they hold (R285). -/
def Header.enables (h : Header) (t : Trap) : Bool := h.traps.getLsbD t.cause || (t.cause == 0x10 && decide (0x10000 ≤ t.sub))
/-- The header of the kernel that a warp runs: its stage's (R39). -/
def State.kernelOf (s : State) (w : Warp) (l : Launch) : Header :=
  match (s.placeOf w).stg with | 0 => l.header | k => ((l.stages[k]?).map Stage.header).getD l.header

/-- The PC that a frame shows (R333). -/
def framePc (cause : Nat) (pc next : Dword) : Dword := if cause = 0xF ∨ cause = 0x10 then next else pc

/-- Threads of one issue that trap with one cause, sub-cause and address (R330, R331, R332, R334). A routing breach raises
its alarm first (R373); the threads of a launch that is aborted issue nothing further, no handler of theirs (R335). -/
def State.raiseOne (s : State) (c : Cur) (m : Word) (t : Trap) : State :=
  match s.warp c.warp with
  | none => s
  | some w =>
    match s.launchOf w with
    | none => s
    | some (lk, l) =>
      let core := s.coreOf w
      let s := if t.cause = 6 ∧ t.sub = 5 then s.alarmAt l.part 2 core l.queueNo else s
      let brk := t.cause == 0xF || t.cause == 0x10
      let pc := framePc t.cause c.pc c.next
      let park := fun (nested : Bool) =>
        s.onWarp c.warp fun w =>
          { w.onThreads m (fun th => { th with status := .parked, pc := pc, timeout := 0, held := none }) with
            subs := w.subs ++ [{ mask := m, cause := t.cause, sub := t.sub, addr := t.addr, word := c.word, pc := pc,
                                 origin := c.pc, detail := t.detail, nested := nested, framed := false }] }
      if ((s.launch lk).map Launch.aborted).getD true then s
      else match ((lowestOf m).map fun i => (w.thread i).handler).getD .none with
      | .none =>
        if (s.kernelOf w l).enables t then park false
        else if brk then s.onWarp c.warp fun w => w.onThreads m fun th => { th with pc := c.next }
        else s.abortFor lk core t
      | .trap => if brk then park true else s.abortFor lk core t
      | .preempt => if brk then park true else s.abortFor lk core t
      | _ => s.abortFor lk core t

/-- Group the threads that trap by cause, sub-cause and address, in ascending order of the lowest thread (R330, R331). -/
def groupTraps : List (Nat × Trap) → List (Word × Trap)
  | [] => []
  | (t, x) :: r =>
    let rest := groupTraps r
    match rest.find? fun e => e.2 == x with
    | some e => (setBit e.1 t true, x) :: rest.filter fun f => f.2 != x
    | none => (setBit 0 t true, x) :: rest

/-- The threads of one issue that trap, ascending, each with its trap. -/
def State.raise (s : State) (c : Cur) (ts : List (Nat × Trap)) : State :=
  (groupTraps ts).foldl (fun s e => s.raiseOne c e.1 e.2) s

/-- One trap for a set of threads. -/
def State.raiseAll (s : State) (c : Cur) (m : Word) (t : Trap) : State := s.raise c ((threadsOf m).map fun i => (i, t))

/-! ## Entering a handler and returning -/

/-- A frame (R329). -/
structure Frame where
  cause : Nat
  sub : Nat
  addr : Dword
  mask : Word
  word : Word
  pc : Dword
  view : Dword
  detail : Dword
  s31 : Word

def Frame.bytes (f : Frame) : List Byte :=
  natBytes 4 f.cause ++ natBytes 4 f.sub ++ natBytes 8 f.addr.toNat ++ natBytes 4 f.mask.toNat ++ natBytes 4 f.word.toNat ++
    natBytes 8 f.pc.toNat ++ natBytes 8 f.view.toNat ++ natBytes 8 f.detail.toNat ++ natBytes 4 f.s31.toNat ++
    List.replicate 12 0

/-- A number at an offset of some bytes. -/
def fieldAt (bs : List Byte) (off n : Nat) : Nat := bytesNat ((bs.drop off).take n)

def Frame.ofBytes (b : List Byte) : Frame :=
  { cause := fieldAt b 0 4, sub := fieldAt b 4 4, addr := BitVec.ofNat 64 (fieldAt b 8 8),
    mask := BitVec.ofNat 32 (fieldAt b 16 4), word := BitVec.ofNat 32 (fieldAt b 20 4), pc := BitVec.ofNat 64 (fieldAt b 24 8),
    view := BitVec.ofNat 64 (fieldAt b 32 8), detail := BitVec.ofNat 64 (fieldAt b 40 8),
    s31 := BitVec.ofNat 32 (fieldAt b 48 4) }

/-- The byte offset of a warp's save slot from `savebase` (R328). -/
def State.slotOf (s : State) (w : Warp) : Nat := 256 * slotNumber (s.coreOf w) w.lane w.slot

/-- A hardware access to a save slot in supervisor mode, as a weak OW access of class c (R328): `n` bytes as aligned units of 8. A
write stands in the program order of the warp's handler (R330): under the number of its frame, and the view time goes on. -/
def State.slotWrite (s : State) (core wk : Nat) (v : Dword) (va : Dword) : List Dword → Answer (State × Dword)
  | [] => .ok (s, v)
  | x :: r =>
    (s.threadStore { core := core, sup := true, view := v, id := frameId wk } 0 va (natBytes 8 x.toNat)).andThen fun q =>
      State.slotWrite q.1 core wk q.2 (va + 8) r
def State.slotRead (s : State) (core : Nat) (v : Dword) (va : Dword) : Nat → Answer (State × Dword × List Byte)
  | 0 => .ok (s, v, [])
  | n + 1 =>
    (s.threadLoad { core := core, sup := true, view := v } 0 va 8).andThen fun q =>
      (State.slotRead q.1 core q.2.1 (va + 8) n).andThen fun r => .ok (r.1, r.2.1, q.2.2 ++ r.2.2)

/-- An attempt whose trap names an address: that of the whole access (R223). -/
def Answer.atAddress {α : Type} (x : Answer α) (va : Dword) : Answer α :=
  match x with | .trap t => .trap { t with addr := va } | r => r

/-- Bytes as 64-bit units. -/
def dwordsOf (bs : List Byte) : List Dword :=
  (List.range ((bs.length + 7) / 8)).map fun i => BitVec.ofNat 64 (bytesNat ((bs.drop (8 * i)).take 8))

/-- The lanes (R28): the number of a warp's, and its record. -/
def State.laneOf (s : State) (w : Warp) : Nat := 64 * s.coreOf w + w.lane
def State.lane (s : State) (k : Nat) : Lane := (tfind s.lanes k).getD { keeps := none, last := 0, gave := false, passed := [] }
def State.onLane (s : State) (w : Warp) (f : Lane → Lane) : State :=
  { s with lanes := tput s.lanes (s.laneOf w) (f (s.lane (s.laneOf w))) }

/-- A warp gives up its lane at a switch point of its own; a lane that another warp keeps stays that one's (R28). -/
def Lane.leave (l : Lane) (wk : Nat) : Lane := if l.keeps = some wk then { l with keeps := none } else l
def State.freeLane (s : State) (wk : Nat) : State :=
  match s.warp wk with | some w => s.onLane w fun l => l.leave wk | none => s

/-- The hardware's access to the warp's save slot waits for a port (R16, R376): the warp does nothing until it is done. -/
def State.stick (s : State) (wk : Nat) (x : Option Wait) : State := s.onWarp wk fun w => { w with stuck := x }

/-- A thread starts its handler in supervisor mode (R329, R330), with what it has seen. -/
def Thread.enters (th : Thread) (h : Handler) (pc v : Dword) : Thread :=
  { th with status := .ready, handler := h, sup := true, pc := pc, timeout := 0, held := none, view := laterOf th.view v }

/-- Enter a handler (R328 to R332, R340, R341): the frame is written at an offset of the warp's slot, s31 names it, and
the threads of the mask run at `trapvec` in supervisor mode, after that write in their program order (R330). The entry is a
switch point of the warp (R28). A frame that cannot be written aborts the launch; one whose write waits leaves the entry to be
made later. -/
def State.enterHandler (s : State) (wk : Nat) (off : Nat) (m : Word) (h : Thread → Handler) (f : Frame) : State :=
  match s.warp wk with
  | none => s
  | some w =>
    match s.launchOf w with
    | none => s
    | some (lk, l) =>
      match s.part l.part with
      | none => s
      | some p =>
        let core := s.coreOf w
        let o := s.slotOf w + off
        let v := (threadsOf m).foldl (fun v t => laterOf v (w.thread t).view) 0
        let frame := { f with mask := m, view := v, s31 := w.sreg 31 }
        match s.slotWrite core wk v (p.savebase + BitVec.ofNat 64 o) (dwordsOf frame.bytes) with
        | .ok r =>
          (r.1.freeLane wk).onWarp wk fun w =>
            { (w.setS 31 (BitVec.ofNat 32 o)).mapThreads (fun t th =>
                let th := th.clearLatches
                if inMask m t then th.enters (h th) p.trapvec r.2 else th) with stuck := none }
        | .trap t => s.abortFor lk core { t with addr := p.savebase + BitVec.ofNat 64 o }
        | .wait x => s.stick wk (some x)

/-- Threads of a warp run no handler that blocks the entry of another (R331). -/
def Warp.inHandler (w : Warp) : Bool := w.threads.any fun t => t.handler != .none
def Warp.inNested (w : Warp) : Bool := w.threads.any fun t => t.handler == .nestedTrap || t.handler == .nestedPreempt

/-- The frame of a parked sub-warp. -/
def Sub.frame (x : Sub) : Frame :=
  { cause := x.cause, sub := x.sub, addr := x.addr, mask := x.mask, word := x.word, pc := x.pc, view := 0,
    detail := x.detail, s31 := 0 }

/-- The mode in which a warp's threads run outside handlers: user mode, but supervisor mode in the gang that PBOOT
starts (R390). -/
def State.baseMode (s : State) (w : Warp) : Bool :=
  match s.launchOf w with | some (_, l) => l.queue.isNone | none => false

/-- A thread leaves its handler by a `tret` of a frame (R284, R332): to the frame's PC, in the mode it held at entry. -/
def Thread.leaveHandler (base : Bool) (pc view : Dword) (th : Thread) : Thread :=
  let h := match th.handler with | .nestedTrap => Handler.trap | .nestedPreempt => .preempt | _ => .none
  { th with pc := pc, view := laterOf th.view view, held := none, handler := h, sup := if h = .none then base else true }

/-! ## Memory accesses as a warp makes them -/

/-- Who a thread of a warp is to memory. -/
def State.whoIs (s : State) (c : Cur) (w : Warp) (t : Nat) : Who :=
  let th := w.thread t
  { core := s.coreOf w, sup := th.sup, view := th.view, id := 32 * c.warp + t, fences := th.fences, fenced := th.fenced }

/-- The earlier writes of some threads of a warp reach their home slices, as a release of theirs asks (R102). -/
def State.releasedBy (s : State) (wk : Nat) (m : Word) : State :=
  s.sendHome fun id => (id / 32 == wk && decide (id < 2 ^ 40) && inMask m (id % 32)) || id == frameId wk

/-- Change one thread of a warp. -/
def State.onThread (s : State) (wk t : Nat) (f : Thread → Thread) : State :=
  s.onWarp wk fun w => w.mapThreads fun i th => if i = t then f th else th

/-- Threads of the issue wait before their instruction, which has not issued (R24, R246, R251); one that has read its operands
keeps them. -/
def State.stall (s : State) (c : Cur) (m : Word) (x : Wait) : State :=
  s.onWarp c.warp fun w => w.onThreads m fun th => { th with status := .waiting x, pc := c.pc, since := s.cycle }

/-- Threads of the issue are blocked in their instruction (R24), which has read its operands; one that waited in it waits on
with those it read then. -/
def State.block (s : State) (c : Cur) (m : Word) (x : Wait) : State :=
  s.onWarp c.warp fun w => w.onThreads m fun th =>
    { th with status := .waiting x, pc := c.pc, since := s.cycle,
              held := some (th.held.getD { s := w.s, clk := c.clk, l0 := th.l0, l1 := th.l1, l2 := th.l2, l3 := th.l3 }) }

/-- A wait of an instruction: for an entry of the task table or for the seal limit it has not issued (R246, R251). -/
def State.await (s : State) (c : Cur) (m : Word) (x : Wait) : State :=
  match x with
  | .tableFull => s.stall c m x
  | .sealLimit => s.stall c m x
  | _ => s.block c m x

/-- Threads of the issue go on to the next instruction. -/
def State.advance (s : State) (c : Cur) (m : Word) : State :=
  s.onWarp c.warp fun w => w.onThreads m fun th => { th with pc := c.next, held := none }

/-! ## The shapes of meanings -/

/-- What one thread's, or one issue's, action comes to. -/
inductive Act where
  | done (s : State)
  | trap (t : Trap)
  | wait (s : State) (w : Wait)

def Answer.act {α : Type} (x : Answer α) (s : State) (f : α → State) : Act :=
  match x with
  | .ok a => .done (f a)
  | .trap t => .trap t
  | .wait w => .wait s w

/-- The issuing warp and issue, or the fault of a state in which nothing issues. -/
def onIssue (s : State) (f : Cur → Warp → State) : Host.Outcome State Fault Refusal :=
  match s.cur with
  | none => .fault .noIssue
  | some c => match s.warp c.warp with
    | none => .fault .noWarp
    | some w => .next (f c w)

/-- The warp as the issue's operands see it: an instruction that waited has read the scalar registers before. -/
def Cur.sees (c : Cur) (w : Warp) : Warp := match c.held with | none => w | some h => { w with s := h.s }

/-- What operands can see of an issue that cannot wait, and of one that can. -/
def State.plain (s : State) (c : Cur) (w : Warp) : Ctx := { warp := w, place := s.placeOf w, clk := c.clk }
def State.ctx (s : State) (c : Cur) (w : Warp) : Ctx :=
  { warp := c.sees w, place := s.placeOf w, clk := match c.held with | none => c.clk | some h => h.clk }

/-- What the operands of one thread can see: one that waited in the instruction has read them before. -/
def State.ctxOf (s : State) (c : Cur) (w : Warp) (t : Nat) : Ctx :=
  match (w.thread t).held with
  | none => s.plain c w
  | some h => { warp := { w with s := h.s }, place := s.placeOf w, clk := h.clk }

/-- A decoding trap: every thread of the PC group takes it, whatever its guard (R146). -/
def decodeTrap (s : State) (c : Cur) (cause sub : Nat) : State := s.raiseAll c c.group (trapAt cause sub 0)

/-- The issue of an instruction that the list of R28 names is a switch point, whatever the guards. -/
def State.switchIf (s : State) (b : Bool) : State := { s with switch := s.switch || b }

/-- Whether the read of a pending register is a switch point (R28): of a sealed batch's, or of a token of `pwr.gate`, which is
read as one (R291); not of one that a demote or an evict fills (log 58). -/
def Warp.sealPending (w : Warp) (n : Nat) : Bool :=
  match tfind w.pend n with
  | some (.batch _) => true
  | some (.gate _) => true
  | _ => false

/-- What a form that reads scalar registers acquires (R117): the releases of the completion codes in them. -/
def Uses.acquires (u : Uses) (w : Warp) : Dword := u.s.foldl (fun v n => laterOf v (wget w.seals n)) 0
/-- Threads of a warp have acquired a time (R102). -/
def State.acquire (s : State) (wk : Nat) (m : Word) (v : Dword) : State :=
  if v = 0 then s else s.onWarp wk fun w => w.onThreads m fun th => { th with view := laterOf th.view v }

/-- The issue of some threads alone, with the operands that the lowest of them has read. -/
def Cur.takes (c : Cur) (w : Warp) (m : Word) : Cur :=
  { c with taking := m, held := ((lowestOf m).map w.thread).bind Thread.held }

/-- Threads of the issue wait for a pending scalar register (R251). -/
def State.waitFor (s : State) (c : Cur) (m : Word) (n : Nat) : State :=
  (s.advance c (c.group &&& ~~~c.taking)).stall c m (.scalar n)

/-- The conditions of an instruction before its effect: registers declared (R172), a further decoding condition (R283,
R286, R389, R147), and no pending scalar register (R251); `sw` says whether R28 lists the instruction, and so does a read of an
unfinished seal register, whatever the guards. A decoding trap changes no latch (R146), so its issue is no switch point
(log 58). An instruction that waits for a pending register has read nothing yet, no latch either: one that names both finds the
latch invalid when it issues again (R30, R31; log 58, DESIGN CHOICE). Threads that have read their operands before they blocked
read no register again (R233): of a group in which others have not, they alone go on. -/
def gated (s : State) (c : Cur) (w : Warp) (u : Uses) (extra : Option (Nat × Nat)) (sw : Bool) (f : Cur → Warp → State → State) :
    State :=
  if !u.declared w then decodeTrap s c 2 11
  else match extra with
    | some (cause, sub) => decodeTrap s c cause sub
    | none =>
      let waits := s.switchIf (sw || u.s.any w.sealPending)
      if c.taking = 0 then waits.advance c c.group
      else match u.pendingRead w, u.pendingWrite w with
        | some n, m =>
          let fresh := c.taking &&& w.where_ fun th => th.held.isNone
          let late := c.taking &&& ~~~fresh
          let s1 := waits.waitFor c fresh n
          if late = 0 then s1
          else match m with
            | some k => s1.stall c late (.scalar k)
            | none => match s1.warp c.warp with
              | none => s1
              | some w1 => f { c.takes w late with group := late } w1 s1
        | none, some n => waits.waitFor c c.taking n
        | none, none => (f c w (s.switchIf sw)).acquire c.warp c.taking (u.acquires w)

/-- The trap of an invalid latch (R31). -/
def staleLatch : Trap := trapAt 0xC 0 0

/-- What a lane instruction does in one thread: the thread's new registers and the flags it raises, or a trap. -/
abbrev LaneResult := Except Trap (Thread × Raised)

/-- What a result leaves of its thread, the flags it raises, and the trap of the thread that it names. -/
def LaneResult.thread (r : LaneResult) (pc : Dword) (th : Thread) : Thread :=
  match r with | .ok x => { x.1 with pc := pc } | .error _ => th
def LaneResult.flags (r : LaneResult) : Raised := match r with | .ok x => x.2 | .error _ => Raised.none
def LaneResult.trap (r : LaneResult) (t : Nat) : Option (Nat × Trap) := match r with | .ok _ => none | .error x => some (t, x)

/-- Flags accrue in `fflags` (R50). -/
def Warp.accrue (w : Warp) (r : Raised) : Warp := { w with fflags := w.fflags ||| r.bits }

/-- A lane instruction on registers (R171, R195): for every taking-part thread, all of it or a trap; the other threads
of the group pass by. -/
def laneOn (s : State) (c : Cur) (w : Warp) (f : Nat → Thread → LaneResult) : State :=
  let w1 := w.mapThreads fun t th =>
    if inMask c.taking t then LaneResult.thread (f t (w.thread t)) c.next th
    else if inMask c.group t then { th with pc := c.next } else th
  let w2 := w1.accrue ((threadsOf c.taking).foldl (fun r t => r.or (LaneResult.flags (f t (w.thread t)))) Raised.none)
  let bad := (threadsOf c.taking).filterMap fun t => LaneResult.trap (f t (w.thread t)) t
  if bad.isEmpty then s.setWarp c.warp w2 else (s.setWarp c.warp w2).raise c bad

/-- A lane instruction on registers as an outcome. -/
def laneOp (s : State) (u : Uses) (extra : Option (Nat × Nat)) (f : Ctx → Nat → Thread → LaneResult) :
    Host.Outcome State Fault Refusal :=
  onIssue s fun c w => gated s c w u extra false fun c w s => laneOn s c w (f (s.plain c w))

/-- A lane instruction whose result in one thread depends on the operands of the others (R31, R185): a thread that reads
a stale latch traps and does not count. `read` gives a thread's operands; `f` sees those of every thread that counts. -/
def exchangeOp {α : Type} (s : State) (u : Uses) (read : Ctx → Nat → Thread → Option α)
    (f : (Nat → Option α) → Nat → Thread → α → Thread × Raised) : Host.Outcome State Fault Refusal :=
  onIssue s fun c w => gated s c w u none false fun c w s =>
    let x := s.plain c w
    let all := fun t => if inMask c.taking t then read x t (w.thread t) else none
    laneOn s c w fun t th => match read x t th with
      | some a => .ok (f all t th a)
      | none => .error staleLatch

/-- A uniform instruction on per-warp state (R23, R171). -/
def uniformOn (s : State) (c : Cur) (w : Warp) : State :=
  s.setWarp c.warp (w.onThreads c.group fun th => { th with pc := c.next })

/-- A uniform instruction on registers as an outcome: `f` gives the warp with its registers written. -/
def uniformOp (s : State) (u : Uses) (extra : Option (Nat × Nat)) (f : Ctx → Warp) : Host.Outcome State Fault Refusal :=
  onIssue s fun c w => gated s c w u extra false fun c w s => uniformOn s c (f (s.plain c w))

/-- A uniform instruction that acts on more than the warp: once for the taking-part set (R139, R249). -/
def unitOp (s : State) (u : Uses) (extra : Option (Nat × Nat)) (sw : Bool) (f : State → Cur → Warp → Act) :
    Host.Outcome State Fault Refusal :=
  onIssue s fun c w => gated s c w u extra sw fun c w s =>
    match f s c w with
    | .done s1 => s1.advance c c.group
    | .trap t => (s.advance c (c.group &&& ~~~c.taking)).raiseAll c c.taking t
    | .wait s1 x => (s1.advance c (c.group &&& ~~~c.taking)).await c c.taking x

/-- The separate actions of the taking-part threads in ascending order (R224). -/
def actEach (c : Cur) (f : State → Warp → Nat → Act) : List Nat → State → State × List (Nat × Trap)
  | [], s => (s, [])
  | t :: r, s =>
    match s.warp c.warp with
    | none => (s, [])
    | some w =>
      match f s w t with
      | .done s1 => actEach c f r s1
      | .trap x => let q := actEach c f r s; (q.1, (t, x) :: q.2)
      | .wait s1 x => actEach c f r (s1.block c (setBit 0 t true) x)

/-- An instruction that acts thread by thread (R224). A thread's action, when done, has moved its PC. -/
def eachOp (s : State) (u : Uses) (extra : Option (Nat × Nat)) (sw : Bool) (f : State → Cur → Warp → Nat → Act) :
    Host.Outcome State Fault Refusal :=
  onIssue s fun c w => gated s c w u extra sw fun c _ s =>
    let q := actEach c (fun s w t => f s c w t) (threadsOf c.taking) (s.advance c (c.group &&& ~~~c.taking))
    if q.2.isEmpty then q.1 else q.1.raise c q.2

/-- The actions of the taking-part threads one at a time, in ascending order (R299): while one waits, the threads after it wait
for the same, having read their operands. -/
def actInTurn (c : Cur) (f : State → Warp → Nat → Act) : List Nat → State → State × List (Nat × Trap)
  | [], s => (s, [])
  | t :: r, s =>
    match s.warp c.warp with
    | none => (s, [])
    | some w =>
      match f s w t with
      | .done s1 => actInTurn c f r s1
      | .trap x => let q := actInTurn c f r s; (q.1, (t, x) :: q.2)
      | .wait s1 x => ((t :: r).foldl (fun s i => s.block c (setBit 0 i true) x) s1, [])

/-- An instruction that acts thread by thread, one at a time (R299). -/
def inTurnOp (s : State) (u : Uses) (extra : Option (Nat × Nat)) (sw : Bool) (f : State → Cur → Warp → Nat → Act) :
    Host.Outcome State Fault Refusal :=
  onIssue s fun c w => gated s c w u extra sw fun c _ s =>
    let q := actInTurn c (fun s w t => f s c w t) (threadsOf c.taking) (s.advance c (c.group &&& ~~~c.taking))
    if q.2.isEmpty then q.1 else q.1.raise c q.2

/-- A result of a thread's action: the thread's registers change, and it goes on. -/
def State.wrote (s : State) (c : Cur) (t : Nat) (f : Thread → Thread) : State :=
  s.onThread c.warp t fun th => { f th with pc := c.next, status := .ready, held := none }

end Sys2Proof.Machine
end

