-- ==== Sys2Proof/Machine/Integer.lean ====
section
/-! DEFINITION. Integer instructions, compares, predicates, votes and exchanges (R131, R171 to R185): what each computes,
then one meaning for each. -/
namespace Sys2Proof.Machine

/-! ## What the functions compute -/

/-- The functions of R174; the count of a shift is b[4:0]. -/
def aluAdd (a b : Word) : Word := a + b
def aluSub (a b : Word) : Word := a - b
def aluAnd (a b : Word) : Word := a &&& b
def aluOr (a b : Word) : Word := a ||| b
def aluXor (a b : Word) : Word := a ^^^ b
def aluShl (a b : Word) : Word := a <<< (b.toNat % 32)
def aluShr (a b : Word) : Word := a >>> (b.toNat % 32)
def aluSra (a b : Word) : Word := a.sshiftRight (b.toNat % 32)
def aluMin (a b : Word) : Word := if a.toInt ≤ b.toInt then a else b
def aluMax (a b : Word) : Word := if a.toInt ≤ b.toInt then b else a
def aluMinn (a b : Word) : Word := if a.toNat ≤ b.toNat then a else b
def aluMaxn (a b : Word) : Word := if a.toNat ≤ b.toNat then b else a
def aluMul (a b : Word) : Word := a * b
def aluMulh (a b : Word) : Word := BitVec.ofInt 32 (a.toInt * b.toInt / 4294967296)
/-- Division and remainder truncate; a divisor of 0 gives all ones and the dividend (R46). -/
def aluDiv (a b : Word) : Word := if b = 0 then 0xFFFFFFFF else a.sdiv b
def aluRem (a b : Word) : Word := if b = 0 then a else a.srem b
def aluDivn (a b : Word) : Word := if b = 0 then 0xFFFFFFFF else a / b
def aluRemn (a b : Word) : Word := if b = 0 then a else a % b
def aluMulhn (a b : Word) : Word := BitVec.ofNat 32 (a.toNat * b.toNat / 4294967296)
def aluRot (a b : Word) : Word := a.rotateLeft (b.toNat % 32)
/-- The bits of a word below which a property first fails, counted from a list of bit numbers. -/
def runOf (f : Nat → Bool) : List Nat → Nat
  | [] => 0
  | i :: r => if f i then 0 else 1 + runOf f r
/-- The unary functions of R178. -/
def aluClz (a : Word) : Word := BitVec.ofNat 32 (runOf a.getLsbD (List.range 32).reverse)
def aluCtz (a : Word) : Word := BitVec.ofNat 32 (runOf a.getLsbD (List.range 32))
def aluPopc (a : Word) : Word := BitVec.ofNat 32 ((threadsOf a).length)
def aluBrev (a : Word) : Word := maskOf fun i => a.getLsbD (31 - i)
def aluSext8 (a : Word) : Word := (a.setWidth 8).signExtend 32
def aluSext16 (a : Word) : Word := (a.setWidth 16).signExtend 32
/-- The 64-bit functions of R179. -/
def aluAdd64 (a b : Dword) : Dword := a + b
def aluSub64 (a b : Dword) : Dword := a - b
def aluMad (d a b : Word) : Word := d + a * b
def aluMad64 (d : Dword) (a b : Word) : Dword := d + BitVec.ofNat 64 (a.toNat * b.toNat)
/-- The immediates (R133): sign-extended, zero-extended, and placed at bit 14. -/
def immS (i : BitVec 11) : Word := i.signExtend 32
def immN (i : BitVec 14) : Word := i.setWidth 32
def immH (i : BitVec 18) : Word := BitVec.ofNat 32 (i.toNat * 16384)
/-- d and not i (R176). -/
def aluClr (a b : Word) : Word := a &&& ~~~b
/-- A relation as the word 1 or 0 (R180). -/
def truth (r : Word → Word → Bool) (a b : Word) : Word := if r a b then 1 else 0

/-! ## The shapes -/

/-- `salu.F d, a, b`. -/
def uni2 (s : State) (b a : BitVec 7) (d : BitVec 6) (f : Word → Word → Word) : Host.Outcome State Fault Refusal :=
  uniformOp s ((useUni a 1).and ((useUni b 1).and (useD d.toNat 1))) none fun c =>
    c.warp.setS d.toNat (f (c.usrc a) (c.usrc b))
/-- `smisc.F d, a`. -/
def uni1 (s : State) (a : BitVec 7) (d : BitVec 6) (f : Word → Word) : Host.Outcome State Fault Refusal :=
  uniformOp s ((useUni a 1).and (useD d.toNat 1)) none fun c => c.warp.setS d.toNat (f (c.usrc a))
/-- A uniform form that reads its destination (R176). -/
def uniD (s : State) (d : BitVec 6) (f : Word → Word) : Host.Outcome State Fault Refusal :=
  uniformOp s ((useS d.toNat 1).and (useD d.toNat 1)) none fun c => c.warp.setS d.toNat (f (c.warp.sreg d.toNat))
/-- `smisc.add64`, `smisc.sub64`. -/
def uni64 (s : State) (b a : BitVec 7) (d : BitVec 6) (f : Dword → Dword → Dword) : Host.Outcome State Fault Refusal :=
  uniformOp s ((useUni a 2).and ((useUni b 2).and (useD d.toNat 2))) none fun c =>
    c.warp.setSPair d.toNat (f (c.usrc64 a) (c.usrc64 b))

/-- `valu.F d, a, b`. -/
def lane2 (s : State) (b a : BitVec 7) (w : BitVec 1) (d : BitVec 6) (f : Word → Word → Word) :
    Host.Outcome State Fault Refusal :=
  laneOp s ((useSrc a 1).and ((useSrc b 1).and (useV d.toNat 1))) none fun c t th =>
    match c.src t th a, c.src t th b with
    | some x, some y => .ok (th.result (w == 1) d.toNat [f x y], Raised.none)
    | _, _ => .error staleLatch
/-- `vmisc.F d, a`. -/
def lane1 (s : State) (a : BitVec 7) (w : BitVec 1) (d : BitVec 6) (f : Word → Word) :
    Host.Outcome State Fault Refusal :=
  laneOp s ((useSrc a 1).and (useV d.toNat 1)) none fun c t th =>
    match c.src t th a with
    | some x => .ok (th.result (w == 1) d.toNat [f x], Raised.none)
    | none => .error staleLatch
/-- A lane form that reads its destination. -/
def laneD (s : State) (w : BitVec 1) (d : BitVec 6) (f : Word → Word) : Host.Outcome State Fault Refusal :=
  laneOp s (useV d.toNat 1) none fun _ _ th => .ok (th.result (w == 1) d.toNat [f (th.vreg d.toNat)], Raised.none)
/-- `vmisc.add64`, `vmisc.sub64` (R179): the low word enters the latches first. -/
def lane64 (s : State) (b a : BitVec 7) (w : BitVec 1) (d : BitVec 6) (f : Dword → Dword → Dword) :
    Host.Outcome State Fault Refusal :=
  laneOp s ((useSrc a 2).and ((useSrc b 2).and (useV d.toNat 2))) none fun c t th =>
    match c.src64 false t th a, c.src64 false t th b with
    | some x, some y => .ok (th.result (w == 1) d.toNat [lowWord (f x y), highWord (f x y)], Raised.none)
    | _, _ => .error staleLatch
/-- A 16-bit form, `d := f d a` (R131). -/
def short2 (s : State) (a : BitVec 5) (d : BitVec 6) (f : Word → Word → Word) : Host.Outcome State Fault Refusal :=
  lane2 s (shortCode a) (d.setWidth 7) 0 d f

/-- `vcmp.F p, a, b` (R180). -/
def vcmp2 (s : State) (b a : BitVec 7) (p : BitVec 3) (r : Word → Word → Bool) : Host.Outcome State Fault Refusal :=
  laneOp s ((useSrc a 1).and (useSrc b 1)) none fun c t th =>
    match c.src t th a, c.src t th b with
    | some x, some y => .ok (th.setP p.toNat (r x y), Raised.none)
    | _, _ => .error staleLatch
def vcmp64 (s : State) (b a : BitVec 7) (p : BitVec 3) (r : Dword → Dword → Bool) : Host.Outcome State Fault Refusal :=
  laneOp s ((useSrc a 2).and (useSrc b 2)) none fun c t th =>
    match c.src64 false t th a, c.src64 false t th b with
    | some x, some y => .ok (th.setP p.toNat (r x y), Raised.none)
    | _, _ => .error staleLatch

/-- A predicate selector's value (R181). -/
def Thread.selector (th : Thread) (x : BitVec 4) : Bool := th.pred (x.toNat % 8) ^^ x.getLsbD 3
/-- `pred.F pd, pa, pb` (R182). -/
def pred2 (s : State) (b a : BitVec 4) (d : BitVec 3) (f : Bool → Bool → Bool) : Host.Outcome State Fault Refusal :=
  laneOp s Uses.none none fun _ _ th => .ok (th.setP d.toNat (f (th.selector a) (th.selector b)), Raised.none)
/-- The values of those that count, ascending. -/
def counted {α : Type} (all : Nat → Option α) : List α := (List.range 32).filterMap all
/-- A vote into a predicate (R182). -/
def vote (s : State) (a : BitVec 4) (d : BitVec 3) (f : List Bool → Bool) : Host.Outcome State Fault Refusal :=
  exchangeOp s Uses.none (fun _ _ th => some (th.selector a)) fun all _ th _ =>
    (th.setP d.toNat (f (counted all)), Raised.none)

/-- `xch.F vd, va, vb` (R183): `from_` gives the source thread of thread t, none when it lies outside 0 to 31. -/
def shuffle (s : State) (b a : BitVec 7) (w : BitVec 1) (d : BitVec 6) (from_ : Nat → Nat → Option Nat) :
    Host.Outcome State Fault Refusal :=
  exchangeOp s ((useSrc a 1).and ((useSrc b 1).and (useV d.toNat 1)))
    (fun c t th => match c.src t th a, c.src t th b with | some x, some y => some (x, y) | _, _ => none)
    fun all t th xy =>
      let other := (from_ t (xy.2.toNat % 32)).bind all
      (th.result (w == 1) d.toNat [((other.map Prod.fst).getD xy.1)], Raised.none)

/-- One combination of a butterfly: a value absent on one side is the other (R68). -/
def combineWith {α : Type} (f : α → α → α) (a b : Option α) : Option α :=
  match a, b with
  | some x, some y => some (f x y)
  | some x, none => some x
  | none, y => y
/-- One stage of the butterfly of R68, at a distance of `d`: the lower index is the first operand. -/
def stageOf {α : Type} (f : α → α → α) (d : Nat) (v : List (Option α)) : List (Option α) :=
  (List.range 32).map fun t =>
    let lo := if t / d % 2 = 0 then t else t - d
    combineWith f ((v[lo]?).getD none) ((v[lo + d]?).getD none)
/-- The result of the butterfly (R68), which every thread that counts receives. -/
def butterfly {α : Type} (f : α → α → α) (v : List (Option α)) : Option α :=
  (([16, 8, 4, 2, 1].foldl (fun v d => stageOf f d v) v)[0]?).getD none
/-- `xch.r… vd, va` (R184): a combination of words with the flags it raises; `fin` gives the form in which the result, which one
thread alone combines with nothing, is delivered. -/
def reduce (s : State) (a : BitVec 7) (w : BitVec 1) (d : BitVec 6) (f : Word → Word → Word × Raised)
    (fin : Word → Word := fun x => x) :
    Host.Outcome State Fault Refusal :=
  exchangeOp s ((useSrc a 1).and (useV d.toNat 1)) (fun c t th => c.src t th a) fun all _ th x =>
    let r := (butterfly (fun p q => ((f p.1 q.1).1, (p.2.or q.2).or (f p.1 q.1).2))
      ((List.range 32).map fun t => (all t).map fun y => (y, Raised.none))).getD (x, Raised.none)
    (th.result (w == 1) d.toNat [fin r.1], r.2)
/-- A combination that raises no flag. -/
def plain (f : Word → Word → Word) (a b : Word) : Word × Raised := (f a b, Raised.none)

/-! ## Sixteen-bit integer forms (R131) -/

/-- `valu.or d, a, z` (R131). -/
def execMov (a : BitVec 5) (d : BitVec 6) (s : State) : Host.Outcome State Fault Refusal :=
  lane2 s 0x64 (shortCode a) 0 d aluOr
/-- `valu.add d, d, a` (R131). -/
def execIadd (a : BitVec 5) (d : BitVec 6) (s : State) : Host.Outcome State Fault Refusal := short2 s a d aluAdd
/-- `valu.sub d, d, a` (R131). -/
def execIsub (a : BitVec 5) (d : BitVec 6) (s : State) : Host.Outcome State Fault Refusal := short2 s a d aluSub
/-- `valu.and d, d, a` (R131). -/
def execIand (a : BitVec 5) (d : BitVec 6) (s : State) : Host.Outcome State Fault Refusal := short2 s a d aluAnd
/-- `valu.or d, d, a` (R131). -/
def execIor (a : BitVec 5) (d : BitVec 6) (s : State) : Host.Outcome State Fault Refusal := short2 s a d aluOr
/-- `valu.xor d, d, a` (R131). -/
def execIxor (a : BitVec 5) (d : BitVec 6) (s : State) : Host.Outcome State Fault Refusal := short2 s a d aluXor
/-- `valu.shl d, d, a` (R131). -/
def execIshl (a : BitVec 5) (d : BitVec 6) (s : State) : Host.Outcome State Fault Refusal := short2 s a d aluShl
/-- `valu.shr d, d, a` (R131). -/
def execIshr (a : BitVec 5) (d : BitVec 6) (s : State) : Host.Outcome State Fault Refusal := short2 s a d aluShr
/-- `valu.min d, d, a` (R131). -/
def execImin (a : BitVec 5) (d : BitVec 6) (s : State) : Host.Outcome State Fault Refusal := short2 s a d aluMin
/-- `valu.max d, d, a` (R131). -/
def execImax (a : BitVec 5) (d : BitVec 6) (s : State) : Host.Outcome State Fault Refusal := short2 s a d aluMax

/-! ## SALU and VALU (R174) -/

/-- `salu.add` (R174). -/
def execSaluAdd (b : BitVec 7) (a : BitVec 7) (d : BitVec 6) (s : State) : Host.Outcome State Fault Refusal :=
  uni2 s b a d aluAdd
/-- `salu.sub` (R174). -/
def execSaluSub (b : BitVec 7) (a : BitVec 7) (d : BitVec 6) (s : State) : Host.Outcome State Fault Refusal :=
  uni2 s b a d aluSub
/-- `salu.and` (R174). -/
def execSaluAnd (b : BitVec 7) (a : BitVec 7) (d : BitVec 6) (s : State) : Host.Outcome State Fault Refusal :=
  uni2 s b a d aluAnd
/-- `salu.or` (R174). -/
def execSaluOr (b : BitVec 7) (a : BitVec 7) (d : BitVec 6) (s : State) : Host.Outcome State Fault Refusal :=
  uni2 s b a d aluOr
/-- `salu.xor` (R174). -/
def execSaluXor (b : BitVec 7) (a : BitVec 7) (d : BitVec 6) (s : State) : Host.Outcome State Fault Refusal :=
  uni2 s b a d aluXor
/-- `salu.shl` (R174). -/
def execSaluShl (b : BitVec 7) (a : BitVec 7) (d : BitVec 6) (s : State) : Host.Outcome State Fault Refusal :=
  uni2 s b a d aluShl
/-- `salu.shr` (R174). -/
def execSaluShr (b : BitVec 7) (a : BitVec 7) (d : BitVec 6) (s : State) : Host.Outcome State Fault Refusal :=
  uni2 s b a d aluShr
/-- `salu.sra` (R174). -/
def execSaluSra (b : BitVec 7) (a : BitVec 7) (d : BitVec 6) (s : State) : Host.Outcome State Fault Refusal :=
  uni2 s b a d aluSra
/-- `salu.min` (R174). -/
def execSaluMin (b : BitVec 7) (a : BitVec 7) (d : BitVec 6) (s : State) : Host.Outcome State Fault Refusal :=
  uni2 s b a d aluMin
/-- `salu.max` (R174). -/
def execSaluMax (b : BitVec 7) (a : BitVec 7) (d : BitVec 6) (s : State) : Host.Outcome State Fault Refusal :=
  uni2 s b a d aluMax
/-- `salu.minn` (R174). -/
def execSaluMinn (b : BitVec 7) (a : BitVec 7) (d : BitVec 6) (s : State) : Host.Outcome State Fault Refusal :=
  uni2 s b a d aluMinn
/-- `salu.maxn` (R174). -/
def execSaluMaxn (b : BitVec 7) (a : BitVec 7) (d : BitVec 6) (s : State) : Host.Outcome State Fault Refusal :=
  uni2 s b a d aluMaxn
/-- `salu.mul` (R174). -/
def execSaluMul (b : BitVec 7) (a : BitVec 7) (d : BitVec 6) (s : State) : Host.Outcome State Fault Refusal :=
  uni2 s b a d aluMul
/-- `salu.mulh` (R174). -/
def execSaluMulh (b : BitVec 7) (a : BitVec 7) (d : BitVec 6) (s : State) : Host.Outcome State Fault Refusal :=
  uni2 s b a d aluMulh
/-- `salu.div` (R174). -/
def execSaluDiv (b : BitVec 7) (a : BitVec 7) (d : BitVec 6) (s : State) : Host.Outcome State Fault Refusal :=
  uni2 s b a d aluDiv
/-- `salu.rem` (R174). -/
def execSaluRem (b : BitVec 7) (a : BitVec 7) (d : BitVec 6) (s : State) : Host.Outcome State Fault Refusal :=
  uni2 s b a d aluRem
/-- `valu.add` (R174). -/
def execValuAdd (b : BitVec 7) (a : BitVec 7) (w : BitVec 1) (d : BitVec 6)
    (s : State) : Host.Outcome State Fault Refusal :=
  lane2 s b a w d aluAdd
/-- `valu.sub` (R174). -/
def execValuSub (b : BitVec 7) (a : BitVec 7) (w : BitVec 1) (d : BitVec 6)
    (s : State) : Host.Outcome State Fault Refusal :=
  lane2 s b a w d aluSub
/-- `valu.and` (R174). -/
def execValuAnd (b : BitVec 7) (a : BitVec 7) (w : BitVec 1) (d : BitVec 6)
    (s : State) : Host.Outcome State Fault Refusal :=
  lane2 s b a w d aluAnd
/-- `valu.or` (R174). -/
def execValuOr (b : BitVec 7) (a : BitVec 7) (w : BitVec 1) (d : BitVec 6)
    (s : State) : Host.Outcome State Fault Refusal :=
  lane2 s b a w d aluOr
/-- `valu.xor` (R174). -/
def execValuXor (b : BitVec 7) (a : BitVec 7) (w : BitVec 1) (d : BitVec 6)
    (s : State) : Host.Outcome State Fault Refusal :=
  lane2 s b a w d aluXor
/-- `valu.shl` (R174). -/
def execValuShl (b : BitVec 7) (a : BitVec 7) (w : BitVec 1) (d : BitVec 6)
    (s : State) : Host.Outcome State Fault Refusal :=
  lane2 s b a w d aluShl
/-- `valu.shr` (R174). -/
def execValuShr (b : BitVec 7) (a : BitVec 7) (w : BitVec 1) (d : BitVec 6)
    (s : State) : Host.Outcome State Fault Refusal :=
  lane2 s b a w d aluShr
/-- `valu.sra` (R174). -/
def execValuSra (b : BitVec 7) (a : BitVec 7) (w : BitVec 1) (d : BitVec 6)
    (s : State) : Host.Outcome State Fault Refusal :=
  lane2 s b a w d aluSra
/-- `valu.min` (R174). -/
def execValuMin (b : BitVec 7) (a : BitVec 7) (w : BitVec 1) (d : BitVec 6)
    (s : State) : Host.Outcome State Fault Refusal :=
  lane2 s b a w d aluMin
/-- `valu.max` (R174). -/
def execValuMax (b : BitVec 7) (a : BitVec 7) (w : BitVec 1) (d : BitVec 6)
    (s : State) : Host.Outcome State Fault Refusal :=
  lane2 s b a w d aluMax
/-- `valu.minn` (R174). -/
def execValuMinn (b : BitVec 7) (a : BitVec 7) (w : BitVec 1) (d : BitVec 6)
    (s : State) : Host.Outcome State Fault Refusal :=
  lane2 s b a w d aluMinn
/-- `valu.maxn` (R174). -/
def execValuMaxn (b : BitVec 7) (a : BitVec 7) (w : BitVec 1) (d : BitVec 6)
    (s : State) : Host.Outcome State Fault Refusal :=
  lane2 s b a w d aluMaxn
/-- `valu.mul` (R174). -/
def execValuMul (b : BitVec 7) (a : BitVec 7) (w : BitVec 1) (d : BitVec 6)
    (s : State) : Host.Outcome State Fault Refusal :=
  lane2 s b a w d aluMul
/-- `valu.mulh` (R174). -/
def execValuMulh (b : BitVec 7) (a : BitVec 7) (w : BitVec 1) (d : BitVec 6)
    (s : State) : Host.Outcome State Fault Refusal :=
  lane2 s b a w d aluMulh
/-- `valu.div` (R174). -/
def execValuDiv (b : BitVec 7) (a : BitVec 7) (w : BitVec 1) (d : BitVec 6)
    (s : State) : Host.Outcome State Fault Refusal :=
  lane2 s b a w d aluDiv
/-- `valu.rem` (R174). -/
def execValuRem (b : BitVec 7) (a : BitVec 7) (w : BitVec 1) (d : BitVec 6)
    (s : State) : Host.Outcome State Fault Refusal :=
  lane2 s b a w d aluRem

/-! ## Immediates (R175 to R177) -/

/-- `saddi` (R175). -/
def execSaddi (i : BitVec 11) (a : BitVec 7) (d : BitVec 6) (s : State) : Host.Outcome State Fault Refusal :=
  uni1 s a d (aluAdd · (immS i))
/-- `vaddi` (R175). -/
def execVaddi (i : BitVec 11) (a : BitVec 7) (w : BitVec 1) (d : BitVec 6)
    (s : State) : Host.Outcome State Fault Refusal :=
  lane1 s a w d (aluAdd · (immS i))
/-- `slogi.and` (R176). -/
def execSlogiAnd (i : BitVec 14) (d : BitVec 6) (s : State) : Host.Outcome State Fault Refusal :=
  uniD s d (aluAnd · (immN i))
/-- `slogi.or` (R176). -/
def execSlogiOr (i : BitVec 14) (d : BitVec 6) (s : State) : Host.Outcome State Fault Refusal :=
  uniD s d (aluOr · (immN i))
/-- `slogi.xor` (R176). -/
def execSlogiXor (i : BitVec 14) (d : BitVec 6) (s : State) : Host.Outcome State Fault Refusal :=
  uniD s d (aluXor · (immN i))
/-- `slogi.shl` (R176). -/
def execSlogiShl (i : BitVec 14) (d : BitVec 6) (s : State) : Host.Outcome State Fault Refusal :=
  uniD s d (aluShl · (immN i))
/-- `slogi.shr` (R176). -/
def execSlogiShr (i : BitVec 14) (d : BitVec 6) (s : State) : Host.Outcome State Fault Refusal :=
  uniD s d (aluShr · (immN i))
/-- `slogi.sra` (R176). -/
def execSlogiSra (i : BitVec 14) (d : BitVec 6) (s : State) : Host.Outcome State Fault Refusal :=
  uniD s d (aluSra · (immN i))
/-- `slogi.clr` (R176). -/
def execSlogiClr (i : BitVec 14) (d : BitVec 6) (s : State) : Host.Outcome State Fault Refusal :=
  uniD s d (aluClr · (immN i))
/-- `vlogi.and` (R176). -/
def execVlogiAnd (i : BitVec 14) (w : BitVec 1) (d : BitVec 6) (s : State) : Host.Outcome State Fault Refusal :=
  laneD s w d (aluAnd · (immN i))
/-- `vlogi.or` (R176). -/
def execVlogiOr (i : BitVec 14) (w : BitVec 1) (d : BitVec 6) (s : State) : Host.Outcome State Fault Refusal :=
  laneD s w d (aluOr · (immN i))
/-- `vlogi.xor` (R176). -/
def execVlogiXor (i : BitVec 14) (w : BitVec 1) (d : BitVec 6) (s : State) : Host.Outcome State Fault Refusal :=
  laneD s w d (aluXor · (immN i))
/-- `vlogi.shl` (R176). -/
def execVlogiShl (i : BitVec 14) (w : BitVec 1) (d : BitVec 6) (s : State) : Host.Outcome State Fault Refusal :=
  laneD s w d (aluShl · (immN i))
/-- `vlogi.shr` (R176). -/
def execVlogiShr (i : BitVec 14) (w : BitVec 1) (d : BitVec 6) (s : State) : Host.Outcome State Fault Refusal :=
  laneD s w d (aluShr · (immN i))
/-- `vlogi.sra` (R176). -/
def execVlogiSra (i : BitVec 14) (w : BitVec 1) (d : BitVec 6) (s : State) : Host.Outcome State Fault Refusal :=
  laneD s w d (aluSra · (immN i))
/-- `vlogi.clr` (R176). -/
def execVlogiClr (i : BitVec 14) (w : BitVec 1) (d : BitVec 6) (s : State) : Host.Outcome State Fault Refusal :=
  laneD s w d (aluClr · (immN i))
/-- `slih` (R177). -/
def execSlih (i : BitVec 18) (d : BitVec 6) (s : State) : Host.Outcome State Fault Refusal :=
  uniformOp s (useD d.toNat 1) none fun c => c.warp.setS d.toNat (immH i)
/-- `vlih` (R177). -/
def execVlih (i : BitVec 18) (w : BitVec 1) (d : BitVec 6) (s : State) : Host.Outcome State Fault Refusal :=
  laneOp s (useV d.toNat 1) none fun _ _ th => .ok (th.result (w == 1) d.toNat [immH i], Raised.none)

/-! ## SMISC and VMISC (R178, R179) -/

/-- `smisc.divn` (R178). -/
def execSmiscDivn (b : BitVec 7) (a : BitVec 7) (d : BitVec 6) (s : State) : Host.Outcome State Fault Refusal :=
  uni2 s b a d aluDivn
/-- `vmisc.divn` (R178). -/
def execVmiscDivn (b : BitVec 7) (a : BitVec 7) (w : BitVec 1) (d : BitVec 6)
    (s : State) : Host.Outcome State Fault Refusal :=
  lane2 s b a w d aluDivn
/-- `smisc.remn` (R178). -/
def execSmiscRemn (b : BitVec 7) (a : BitVec 7) (d : BitVec 6) (s : State) : Host.Outcome State Fault Refusal :=
  uni2 s b a d aluRemn
/-- `vmisc.remn` (R178). -/
def execVmiscRemn (b : BitVec 7) (a : BitVec 7) (w : BitVec 1) (d : BitVec 6)
    (s : State) : Host.Outcome State Fault Refusal :=
  lane2 s b a w d aluRemn
/-- `smisc.clz` (R178). -/
def execSmiscClz (a : BitVec 7) (d : BitVec 6) (s : State) : Host.Outcome State Fault Refusal := uni1 s a d aluClz
/-- `vmisc.clz` (R178). -/
def execVmiscClz (a : BitVec 7) (w : BitVec 1) (d : BitVec 6) (s : State) : Host.Outcome State Fault Refusal :=
  lane1 s a w d aluClz
/-- `smisc.ctz` (R178). -/
def execSmiscCtz (a : BitVec 7) (d : BitVec 6) (s : State) : Host.Outcome State Fault Refusal := uni1 s a d aluCtz
/-- `vmisc.ctz` (R178). -/
def execVmiscCtz (a : BitVec 7) (w : BitVec 1) (d : BitVec 6) (s : State) : Host.Outcome State Fault Refusal :=
  lane1 s a w d aluCtz
/-- `smisc.popc` (R178). -/
def execSmiscPopc (a : BitVec 7) (d : BitVec 6) (s : State) : Host.Outcome State Fault Refusal := uni1 s a d aluPopc
/-- `vmisc.popc` (R178). -/
def execVmiscPopc (a : BitVec 7) (w : BitVec 1) (d : BitVec 6) (s : State) : Host.Outcome State Fault Refusal :=
  lane1 s a w d aluPopc
/-- `smisc.brev` (R178). -/
def execSmiscBrev (a : BitVec 7) (d : BitVec 6) (s : State) : Host.Outcome State Fault Refusal := uni1 s a d aluBrev
/-- `vmisc.brev` (R178). -/
def execVmiscBrev (a : BitVec 7) (w : BitVec 1) (d : BitVec 6) (s : State) : Host.Outcome State Fault Refusal :=
  lane1 s a w d aluBrev
/-- `smisc.sext8` (R178). -/
def execSmiscSext8 (a : BitVec 7) (d : BitVec 6) (s : State) : Host.Outcome State Fault Refusal := uni1 s a d aluSext8
/-- `vmisc.sext8` (R178). -/
def execVmiscSext8 (a : BitVec 7) (w : BitVec 1) (d : BitVec 6) (s : State) : Host.Outcome State Fault Refusal :=
  lane1 s a w d aluSext8
/-- `smisc.sext16` (R178). -/
def execSmiscSext16 (a : BitVec 7) (d : BitVec 6) (s : State) : Host.Outcome State Fault Refusal := uni1 s a d aluSext16
/-- `vmisc.sext16` (R178). -/
def execVmiscSext16 (a : BitVec 7) (w : BitVec 1) (d : BitVec 6) (s : State) : Host.Outcome State Fault Refusal :=
  lane1 s a w d aluSext16
/-- `smisc.mulhn` (R178). -/
def execSmiscMulhn (b : BitVec 7) (a : BitVec 7) (d : BitVec 6) (s : State) : Host.Outcome State Fault Refusal :=
  uni2 s b a d aluMulhn
/-- `vmisc.mulhn` (R178). -/
def execVmiscMulhn (b : BitVec 7) (a : BitVec 7) (w : BitVec 1) (d : BitVec 6)
    (s : State) : Host.Outcome State Fault Refusal :=
  lane2 s b a w d aluMulhn
/-- `smisc.rot` (R178). -/
def execSmiscRot (b : BitVec 7) (a : BitVec 7) (d : BitVec 6) (s : State) : Host.Outcome State Fault Refusal :=
  uni2 s b a d aluRot
/-- `vmisc.rot` (R178). -/
def execVmiscRot (b : BitVec 7) (a : BitVec 7) (w : BitVec 1) (d : BitVec 6)
    (s : State) : Host.Outcome State Fault Refusal :=
  lane2 s b a w d aluRot
/-- `smisc.add64` (R179). -/
def execSmiscAdd64 (b : BitVec 7) (a : BitVec 7) (d : BitVec 6) (s : State) : Host.Outcome State Fault Refusal :=
  uni64 s b a d aluAdd64
/-- `vmisc.add64` (R179). -/
def execVmiscAdd64 (b : BitVec 7) (a : BitVec 7) (w : BitVec 1) (d : BitVec 6)
    (s : State) : Host.Outcome State Fault Refusal :=
  lane64 s b a w d aluAdd64
/-- `smisc.sub64` (R179). -/
def execSmiscSub64 (b : BitVec 7) (a : BitVec 7) (d : BitVec 6) (s : State) : Host.Outcome State Fault Refusal :=
  uni64 s b a d aluSub64
/-- `vmisc.sub64` (R179). -/
def execVmiscSub64 (b : BitVec 7) (a : BitVec 7) (w : BitVec 1) (d : BitVec 6)
    (s : State) : Host.Outcome State Fault Refusal :=
  lane64 s b a w d aluSub64
/-- `smisc.mad` (R179). -/
def execSmiscMad (b : BitVec 7) (a : BitVec 7) (d : BitVec 6) (s : State) : Host.Outcome State Fault Refusal :=
  uniformOp s ((useUni a 1).and ((useUni b 1).and ((useS d.toNat 1).and (useD d.toNat 1)))) none fun c =>
    c.warp.setS d.toNat (aluMad (c.warp.sreg d.toNat) (c.usrc a) (c.usrc b))
/-- `vmisc.mad` (R179). -/
def execVmiscMad (b : BitVec 7) (a : BitVec 7) (w : BitVec 1) (d : BitVec 6)
    (s : State) : Host.Outcome State Fault Refusal :=
  laneOp s ((useSrc a 1).and ((useSrc b 1).and (useV d.toNat 1))) none fun c t th =>
    match c.src t th a, c.src t th b with
    | some x, some y => .ok (th.result (w == 1) d.toNat [aluMad (th.vreg d.toNat) x y], Raised.none)
    | _, _ => .error staleLatch
/-- `smisc.mad64` (R179). -/
def execSmiscMad64 (b : BitVec 7) (a : BitVec 7) (d : BitVec 6) (s : State) : Host.Outcome State Fault Refusal :=
  uniformOp s ((useUni a 1).and ((useUni b 1).and ((useS d.toNat 2).and (useD d.toNat 2)))) none fun c =>
    c.warp.setSPair d.toNat (aluMad64 (c.warp.spair d.toNat) (c.usrc a) (c.usrc b))
/-- `vmisc.mad64` (R179). -/
def execVmiscMad64 (b : BitVec 7) (a : BitVec 7) (w : BitVec 1) (d : BitVec 6)
    (s : State) : Host.Outcome State Fault Refusal :=
  laneOp s ((useSrc a 1).and ((useSrc b 1).and (useV d.toNat 2))) none fun c t th =>
    match c.src t th a, c.src t th b with
    | some x, some y =>
      let r := aluMad64 (th.vpair d.toNat) x y
      .ok (th.result (w == 1) d.toNat [lowWord r, highWord r], Raised.none)
    | _, _ => .error staleLatch

/-! ## Compares (R180) -/

/-- `scmp.eq` (R180). -/
def execScmpEq (b : BitVec 7) (a : BitVec 7) (d : BitVec 6) (s : State) : Host.Outcome State Fault Refusal :=
  uni2 s b a d (truth cmpEq)
/-- `scmp.ne` (R180). -/
def execScmpNe (b : BitVec 7) (a : BitVec 7) (d : BitVec 6) (s : State) : Host.Outcome State Fault Refusal :=
  uni2 s b a d (truth cmpNe)
/-- `scmp.lt` (R180). -/
def execScmpLt (b : BitVec 7) (a : BitVec 7) (d : BitVec 6) (s : State) : Host.Outcome State Fault Refusal :=
  uni2 s b a d (truth cmpLt)
/-- `scmp.le` (R180). -/
def execScmpLe (b : BitVec 7) (a : BitVec 7) (d : BitVec 6) (s : State) : Host.Outcome State Fault Refusal :=
  uni2 s b a d (truth cmpLe)
/-- `scmp.ltn` (R180). -/
def execScmpLtn (b : BitVec 7) (a : BitVec 7) (d : BitVec 6) (s : State) : Host.Outcome State Fault Refusal :=
  uni2 s b a d (truth cmpLtn)
/-- `scmp.len` (R180). -/
def execScmpLen (b : BitVec 7) (a : BitVec 7) (d : BitVec 6) (s : State) : Host.Outcome State Fault Refusal :=
  uni2 s b a d (truth cmpLen)
/-- `vcmp.eq` (R180). -/
def execVcmpEq (b : BitVec 7) (a : BitVec 7) (p : BitVec 3) (s : State) : Host.Outcome State Fault Refusal :=
  vcmp2 s b a p cmpEq
/-- `vcmp.ne` (R180). -/
def execVcmpNe (b : BitVec 7) (a : BitVec 7) (p : BitVec 3) (s : State) : Host.Outcome State Fault Refusal :=
  vcmp2 s b a p cmpNe
/-- `vcmp.lt` (R180). -/
def execVcmpLt (b : BitVec 7) (a : BitVec 7) (p : BitVec 3) (s : State) : Host.Outcome State Fault Refusal :=
  vcmp2 s b a p cmpLt
/-- `vcmp.le` (R180). -/
def execVcmpLe (b : BitVec 7) (a : BitVec 7) (p : BitVec 3) (s : State) : Host.Outcome State Fault Refusal :=
  vcmp2 s b a p cmpLe
/-- `vcmp.ltn` (R180). -/
def execVcmpLtn (b : BitVec 7) (a : BitVec 7) (p : BitVec 3) (s : State) : Host.Outcome State Fault Refusal :=
  vcmp2 s b a p cmpLtn
/-- `vcmp.len` (R180). -/
def execVcmpLen (b : BitVec 7) (a : BitVec 7) (p : BitVec 3) (s : State) : Host.Outcome State Fault Refusal :=
  vcmp2 s b a p cmpLen
/-- `vcmp.eq64` (R180). -/
def execVcmpEq64 (b : BitVec 7) (a : BitVec 7) (p : BitVec 3) (s : State) : Host.Outcome State Fault Refusal :=
  vcmp64 s b a p cmpEq64
/-- `vcmp.lt64` (R180). -/
def execVcmpLt64 (b : BitVec 7) (a : BitVec 7) (p : BitVec 3) (s : State) : Host.Outcome State Fault Refusal :=
  vcmp64 s b a p cmpLt64
/-- `vcmp.ltn64` (R180). -/
def execVcmpLtn64 (b : BitVec 7) (a : BitVec 7) (p : BitVec 3) (s : State) : Host.Outcome State Fault Refusal :=
  vcmp64 s b a p cmpLtn64

/-! ## Predicates and votes (R182) -/

/-- `pred.and` (R182). -/
def execPredAnd (b : BitVec 4) (a : BitVec 4) (d : BitVec 3) (s : State) : Host.Outcome State Fault Refusal :=
  pred2 s b a d (· && ·)
/-- `pred.or` (R182). -/
def execPredOr (b : BitVec 4) (a : BitVec 4) (d : BitVec 3) (s : State) : Host.Outcome State Fault Refusal :=
  pred2 s b a d (· || ·)
/-- `pred.xor` (R182). -/
def execPredXor (b : BitVec 4) (a : BitVec 4) (d : BitVec 3) (s : State) : Host.Outcome State Fault Refusal :=
  pred2 s b a d (· ^^ ·)
/-- `pred.andn` (R182). -/
def execPredAndn (b : BitVec 4) (a : BitVec 4) (d : BitVec 3) (s : State) : Host.Outcome State Fault Refusal :=
  pred2 s b a d (· && !·)
/-- `pred.any` (R182). -/
def execPredAny (a : BitVec 4) (d : BitVec 3) (s : State) : Host.Outcome State Fault Refusal :=
  vote s a d (fun l => l.any id)
/-- `pred.all` (R182). -/
def execPredAll (a : BitVec 4) (d : BitVec 3) (s : State) : Host.Outcome State Fault Refusal :=
  vote s a d (fun l => l.all id)
/-- `pred.uni` (R182). -/
def execPredUni (a : BitVec 4) (d : BitVec 3) (s : State) : Host.Outcome State Fault Refusal :=
  vote s a d (fun l => l.all id || l.all (!·))
/-- `pred.ballot` (R182). -/
def execPredBallot (a : BitVec 4) (w : BitVec 1) (d : BitVec 6) (s : State) : Host.Outcome State Fault Refusal :=
  exchangeOp s (useV d.toNat 1) (fun _ _ th => some (th.selector a)) fun all _ th _ =>
    (th.result (w == 1) d.toNat [maskOf fun t => all t == some true], Raised.none)
/-- `pred.tov` (R182). -/
def execPredTov (w : BitVec 1) (d : BitVec 6) (s : State) : Host.Outcome State Fault Refusal :=
  laneOp s (useV d.toNat 1) none fun _ _ th => .ok (th.result (w == 1) d.toNat [th.p.setWidth 32], Raised.none)
/-- `pred.fromv` (R182). -/
def execPredFromv (a : BitVec 7) (s : State) : Host.Outcome State Fault Refusal :=
  laneOp s (useSrc a 1) none fun c t th =>
    match c.src t th a with
    | some x => .ok ({ th with p := x.setWidth 8 }, Raised.none)
    | none => .error staleLatch

/-! ## Exchanges and integer reductions (R183, R184) -/

/-- `xch.shfl` (R183). -/
def execXchShfl (b : BitVec 7) (a : BitVec 7) (w : BitVec 1) (d : BitVec 6)
    (s : State) : Host.Outcome State Fault Refusal :=
  shuffle s b a w d fun _ n => some n
/-- `xch.shup` (R183). -/
def execXchShup (b : BitVec 7) (a : BitVec 7) (w : BitVec 1) (d : BitVec 6)
    (s : State) : Host.Outcome State Fault Refusal :=
  shuffle s b a w d fun t n => if n ≤ t then some (t - n) else none
/-- `xch.shdn` (R183); no thread of 32 or above counts. -/
def execXchShdn (b : BitVec 7) (a : BitVec 7) (w : BitVec 1) (d : BitVec 6)
    (s : State) : Host.Outcome State Fault Refusal :=
  shuffle s b a w d fun t n => some (t + n)
/-- `xch.shxor` (R183). -/
def execXchShxor (b : BitVec 7) (a : BitVec 7) (w : BitVec 1) (d : BitVec 6)
    (s : State) : Host.Outcome State Fault Refusal :=
  shuffle s b a w d fun t n => some (t ^^^ n)
/-- `xch.bcast` (R183). -/
def execXchBcast (a : BitVec 7) (w : BitVec 1) (d : BitVec 6) (s : State) : Host.Outcome State Fault Refusal :=
  exchangeOp s ((useSrc a 1).and (useV d.toNat 1)) (fun c t th => c.src t th a) fun all _ th x =>
    (th.result (w == 1) d.toNat [((counted all).head?).getD x], Raised.none)
/-- `xch.radd` (R184). -/
def execXchRadd (a : BitVec 7) (w : BitVec 1) (d : BitVec 6) (s : State) : Host.Outcome State Fault Refusal :=
  reduce s a w d (plain aluAdd)
/-- `xch.rmin` (R184). -/
def execXchRmin (a : BitVec 7) (w : BitVec 1) (d : BitVec 6) (s : State) : Host.Outcome State Fault Refusal :=
  reduce s a w d (plain aluMin)
/-- `xch.rmax` (R184). -/
def execXchRmax (a : BitVec 7) (w : BitVec 1) (d : BitVec 6) (s : State) : Host.Outcome State Fault Refusal :=
  reduce s a w d (plain aluMax)
/-- `xch.rminn` (R184). -/
def execXchRminn (a : BitVec 7) (w : BitVec 1) (d : BitVec 6) (s : State) : Host.Outcome State Fault Refusal :=
  reduce s a w d (plain aluMinn)
/-- `xch.rmaxn` (R184). -/
def execXchRmaxn (a : BitVec 7) (w : BitVec 1) (d : BitVec 6) (s : State) : Host.Outcome State Fault Refusal :=
  reduce s a w d (plain aluMaxn)
/-- `xch.rand` (R184). -/
def execXchRand (a : BitVec 7) (w : BitVec 1) (d : BitVec 6) (s : State) : Host.Outcome State Fault Refusal :=
  reduce s a w d (plain aluAnd)
/-- `xch.rior` (R184). -/
def execXchRior (a : BitVec 7) (w : BitVec 1) (d : BitVec 6) (s : State) : Host.Outcome State Fault Refusal :=
  reduce s a w d (plain aluOr)
/-- `xch.rxor` (R184). -/
def execXchRxor (a : BitVec 7) (w : BitVec 1) (d : BitVec 6) (s : State) : Host.Outcome State Fault Refusal :=
  reduce s a w d (plain aluXor)

end Sys2Proof.Machine
end

