-- ==== Sys2Proof/Machine/LoadStore.lean ====
section
/-! DEFINITION. Loads, stores, atomics, lattice forms, fences and maintenance, scratchpad and spiral instructions
(R223 to R243). -/
namespace Sys2Proof.Machine

/-! ## Addresses and registers -/

/-- The effective address of a thread (R223). -/
def Ctx.address (c : Ctx) (t : Nat) (th : Thread) (a : BitVec 7) : Dword := (c.src64 false t th a).getD 0
/-- The address of a thread of the issue. -/
def State.addressOf (s : State) (c : Cur) (w : Warp) (t : Nat) (a : BitVec 7) : Dword :=
  (s.ctxOf c w t).address t (w.reader t) a
/-- The registers of an access of n bytes. -/
def groupSize (n : Nat) : Nat := max 1 (n / 4)
/-- Bytes as registers, the lowest first, zero-extended when narrower than 32 bits (R140). -/
def registersOf (bs : List Byte) : List Word :=
  (List.range (groupSize bs.length)).map fun i => BitVec.ofNat 32 (bytesNat ((bs.drop (4 * i)).take 4))
/-- The low n bytes of the group of D (R227). -/
def Thread.groupBytes (th : Thread) (d n : Nat) : List Byte :=
  ((List.range (groupSize n)).flatMap fun i => natBytes 4 (th.vreg (d + i)).toNat).take n

/-! ## Loads and stores -/

/-- LD, LDAQ and the offset loads (R227 to R229), of a kind with a mask (R104). -/
def loadOp (s : State) (rq : Nat) (k : Kind) (o : BitVec 5) (a : BitVec 7) (d : BitVec 6) (n : Nat) (off : Dword) :
    Host.Outcome State Fault Refusal :=
  eachOp s ((useSrc a 2).and (useV d.toNat (groupSize n))) none true fun s c w t =>
    (s.threadLoad ((s.whoIs c w t).as k o) rq (s.addressOf c w t a + off) n).act s fun r =>
      r.1.wrote c t fun th => { th.result false d.toNat (registersOf r.2.2) with view := r.2.1 }
/-- ST, STRL and the offset stores (R227 to R229), of a kind with a mask (R104). -/
def storeOp (s : State) (rq : Nat) (k : Kind) (o : BitVec 5) (a : BitVec 7) (d : BitVec 6) (n : Nat) (off : Dword) :
    Host.Outcome State Fault Refusal :=
  eachOp s ((useSrc a 2).and (useV d.toNat (groupSize n))) none false fun s c w t =>
    (s.threadStore ((s.whoIs c w t).as k o) rq (s.addressOf c w t a + off) ((w.thread t).groupBytes d.toNat n)).act s fun r =>
      r.1.wrote c t fun th => { th with view := r.2 }

/-- `ld` (R227): strong when it has observers (R104). -/
def execLd (z : BitVec 3) (o : BitVec 5) (q : BitVec 3) (a : BitVec 7) (d : BitVec 6) (s : State) :
    Host.Outcome State Fault Refusal := loadOp s q.toNat (kindOf o .strong) o a d (2 ^ z.toNat) 0
/-- `st` (R227). -/
def execSt (z : BitVec 3) (o : BitVec 5) (q : BitVec 3) (a : BitVec 7) (d : BitVec 6) (s : State) :
    Host.Outcome State Fault Refusal := storeOp s q.toNat (kindOf o .strong) o a d (2 ^ z.toNat) 0
/-- The O forms (R229): type OW, weak; the offset counts in units of the size. -/
def execLdo32 (f : BitVec 11) (a : BitVec 7) (d : BitVec 6) (s : State) : Host.Outcome State Fault Refusal :=
  loadOp s 0 .weak 0 a d 4 (4 * f.signExtend 64)
/-- `ldo64` (R229). -/
def execLdo64 (f : BitVec 11) (a : BitVec 7) (d : BitVec 6) (s : State) : Host.Outcome State Fault Refusal :=
  loadOp s 0 .weak 0 a d 8 (8 * f.signExtend 64)
/-- `sto32` (R229). -/
def execSto32 (f : BitVec 11) (a : BitVec 7) (d : BitVec 6) (s : State) : Host.Outcome State Fault Refusal :=
  storeOp s 0 .weak 0 a d 4 (4 * f.signExtend 64)
/-- `sto64` (R229). -/
def execSto64 (f : BitVec 11) (a : BitVec 7) (d : BitVec 6) (s : State) : Host.Outcome State Fault Refusal :=
  storeOp s 0 .weak 0 a d 8 (8 * f.signExtend 64)
/-- `ldaq` (R228). -/
def execLdaq (z : BitVec 2) (o : BitVec 5) (q : BitVec 3) (a : BitVec 7) (d : BitVec 6) (s : State) :
    Host.Outcome State Fault Refusal := loadOp s q.toNat .acquire o a d (2 ^ z.toNat) 0
/-- `strl` (R228). -/
def execStrl (z : BitVec 2) (o : BitVec 5) (q : BitVec 3) (a : BitVec 7) (d : BitVec 6) (s : State) :
    Host.Outcome State Fault Refusal := storeOp s q.toNat .release o a d (2 ^ z.toNat) 0

/-! ## Atomics (R230 to R232) -/

/-- An atomic of n bytes: `k` registers of D are named, the first n / 4 receive the old value; `f` gives the new value
of the old one and the thread, or nothing to write. -/
def atomicOp (s : State) (o : BitVec 5) (q : BitVec 3) (a : BitVec 7) (d : BitVec 6) (n k : Nat)
    (f : Thread → Dword → Option Dword) : Host.Outcome State Fault Refusal :=
  eachOp s ((useSrc a 2).and (useV d.toNat k)) none true fun s c w t =>
    (s.threadAtomic ((s.whoIs c w t).as (kindOf o .release) o) q.toNat (s.addressOf c w t a) n (f (w.thread t))).act s fun r =>
      r.1.wrote c t fun th => { th.result false d.toNat (registersOf (natBytes n r.2.2.toNat)) with view := r.2.1 }

/-- AMO32 (R230). -/
def amo32 (s : State) (o : BitVec 5) (q : BitVec 3) (a : BitVec 7) (d : BitVec 6) (f : Word → Word → Word) :
    Host.Outcome State Fault Refusal :=
  atomicOp s o q a d 4 1 fun th old => some ((f (lowWord old) (th.vreg d.toNat)).setWidth 64)
def execAmo32Add (o : BitVec 5) (q : BitVec 3) (a : BitVec 7) (d : BitVec 6) (s : State) :
    Host.Outcome State Fault Refusal := amo32 s o q a d aluAdd
def execAmo32And (o : BitVec 5) (q : BitVec 3) (a : BitVec 7) (d : BitVec 6) (s : State) :
    Host.Outcome State Fault Refusal := amo32 s o q a d aluAnd
def execAmo32Or (o : BitVec 5) (q : BitVec 3) (a : BitVec 7) (d : BitVec 6) (s : State) :
    Host.Outcome State Fault Refusal := amo32 s o q a d aluOr
def execAmo32Xor (o : BitVec 5) (q : BitVec 3) (a : BitVec 7) (d : BitVec 6) (s : State) :
    Host.Outcome State Fault Refusal := amo32 s o q a d aluXor
def execAmo32Min (o : BitVec 5) (q : BitVec 3) (a : BitVec 7) (d : BitVec 6) (s : State) :
    Host.Outcome State Fault Refusal := amo32 s o q a d aluMin
def execAmo32Max (o : BitVec 5) (q : BitVec 3) (a : BitVec 7) (d : BitVec 6) (s : State) :
    Host.Outcome State Fault Refusal := amo32 s o q a d aluMax
def execAmo32Minn (o : BitVec 5) (q : BitVec 3) (a : BitVec 7) (d : BitVec 6) (s : State) :
    Host.Outcome State Fault Refusal := amo32 s o q a d aluMinn
def execAmo32Maxn (o : BitVec 5) (q : BitVec 3) (a : BitVec 7) (d : BitVec 6) (s : State) :
    Host.Outcome State Fault Refusal := amo32 s o q a d aluMaxn

/-- `amox.xchg` (R231). -/
def execAmoxXchg (o : BitVec 5) (q : BitVec 3) (a : BitVec 7) (d : BitVec 6) (s : State) :
    Host.Outcome State Fault Refusal :=
  atomicOp s o q a d 4 1 fun th _ => some ((th.vreg d.toNat).setWidth 64)
/-- `amox.xchg64` (R231). -/
def execAmoxXchg64 (o : BitVec 5) (q : BitVec 3) (a : BitVec 7) (d : BitVec 6) (s : State) :
    Host.Outcome State Fault Refusal :=
  atomicOp s o q a d 8 2 fun th _ => some (th.vpair d.toNat)
/-- `amox.cas` (R231): v(D) is expected, v(D + 1) new. -/
def execAmoxCas (o : BitVec 5) (q : BitVec 3) (a : BitVec 7) (d : BitVec 6) (s : State) :
    Host.Outcome State Fault Refusal :=
  atomicOp s o q a d 4 2 fun th old =>
    if lowWord old = th.vreg d.toNat then some ((th.vreg (d.toNat + 1)).setWidth 64) else none
/-- `amox.cas64` (R231). -/
def execAmoxCas64 (o : BitVec 5) (q : BitVec 3) (a : BitVec 7) (d : BitVec 6) (s : State) :
    Host.Outcome State Fault Refusal :=
  atomicOp s o q a d 8 4 fun th old => if old = th.vpair d.toNat then some (th.vpair (d.toNat + 2)) else none
/-- `amox.fadd` (R231): it raises no flag. -/
def execAmoxFadd (o : BitVec 5) (q : BitVec 3) (a : BitVec 7) (d : BitVec 6) (s : State) :
    Host.Outcome State Fault Refusal :=
  atomicOp s o q a d 4 1 fun th old =>
    some (BitVec.ofNat 64 (fp32.add false .rne (lowWord old).toNat (th.vreg d.toNat).toNat).1)
/-- `amox.add64` (R231). -/
def execAmoxAdd64 (o : BitVec 5) (q : BitVec 3) (a : BitVec 7) (d : BitVec 6) (s : State) :
    Host.Outcome State Fault Refusal :=
  atomicOp s o q a d 8 2 fun th old => some (old + th.vpair d.toNat)

/-! ## Lattice forms (R233 to R235) -/

/-- Uses of the LAT forms. -/
def latticeUses (b a : BitVec 7) (d : BitVec 6) : Uses := (useSrc a 2).and ((useSrc b 1).and (useV d.toNat 2))

/-- `lst` (R234). -/
def execLst (b a : BitVec 7) (d : BitVec 6) (s : State) : Host.Outcome State Fault Refusal :=
  eachOp s (latticeUses b a d) none false fun s c w t =>
    let o := BitVec.ofNat 5 (((s.ctxOf c w t).src t (w.reader t) b).getD 0).toNat
    (s.threadJoin ((s.whoIs c w t).as (kindOf o .release) o) (s.addressOf c w t a) ((w.thread t).vpair d.toNat)).act s fun r =>
      r.1.wrote c t fun th => { th with view := r.2 }

/-- The delivery of `lld` and `lpoll` (R235): the cell, the predicate, and one touch. -/
def State.deliverCell (s : State) (c : Cur) (t : Nat) (p : Partition) (stack pa a : Nat) (cell : Dword) (d : BitVec 6)
    (k : Nat) (b : Bool) : State :=
  ((s.touchRep true p stack pa).wrote c t fun th =>
    { (th.result false d.toNat [lowWord cell, highWord cell]).setP k b with
      view := s.cellTime stack a 8 th.view, timeout := 0 })

/-- `lld` (R235, R127). A thread that waits keeps the cycle at which it expires; LLD_TIMEOUT makes it issue again. -/
def execLld (b a : BitVec 7) (d : BitVec 6) (s : State) : Host.Outcome State Fault Refusal :=
  eachOp s (latticeUses b a d) none true fun s c w t =>
    let th := w.thread t
    let ctl := ((s.ctxOf c w t).src t (w.reader t) b).getD 0
    let who := s.whoIs c w t
    let limit := ctl.toNat / 256
    match s.threadCell who (s.addressOf c w t a) (th.vpair d.toNat) with
    | .trap x => .trap x
    | .wait x => .wait s x
    | .ok (s1, p, pa, ca, cell, sat) =>
      if sat then .done (s1.deliverCell c t p who.stack pa ca cell d (bits ctl.toNat 5 3) false)
      else if th.timeout ≠ 0 ∧ th.timeout < s.cycle then
        .done (s1.deliverCell c t p who.stack pa ca cell d (bits ctl.toNat 5 3) true)
      else
        let expiry := if th.timeout = 0 ∧ limit ≠ 0 then s.cycle + limit else th.timeout
        .wait (s1.onThread c.warp t fun th => { th with timeout := expiry })
          (.lattice ca who.stack ((tfind s1.latPages (ca / 4096)).getD 0) (th.vpair d.toNat))

/-- `lpoll` (R235). -/
def execLpoll (b a : BitVec 7) (d : BitVec 6) (s : State) : Host.Outcome State Fault Refusal :=
  eachOp s (latticeUses b a d) none true fun s c w t =>
    let ctl := ((s.ctxOf c w t).src t (w.reader t) b).getD 0
    let who := s.whoIs c w t
    match s.threadCell who (s.addressOf c w t a) ((w.thread t).vpair d.toNat) with
    | .trap x => .trap x
    | .wait x => .wait s x
    | .ok (s1, p, pa, ca, cell, sat) => .done (s1.deliverCell c t p who.stack pa ca cell d (bits ctl.toNat 5 3) sat)

/-! ## Fences and maintenance (R236 to R238) -/

/-- A fence with observers in a thread (R105, R111, R116): it is kept for what follows; one with c acquires what the thread's
strong reads have met, and from then on no lease granted before it serves the thread. -/
def Thread.fence (m : BitVec 5) (draw : Nat) (th : Thread) : Thread :=
  let th := { th with fences := th.fences ||| m }
  if m.getLsbD 0 then { th with view := laterOf th.view th.met, fenced := draw } else th

/-- `fence` (R118, R237); without observers it has no effect. -/
def execFence (m : BitVec 5) (s : State) : Host.Outcome State Fault Refusal :=
  onIssue s fun c w => gated s c w Uses.none none false fun c _ s =>
    (if m = 0 then s else (s.onWarp c.warp fun w => w.onThreads c.taking (Thread.fence m s.draws)).drawn).advance c c.group

/-- The addresses of the lines that overlap [a, a + n) (R236). -/
def firstLine (a : Dword) : Dword := a - BitVec.ofNat 64 (a.toNat % 128)
def lineCount (a : Dword) (n : Nat) : Nat := if n = 0 then 0 else (a.toNat % 128 + n + 127) / 128

/-- Visit lines in ascending order until one faults: the state, the write-backs started, and the fault. -/
def State.eachLine (f : State → Dword → Answer (State × List Nat)) :
    Nat → Dword → State → List Nat → State × List Nat × Option (Trap ⊕ Wait)
  | 0, _, s, ids => (s, ids, none)
  | k + 1, va, s, ids =>
    match f s va with
    | .ok (s1, l) => State.eachLine f k (va + 128) s1 (ids ++ l)
    | .trap t => (s, ids, some (.inl t))
    | .wait w => (s, ids, some (.inr w))

/-- The words of a target's line that a core owns go home. -/
def State.lineHome (s : State) (core : Nat) (t : Target) : State :=
  (t.words 128).foldl (fun s w => if s.owns core w then s.giveBack w else s) s

/-- `cwb` of a line of DRAM or host memory (R119): the words that the core owns go home; with them, when h or p stands in the
mask, some bytes of a resident tile go to DRAM, given by offset in the tile and number. The write-backs it started. -/
def State.cleanLine (s : State) (core : Nat) (t : Target) (far : List (Nat × Nat)) : State × List Nat :=
  let s1 := s.lineHome core t
  match t with
  | .dram p pa a =>
    let band := p.home (pa / 2048)
    let sp := Spiral.of s1 band
    if s1.resident band (pa / 2048) then
      s1.queueBack band (p.priorityOf (((sp.record (pa / 2048)).map Tile.handle).getD 0))
        (far.flatMap fun x => s1.staleBytes (a - a % 2048 + x.1) x.2)
    else (s1, [])
  | _ => (s1, [])

/-- What the home slice of a word holds: all but what its owner has written. -/
def State.homeWord (s : State) (w : Nat) : List Byte :=
  match tfind s.homes w with
  | some x => if (tfind s.owned w).isSome then natBytes 4 x.toNat else s.rawWord w
  | none => s.rawWord w

/-- `cwb` of a line mapped to scratchpad (R93, R119): its contents go to DRAM, for whichever core's access the scratchpad of the
range's partition serves (R15). -/
def State.cleanPad (s : State) (core k : Nat) : State × List Nat :=
  match s.partOfBand (k / 2097152 / 8), s.padRange k with
  | some (_, p), some pa =>
    let s1 := s.lineHome core (.pad k)
    let bytes := (padWords k 128).flatMap s1.homeWord
    s1.queueBack (p.home (pa / 2048)) 0 ((List.range 128).map fun i => (p.toPackage pa + i, bytes.getD i 0))
  | _, _ => (s, [])

/-- `cinv` of a line, in the data cache (R120). -/
def State.dropLine (s : State) (core : Nat) (t : Target) : State :=
  (s.lineHome core t).dropCopies core (t.words 128)

/-- `discard` of a line of DRAM (R121): dirty words and queued write-backs of the line are dropped, and the line holds
what DRAM holds. -/
def State.discardLine (s : State) (a : Nat) : State :=
  let inLine := fun (x : Nat) => x / 128 == a / 128
  { s with mem := (s.under.filter fun e => inLine e.1).foldl (fun m e => wput m e.1 e.2) s.mem,
           under := s.under.filter fun e => !inLine e.1,
           owned := s.owned.filter fun e => !inLine (4 * e.1),
           homes := s.homes.filter fun e => !inLine (4 * e.1),
           poison := s.poison.filter fun e => !inLine e.1,
           wbq := s.wbq.map fun e => (e.1, (e.2.map fun b => { b with bytes := b.bytes.filter fun c => !inLine c.1 }).filter
             fun b => !b.bytes.isEmpty) }

/-- The tiles of partition addresses that lie wholly inside a discarded range (R121) leave their spirals; none does at reduced
service (R389). -/
def State.discardTile (s : State) (p : Partition) (tile : Nat) : State :=
  let band := p.home tile
  let sp := Spiral.of s band
  if s.atReduced band then s else
  match sp.position tile with
  | some (_, pin) =>
    let s1 := s.setSpiral band (sp.remove tile)
    if pin then s1.unpinned p (((sp.record tile).map Tile.owner).getD none) else s1
  | none => s

/-- The faulting address of a range form (R223): the first byte of the page that failed, of the size that its leaf has, 4 KiB
where there is none (log 82); a line that failed stands as it is. -/
def State.rangeTrap (s : State) (core : Nat) (t : Trap) : Trap :=
  if t.cause = 5 ∨ t.cause = 6 ∨ t.cause = 7 then
    let size := match s.partOfCore core with | some (_, p) => s.pageSize p core t.addr | none => 4096
    { t with addr := t.addr - BitVec.ofNat 64 (t.addr.toNat % size) }
  else t

/-- One thread of a range form: nothing to do, a trap, or its range, after which it waits for the completion (R236,
R237). -/
def rangeThread (c : Cur) (w : Warp) (b a : BitVec 7)
    (f : State → Who → Dword → Nat → State × List Nat × Option (Trap ⊕ Wait)) (acc : State × List (Nat × Trap)) (t : Nat) :
    State × List (Nat × Trap) :=
  let who := acc.1.whoIs c w t
  let va := acc.1.addressOf c w t a
  match (acc.1.ctxOf c w t).src t (w.reader t) b with
  | none => (acc.1, acc.2 ++ [(t, staleLatch)])
  | some n =>
    if n = 0 then (acc.1.onThread c.warp t fun th => { th with pc := c.next, held := none }, acc.2)
    else if !canonical va && !isSupervisorCore who.core then (acc.1, acc.2 ++ [(t, acc.1.rangeTrap who.core (trapAt 5 1 va))])
    else
      let r := f acc.1 who va n.toNat
      match r.2.2 with
      | some (.inl e) => (r.1, acc.2 ++ [(t, r.1.rangeTrap who.core e)])
      | some (.inr e) => (r.1.block c (setBit 0 t true) e, acc.2)
      | none => (r.1.block c (setBit 0 t true) (.range r.2.1 c.next), acc.2)
/-- A range form: the ranges of the threads, ascending. -/
def rangeOp (s : State) (b a : BitVec 7) (f : State → Who → Dword → Nat → State × List Nat × Option (Trap ⊕ Wait)) :
    Host.Outcome State Fault Refusal :=
  onIssue s fun c w => gated s c w ((useSrc a 2).and (useSrc b 1)) none false fun c w s =>
    let q := (threadsOf c.taking).foldl (rangeThread c w b a f)
      (s.advance c (c.group &&& ~~~c.taking), [])
    if q.2.isEmpty then q.1 else q.1.raise c q.2

/-- The target of a line of a range, of a lattice page the replica of the thread's stack; a lost line traps. -/
def State.lineSite (s : State) (w : Who) (need : Need) (va : Dword) : Answer (State × Site × Target) :=
  (s.site w va 1 need).andThen fun r =>
    if r.1.lostTarget r.2.2 then .trap (trapAt 0xB 0 va)
    else match r.2.2 with
      | .cells p pa a _ =>
        if r.1.repDead p a w.stack then .trap (trapAt 0xB 0 va) else .ok (r.1, r.2.1, .rep p pa a w.stack)
      | .nothing => .trap (trapAt 6 5 va)
      | .down x => .wait x
      | _ => .ok r

/-- What a `cwb` with h or p writes of a tile at one of its lines (R119): the line, and at the first line of the range in the
tile also what the tile holds outside the range. Offsets in the tile and numbers of bytes; `left` bytes of the range follow. -/
def tileSpan (o left : Nat) (first : Bool) : List (Nat × Nat) :=
  if first then [(0, o), (o, 128), (min 2048 (o + left), 2048 - min 2048 (o + left))] else [(o, 128)]

/-- The lines of a range that `cwb` cleans (R119), in ascending order until one faults; `m` is its agent mask. -/
def State.cwbRange (m : BitVec 5) (s : State) (w : Who) (va : Dword) (n : Nat) : State × List Nat × Option (Trap ⊕ Wait) :=
  State.eachLine (fun s l => (s.lineSite w needRead l).andThen fun r =>
    let span := tileSpan (l.toNat % 2048) (128 * lineCount va n - (l - firstLine va).toNat)
      (l == firstLine va || l.toNat % 2048 == 0)
    match r.2.2 with
    | .pad k => .ok (r.1.cleanPad w.core k)
    | t => .ok (r.1.cleanLine w.core t (if m.getLsbD 3 || m.getLsbD 4 then span else []))) (lineCount va n) (firstLine va) s []
/-- The lines that `cinv` drops (R120): of read permission. -/
def State.cinvRange (s : State) (w : Who) (va : Dword) (n : Nat) : State × List Nat × Option (Trap ⊕ Wait) :=
  State.eachLine (fun s va => (s.lineSite w needRead va).andThen fun r => .ok ((r.1.dropLine w.core r.2.2).dropCode w.core r.2.1.pa, []))
    (lineCount va n) (firstLine va) s []
/-- The lines that `discard` drops (R121): every page is translated first, and a lattice page refuses the whole range. Lines of
the range in host memory stay as they are, for R121 drops lines of the partition and DRAM contents (log 103). -/
def State.discardRange (s : State) (w : Who) (va : Dword) (n : Nat) : State × List Nat × Option (Trap ⊕ Wait) :=
  if va.toNat % 128 ≠ 0 ∨ n % 128 ≠ 0 then (s, [], some (.inl (trapAt 4 128 va)))
  else
    let check := State.eachLine (fun s va => (s.site w va 1 needWrite).andThen fun r =>
      match r.2.2 with
      | .cells _ _ _ _ => .trap (trapAt 7 0 va)
      | .nothing => .trap (trapAt 6 5 va)
      | .down x => .wait x
      | _ => .ok (r.1, [])) (n / 128) va s []
    match check.2.2 with
    | some e => (s, [], some e)
    | none =>
      let lines := (List.range (n / 128)).filterMap fun i =>
        match check.1.site w (va + BitVec.ofNat 64 (128 * i)) 1 needWrite with
        | .ok (_, _, .dram p pa a) => some (p, pa, a)
        | _ => none
      let s1 := (lines.filter fun l => !check.1.lostTarget (.dram l.1 l.2.1 l.2.2)).foldl (fun s l => s.discardLine l.2.2) check.1
      let whole := lines.filter fun l => l.2.1 % 2048 == 0 &&
        (List.range 16).all fun i => lines.any fun k => k.2.1 == l.2.1 + 128 * i
      (whole.foldl (fun s l => s.discardTile l.1 (l.2.1 / 2048)) s1, [], none)

/-- `cwb` (R119, R237). -/
def execCwb (b a : BitVec 7) (m : BitVec 5) (s : State) : Host.Outcome State Fault Refusal := rangeOp s b a (State.cwbRange m)
/-- `cinv` (R120, R237). -/
def execCinv (b a : BitVec 7) (s : State) : Host.Outcome State Fault Refusal := rangeOp s b a State.cinvRange
/-- `discard` (R121, R237). -/
def execDiscard (b a : BitVec 7) (s : State) : Host.Outcome State Fault Refusal := rangeOp s b a State.discardRange
/-- `zline` (R238). -/
def execZline (a : BitVec 7) (m : BitVec 5) (s : State) : Host.Outcome State Fault Refusal :=
  eachOp s (useSrc a 2) none false fun s c w t =>
    (s.threadZero ((s.whoIs c w t).as (kindOf m .strong) m) (s.addressOf c w t a)).act s fun r =>
      r.1.wrote c t fun th => { th with view := r.2 }

/-! ## Scratchpad (R239, R240) -/

/-- The crew of a warp; a warp always has one. -/
def State.crewOf (s : State) (w : Warp) : Option Crew := s.crew w.crew

/-- `spad.ld*`, of n bytes. -/
def padLoadOp (s : State) (b a : BitVec 7) (d : BitVec 6) (n : Nat) : Host.Outcome State Fault Refusal :=
  eachOp s ((useSrc a 1).and ((useSrc b 1).and (useV d.toNat (groupSize n)))) none true fun s c w t =>
    let th := w.thread t
    match (s.ctxOf c w t).src t (w.reader t) a, (s.ctxOf c w t).src t (w.reader t) b, s.crewOf w with
    | some x, some y, some k => (s.padLoad k th.view (x + y).toNat n).act s fun r =>
        r.1.wrote c t fun th => { th.result false d.toNat (registersOf r.2.2) with view := r.2.1 }
    | _, _, _ => .trap staleLatch
/-- `spad.st*`, of n bytes. -/
def padStoreOp (s : State) (b a : BitVec 7) (d : BitVec 6) (n : Nat) : Host.Outcome State Fault Refusal :=
  eachOp s ((useSrc a 1).and ((useSrc b 1).and (useV d.toNat (groupSize n)))) none false fun s c w t =>
    let th := w.thread t
    match (s.ctxOf c w t).src t (w.reader t) a, (s.ctxOf c w t).src t (w.reader t) b, s.crewOf w with
    | some x, some y, some k => (s.padStore k th.view (x + y).toNat (th.groupBytes d.toNat n)).act s fun r =>
        r.1.wrote c t fun th => { th with view := r.2 }
    | _, _, _ => .trap staleLatch
def execSpadLd32 (b a : BitVec 7) (d : BitVec 6) (s : State) : Host.Outcome State Fault Refusal := padLoadOp s b a d 4
def execSpadLd64 (b a : BitVec 7) (d : BitVec 6) (s : State) : Host.Outcome State Fault Refusal := padLoadOp s b a d 8
def execSpadLd128 (b a : BitVec 7) (d : BitVec 6) (s : State) : Host.Outcome State Fault Refusal := padLoadOp s b a d 16
def execSpadSt32 (b a : BitVec 7) (d : BitVec 6) (s : State) : Host.Outcome State Fault Refusal := padStoreOp s b a d 4
def execSpadSt64 (b a : BitVec 7) (d : BitVec 6) (s : State) : Host.Outcome State Fault Refusal := padStoreOp s b a d 8
def execSpadSt128 (b a : BitVec 7) (d : BitVec 6) (s : State) : Host.Outcome State Fault Refusal := padStoreOp s b a d 16

/-! ## Spiral forms (R241 to R243) -/

/-- A lane form on the tile of an address: `f` gives the state and the word delivered. -/
def tileOp (s : State) (u : Uses) (a : BitVec 7) (w : BitVec 1) (d : BitVec 6)
    (f : State → Warp → TileSite → Option Word → State × Word) (handle : Option (BitVec 7)) :
    Host.Outcome State Fault Refusal :=
  eachOp s (u.and ((useSrc a 2).and (useV d.toNat 1))) none false fun s c wp t =>
    match handle.map ((s.ctxOf c wp t).src t (wp.reader t)) with
    | some none => .trap staleLatch
    | h => (s.tileSite (s.whoIs c wp t) (s.addressOf c wp t a)).act s fun r =>
        let q := f r.state wp r (h.getD none)
        q.1.wrote c t fun th => th.result (w == 1) d.toNat [q.2]

/-- `pin` (R81, R242, R362). -/
def execPin (b a : BitVec 7) (w : BitVec 1) (d : BitVec 6) (s : State) : Host.Outcome State Fault Refusal :=
  tileOp s (useSrc b 1) a w d (handle := some b) fun s wp r h =>
    let handle := (h.getD 0).toNat
    if 255 < handle then (s, 4)
    else match r.home with
      | none => (s, 3)
      | some (k, p, band, tile) =>
        let q := s.pinTile k p band tile handle ((s.launchOf wp).bind fun l => l.2.vf)
        (q.1, BitVec.ofNat 32 q.2)
/-- `unpin` (R81, R242). -/
def execUnpin (a : BitVec 7) (w : BitVec 1) (d : BitVec 6) (s : State) : Host.Outcome State Fault Refusal :=
  tileOp s Uses.none a w d (handle := none) fun s _ r _ =>
    match r.home with
    | none => (s, 1)
    | some (_, p, band, tile) =>
      let q := s.unpinTile p band tile
      (q.1, BitVec.ofNat 32 q.2)
/-- `dist` (R82, R242). -/
def execDist (a : BitVec 7) (w : BitVec 1) (d : BitVec 6) (s : State) : Host.Outcome State Fault Refusal :=
  tileOp s Uses.none a w d (handle := none) fun s _ r _ =>
    match r.home with
    | none => (s, if r.mapped then 0xA0000000 else 0x80000000)
    | some (_, _, band, tile) => (s, (Spiral.of s band).distWord tile)
/-- `touch` (R78, R242). -/
def execTouch (b a : BitVec 7) (w : BitVec 1) (d : BitVec 6) (s : State) : Host.Outcome State Fault Refusal :=
  tileOp s (useSrc b 1) a w d (handle := some b) fun s _ r h =>
    let handle := (h.getD 0).toNat
    if 255 < handle then (s, 4)
    else match r.home with
      | none => (s, 3)
      | some (_, p, band, tile) => (s.touch p band tile handle, 0)

/-- The action of a uniform spiral form in every band of the partition, and the write-backs that it starts. -/
def State.eachBand (s : State) (p : Partition) (f : State → Nat → State × List Nat) : State × List Nat :=
  p.bandList.foldl (fun acc b => let r := f acc.1 b; (r.1, acc.2 ++ r.2)) (s, [])

/-- `demote` and `evict` (R85, R86, R243): a status known at once, or the action, after which D waits. On a supervisor core, which
belongs to no partition, no band and no handle is named: nothing is done and the status is 0 (log 109, DESIGN CHOICE). -/
def handleOp (s : State) (a : BitVec 7) (d : BitVec 6) (f : State → Partition → Nat → State × List Nat) :
    Host.Outcome State Fault Refusal :=
  unitOp s ((useUni a 1).and (useD d.toNat 1)) none false fun s c w =>
    let h := ((s.ctx c w).usrc a).toNat
    let put := fun (s : State) (x : Word) => s.onWarp c.warp fun w => w.setS d.toNat x
    if 255 < h then .done (put s 4)
    else if h = 0 then .done (put s 1)
    else match s.partOfCore (s.coreOf w) with
      | none => .done (put s 0)
      | some (_, p) =>
        let r := f s p h
        .done (r.1.onWarp c.warp fun w => { w with pend := tput w.pend d.toNat (.spiral r.2) })

/-- `demote` (R85, R243). -/
def execDemote (a : BitVec 7) (d : BitVec 6) (s : State) : Host.Outcome State Fault Refusal :=
  handleOp s a d fun s p h => s.eachBand p fun s b => (s.setSpiral b ((Spiral.of s b).demote h), [])
/-- `evict` (R86, R243). No tile leaves a band at reduced service (R389): there it leaves every tile as it is (log 86). -/
def execEvict (a : BitVec 7) (d : BitVec 6) (s : State) : Host.Outcome State Fault Refusal :=
  handleOp s a d fun s p h => s.eachBand p fun s b =>
    if s.atReduced b then (s, []) else
    let sp := Spiral.of s b
    let r := sp.evict h
    let pins := (sp.pinned.map Prod.snd).filter fun t => t.handle == h
    let s1 := pins.foldl (fun s t => s.unpinned p t.owner) (s.setSpiral b r.1)
    s1.leave p b r.2
/-- `rhset` (R87, R243). A handle above 255 is found before a priority above 15, and on a supervisor core nothing is done and the
status is 0 (log 109, DESIGN CHOICE). -/
def execRhset (b a : BitVec 7) (d : BitVec 6) (s : State) : Host.Outcome State Fault Refusal :=
  unitOp s ((useUni a 1).and ((useUni b 1).and (useD d.toNat 1))) none false fun s c w =>
    let h := ((s.ctx c w).usrc a).toNat
    let x := ((s.ctx c w).usrc b).toNat
    let put := fun (s : State) (y : Word) => s.onWarp c.warp fun w => w.setS d.toNat y
    if 255 < h then .done (put s 4)
    else if 15 < x then .done (put s 5)
    else match s.partOfCore (s.coreOf w) with
      | none => .done (put s 0)
      | some (k, _) => .done (put (s.onPart k fun p => { p with priority := tput p.priority h x }) 0)

end Sys2Proof.Machine
end

