-- ==== Sys2Proof/Machine/Geometry.lean ====
section
/-! DEFINITION. The exact geometric predicates (R217 to R222), on integers over one common exponent, with the symbolic
perturbation of R220 as polynomials in ε. -/
namespace Sys2Proof.Machine

/-- A coordinate as an integer multiple of the smallest subnormal; none when it is not finite (R222). -/
def Fmt.coordinate (f : Fmt) (x : Nat) : Option Int :=
  match f.value x with
  | .fin n m e =>
    let k : Nat := m * 2 ^ (e - (f.emin - f.mbits)).toNat
    some (if n then -(k : Int) else (k : Int))
  | _ => none

/-- A polynomial in ε: coefficients by exponent, the exponents rising. -/
abbrev Poly := List (Nat × Int)

/-- Add a term, and a polynomial. -/
def Poly.addTerm (k : Nat) (c : Int) : Poly → Poly
  | [] => [(k, c)]
  | (j, d) :: r => if j < k then (j, d) :: Poly.addTerm k c r else if j = k then (j, d + c) :: r else (k, c) :: (j, d) :: r
def Poly.add (p q : Poly) : Poly := q.foldl (fun p t => Poly.addTerm t.1 t.2 p) p
/-- A product with an entry `a + ε^k`, or with `a` alone, with a sign. -/
def Poly.scale (neg : Bool) (a : Int) (k : Option Nat) (p : Poly) : Poly :=
  let one := p.map fun t => (t.1, (if neg then -a else a) * t.2)
  match k with
  | some j => Poly.add one (p.map fun t => (t.1 + j, if neg then -t.2 else t.2))
  | none => one

/-- An entry of a matrix: its value and the exponent of its perturbation. -/
abbrev GeoEntry := Int × Option Nat

/-- The determinant, expanded along the first row of each minor; `n` counts the rows. -/
def geoDet : Nat → List (List GeoEntry) → Poly
  | 0, _ => [(0, 1)]
  | n + 1, rows =>
    match rows with
    | [] => [(0, 1)]
    | row :: rest =>
      (List.range row.length).foldl (fun acc j =>
        match row[j]? with
        | some (a, k) => Poly.add acc (Poly.scale (j % 2 == 1) a k (geoDet n (rest.map fun r => r.eraseIdx j)))
        | none => acc) []

/-- The sign of the first coefficient that is not 0: the sign as ε tends to +0. -/
def Poly.sign (p : Poly) : Int := match p.find? fun t => t.2 != 0 with | some t => t.2.sign | none => 0

/-- The rows of M (R218): coordinates, the sum of squares when lifted, and 1. -/
def geoRow (lifted : Bool) (p : List Int) : List Int :=
  p ++ (if lifted then [(p.map fun c => c * c).sum] else []) ++ [1]

/-- The place of each point in the order by key, then position (R220). -/
def geoPlace (keys : List Nat) (i : Nat) : Nat :=
  ((List.range keys.length).filter fun j =>
    decide (keys.getD j 0 < keys.getD i 0) || (decide (keys.getD j 0 = keys.getD i 0) && decide (j < i))).length

/-- The sign of det M (R218), perturbed when keys are given (R220). -/
def geoSign (lifted : Bool) (points : List (List Int)) (keys : Option (List Nat)) : Int :=
  let rows := points.map (geoRow lifted)
  let entries := (List.range rows.length).map fun i =>
    let row := rows.getD i []
    let d := row.length - 1
    (List.range row.length).map fun j =>
      (row.getD j 0, match keys with
        | some ks => if j < d then some (2 ^ (d * geoPlace ks i + j)) else none
        | none => none)
  (geoDet rows.length entries).sign

/-- A collinear point lies within the box of a segment. -/
def geoWithin (a b q : List Int) : Bool :=
  (List.range 2).all fun k =>
    decide (min (a.getD k 0) (b.getD k 0) ≤ q.getD k 0) && decide (q.getD k 0 ≤ max (a.getD k 0) (b.getD k 0))

/-- `segx` (R219): segments that meet without crossing properly have an endpoint of one on the other. -/
def geoCross (p : List (List Int)) : Int :=
  let pt := fun i => p.getD i []
  let o := fun i j k => geoSign false [pt i, pt j, pt k] none
  let on := fun i j k => decide (o i j k = 0) && geoWithin (pt i) (pt j) (pt k)
  if o 0 1 2 * o 0 1 3 = -1 ∧ o 2 3 0 * o 2 3 1 = -1 then 1
  else if on 0 1 2 || on 0 1 3 || on 2 3 0 || on 2 3 1 then -1 else 0

end Sys2Proof.Machine
end

