-- ==== Sys2Proof/Machine/Narrow.lean ====
section
/-! DEFINITION. Narrow formats (R54 to R61), block scales (R62, R63), and the choice of two of four (R213 to R216). -/
namespace Sys2Proof.Machine

/-- The 8-bit formats (R54). -/
inductive Narrow where
  | e4m3n
  | e5m2n
  | dm8
  deriving DecidableEq, Repr

/-- Every magnitude is a multiple of 1 / `unit`: 2^-10, 2^-17, and 10^-6 / 64 (R55 to R57). -/
def Narrow.unit : Narrow → Nat
  | .e4m3n => 1024
  | .e5m2n => 131072
  | .dm8 => 64000000

/-- The magnitude of a code with sign 0, in units; code 128 is the extended point next above the largest (R60). -/
def Narrow.units (f : Narrow) (m : Nat) : Nat :=
  match f with
  | .e4m3n => if m < 8 then m else (8 + m % 8) * 2 ^ (m / 8 - 1)
  | .e5m2n => if m < 4 then m else (4 + m % 4) * 2 ^ (m / 4 - 1)
  | .dm8 =>
    if m = 0 then 0
    else
      let k := Nat.log2 m
      10 ^ k * (64 + 9 * (m - 2 ^ k) * 2 ^ (6 - k))

/-- The smallest normal code (R60). -/
def Narrow.normal : Narrow → Nat
  | .e4m3n => 8
  | .e5m2n => 4
  | .dm8 => 1

/-- The greatest code of 0 to 127 whose magnitude does not exceed n / d. -/
def Narrow.below (f : Narrow) (n d : Nat) : Nat :=
  (List.range 128).foldl (fun best m => if f.units m * d ≤ n * f.unit then m else best) 0

/-- The code that a magnitude n / d rounds to, 128 beyond the largest, and whether that is inexact (R60). -/
def Narrow.grid (f : Narrow) (mode : Mode) (neg : Bool) (n d : Nat) : Nat × Bool :=
  if f.units 128 * d ≤ n * f.unit then (128, true)
  else
    let m := f.below n d
    let lo := f.units m * d
    let hi := f.units (m + 1) * d
    let x := n * f.unit
    (if mode.up neg (m % 2 == 1) (x - lo) (hi - lo) then m + 1 else m, x != lo)

/-- The code of a sign and a magnitude. -/
def narrowSigned (neg : Bool) (m : Nat) : Nat := if neg then m + 128 else m

/-- `cvt_narrow` of (-1)^neg × n / d (R60). -/
def Narrow.ofRatio (f : Narrow) (mode : Mode) (sat neg : Bool) (n d : Nat) : Rounded :=
  let r := f.grid mode neg n d
  if 127 < r.1 then (if sat then narrowSigned neg 127 else 128, { Raised.none with ovf := true, nx := true })
  else if r.1 = 0 then (0, { Raised.none with unf := decide (n ≠ 0), nx := decide (n ≠ 0) })
  else (narrowSigned neg r.1, { Raised.none with nx := r.2, unf := r.2 && decide (r.1 < f.normal) })

/-- `cvt_narrow` of x / s for FP32 values x and s (R60, R61, R211). -/
def Narrow.quantise (f : Narrow) (mode : Mode) (sat : Bool) (x s : Nat) : Rounded :=
  match fp32.value x, fp32.value s with
  | _, .nan _ => (128, Raised.invalid)
  | .fin _ _ _, .inf _ => exactly 0
  | _, .inf _ => (128, Raised.invalid)
  | v, .fin n2 m2 e2 =>
    if m2 = 0 then (128, Raised.invalid)
    else match v with
      | .nan g => (128, { Raised.none with nv := g })
      | .inf n1 => (if sat then narrowSigned (n1 ^^ n2) 127 else 128, Raised.invalid)
      | .fin n1 m1 e1 => f.ofRatio mode sat (n1 ^^ n2) (m1 * 2 ^ (e1 - e2).toNat) (m2 * 2 ^ (e2 - e1).toNat)

/-- A code times an FP32 scale, rounded to nearest in a binary format (R59, R212). -/
def Narrow.decode (f : Narrow) (dst : Fmt) (c s : Nat) : Rounded :=
  if c = 128 then exactly dst.nanCode
  else match fp32.value s with
    | .nan g => dst.nanOut g
    | .inf n => if c % 128 = 0 then dst.nanOut true else dst.infOut (n ^^ decide (128 ≤ c))
    | .fin n m e =>
      if c % 128 = 0 ∨ m = 0 then exactly (dst.signed (n ^^ decide (128 ≤ c)) 0)
      else dst.roundRatio .rne false (n ^^ decide (128 ≤ c)) (f.units (c % 128) * m) f.unit e

/-! ## Block scales -/

/-- A positive rational scale, none when it is NaN: PS8 (R62) and DS8 (R63). -/
def ps8 (e : Nat) : Option (Nat × Nat) :=
  if e = 255 then none else some (2 ^ (e - 127), 2 ^ (127 - e))
def ds8 (d : Nat) : Option (Nat × Nat) :=
  if d < 64 then some (10 ^ d, 1) else if 192 ≤ d then some (1, 10 ^ (256 - d)) else none

/-! ## Two of four (R213 to R216) -/

/-- The rank of a 16-bit element, and of an 8-bit code: NaNs above every magnitude (R213). -/
def rank16 (f : Fmt) (x : Nat) : Nat := if (f.value x).isNan then 32768 else x % 32768
def rank8 (x : Nat) : Nat := if x = 128 then 128 else x % 128

/-- The indices of the two elements of highest rank among four, the lower index first; equal ranks go to the lower. -/
def keptPair (rank : Nat → Nat) (g : List Nat) : Nat × Nat :=
  let r := fun i => rank (g.getD i 0)
  let beaten := fun i => ((List.range 4).filter fun j => decide (r i < r j) || (decide (r j = r i) && decide (j < i))).length
  let kept := (List.range 4).filter fun i => decide (beaten i < 2)
  (kept.getD 0 0, kept.getD 1 0)
/-- The metadata nibble (R213). -/
def nibbleOf (k : Nat × Nat) : Nat := k.1 + 4 * k.2
/-- The kept indices of a nibble; none when it is not one of the six valid (R216). -/
def nibbleKept (n : Nat) : Option (Nat × Nat) := if n % 4 < n / 4 ∧ n < 16 then some (n % 4, n / 4) else none
/-- A group rebuilt from its kept elements (R216). -/
def expandGroup (n lo hi : Nat) : List Nat :=
  match nibbleKept n with
  | some (i, j) => (List.range 4).map fun k => if k = i then lo else if k = j then hi else 0
  | none => [0, 0, 0, 0]

/-- Element i of `w` bits of a word. -/
def elementOf (w x i : Nat) : Nat := bits x (w * i) w
/-- A word of elements of `w` bits, the first lowest. -/
def packElements (w : Nat) : List Nat → Nat
  | [] => 0
  | x :: r => x + 2 ^ w * packElements w r

end Sys2Proof.Machine
end

