-- ==== Sys2Proof/Machine/Real.lean ====
section
/-! DEFINITION. Floating-point instructions, conversions, narrow formats, the choice of two of four and the geometric
predicates (R195 to R222), with the 16-bit forms and the reductions that compute on FP32 (R131, R184). -/
namespace Sys2Proof.Machine

/-! ## The shapes -/

/-- The trap of a form that uses FP64, FP16 or an 8-bit format on a stack at reduced service (R389). -/
def State.reduced (s : State) : Option (Nat × Nat) :=
  match s.cur.bind fun c => s.warp c.warp with
  | some w => if (s.stack (coreStack (s.coreOf w))).lvl = 1 then some (2, 14) else none
  | none => none

/-- The rounding mode of a warp (R49). -/
def Ctx.mode (c : Ctx) : Mode := Mode.of c.warp.frm.toNat
/-- A 32-bit, and a 64-bit, result of a lane with its flags. -/
def Thread.put32 (th : Thread) (w : BitVec 1) (d : BitVec 6) (r : Rounded) : LaneResult :=
  .ok (th.result (w == 1) d.toNat [BitVec.ofNat 32 r.1], r.2)
def Thread.put64 (th : Thread) (w : BitVec 1) (d : BitVec 6) (r : Rounded) : LaneResult :=
  .ok (th.result (w == 1) d.toNat [BitVec.ofNat 32 r.1, BitVec.ofNat 32 (r.1 / 4294967296)], r.2)

/-- `falu.F vd, va, vb`. -/
def fp2 (s : State) (x : Option (Nat × Nat)) (b a : BitVec 7) (w : BitVec 1) (d : BitVec 6) (f : Mode → Nat → Nat → Rounded) :
    Host.Outcome State Fault Refusal :=
  laneOp s ((useSrc a 1).and ((useSrc b 1).and (useV d.toNat 1))) x fun c t th =>
    match c.src t th a, c.src t th b with
    | some y, some z => th.put32 w d (f c.mode y.toNat z.toNat)
    | _, _ => .error staleLatch
/-- `ffma.F vd, va, vb`: the old destination is the third operand. -/
def fp3 (s : State) (x : Option (Nat × Nat)) (b a : BitVec 7) (w : BitVec 1) (d : BitVec 6) (f : Mode → Nat → Nat → Nat → Rounded) :
    Host.Outcome State Fault Refusal :=
  laneOp s ((useSrc a 1).and ((useSrc b 1).and (useV d.toNat 1))) x fun c t th =>
    match c.src t th a, c.src t th b with
    | some y, some z => th.put32 w d (f c.mode y.toNat z.toNat (th.vreg d.toNat).toNat)
    | _, _ => .error staleLatch
/-- `fspec.F vd, va`. -/
def fp1 (s : State) (a : BitVec 7) (w : BitVec 1) (d : BitVec 6) (f : Mode → Nat → Rounded) :
    Host.Outcome State Fault Refusal :=
  laneOp s ((useSrc a 1).and (useV d.toNat 1)) none fun c t th =>
    match c.src t th a with
    | some x => th.put32 w d (f c.mode x.toNat)
    | none => .error staleLatch
/-- `dalu.F` on pairs. -/
def dp2 (s : State) (b a : BitVec 7) (w : BitVec 1) (d : BitVec 6) (f : Mode → Nat → Nat → Rounded) :
    Host.Outcome State Fault Refusal :=
  laneOp s ((useSrc a 2).and ((useSrc b 2).and (useV d.toNat 2))) s.reduced fun c t th =>
    match c.src64 true t th a, c.src64 true t th b with
    | some x, some y => th.put64 w d (f c.mode x.toNat y.toNat)
    | _, _ => .error staleLatch
def dp3 (s : State) (b a : BitVec 7) (w : BitVec 1) (d : BitVec 6) (f : Mode → Nat → Nat → Nat → Rounded) :
    Host.Outcome State Fault Refusal :=
  laneOp s ((useSrc a 2).and ((useSrc b 2).and (useV d.toNat 2))) s.reduced fun c t th =>
    match c.src64 true t th a, c.src64 true t th b with
    | some x, some y => th.put64 w d (f c.mode x.toNat y.toNat (th.vpair d.toNat).toNat)
    | _, _ => .error staleLatch
/-- A form with one source: a pair read as FP64 or as an integer, or a register; a result of one register or two. -/
def from64 (s : State) (fp : Bool) (a : BitVec 7) (w : BitVec 1) (d : BitVec 6) (wide : Bool) (f : Mode → Nat → Rounded) :
    Host.Outcome State Fault Refusal :=
  laneOp s ((useSrc a 2).and (useV d.toNat (1 + bitNat wide))) s.reduced fun c t th =>
    match c.src64 fp t th a with
    | some x => if wide then th.put64 w d (f c.mode x.toNat) else th.put32 w d (f c.mode x.toNat)
    | none => .error staleLatch
def from32 (s : State) (x : Option (Nat × Nat)) (a : BitVec 7) (w : BitVec 1) (d : BitVec 6) (wide : Bool) (f : Mode → Nat → Rounded) :
    Host.Outcome State Fault Refusal :=
  laneOp s ((useSrc a 1).and (useV d.toNat (1 + bitNat wide))) x fun c t th =>
    match c.src t th a with
    | some y => if wide then th.put64 w d (f c.mode y.toNat) else th.put32 w d (f c.mode y.toNat)
    | none => .error staleLatch
/-- `fcmp.F pd, va, vb` (R201): the relation, and NV. -/
def fcmp2 (s : State) (b a : BitVec 7) (p : BitVec 3) (f : Nat → Nat → Bool × Bool) : Host.Outcome State Fault Refusal :=
  laneOp s ((useSrc a 1).and (useSrc b 1)) none fun c t th =>
    match c.src t th a, c.src t th b with
    | some x, some y =>
      .ok (th.setP p.toNat (f x.toNat y.toNat).1, { Raised.none with nv := (f x.toNat y.toNat).2 })
    | _, _ => .error staleLatch
def fcmp64 (s : State) (b a : BitVec 7) (p : BitVec 3) (f : Nat → Nat → Bool × Bool) : Host.Outcome State Fault Refusal :=
  laneOp s ((useSrc a 2).and (useSrc b 2)) s.reduced fun c t th =>
    match c.src64 true t th a, c.src64 true t th b with
    | some x, some y =>
      .ok (th.setP p.toNat (f x.toNat y.toNat).1, { Raised.none with nv := (f x.toNat y.toNat).2 })
    | _, _ => .error staleLatch

/-- Both 16-bit elements of packed operands (R209). -/
def packed2 (f : Mode → Nat → Nat → Rounded) (mode : Mode) (x y : Nat) : Rounded :=
  let r0 := f mode (elementOf 16 x 0) (elementOf 16 y 0)
  let r1 := f mode (elementOf 16 x 1) (elementOf 16 y 1)
  (packElements 16 [r0.1, r1.1], r0.2.or r1.2)
def packed3 (f : Mode → Nat → Nat → Nat → Rounded) (mode : Mode) (x y z : Nat) : Rounded :=
  let r0 := f mode (elementOf 16 x 0) (elementOf 16 y 0) (elementOf 16 z 0)
  let r1 := f mode (elementOf 16 x 1) (elementOf 16 y 1) (elementOf 16 z 1)
  (packElements 16 [r0.1, r1.1], r0.2.or r1.2)
/-- `pack` (R209). -/
def packPair (f : Fmt) (mode : Mode) (x y : Nat) : Rounded :=
  let r0 := convert fp32 f mode x
  let r1 := convert fp32 f mode y
  (packElements 16 [r0.1, r1.1], r0.2.or r1.2)

/-- `qcvt` (R210): a group of four registers and a scale source. -/
def qcvt4 (s : State) (f : Narrow) (sat : BitVec 1) (b : BitVec 7) (g : BitVec 4) (r : BitVec 2) (w : BitVec 1)
    (d : BitVec 6) : Host.Outcome State Fault Refusal :=
  laneOp s ((useSrc b 1).and ((useV (4 * g.toNat) 4).and (useV d.toNat 1))) s.reduced fun c t th =>
    match c.src t th b with
    | some x =>
      let q := (List.range 4).map fun i =>
        f.quantise (Mode.of r.toNat) (sat == 1) (th.vreg (4 * g.toNat + i)).toNat x.toNat
      th.put32 w d (packElements 8 (q.map Prod.fst), q.foldl (fun a y => a.or y.2) Raised.none)
    | none => .error staleLatch
/-- `qdec` (R212): four codes and a scale source; a quad of FP32 results or a pair of packed ones. -/
def qdec4 (s : State) (f : Narrow) (dst : Fmt) (b a : BitVec 7) (w : BitVec 1) (d : BitVec 6) :
    Host.Outcome State Fault Refusal :=
  let n := if dst = fp32 then 4 else 2
  laneOp s ((useSrc a 1).and ((useSrc b 1).and (useV d.toNat n))) s.reduced fun c t th =>
    match c.src t th a, c.src t th b with
    | some x, some y =>
      let q := (List.range 4).map fun i => f.decode dst (elementOf 8 x.toNat i) y.toNat
      let ws := if dst = fp32 then q.map Prod.fst
        else [packElements 16 [(q.getD 0 (0, Raised.none)).1, (q.getD 1 (0, Raised.none)).1],
              packElements 16 [(q.getD 2 (0, Raised.none)).1, (q.getD 3 (0, Raised.none)).1]]
      .ok (th.result (w == 1) d.toNat (ws.map (BitVec.ofNat 32)), q.foldl (fun z y => z.or y.2) Raised.none)
    | _, _ => .error staleLatch

/-- The 16-bit elements of a pair, and the 8-bit codes of one of its words. -/
def group16 (x : Dword) : List Nat := (List.range 4).map (elementOf 16 x.toNat)
def group8 (x : Word) : List Nat := (List.range 4).map (elementOf 8 x.toNat)
/-- The format that bit f of a 16-bit form chooses (R213). -/
def halfFormat (f : BitVec 1) : Fmt := if f = 1 then fp16 else bf16
/-- A CMPR form that reads one pair and perhaps the old destination. -/
def cmprPair (s : State) (x : Option (Nat × Nat)) (a : BitVec 7) (w : BitVec 1) (d : BitVec 6) (f : Dword → Word → Nat) :
    Host.Outcome State Fault Refusal :=
  laneOp s ((useSrc a 2).and (useV d.toNat 1)) x fun c t th =>
    match c.src64 false t th a with
    | some y => th.put32 w d (exactly (f y (th.vreg d.toNat)))
    | none => .error staleLatch
/-- A CMPR form that rebuilds groups from a word and metadata. -/
def cmprExpand (s : State) (x : Option (Nat × Nat)) (b a : BitVec 7) (w : BitVec 1) (d : BitVec 6) (f : Nat → Nat → List Nat) :
    Host.Outcome State Fault Refusal :=
  laneOp s ((useSrc a 1).and ((useSrc b 1).and (useV d.toNat 2))) x fun c t th =>
    match c.src t th a, c.src t th b with
    | some y, some z => .ok (th.result (w == 1) d.toNat ((f y.toNat z.toNat).map (BitVec.ofNat 32)), Raised.none)
    | _, _ => .error staleLatch
/-- The two kept elements of a group, packed (R214). -/
def keptElements (w : Nat) (rank : Nat → Nat) (g : List Nat) : Nat :=
  let k := keptPair rank g
  packElements w [g.getD k.1 0, g.getD k.2 0]

/-- The point block of a GEO form (R217): `n` coordinates from v(a). -/
def pointWords (th : Thread) (wide : Bool) (a n : Nat) : List Nat :=
  (List.range n).map fun i => if wide then (th.vpair (a + 2 * i)).toNat else (th.vreg (a + i)).toNat
/-- Points of `dim` coordinates. -/
def pointsOf (dim : Nat) : Nat → List Int → List (List Int)
  | 0, _ => []
  | n + 1, l => l.take dim :: pointsOf dim n (l.drop dim)
/-- A GEO form (R217 to R222): `n` points of `dim` coordinates, a key source when it is `.sym`. In a thread whose key source is an
invalid latch and whose block holds a non-finite coordinate the spec orders no cause: the latch's comes first (log 89). -/
def geo (s : State) (key : Option (BitVec 7)) (x : BitVec 1) (a : BitVec 6) (w : BitVec 1) (d : BitVec 6) (n dim : Nat)
    (f : List (List Int) → Option (List Nat) → Int) : Host.Outcome State Fault Refusal :=
  let wide := x == 1
  let fmt := if wide then fp64 else fp32
  let uses := (useV a.toNat (n * dim * (1 + bitNat wide))).and (useV d.toNat 1)
  laneOp s (match key with | some b => uses.and (useSrc b 1) | none => uses)
      (if wide then s.reduced else none) fun c t th =>
    let ws := pointWords th wide a.toNat (n * dim)
    match key.map (c.src t th) with
    | some none => .error staleLatch
    | k =>
      let keys := k.bind fun y => y.map fun y => (List.range n).map (elementOf 4 y.toNat)
      match ws.findIdx? fun v => (fmt.coordinate v).isNone with
      | some i => .error (trapAt 9 (i * (1 + bitNat wide)) 0)
      | none =>
        let r := f (pointsOf dim n (ws.map fun v => (fmt.coordinate v).getD 0)) keys
        .ok (th.result (w == 1) d.toNat [BitVec.ofInt 32 r], Raised.none)

/-- The key source of a `.sym` form. -/
def symSource (sym : BitVec 1) (b : BitVec 7) : Option (BitVec 7) := if sym = 1 then some b else none

/-! ## Sixteen-bit forms (R131) -/

/-- `falu.add d, d, a` (R131). -/
def execFadd (a : BitVec 5) (d : BitVec 6) (s : State) : Host.Outcome State Fault Refusal :=
  fp2 s none (shortCode a) (d.setWidth 7) 0 d (fp32.add false)
/-- `falu.sub d, d, a` (R131). -/
def execFsub (a : BitVec 5) (d : BitVec 6) (s : State) : Host.Outcome State Fault Refusal :=
  fp2 s none (shortCode a) (d.setWidth 7) 0 d (fp32.sub false)
/-- `falu.mul d, d, a` (R131). -/
def execFmul (a : BitVec 5) (d : BitVec 6) (s : State) : Host.Outcome State Fault Refusal :=
  fp2 s none (shortCode a) (d.setWidth 7) 0 d (fp32.mul false)
/-- `falu.max d, d, a` (R131). -/
def execFmax (a : BitVec 5) (d : BitVec 6) (s : State) : Host.Outcome State Fault Refusal :=
  fp2 s none (shortCode a) (d.setWidth 7) 0 d (fp32.max false)
/-- `falu.min d, d, a` (R131). -/
def execFmin (a : BitVec 5) (d : BitVec 6) (s : State) : Host.Outcome State Fault Refusal :=
  fp2 s none (shortCode a) (d.setWidth 7) 0 d (fp32.min false)
/-- `ffma.fma d, a, l0` (R131). -/
def execFmac (a : BitVec 5) (d : BitVec 6) (s : State) : Host.Outcome State Fault Refusal :=
  fp3 s none 0x60 (shortCode a) 0 d (fp32.fma false false false)

/-! ## Reductions (R184): to nearest whatever `frm` holds -/

/-- A reduction step of FP32 words. -/
def fpStep (f : Nat → Nat → Rounded) (a b : Word) : Word × Raised :=
  let r := f a.toNat b.toNat
  (BitVec.ofNat 32 r.1, r.2)
/-- A NaN in its canonical form (R48, R184, R384). -/
def canonical32 (x : Nat) : Nat := if (fp32.value x).isNan then fp32.nanCode else x
def canonicalWord (x : Word) : Word := BitVec.ofNat 32 (canonical32 x.toNat)
/-- `xch.rfadd` (R184). -/
def execXchRfadd (a : BitVec 7) (w : BitVec 1) (d : BitVec 6) (s : State) : Host.Outcome State Fault Refusal :=
  reduce s a w d (fpStep (fp32.add false .rne)) canonicalWord
/-- `xch.rfmin` (R184). -/
def execXchRfmin (a : BitVec 7) (w : BitVec 1) (d : BitVec 6) (s : State) : Host.Outcome State Fault Refusal :=
  reduce s a w d (fpStep (fp32.min false .rne)) canonicalWord
/-- `xch.rfmax` (R184). -/
def execXchRfmax (a : BitVec 7) (w : BitVec 1) (d : BitVec 6) (s : State) : Host.Outcome State Fault Refusal :=
  reduce s a w d (fpStep (fp32.max false .rne)) canonicalWord

/-! ## FALU (R198) and FFMA (R199) -/

/-- `falu.add` (R198). -/
def execFaluAdd (b : BitVec 7) (a : BitVec 7) (w : BitVec 1) (d : BitVec 6)
    (s : State) : Host.Outcome State Fault Refusal :=
  fp2 s none b a w d (fp32.add false)
/-- `falu.add.ftz` (R198, R51). -/
def execFaluAddFtz (b : BitVec 7) (a : BitVec 7) (w : BitVec 1) (d : BitVec 6)
    (s : State) : Host.Outcome State Fault Refusal :=
  fp2 s none b a w d (fp32.add true)
/-- `falu.sub` (R198). -/
def execFaluSub (b : BitVec 7) (a : BitVec 7) (w : BitVec 1) (d : BitVec 6)
    (s : State) : Host.Outcome State Fault Refusal :=
  fp2 s none b a w d (fp32.sub false)
/-- `falu.sub.ftz` (R198, R51). -/
def execFaluSubFtz (b : BitVec 7) (a : BitVec 7) (w : BitVec 1) (d : BitVec 6)
    (s : State) : Host.Outcome State Fault Refusal :=
  fp2 s none b a w d (fp32.sub true)
/-- `falu.mul` (R198). -/
def execFaluMul (b : BitVec 7) (a : BitVec 7) (w : BitVec 1) (d : BitVec 6)
    (s : State) : Host.Outcome State Fault Refusal :=
  fp2 s none b a w d (fp32.mul false)
/-- `falu.mul.ftz` (R198, R51). -/
def execFaluMulFtz (b : BitVec 7) (a : BitVec 7) (w : BitVec 1) (d : BitVec 6)
    (s : State) : Host.Outcome State Fault Refusal :=
  fp2 s none b a w d (fp32.mul true)
/-- `falu.min` (R198). -/
def execFaluMin (b : BitVec 7) (a : BitVec 7) (w : BitVec 1) (d : BitVec 6)
    (s : State) : Host.Outcome State Fault Refusal :=
  fp2 s none b a w d (fp32.min false)
/-- `falu.min.ftz` (R198, R51). -/
def execFaluMinFtz (b : BitVec 7) (a : BitVec 7) (w : BitVec 1) (d : BitVec 6)
    (s : State) : Host.Outcome State Fault Refusal :=
  fp2 s none b a w d (fp32.min true)
/-- `falu.max` (R198). -/
def execFaluMax (b : BitVec 7) (a : BitVec 7) (w : BitVec 1) (d : BitVec 6)
    (s : State) : Host.Outcome State Fault Refusal :=
  fp2 s none b a w d (fp32.max false)
/-- `falu.max.ftz` (R198, R51). -/
def execFaluMaxFtz (b : BitVec 7) (a : BitVec 7) (w : BitVec 1) (d : BitVec 6)
    (s : State) : Host.Outcome State Fault Refusal :=
  fp2 s none b a w d (fp32.max true)
/-- `falu.cpys` (R198): no NaN is changed. -/
def execFaluCpys (b : BitVec 7) (a : BitVec 7) (w : BitVec 1) (d : BitVec 6)
    (s : State) : Host.Outcome State Fault Refusal :=
  lane2 s b a w d fun x y => (x &&& 0x7FFFFFFF) ||| (y &&& 0x80000000)
/-- `falu.abs` (R198). -/
def execFaluAbs (a : BitVec 7) (w : BitVec 1) (d : BitVec 6) (s : State) : Host.Outcome State Fault Refusal :=
  lane1 s a w d (· &&& 0x7FFFFFFF)
/-- `falu.neg` (R198). -/
def execFaluNeg (a : BitVec 7) (w : BitVec 1) (d : BitVec 6) (s : State) : Host.Outcome State Fault Refusal :=
  lane1 s a w d (· ^^^ 0x80000000)
/-- `ffma.fma` (R199). -/
def execFfmaFma (b : BitVec 7) (a : BitVec 7) (w : BitVec 1) (d : BitVec 6)
    (s : State) : Host.Outcome State Fault Refusal :=
  fp3 s none b a w d (fp32.fma false false false)
/-- `ffma.fma.ftz` (R199, R51). -/
def execFfmaFmaFtz (b : BitVec 7) (a : BitVec 7) (w : BitVec 1) (d : BitVec 6)
    (s : State) : Host.Outcome State Fault Refusal :=
  fp3 s none b a w d (fp32.fma true false false)
/-- `ffma.fms` (R199). -/
def execFfmaFms (b : BitVec 7) (a : BitVec 7) (w : BitVec 1) (d : BitVec 6)
    (s : State) : Host.Outcome State Fault Refusal :=
  fp3 s none b a w d (fp32.fma false false true)
/-- `ffma.fms.ftz` (R199, R51). -/
def execFfmaFmsFtz (b : BitVec 7) (a : BitVec 7) (w : BitVec 1) (d : BitVec 6)
    (s : State) : Host.Outcome State Fault Refusal :=
  fp3 s none b a w d (fp32.fma true false true)
/-- `ffma.fnma` (R199). -/
def execFfmaFnma (b : BitVec 7) (a : BitVec 7) (w : BitVec 1) (d : BitVec 6)
    (s : State) : Host.Outcome State Fault Refusal :=
  fp3 s none b a w d (fp32.fma false true false)
/-- `ffma.fnma.ftz` (R199, R51). -/
def execFfmaFnmaFtz (b : BitVec 7) (a : BitVec 7) (w : BitVec 1) (d : BitVec 6)
    (s : State) : Host.Outcome State Fault Refusal :=
  fp3 s none b a w d (fp32.fma true true false)
/-- `ffma.fnms` (R199). -/
def execFfmaFnms (b : BitVec 7) (a : BitVec 7) (w : BitVec 1) (d : BitVec 6)
    (s : State) : Host.Outcome State Fault Refusal :=
  fp3 s none b a w d (fp32.fma false true true)
/-- `ffma.fnms.ftz` (R199, R51). -/
def execFfmaFnmsFtz (b : BitVec 7) (a : BitVec 7) (w : BitVec 1) (d : BitVec 6)
    (s : State) : Host.Outcome State Fault Refusal :=
  fp3 s none b a w d (fp32.fma true true true)

/-! ## FCMP (R201) -/

/-- `fcmp.eq` (R201). -/
def execFcmpEq (b : BitVec 7) (a : BitVec 7) (p : BitVec 3) (s : State) : Host.Outcome State Fault Refusal :=
  fcmp2 s b a p fp32.eq
/-- `fcmp.deq` (R201). -/
def execFcmpDeq (b : BitVec 7) (a : BitVec 7) (p : BitVec 3) (s : State) : Host.Outcome State Fault Refusal :=
  fcmp64 s b a p fp64.eq
/-- `fcmp.ne` (R201). -/
def execFcmpNe (b : BitVec 7) (a : BitVec 7) (p : BitVec 3) (s : State) : Host.Outcome State Fault Refusal :=
  fcmp2 s b a p fp32.ne
/-- `fcmp.dne` (R201). -/
def execFcmpDne (b : BitVec 7) (a : BitVec 7) (p : BitVec 3) (s : State) : Host.Outcome State Fault Refusal :=
  fcmp64 s b a p fp64.ne
/-- `fcmp.lt` (R201). -/
def execFcmpLt (b : BitVec 7) (a : BitVec 7) (p : BitVec 3) (s : State) : Host.Outcome State Fault Refusal :=
  fcmp2 s b a p fp32.lt
/-- `fcmp.dlt` (R201). -/
def execFcmpDlt (b : BitVec 7) (a : BitVec 7) (p : BitVec 3) (s : State) : Host.Outcome State Fault Refusal :=
  fcmp64 s b a p fp64.lt
/-- `fcmp.le` (R201). -/
def execFcmpLe (b : BitVec 7) (a : BitVec 7) (p : BitVec 3) (s : State) : Host.Outcome State Fault Refusal :=
  fcmp2 s b a p fp32.le
/-- `fcmp.dle` (R201). -/
def execFcmpDle (b : BitVec 7) (a : BitVec 7) (p : BitVec 3) (s : State) : Host.Outcome State Fault Refusal :=
  fcmp64 s b a p fp64.le
/-- `fcmp.un` (R201). -/
def execFcmpUn (b : BitVec 7) (a : BitVec 7) (p : BitVec 3) (s : State) : Host.Outcome State Fault Refusal :=
  fcmp2 s b a p fp32.un
/-- `fcmp.dun` (R201). -/
def execFcmpDun (b : BitVec 7) (a : BitVec 7) (p : BitVec 3) (s : State) : Host.Outcome State Fault Refusal :=
  fcmp64 s b a p fp64.un

/-! ## FSPEC (R202, R203) -/

/-- `fspec.rcp` (R203). -/
def execFspecRcp (a : BitVec 7) (w : BitVec 1) (d : BitVec 6) (s : State) : Host.Outcome State Fault Refusal :=
  fp1 s a w d fun m x => fp32.div false m 0x3F800000 x
/-- `fspec.rsqrt` (R203). -/
def execFspecRsqrt (a : BitVec 7) (w : BitVec 1) (d : BitVec 6) (s : State) : Host.Outcome State Fault Refusal :=
  fp1 s a w d fun _ x => rsqrt32 x
/-- `fspec.sqrt` (R203). -/
def execFspecSqrt (a : BitVec 7) (w : BitVec 1) (d : BitVec 6) (s : State) : Host.Outcome State Fault Refusal :=
  fp1 s a w d (fp32.sqrt false)
/-- `fspec.exp2` (R203). -/
def execFspecExp2 (a : BitVec 7) (w : BitVec 1) (d : BitVec 6) (s : State) : Host.Outcome State Fault Refusal :=
  fp1 s a w d fun _ x => exp2of32 x
/-- `fspec.log2` (R203). -/
def execFspecLog2 (a : BitVec 7) (w : BitVec 1) (d : BitVec 6) (s : State) : Host.Outcome State Fault Refusal :=
  fp1 s a w d fun _ x => log2of32 x
/-- `fspec.sin` (R202). -/
def execFspecSin (a : BitVec 7) (w : BitVec 1) (d : BitVec 6) (s : State) : Host.Outcome State Fault Refusal :=
  fp1 s a w d fun _ x => sinOf32 5 0 x
/-- `fspec.cos` (R202). -/
def execFspecCos (a : BitVec 7) (w : BitVec 1) (d : BitVec 6) (s : State) : Host.Outcome State Fault Refusal :=
  fp1 s a w d fun _ x => sinOf32 6 1 x
/-- `fspec.tanh` (R202). -/
def execFspecTanh (a : BitVec 7) (w : BitVec 1) (d : BitVec 6) (s : State) : Host.Outcome State Fault Refusal :=
  fp1 s a w d fun _ x => tanh32 x
/-- `fspec.div` (R203). -/
def execFspecDiv (b : BitVec 7) (a : BitVec 7) (w : BitVec 1) (d : BitVec 6)
    (s : State) : Host.Outcome State Fault Refusal :=
  fp2 s none b a w d (fp32.div false)

/-! ## DALU (R200) and DFMA (R199) -/

/-- `dalu.add` (R200). -/
def execDaluAdd (b : BitVec 7) (a : BitVec 7) (w : BitVec 1) (d : BitVec 6)
    (s : State) : Host.Outcome State Fault Refusal :=
  dp2 s b a w d (fp64.add false)
/-- `dalu.sub` (R200). -/
def execDaluSub (b : BitVec 7) (a : BitVec 7) (w : BitVec 1) (d : BitVec 6)
    (s : State) : Host.Outcome State Fault Refusal :=
  dp2 s b a w d (fp64.sub false)
/-- `dalu.mul` (R200). -/
def execDaluMul (b : BitVec 7) (a : BitVec 7) (w : BitVec 1) (d : BitVec 6)
    (s : State) : Host.Outcome State Fault Refusal :=
  dp2 s b a w d (fp64.mul false)
/-- `dalu.min` (R200). -/
def execDaluMin (b : BitVec 7) (a : BitVec 7) (w : BitVec 1) (d : BitVec 6)
    (s : State) : Host.Outcome State Fault Refusal :=
  dp2 s b a w d (fp64.min false)
/-- `dalu.max` (R200). -/
def execDaluMax (b : BitVec 7) (a : BitVec 7) (w : BitVec 1) (d : BitVec 6)
    (s : State) : Host.Outcome State Fault Refusal :=
  dp2 s b a w d (fp64.max false)
/-- `dalu.div` (R200). -/
def execDaluDiv (b : BitVec 7) (a : BitVec 7) (w : BitVec 1) (d : BitVec 6)
    (s : State) : Host.Outcome State Fault Refusal :=
  dp2 s b a w d (fp64.div false)
/-- `dalu.sqrt` (R200). -/
def execDaluSqrt (a : BitVec 7) (w : BitVec 1) (d : BitVec 6) (s : State) : Host.Outcome State Fault Refusal :=
  from64 s true a w d true (fp64.sqrt false)
/-- `dfma.fma` (R199). -/
def execDfmaFma (b : BitVec 7) (a : BitVec 7) (w : BitVec 1) (d : BitVec 6)
    (s : State) : Host.Outcome State Fault Refusal :=
  dp3 s b a w d (fp64.fma false false false)
/-- `dfma.fms` (R199). -/
def execDfmaFms (b : BitVec 7) (a : BitVec 7) (w : BitVec 1) (d : BitVec 6)
    (s : State) : Host.Outcome State Fault Refusal :=
  dp3 s b a w d (fp64.fma false false true)
/-- `dfma.fnma` (R199). -/
def execDfmaFnma (b : BitVec 7) (a : BitVec 7) (w : BitVec 1) (d : BitVec 6)
    (s : State) : Host.Outcome State Fault Refusal :=
  dp3 s b a w d (fp64.fma false true false)
/-- `dfma.fnms` (R199). -/
def execDfmaFnms (b : BitVec 7) (a : BitVec 7) (w : BitVec 1) (d : BitVec 6)
    (s : State) : Host.Outcome State Fault Refusal :=
  dp3 s b a w d (fp64.fma false true true)
/-- `dalu.add.ftz` (R200). -/
def execDaluAddFtz (b : BitVec 7) (a : BitVec 7) (w : BitVec 1) (d : BitVec 6)
    (s : State) : Host.Outcome State Fault Refusal :=
  dp2 s b a w d (fp64.add true)
/-- `dalu.sub.ftz` (R200). -/
def execDaluSubFtz (b : BitVec 7) (a : BitVec 7) (w : BitVec 1) (d : BitVec 6)
    (s : State) : Host.Outcome State Fault Refusal :=
  dp2 s b a w d (fp64.sub true)
/-- `dalu.mul.ftz` (R200). -/
def execDaluMulFtz (b : BitVec 7) (a : BitVec 7) (w : BitVec 1) (d : BitVec 6)
    (s : State) : Host.Outcome State Fault Refusal :=
  dp2 s b a w d (fp64.mul true)
/-- `dalu.min.ftz` (R200). -/
def execDaluMinFtz (b : BitVec 7) (a : BitVec 7) (w : BitVec 1) (d : BitVec 6)
    (s : State) : Host.Outcome State Fault Refusal :=
  dp2 s b a w d (fp64.min true)
/-- `dalu.max.ftz` (R200). -/
def execDaluMaxFtz (b : BitVec 7) (a : BitVec 7) (w : BitVec 1) (d : BitVec 6)
    (s : State) : Host.Outcome State Fault Refusal :=
  dp2 s b a w d (fp64.max true)
/-- `dalu.div.ftz` (R200). -/
def execDaluDivFtz (b : BitVec 7) (a : BitVec 7) (w : BitVec 1) (d : BitVec 6)
    (s : State) : Host.Outcome State Fault Refusal :=
  dp2 s b a w d (fp64.div true)
/-- `dalu.sqrt.ftz` (R200). -/
def execDaluSqrtFtz (a : BitVec 7) (w : BitVec 1) (d : BitVec 6) (s : State) : Host.Outcome State Fault Refusal :=
  from64 s true a w d true (fp64.sqrt true)
/-- `dfma.fma.ftz` (R199). -/
def execDfmaFmaFtz (b : BitVec 7) (a : BitVec 7) (w : BitVec 1) (d : BitVec 6)
    (s : State) : Host.Outcome State Fault Refusal :=
  dp3 s b a w d (fp64.fma true false false)
/-- `dfma.fms.ftz` (R199). -/
def execDfmaFmsFtz (b : BitVec 7) (a : BitVec 7) (w : BitVec 1) (d : BitVec 6)
    (s : State) : Host.Outcome State Fault Refusal :=
  dp3 s b a w d (fp64.fma true false true)
/-- `dfma.fnma.ftz` (R199). -/
def execDfmaFnmaFtz (b : BitVec 7) (a : BitVec 7) (w : BitVec 1) (d : BitVec 6)
    (s : State) : Host.Outcome State Fault Refusal :=
  dp3 s b a w d (fp64.fma true true false)
/-- `dfma.fnms.ftz` (R199). -/
def execDfmaFnmsFtz (b : BitVec 7) (a : BitVec 7) (w : BitVec 1) (d : BitVec 6)
    (s : State) : Host.Outcome State Fault Refusal :=
  dp3 s b a w d (fp64.fma true true true)

/-! ## FCVT (R204, R205): the selector rounds, whatever `frm` holds -/

/-- `fcvt.f32.f64` (R204). -/
def execFcvtF32F64 (r : BitVec 2) (a : BitVec 7) (w : BitVec 1) (d : BitVec 6)
    (s : State) : Host.Outcome State Fault Refusal :=
  from64 s true a w d false fun _ => convert fp64 fp32 (Mode.of r.toNat)
/-- `fcvt.f64.f32` (R204). -/
def execFcvtF64F32 (a : BitVec 7) (w : BitVec 1) (d : BitVec 6) (s : State) : Host.Outcome State Fault Refusal :=
  from32 s s.reduced a w d true fun _ => convert fp32 fp64 .rne
/-- `fcvt.f16.f32` (R204). -/
def execFcvtF16F32 (r : BitVec 2) (a : BitVec 7) (w : BitVec 1) (d : BitVec 6)
    (s : State) : Host.Outcome State Fault Refusal :=
  from32 s s.reduced a w d false fun _ => convert fp32 fp16 (Mode.of r.toNat)
/-- `fcvt.f32.f16` (R204). -/
def execFcvtF32F16 (a : BitVec 7) (w : BitVec 1) (d : BitVec 6) (s : State) : Host.Outcome State Fault Refusal :=
  from32 s s.reduced a w d false fun _ x => convert fp16 fp32 .rne (x % 65536)
/-- `fcvt.bf16.f32` (R204). -/
def execFcvtBf16F32 (r : BitVec 2) (a : BitVec 7) (w : BitVec 1) (d : BitVec 6)
    (s : State) : Host.Outcome State Fault Refusal :=
  from32 s none a w d false fun _ => convert fp32 bf16 (Mode.of r.toNat)
/-- `fcvt.f32.bf16` (R204). -/
def execFcvtF32Bf16 (a : BitVec 7) (w : BitVec 1) (d : BitVec 6) (s : State) : Host.Outcome State Fault Refusal :=
  from32 s none a w d false fun _ x => convert bf16 fp32 .rne (x % 65536)
/-- `fcvt.s32.f32` (R204). -/
def execFcvtS32F32 (r : BitVec 2) (a : BitVec 7) (w : BitVec 1) (d : BitVec 6)
    (s : State) : Host.Outcome State Fault Refusal :=
  from32 s none a w d false fun _ => fp32.toInteger true 32 (Mode.of r.toNat)
/-- `fcvt.n32.f32` (R204). -/
def execFcvtN32F32 (r : BitVec 2) (a : BitVec 7) (w : BitVec 1) (d : BitVec 6)
    (s : State) : Host.Outcome State Fault Refusal :=
  from32 s none a w d false fun _ => fp32.toInteger false 32 (Mode.of r.toNat)
/-- `fcvt.f32.s32` (R204). -/
def execFcvtF32S32 (r : BitVec 2) (a : BitVec 7) (w : BitVec 1) (d : BitVec 6)
    (s : State) : Host.Outcome State Fault Refusal :=
  from32 s none a w d false fun _ => fp32.ofInteger true 32 (Mode.of r.toNat)
/-- `fcvt.f32.n32` (R204). -/
def execFcvtF32N32 (r : BitVec 2) (a : BitVec 7) (w : BitVec 1) (d : BitVec 6)
    (s : State) : Host.Outcome State Fault Refusal :=
  from32 s none a w d false fun _ => fp32.ofInteger false 32 (Mode.of r.toNat)
/-- `fcvt.s64.f64` (R204). -/
def execFcvtS64F64 (r : BitVec 2) (a : BitVec 7) (w : BitVec 1) (d : BitVec 6)
    (s : State) : Host.Outcome State Fault Refusal :=
  from64 s true a w d true fun _ => fp64.toInteger true 64 (Mode.of r.toNat)
/-- `fcvt.f64.s64` (R204). -/
def execFcvtF64S64 (r : BitVec 2) (a : BitVec 7) (w : BitVec 1) (d : BitVec 6)
    (s : State) : Host.Outcome State Fault Refusal :=
  from64 s false a w d true fun _ => fp64.ofInteger true 64 (Mode.of r.toNat)
/-- `fcvt.s32.f64` (R204). -/
def execFcvtS32F64 (r : BitVec 2) (a : BitVec 7) (w : BitVec 1) (d : BitVec 6)
    (s : State) : Host.Outcome State Fault Refusal :=
  from64 s true a w d false fun _ => fp64.toInteger true 32 (Mode.of r.toNat)
/-- `fcvt.f64.s32` (R204). -/
def execFcvtF64S32 (a : BitVec 7) (w : BitVec 1) (d : BitVec 6) (s : State) : Host.Outcome State Fault Refusal :=
  from32 s s.reduced a w d true fun _ => fp64.ofInteger true 32 .rne
/-- `fcvt.n64.f64` (R204). -/
def execFcvtN64F64 (r : BitVec 2) (a : BitVec 7) (w : BitVec 1) (d : BitVec 6)
    (s : State) : Host.Outcome State Fault Refusal :=
  from64 s true a w d true fun _ => fp64.toInteger false 64 (Mode.of r.toNat)
/-- `fcvt.f64.n64` (R204). -/
def execFcvtF64N64 (r : BitVec 2) (a : BitVec 7) (w : BitVec 1) (d : BitVec 6)
    (s : State) : Host.Outcome State Fault Refusal :=
  from64 s false a w d true fun _ => fp64.ofInteger false 64 (Mode.of r.toNat)

/-! ## FRND (R206 to R208) -/

/-- `frnd.rnd` (R206). -/
def execFrndRnd (r : BitVec 2) (a : BitVec 7) (w : BitVec 1) (d : BitVec 6)
    (s : State) : Host.Outcome State Fault Refusal :=
  from32 s none a w d false fun _ => fp32.integral (Mode.of r.toNat)
/-- `frnd.cls` (R207). -/
def execFrndCls (a : BitVec 7) (w : BitVec 1) (d : BitVec 6) (s : State) : Host.Outcome State Fault Refusal :=
  from32 s none a w d false fun _ x => exactly (fp32.classOf x)
/-- `frnd.frexpm` (R208). -/
def execFrndFrexpm (a : BitVec 7) (w : BitVec 1) (d : BitVec 6) (s : State) : Host.Outcome State Fault Refusal :=
  from32 s none a w d false fun _ => fp32.frexpm
/-- `frnd.frexpe` (R208). -/
def execFrndFrexpe (a : BitVec 7) (w : BitVec 1) (d : BitVec 6) (s : State) : Host.Outcome State Fault Refusal :=
  from32 s none a w d false fun _ => fp32.frexpe
/-- `frnd.rnd` (R206). -/
def execFrndRndF64 (r : BitVec 2) (a : BitVec 7) (w : BitVec 1) (d : BitVec 6)
    (s : State) : Host.Outcome State Fault Refusal :=
  from64 s true a w d true fun _ => fp64.integral (Mode.of r.toNat)
/-- `frnd.cls` (R207). -/
def execFrndClsF64 (a : BitVec 7) (w : BitVec 1) (d : BitVec 6) (s : State) : Host.Outcome State Fault Refusal :=
  from64 s true a w d false fun _ x => exactly (fp64.classOf x)
/-- `frnd.frexpm` (R208). -/
def execFrndFrexpmF64 (a : BitVec 7) (w : BitVec 1) (d : BitVec 6) (s : State) : Host.Outcome State Fault Refusal :=
  from64 s true a w d true fun _ => fp64.frexpm
/-- `frnd.frexpe` (R208). -/
def execFrndFrexpeF64 (a : BitVec 7) (w : BitVec 1) (d : BitVec 6) (s : State) : Host.Outcome State Fault Refusal :=
  from64 s true a w d false fun _ => fp64.frexpe
/-- `frnd.ldexp` (R208). -/
def execFrndLdexp (b : BitVec 7) (a : BitVec 7) (w : BitVec 1) (d : BitVec 6)
    (s : State) : Host.Outcome State Fault Refusal :=
  fp2 s none b a w d fp32.ldexp
/-- `frnd.ldexp` on FP64 (R208): b is one register. -/
def execFrndLdexpF64 (b : BitVec 7) (a : BitVec 7) (w : BitVec 1) (d : BitVec 6)
    (s : State) : Host.Outcome State Fault Refusal :=
  laneOp s ((useSrc a 2).and ((useSrc b 1).and (useV d.toNat 2))) s.reduced fun c t th =>
    match c.src64 true t th a, c.src t th b with
    | some x, some y => th.put64 w d (fp64.ldexp c.mode x.toNat y.toNat)
    | _, _ => .error staleLatch

/-! ## HALU2 (R209) -/

/-- `halu2.bf16.add` (R209). -/
def execHalu2Bf16Add (b : BitVec 7) (a : BitVec 7) (w : BitVec 1) (d : BitVec 6)
    (s : State) : Host.Outcome State Fault Refusal :=
  fp2 s none b a w d (packed2 (bf16.add false))
/-- `halu2.bf16.sub` (R209). -/
def execHalu2Bf16Sub (b : BitVec 7) (a : BitVec 7) (w : BitVec 1) (d : BitVec 6)
    (s : State) : Host.Outcome State Fault Refusal :=
  fp2 s none b a w d (packed2 (bf16.sub false))
/-- `halu2.bf16.mul` (R209). -/
def execHalu2Bf16Mul (b : BitVec 7) (a : BitVec 7) (w : BitVec 1) (d : BitVec 6)
    (s : State) : Host.Outcome State Fault Refusal :=
  fp2 s none b a w d (packed2 (bf16.mul false))
/-- `halu2.bf16.min` (R209). -/
def execHalu2Bf16Min (b : BitVec 7) (a : BitVec 7) (w : BitVec 1) (d : BitVec 6)
    (s : State) : Host.Outcome State Fault Refusal :=
  fp2 s none b a w d (packed2 (bf16.min false))
/-- `halu2.bf16.max` (R209). -/
def execHalu2Bf16Max (b : BitVec 7) (a : BitVec 7) (w : BitVec 1) (d : BitVec 6)
    (s : State) : Host.Outcome State Fault Refusal :=
  fp2 s none b a w d (packed2 (bf16.max false))
/-- `halu2.bf16.fma` (R209). -/
def execHalu2Bf16Fma (b : BitVec 7) (a : BitVec 7) (w : BitVec 1) (d : BitVec 6)
    (s : State) : Host.Outcome State Fault Refusal :=
  fp3 s none b a w d (packed3 (bf16.fma false false false))
/-- `halu2.bf16.pack` (R209). -/
def execHalu2Bf16Pack (b : BitVec 7) (a : BitVec 7) (w : BitVec 1) (d : BitVec 6)
    (s : State) : Host.Outcome State Fault Refusal :=
  fp2 s none b a w d (packPair bf16)
/-- `halu2.f16.add` (R209). -/
def execHalu2F16Add (b : BitVec 7) (a : BitVec 7) (w : BitVec 1) (d : BitVec 6)
    (s : State) : Host.Outcome State Fault Refusal :=
  fp2 s s.reduced b a w d (packed2 (fp16.add false))
/-- `halu2.f16.sub` (R209). -/
def execHalu2F16Sub (b : BitVec 7) (a : BitVec 7) (w : BitVec 1) (d : BitVec 6)
    (s : State) : Host.Outcome State Fault Refusal :=
  fp2 s s.reduced b a w d (packed2 (fp16.sub false))
/-- `halu2.f16.mul` (R209). -/
def execHalu2F16Mul (b : BitVec 7) (a : BitVec 7) (w : BitVec 1) (d : BitVec 6)
    (s : State) : Host.Outcome State Fault Refusal :=
  fp2 s s.reduced b a w d (packed2 (fp16.mul false))
/-- `halu2.f16.min` (R209). -/
def execHalu2F16Min (b : BitVec 7) (a : BitVec 7) (w : BitVec 1) (d : BitVec 6)
    (s : State) : Host.Outcome State Fault Refusal :=
  fp2 s s.reduced b a w d (packed2 (fp16.min false))
/-- `halu2.f16.max` (R209). -/
def execHalu2F16Max (b : BitVec 7) (a : BitVec 7) (w : BitVec 1) (d : BitVec 6)
    (s : State) : Host.Outcome State Fault Refusal :=
  fp2 s s.reduced b a w d (packed2 (fp16.max false))
/-- `halu2.f16.fma` (R209). -/
def execHalu2F16Fma (b : BitVec 7) (a : BitVec 7) (w : BitVec 1) (d : BitVec 6)
    (s : State) : Host.Outcome State Fault Refusal :=
  fp3 s s.reduced b a w d (packed3 (fp16.fma false false false))
/-- `halu2.f16.pack` (R209). -/
def execHalu2F16Pack (b : BitVec 7) (a : BitVec 7) (w : BitVec 1) (d : BitVec 6)
    (s : State) : Host.Outcome State Fault Refusal :=
  fp2 s s.reduced b a w d (packPair fp16)

/-! ## QCVT (R210) and QDEC (R212) -/

/-- `qcvt.e4m3n` (R210). -/
def execQcvtE4m3n (s_ : BitVec 1) (b : BitVec 7) (g : BitVec 4) (r : BitVec 2) (w : BitVec 1) (d : BitVec 6)
    (s : State) : Host.Outcome State Fault Refusal := qcvt4 s .e4m3n s_ b g r w d
/-- `qcvt.e5m2n` (R210). -/
def execQcvtE5m2n (s_ : BitVec 1) (b : BitVec 7) (g : BitVec 4) (r : BitVec 2) (w : BitVec 1) (d : BitVec 6)
    (s : State) : Host.Outcome State Fault Refusal := qcvt4 s .e5m2n s_ b g r w d
/-- `qcvt.dm8` (R210). -/
def execQcvtDm8 (s_ : BitVec 1) (b : BitVec 7) (g : BitVec 4) (r : BitVec 2) (w : BitVec 1) (d : BitVec 6)
    (s : State) : Host.Outcome State Fault Refusal := qcvt4 s .dm8 s_ b g r w d
/-- `qdec.e4m3n.f32` (R212). -/
def execQdecE4m3nF32 (b : BitVec 7) (a : BitVec 7) (w : BitVec 1) (d : BitVec 6)
    (s : State) : Host.Outcome State Fault Refusal :=
  qdec4 s .e4m3n fp32 b a w d
/-- `qdec.e5m2n.f32` (R212). -/
def execQdecE5m2nF32 (b : BitVec 7) (a : BitVec 7) (w : BitVec 1) (d : BitVec 6)
    (s : State) : Host.Outcome State Fault Refusal :=
  qdec4 s .e5m2n fp32 b a w d
/-- `qdec.dm8.f32` (R212). -/
def execQdecDm8F32 (b : BitVec 7) (a : BitVec 7) (w : BitVec 1) (d : BitVec 6)
    (s : State) : Host.Outcome State Fault Refusal :=
  qdec4 s .dm8 fp32 b a w d
/-- `qdec.e4m3n.bf16` (R212). -/
def execQdecE4m3nBf16 (b : BitVec 7) (a : BitVec 7) (w : BitVec 1) (d : BitVec 6)
    (s : State) : Host.Outcome State Fault Refusal :=
  qdec4 s .e4m3n bf16 b a w d
/-- `qdec.e5m2n.bf16` (R212). -/
def execQdecE5m2nBf16 (b : BitVec 7) (a : BitVec 7) (w : BitVec 1) (d : BitVec 6)
    (s : State) : Host.Outcome State Fault Refusal :=
  qdec4 s .e5m2n bf16 b a w d
/-- `qdec.dm8.bf16` (R212). -/
def execQdecDm8Bf16 (b : BitVec 7) (a : BitVec 7) (w : BitVec 1) (d : BitVec 6)
    (s : State) : Host.Outcome State Fault Refusal :=
  qdec4 s .dm8 bf16 b a w d
/-- `qdec.e4m3n.f16` (R212). -/
def execQdecE4m3nF16 (b : BitVec 7) (a : BitVec 7) (w : BitVec 1) (d : BitVec 6)
    (s : State) : Host.Outcome State Fault Refusal :=
  qdec4 s .e4m3n fp16 b a w d
/-- `qdec.e5m2n.f16` (R212). -/
def execQdecE5m2nF16 (b : BitVec 7) (a : BitVec 7) (w : BitVec 1) (d : BitVec 6)
    (s : State) : Host.Outcome State Fault Refusal :=
  qdec4 s .e5m2n fp16 b a w d
/-- `qdec.dm8.f16` (R212). -/
def execQdecDm8F16 (b : BitVec 7) (a : BitVec 7) (w : BitVec 1) (d : BitVec 6)
    (s : State) : Host.Outcome State Fault Refusal :=
  qdec4 s .dm8 fp16 b a w d

/-! ## CMPR (R214 to R216) -/

/-- `cmpr.comp16` (R214). -/
def execCmprComp16 (f : BitVec 1) (a : BitVec 7) (w : BitVec 1) (d : BitVec 6)
    (s : State) : Host.Outcome State Fault Refusal :=
  cmprPair s (if f = 1 then s.reduced else none) a w d fun x _ => keptElements 16 (rank16 (halfFormat f)) (group16 x)
/-- `cmpr.comp8` (R214). -/
def execCmprComp8 (a : BitVec 7) (w : BitVec 1) (d : BitVec 6) (s : State) : Host.Outcome State Fault Refusal :=
  cmprPair s s.reduced a w d fun x _ =>
    keptElements 8 rank8 (group8 (lowWord x)) + 65536 * keptElements 8 rank8 (group8 (highWord x))
/-- `cmpr.meta16` (R215). -/
def execCmprMeta16 (f : BitVec 1) (a : BitVec 7) (w : BitVec 1) (d : BitVec 6)
    (s : State) : Host.Outcome State Fault Refusal :=
  cmprPair s (if f = 1 then s.reduced else none) a w d fun x old =>
    old.toNat / 16 + 2 ^ 28 * nibbleOf (keptPair (rank16 (halfFormat f)) (group16 x))
/-- `cmpr.meta8` (R215). -/
def execCmprMeta8 (a : BitVec 7) (w : BitVec 1) (d : BitVec 6) (s : State) : Host.Outcome State Fault Refusal :=
  cmprPair s s.reduced a w d fun x old =>
    old.toNat / 256 + 2 ^ 28 * nibbleOf (keptPair rank8 (group8 (highWord x))) +
      2 ^ 24 * nibbleOf (keptPair rank8 (group8 (lowWord x)))
/-- `cmpr.exp16` (R216). -/
def execCmprExp16 (b : BitVec 7) (a : BitVec 7) (w : BitVec 1) (d : BitVec 6)
    (s : State) : Host.Outcome State Fault Refusal :=
  cmprExpand s none b a w d fun x y =>
    let g := expandGroup (y % 16) (elementOf 16 x 0) (elementOf 16 x 1)
    [packElements 16 (g.take 2), packElements 16 (g.drop 2)]
/-- `cmpr.exp8` (R216). -/
def execCmprExp8 (b : BitVec 7) (a : BitVec 7) (w : BitVec 1) (d : BitVec 6)
    (s : State) : Host.Outcome State Fault Refusal :=
  cmprExpand s s.reduced b a w d fun x y =>
    [packElements 8 (expandGroup (y % 16) (elementOf 8 x 0) (elementOf 8 x 1)),
     packElements 8 (expandGroup (y / 16 % 16) (elementOf 8 x 2) (elementOf 8 x 3))]

/-! ## GEO (R217 to R222) -/

/-- `geo.orient2` (R218, R220). -/
def execGeoOrient2 (s_ : BitVec 1) (b : BitVec 7) (x : BitVec 1) (a : BitVec 6) (w : BitVec 1) (d : BitVec 6)
    (s : State) : Host.Outcome State Fault Refusal := geo s (symSource s_ b) x a w d 3 2 (geoSign false)
/-- `geo.orient3` (R218, R220). -/
def execGeoOrient3 (s_ : BitVec 1) (b : BitVec 7) (x : BitVec 1) (a : BitVec 6) (w : BitVec 1) (d : BitVec 6)
    (s : State) : Host.Outcome State Fault Refusal := geo s (symSource s_ b) x a w d 4 3 (geoSign false)
/-- `geo.incircle` (R218, R220). -/
def execGeoIncircle (s_ : BitVec 1) (b : BitVec 7) (x : BitVec 1) (a : BitVec 6) (w : BitVec 1) (d : BitVec 6)
    (s : State) : Host.Outcome State Fault Refusal := geo s (symSource s_ b) x a w d 4 2 (geoSign true)
/-- `geo.insphere` (R218, R220). -/
def execGeoInsphere (s_ : BitVec 1) (b : BitVec 7) (x : BitVec 1) (a : BitVec 6) (w : BitVec 1) (d : BitVec 6)
    (s : State) : Host.Outcome State Fault Refusal := geo s (symSource s_ b) x a w d 5 3 (geoSign true)
/-- `geo.segx` (R219). -/
def execGeoSegx (x : BitVec 1) (a : BitVec 6) (w : BitVec 1) (d : BitVec 6)
    (s : State) : Host.Outcome State Fault Refusal :=
  geo s none x a w d 4 2 fun p _ => geoCross p

end Sys2Proof.Machine
end

