-- ==== Sys2Proof/Machine/Tasks.lean ====
section
/-! DEFINITION. Engine commands at their issue (R244 to R277): tensor descriptors, the logical states of buffers, the
submission of a task and its completion as the core sees it, batches, tokens, mitts and the cap. What an engine does with
data is in Engine. -/
namespace Sys2Proof.Machine

/-! ## Descriptors (R160, R161, R255, R257) -/

def Desc.word (d : Desc) (k : Nat) : Word := d.getD k 0
def Desc.byte (d : Desc) (k : Nat) : Nat := bits (d.getD (k / 4) 0).toNat (8 * (k % 4)) 8
def Desc.base (d : Desc) : Dword := pairOf (Desc.word d 0) (Desc.word d 1)
def Desc.fmt (d : Desc) : Nat := Desc.byte d 8
def Desc.rank (d : Desc) : Nat := Desc.byte d 9
def Desc.obs (d : Desc) : Nat := Desc.byte d 10 % 32
def Desc.handle (d : Desc) : Nat := Desc.byte d 11
def Desc.pri (d : Desc) : Nat := Desc.byte d 12
def Desc.sfmt (d : Desc) : Nat := Desc.byte d 13
def Desc.rows (d : Desc) : Nat := Desc.byte d 14
def Desc.cols (d : Desc) : Nat := Desc.byte d 15
/-- EXT k for k from 0, and STR k for k from 1. -/
def Desc.ext (d : Desc) (k : Nat) : Nat := (Desc.word d (4 + k)).toNat
def Desc.str (d : Desc) (k : Nat) : Nat := (Desc.word d (8 + k)).toNat
def Desc.sbase (d : Desc) : Dword := pairOf (Desc.word d 14) (Desc.word d 15)

/-- Bytes of an element of a format code (R161). -/
def formatSize (f : Nat) : Nat := match f with | 0 => 4 | 1 => 2 | 2 => 2 | 3 => 8 | _ => 1
def Desc.esize (d : Desc) : Nat := formatSize (Desc.fmt d)

/-- The record is valid (R255). -/
def Desc.valid (d : Desc) : Bool :=
  decide (Desc.fmt d ≤ 6) && decide (1 ≤ Desc.rank d ∧ Desc.rank d ≤ 5) && decide (Desc.byte d 10 < 32) &&
  decide (Desc.sfmt d ≤ 2) && (Desc.sfmt d == 0 || Desc.esize d == 1) && decide (1 ≤ Desc.rows d ∧ Desc.rows d ≤ 32) &&
  decide (0 < Desc.cols d ∧ Desc.cols d * Desc.esize d ≤ 64) &&
  (List.range 5).all (fun k => decide (k < Desc.rank d) == (Desc.ext d k != 0)) &&
  ([1, 2, 3, 4].all fun k => decide (k < Desc.rank d) || Desc.str d k == 0) &&
  Desc.word d 13 == 0 && (Desc.sfmt d != 0 || Desc.sbase d == 0)

/-- The address of element (r, c); none when it is out of range (R257). -/
def Desc.elem (d : Desc) (r c : Nat) : Option Dword :=
  if Desc.ext d 0 ≤ c then none
  else
    let q := (List.range (Desc.rank d - 1)).foldl (fun (q : Nat × Nat) k =>
      (q.1 + q.2 % Desc.ext d (k + 1) * Desc.str d (k + 1), q.2 / Desc.ext d (k + 1))) (c, r)
    if q.2 ≠ 0 then none else some (Desc.base d + BitVec.ofNat 64 (Desc.esize d * q.1))

/-! ## What a command names -/

/-- Buffers that a command fills, consumes (a buffer listed twice is consumed twice) and holds (R247). -/
def Command.fills : Command → List Nat
  | .copy form x _ _ _ _ => if form = 0 ∨ form = 4 then [x] else []
  | .kv 0 x _ _ _ _ _ => [x]
  | _ => []
def Command.uses : Command → List Nat
  | .mma sparse _ _ a b sa sb _ =>
    (if sa.isSome then [] else if sparse then [a, a + 1] else [a]) ++
      (if sb.isSome then [] else if sparse then [b, b + 1] else [b])
  | _ => []
def Command.holds : Command → List Nat
  | .hold x _ => [x]
  | _ => []
def Command.names (c : Command) : List Nat := c.fills ++ c.uses ++ c.holds
/-- The accumulator that a command targets. -/
def Command.target : Command → Option Nat
  | .mma _ _ _ _ _ _ _ a => some a
  | _ => none
/-- The format and scale tags that a fill leaves (R259). -/
def Command.tags : Command → Nat × Nat
  | .copy form _ td _ _ _ => (Desc.fmt td, if form = 0 then Desc.sfmt td else 0)
  | .kv _ _ td _ _ _ _ => (Desc.fmt td, 0)
  | _ => (0, 0)
/-- The observer mask of a command's descriptor (R116); a `bar` has the mask cx (R380). -/
def Command.obs : Command → Nat
  | .copy _ _ td _ _ _ => Desc.obs td
  | .mma _ _ _ _ _ _ _ _ => 0
  | .hold _ _ => 0
  | .kv _ _ td _ _ _ _ => Desc.obs td
  | .col fn td _ _ => if fn = 6 then 3 else Desc.obs td
/-- The queue of a command (R246): 0 copy, 1 matrix, 2 gather, 3 collective. -/
def Command.queue : Command → Nat
  | .copy _ _ _ _ _ _ => 0
  | .mma _ _ _ _ _ _ _ _ => 1
  | .hold _ _ => 1
  | .kv _ _ _ _ _ _ _ => 2
  | .col _ _ _ _ => 3

/-! ## Unfinished tasks and logical states -/

/-- A task in its place of an ascending submission order. -/
def placeTask (t : Task) : List Task → List Task
  | [] => [t]
  | u :: r => if t.order < u.order then t :: u :: r else u :: placeTask t r
/-- The unfinished tasks of a core in submission order (R246). -/
def Core.tasks (c : Core) : List Task := (c.entries.filterMap fun e => e.2.task).foldr placeTask []

/-- The state of a buffer as the checks see it (R247). -/
structure Logical where
  full : Bool
  use : Nat
  fmt : Nat
  sfmt : Nat
  deriving DecidableEq, Repr

/-- What the completion of a command does to a buffer's state (R247). -/
def Logical.after (l : Logical) (x : Nat) (c : Command) : Logical :=
  if x ∈ c.fills then { full := true, use := 1, fmt := c.tags.1, sfmt := c.tags.2 }
  else if x ∈ c.uses then
    let n := l.use - c.uses.count x
    { l with use := n, full := decide (n ≠ 0) }
  else match c with
    | .hold y n => if y = x then { l with use := n } else l
    | _ => l

/-- The state that a buffer will have once every task submitted so far has completed (R247). -/
def Core.logical (c : Core) (x : Nat) : Logical :=
  let b := c.buf x
  c.tasks.foldl (fun l t => l.after x t.cmd) { full := b.full, use := b.use, fmt := b.fmt, sfmt := b.sfmt }
/-- Whether an accumulator is logically DEF. -/
def Core.logicalDef (c : Core) (a : Nat) : Bool := (c.acc a).defined || c.tasks.any fun t => t.cmd.target == some a

/-- Traps of the protocol (R279), with the number shown as detail (R329). -/
def protocol (sub detail : Nat) : Trap := { cause := 0xD, sub := sub, addr := 0, detail := BitVec.ofNat 64 detail }
def mittTrap (sub a : Nat) : Trap := { cause := 8, sub := sub, addr := 0, detail := BitVec.ofNat 64 a }

/-- The check of a fill, and of a consumption (R247). -/
def Core.fillTrap (c : Core) (x : Nat) : Option Trap := if (c.logical x).full then some (protocol 4 x) else none
def Core.useTrap (c : Core) (xs : List Nat) : Option Trap :=
  (xs.find? fun x => decide (15 < x) || !(c.logical x).full || decide ((c.logical x).use < xs.count x)).map (protocol 5)

/-- A descriptor of the crew, or the trap of one that is not VALID (R256). -/
def Crew.desc (k : Crew) (n : Nat) : Answer Desc :=
  match tfind k.td n with | some d => .ok d | none => .trap (protocol 2 n)

/-- The check of a scratchpad range (R260, R268). -/
def Crew.padTrap (k : Crew) (o align n : Nat) : Option Trap :=
  if o % align ≠ 0 then some (trapAt 4 align (BitVec.ofNat 64 o))
  else if k.size < o + n then some (trapAt 0xE 1 (BitVec.ofNat 64 o)) else none

/-! ## Batches (R251 to R253) -/

/-- Sealed batches of a warp that have not finished (R251). -/
def Warp.sealedCount (w : Warp) : Nat := (w.batches.filter fun b => b.closed).length

/-- Commands join the open batch; `fresh` names a new one. -/
def Warp.joinBatch (w : Warp) (fresh : Nat) : Warp × Nat :=
  match w.openBatch with
  | some b => ({ w with batches := w.batches.map fun x => if x.id = b.id then { x with left := x.left + 1 } else x }, b.id)
  | none =>
    let b : Batch := { id := fresh, reg := none, closed := false, left := 1, code := 0, stamp := 0 }
    ({ w with batches := w.batches ++ [b] }, fresh)

/-- A register takes a completion code; a read of it acquires what the code releases (R117, R251). -/
def Warp.deliver (w : Warp) (n : Nat) (code : Nat) (stamp : Dword) : Warp :=
  let w1 := { w.setS n (BitVec.ofNat 32 code) with pend := tdel w.pend n }
  if stamp = 0 then w1 else { w1 with seals := tput w1.seals n stamp }

/-- A sealed batch with nothing left finishes (R251); a later `waitn` acquires what it releases (R117). -/
def Warp.finishBatch (w : Warp) (id : Nat) : Warp :=
  match w.batches.find? fun b => b.id == id with
  | some b =>
    if b.closed ∧ b.left = 0 then
      let w1 := { w with batches := w.batches.filter fun x => x.id != id, ended := laterOf w.ended b.stamp }
      match b.reg with
      | some n => if tfind w.pend n = some (.batch id) then w1.deliver n b.code b.stamp else w1
      | none => w1
    else w
  | none => w

/-- A command of a batch completes with a code (R251). -/
def Warp.creditBatch (w : Warp) (id code : Nat) (stamp : Dword) : Warp :=
  Warp.finishBatch { w with batches := w.batches.map fun b =>
    if b.id = id then { b with left := b.left - 1, code := max b.code code, stamp := laterOf b.stamp stamp } else b } id

/-! ## Submission (R246, R249, R250) -/

/-- The task-table entries of a core that no unfinished task holds. -/
def Core.freeEntries (c : Core) : List Nat := (List.range 64).filter fun e => (c.entry e).task.isNone

/-- The threads' largest view time. -/
def Warp.viewIn (w : Warp) (m : Word) : Dword := (threadsOf m).foldl (fun v t => laterOf v (w.thread t).view) 0
/-- The mode of the issuing threads. -/
def Warp.supIn (w : Warp) (m : Word) : Bool := ((lowestOf m).map fun t => (w.thread t).sup).getD false

/-- The token of an entry and its submission count (R250): 1 for the first submission. -/
def tokenOf (seq ent : Nat) : Word := BitVec.ofNat 32 (seq % 2 ^ 26 * 64 + ent)
/-- Whether the task that a token names has finished (R250). -/
def Core.finished (c : Core) (seq ent : Nat) : Bool :=
  let e := c.entry ent
  e.task.isNone || decide (e.seq % 2 ^ 26 ≠ seq % 2 ^ 26)

/-- The entry that a submission takes: any free one. -/
def State.pickEntry (s : State) (c : Core) : Nat :=
  c.freeEntries.getD ((Config.freeDword s.draws 0).toNat % c.freeEntries.length) 0

/-- Whether the issue of a command is ordered before its accesses (R116, R380): by ACQ with an observer that its accesses or
its completion serve, or by a fence of an issuing thread that names the engine's class. -/
def Warp.orders (w : Warp) (m : Word) (acq : Bool) (cmd : Command) : Bool :=
  (acq && (cmd.queue == 1 || cmd.obs.testBit 1 || (cmd.queue == 3 && cmd.obs.testBit 0))) ||
  (cmd.queue != 1 && (threadsOf m).any fun t => (w.thread t).fences.getLsbD 1)

/-- A command of the issue enters the task table, or waits for a free entry (R246). -/
def State.submit (s : State) (c : Cur) (w : Warp) (tk : Option Nat) (batched acq rel : Bool) (cmd : Command) : Act :=
  let core := s.coreOf w
  let k := s.core core
  if k.freeEntries.isEmpty then .wait s .tableFull
  else
    let ent := s.pickEntry k
    let e := k.entry ent
    let joined := if batched then w.joinBatch s.fresh else (w, 0)
    let task : Task :=
      { cmd := cmd, order := k.submitted, started := false, warp := c.warp, crew := w.crew,
        launch := ((s.launchOf w).map Prod.fst).getD 0, batch := if batched then some joined.2 else none, acq := acq,
        rel := rel, seqRecord := none, genTime := none, inst := none, cancelled := false, sup := w.supIn c.taking,
        stamp := if w.orders c.taking acq cmd then w.viewIn c.taking else 0, refused := false, quar := [], seen := [],
        stalled := none }
    let w1 := match tk with | some n => joined.1.setS n (tokenOf (e.seq + 1) ent) | none => joined.1
    let s1 := (s.drawn.setWarp c.warp w1).onCore core fun k =>
      { k.setEntry ent { e with seq := e.seq + 1, task := some task } with submitted := k.submitted + 1 }
    .done { s1 with fresh := s1.fresh + 1 }

/-! ## Completion as the core sees it (R247, R251, R262, R267) -/

/-- A buffer when a command that names it completes with a code. -/
def Buf.complete (b : Buf) (x : Nat) (c : Command) (code : Nat) : Buf :=
  let l := Logical.after { full := b.full, use := b.use, fmt := b.fmt, sfmt := b.sfmt } x c
  { b with full := l.full, use := l.use, fmt := l.fmt, sfmt := l.sfmt,
           poison := if x ∈ c.fills then decide (code ≠ 1) else b.poison }

/-- The accumulator of a completed `mma` (R267). -/
def Core.settleAcc (k : Core) (c : Command) : Core :=
  match c with
  | .mma _ _ overwrite _ _ _ _ a =>
    let x := k.acc a
    let bad := (c.uses.any fun i => (k.buf i).poison) || (!overwrite && x.poison)
    k.setAcc a { x with defined := true, poison := bad }
  | _ => k

/-- A completion releases to threads with REL, when c stands in the command's mask (R117). -/
def Task.releases (t : Task) : Bool := t.rel && t.cmd.obs.testBit 0

/-- A task completes with a code (R262): its entry is free, its buffers, accumulator and batch change, and every mitt
whose turn has come is granted. `stamp` covers what it wrote. -/
def State.complete (s : State) (core ent code : Nat) (stamp : Dword) : State :=
  let k := s.core core
  let e := k.entry ent
  match e.task with
  | none => s
  | some t =>
    let k1 := (k.settleAcc t.cmd).setEntry ent
      { e with task := none, stamp := if t.releases then laterOf e.stamp stamp else e.stamp }
    let k2 := (t.cmd.names.eraseDups).foldl (fun k x => k.setBuf x ((k.buf x).complete x t.cmd code)) k1
    let s1 := s.setCore core k2.grantAll
    let s2 := match t.batch with
      | some b => s1.onWarp t.warp fun w => w.creditBatch b code (if t.releases then stamp else 0)
      | none => s1
    s2.onLaunch t.launch fun l => { l with stamp := laterOf l.stamp stamp }

/-- A fault of an engine command in the log, and the alarm of a routing breach (R349, R373). -/
def State.engineFault (s : State) (core source launch : Nat) (t : Trap) : State :=
  match s.launch launch with
  | none => s
  | some l =>
    let s1 := s.logFault l.part
      { va := t.addr, cause := t.cause, sub := t.sub, core := core, source := source, queue := l.queueNo }
    if t.cause = 6 ∧ t.sub = 5 then s1.alarmAt l.part 2 core l.queueNo else s1

/-! ## Shapes of the engine forms -/

/-- A uniform form of a crew (R249): an issue check that fails traps and leaves everything. -/
def engineOp (s : State) (u : Uses) (sw : Bool) (f : State → Cur → Warp → Crew → Answer Act) :
    Host.Outcome State Fault Refusal :=
  unitOp s u none sw fun s c w =>
    match s.crewOf w with
    | none => .done s
    | some k => match f s c w k with
      | .ok a => a
      | .trap t => .trap t
      | .wait x => .wait s x

/-- Go on unless a check fails. -/
def checked {α : Type} (t : Option Trap) (x : Answer α) : Answer α := match t with | some t => .trap t | none => x

/-! ## CPY (R258 to R260) -/

/-- The checks of R260 that the format and shape of the descriptors decide. -/
def copyTrap (form n : Nat) (td td2 : Desc) (col0 : Nat) : Option Trap :=
  if form = 3 ∧ (Desc.esize td ≠ Desc.esize td2 ∨ Desc.rows td ≠ Desc.rows td2 ∨ Desc.cols td ≠ Desc.cols td2) then
    some (protocol 3 n)
  else if (form = 0 ∨ form = 4) ∧ (Desc.fmt td = 0 ∨ Desc.fmt td = 3) then some (protocol 3 n)
  else if form = 0 ∧ Desc.sfmt td ≠ 0 ∧ col0 % 32 ≠ 0 then some (protocol 3 n)
  else none

/-- All checks of R260 and the fill check (R247) of a copy on the descriptors `td` and `td2`. -/
def State.copyCheck (s : State) (core : Nat) (crew : Crew) (form n x : Nat) (td td2 : Desc) (c0 c1 : Word) : Option Trap :=
  (copyTrap form n td td2 (c0.toNat / 65536)).or
  ((if form = 4 ∨ form = 5 then crew.padTrap c0.toNat 64 2048 else none).or
  ((if form = 1 ∨ form = 2 ∨ form = 5 then crew.padTrap c1.toNat 64 2048 else none).or
  (if form = 0 ∨ form = 4 then (s.core core).fillTrap x else none)))

/-- The second descriptor of a form that has one: the next number, which 63 does not have. -/
def Crew.secondDesc (k : Crew) (has : Bool) (n : Nat) : Answer Desc :=
  if !has then .ok [] else if n = 63 then .trap (protocol 3 63) else k.desc (n + 1)

/-- `cpy`: `form` 0 to 5, buffer, descriptor, and the registers of C and TK. -/
def copyOp (s : State) (form : Nat) (r q : BitVec 1) (t : BitVec 6) (x : Nat) (c k : BitVec 5) :
    Host.Outcome State Fault Refusal :=
  let wide := form ≠ 0 ∧ form ≠ 4
  engineOp s ((useS c.toNat (if wide then 2 else 1)).and (useD k.toNat 1)) false fun s cur w crew =>
    let c0 := w.sreg c.toNat
    let c1 := if wide then w.sreg (c.toNat + 1) else 0
    (crew.desc t.toNat).andThen fun td => (crew.secondDesc (form == 3) t.toNat).andThen fun td2 =>
    checked (s.copyCheck (s.coreOf w) crew form t.toNat x td td2 c0 c1)
      (.ok (s.submit cur w (some k.toNat) true (q == 1) (r == 1) (.copy form x td td2 c0 c1)))

/-- `cpy.g2b` (R258). -/
def execCpyG2b (r q : BitVec 1) (t : BitVec 6) (x : BitVec 4) (c k : BitVec 5) (s : State) :
    Host.Outcome State Fault Refusal := copyOp s 0 r q t x.toNat c k
/-- `cpy.g2s` (R258). -/
def execCpyG2s (r q : BitVec 1) (t : BitVec 6) (c k : BitVec 5) (s : State) : Host.Outcome State Fault Refusal :=
  copyOp s 1 r q t 0 c k
/-- `cpy.s2g` (R258). -/
def execCpyS2g (r q : BitVec 1) (t : BitVec 6) (c k : BitVec 5) (s : State) : Host.Outcome State Fault Refusal :=
  copyOp s 2 r q t 0 c k
/-- `cpy.g2g` (R258). -/
def execCpyG2g (r q : BitVec 1) (t : BitVec 6) (c k : BitVec 5) (s : State) : Host.Outcome State Fault Refusal :=
  copyOp s 3 r q t 0 c k
/-- `cpy.s2b` (R258). -/
def execCpyS2b (r q : BitVec 1) (t : BitVec 6) (x : BitVec 4) (c k : BitVec 5) (s : State) :
    Host.Outcome State Fault Refusal := copyOp s 4 r q t x.toNat c k
/-- `cpy.s2s` (R258). -/
def execCpyS2s (r q : BitVec 1) (t : BitVec 6) (c k : BitVec 5) (s : State) : Host.Outcome State Fault Refusal :=
  copyOp s 5 r q t 0 c k

/-! ## SEAL and TD (R252, R254, R255) -/

/-- `seal` (R251, R252): the open batch closes and binds a register; an empty one gives 1 at once. Sixteen unfinished sealed
batches hold it up, whether or not the commands of its own have all completed (log 108, DEDUCED). -/
def execSeal (d : BitVec 6) (s : State) : Host.Outcome State Fault Refusal :=
  unitOp s (useD d.toNat 1) none false fun s c w =>
    match w.openBatch with
    | none => .done (s.setWarp c.warp (w.setS d.toNat 1))
    | some b =>
      if 16 ≤ w.sealedCount then .wait s .sealLimit
      else
        let w1 := { w.closeBatch (some d.toNat) with pend := tput w.pend d.toNat (.batch b.id) }
        .done (s.setWarp c.warp (w1.finishBatch b.id))
/-- `waitn` (R252); the batches that it waits past have been acquired (R117). -/
def execWaitn (a : BitVec 7) (s : State) : Host.Outcome State Fault Refusal :=
  unitOp s Uses.none none true fun s c w =>
    if w.sealedCount ≤ a.toNat then .done (s.acquire c.warp c.taking w.ended) else .wait s (.batches a.toNat)

/-- `tdset` (R255): the record is read once for the issue, by its lowest thread. -/
def execTdset (a : BitVec 7) (d : BitVec 6) (s : State) : Host.Outcome State Fault Refusal :=
  unitOp s (useUni a 2) none false fun s c w =>
    let va := (s.ctx c w).usrc64 a
    let who : Who := { core := s.coreOf w, sup := w.supIn c.taking, view := w.viewIn c.taking }
    match s.threadLoad who 0 va 64 with
    | .trap t => .trap t
    | .wait x => .wait s x
    | .ok r =>
      let td : Desc := registersOf r.2.2
      if !Desc.valid td then .trap { protocol 1 d.toNat with addr := va }
      else
        let s1 := (r.1.onCrew w.crew fun k => { k with td := tput k.td d.toNat td }).onWarp c.warp fun w =>
          w.onThreads c.taking fun th => { th with view := laterOf th.view r.2.1 }
        let prioritise := Desc.handle td ≠ 0 ∧ Desc.pri td ≠ 0 ∧ Desc.pri td ≤ 15
        .done (match s1.partOfCore (s1.coreOf w) with
          | some (k, _) => if prioritise then
              s1.onPart k fun p => { p with priority := tput p.priority (Desc.handle td) (Desc.pri td) } else s1
          | none => s1)
/-- `tdget` (R254). -/
def execTdget (x : BitVec 4) (a d : BitVec 6) (s : State) : Host.Outcome State Fault Refusal :=
  unitOp s (useD d.toNat 1) none false fun s c w =>
    let td := ((s.crewOf w).bind fun k => tfind k.td a.toNat).getD []
    .done (s.setWarp c.warp (w.setS d.toNat (Desc.word td x.toNat)))

/-! ## MMA (R263 to R265) -/

/-- Fields of a scratchpad operand (R264). -/
def padBase (w0 : Word) : Nat := bits w0.toNat 0 21
def padPitch (w0 : Word) : Nat := w0.toNat / 2097152
def padSecond (w1 : Word) : Nat := 32 * (w1.toNat / 32)
def padRot (w1 : Word) : Nat := bits w1.toNat 3 2
def padFmt (w1 : Word) : Nat := bits w1.toNat 0 3
/-- The bank rotation of byte o of row i (R264). -/
def swizzle (rot i o : Nat) : Nat :=
  o ^^^ (match rot with | 0 => 0 | 1 => i % 8 * 16 | 2 => i % 4 * 32 | _ => i % 2 * 64)
/-- The offset of byte o of row i of a tile (R264). -/
def padOffset (w0 w1 : Word) (second : Bool) (i o : Nat) : Nat :=
  padBase w0 + (if second then padSecond w1 else 0) + 16 * padPitch w0 * i + swizzle (padRot w1) i o

/-- Bytes of a row that a step reads of a scratchpad operand's second tile: the metadata of A, or a tile of B (R266). -/
def secondBytes (metadata : Bool) (fmt : Nat) : Nat := if metadata then (if formatSize fmt = 2 then 8 else 16) else 64

/-- The checks of a scratchpad operand (R264). -/
def Crew.operandTrap (k : Crew) (sparse metadata : Bool) (p : Word × Word) (reg : Nat) : Option Trap :=
  let fmt := padFmt p.2
  let out := fun (second : Bool) (n : Nat) => (List.range 32).any fun i => (List.range n).any fun o =>
    decide (k.size ≤ padOffset p.1 p.2 second i o)
  if fmt = 0 ∨ fmt = 3 ∨ fmt = 7 then some (protocol 3 reg)
  else if padRot p.2 = 0 ∧ (padBase p.1 % 64 ≠ 0 ∨ padPitch p.1 < 4) then
    some (trapAt 4 64 (BitVec.ofNat 64 (padBase p.1)))
  else if padRot p.2 ≠ 0 ∧ (padBase p.1 % 128 ≠ 0 ∨ padPitch p.1 % 8 ≠ 0) then
    some (trapAt 4 128 (BitVec.ofNat 64 (padBase p.1)))
  else if out false 64 || (sparse && out true (secondBytes metadata fmt)) then
    some (trapAt 0xE 1 (BitVec.ofNat 64 (padBase p.1)))
  else none

/-- The format of an operand as R265 sees it: none for a logically empty buffer. -/
def Core.operandFmt (c : Core) (x : Nat) (pad : Option (Word × Word)) : Option Nat :=
  match pad with
  | some p => some (padFmt p.2)
  | none => if (c.logical x).full then some (c.logical x).fmt else none

/-- The formats of the multiplicands of an `mma`: with `.sp`, also that of the second half of B (R265). -/
def Core.operandFmts (c : Core) (sparse : Bool) (a b : Nat) (sa sb : Option (Word × Word)) : List Nat :=
  (c.operandFmt a sa).toList ++ (c.operandFmt b sb).toList ++
    (if sparse && sb.isNone then (c.operandFmt (b + 1) none).toList else [])

/-- The checks of R265. -/
def Core.formatTrap (c : Core) (sparse trans : Bool) (a b : Nat) (sa sb : Option (Word × Word)) : Option Trap :=
  let sizes := (c.operandFmts sparse a b sa sb).map formatSize
  if sizes.any (· == 1) && (sizes.any (· != 1) || !trans) then some (protocol 3 a)
  else if sparse && sa.isNone && (c.logical a).full && (a % 2 == 1 || (c.logical a).sfmt != 0) then some (protocol 3 a)
  else if sparse && sb.isNone && (c.logical b).full && b % 2 == 1 then some (protocol 3 b)
  else none

/-- Whether an `mma` has an operand of a format that reduced service refuses (R389): FP16 or an 8-bit one. -/
def Core.narrowOperands (c : Core) (sparse : Bool) (a b : Nat) (sa sb : Option (Word × Word)) : Bool :=
  (c.operandFmts sparse a b sa sb).any fun f => f == 1 || decide (4 ≤ f ∧ f ≤ 6)

/-- All checks of an `mma` (R247, R263 to R265, R267). R263 does not say where those of R264 stand in its order: the model makes
them before those of R265, which need the format that they admit (log 79). -/
def State.mmaCheck (s : State) (core : Nat) (k : Crew) (sparse turned overwrite : Bool) (a b : Nat)
    (sa sb : Option (Word × Word)) (acc : Nat) : Option Trap :=
  let q := s.core core
  (if (q.acc acc).mitt.isSome then some (mittTrap 1 acc) else none).or
  ((sa.bind fun x => k.operandTrap sparse true x a).or
  ((sb.bind fun x => k.operandTrap sparse false x b).or
  ((q.formatTrap sparse turned a b sa sb).or
  ((q.useTrap (Command.uses (.mma sparse turned overwrite a b sa sb acc))).or
  (if !overwrite && !q.logicalDef acc then some (protocol 5 acc) else none)))))

/-- A scratchpad operand (R264): the two registers that name it, when the form has one. -/
def Warp.padOperand (w : Warp) (pad : BitVec 1) (r : BitVec 5) : Option (Word × Word) :=
  if pad = 1 then some (w.sreg r.toNat, w.sreg (r.toNat + 1)) else none
/-- The registers that an `mma` names. -/
def mmaUses (b a : BitVec 5) (y x : BitVec 1) : Uses :=
  (if x = 1 then useS a.toNat 2 else Uses.none).and (if y = 1 then useS b.toNat 2 else Uses.none)
/-- What reduced service makes of an `mma` (R389). -/
def State.mmaReduced (s : State) (sparse : Bool) (b a : BitVec 5) (y x : BitVec 1) : Option (Nat × Nat) :=
  match s.cur.bind fun c => s.warp c.warp with
  | some w =>
    if (s.core (s.coreOf w)).narrowOperands sparse a.toNat b.toNat (w.padOperand x a) (w.padOperand y b) then s.reduced else none
  | none => none

/-- `mma` and `mmaz`. -/
def mmaOp (s : State) (overwrite : Bool) (p t : BitVec 1) (b a : BitVec 5) (y x : BitVec 1) (c : BitVec 3) :
    Host.Outcome State Fault Refusal :=
  unitOp s (mmaUses b a y x) (s.mmaReduced (p == 1) b a y x) false fun s cur w =>
    match s.crewOf w with
    | none => .done s
    | some k =>
      let sa := w.padOperand x a
      let sb := w.padOperand y b
      match s.mmaCheck (s.coreOf w) k (p == 1) (t == 1) overwrite a.toNat b.toNat sa sb c.toNat with
      | some e => .trap e
      | none => s.submit cur w none false true false (.mma (p == 1) (t == 1) overwrite a.toNat b.toNat sa sb c.toNat)

/-- `mma` (R263). -/
def execMma (p t : BitVec 1) (b a : BitVec 5) (y x : BitVec 1) (c : BitVec 3) (s : State) :
    Host.Outcome State Fault Refusal := mmaOp s false p t b a y x c
/-- `mmaz` (R263). -/
def execMmaz (p t : BitVec 1) (b a : BitVec 5) (y x : BitVec 1) (c : BitVec 3) (s : State) :
    Host.Outcome State Fault Refusal := mmaOp s true p t b a y x c

/-! ## ACC (R268 to R272) -/

/-- `acq` (R269): it is served at once, waits in turn, or traps while another warp holds the mitt. An `acq` that waits
finds its turn when it issues again. -/
def execAcq (c : BitVec 3) (s : State) : Host.Outcome State Fault Refusal :=
  engineOp s Uses.none true fun s cur w _ =>
    let core := s.coreOf w
    let k := s.core core
    let a := k.acc c.toNat
    let waits := a.waiting.any fun m => m.warp == cur.warp
    if a.mitt = some cur.warp then .ok (.done s)
    else if a.mitt.isSome && !waits then .trap (mittTrap 3 c.toNat)
    else
      let k1 := if waits then k
        else k.setAcc c.toNat { a with waiting := a.waiting ++ [{ warp := cur.warp, upTo := k.submitted }] }
      let k2 := k1.grant c.toNat
      let s1 := s.setCore core k2
      .ok (if (k2.acc c.toNat).mitt = some cur.warp then .done s1 else .wait s1 (.mitt c.toNat))
/-- `rel` (R269). -/
def execRel (c : BitVec 3) (s : State) : Host.Outcome State Fault Refusal :=
  engineOp s Uses.none false fun s cur w _ =>
    let core := s.coreOf w
    let k := s.core core
    let a := k.acc c.toNat
    if a.mitt = some cur.warp then .ok (.done (s.setCore core ((k.setAcc c.toNat { a with mitt := none }).grant c.toNat)))
    else if a.mitt.isSome then .trap (mittTrap 4 c.toNat) else .ok (.done s)

/-- A form that needs the mitt, on a 4 KiB image at an offset when it has one (R268); its scratchpad accesses are the thread's,
and a lost line traps (R122). -/
def accOp (s : State) (c : BitVec 3) (a : Option (BitVec 7)) (f : State → Cur → Warp → Crew → Acc → Nat → State) :
    Host.Outcome State Fault Refusal :=
  engineOp s (match a with | some a => useUni a 1 | none => Uses.none) false fun s cur w crew =>
    let acc := (s.core (s.coreOf w)).acc c.toNat
    let o := match a with | some a => ((s.ctx cur w).usrc a).toNat | none => 0
    if acc.mitt ≠ some cur.warp then .trap (mittTrap 2 c.toNat)
    else checked (if a.isSome then crew.padTrap o 128 4096 else none)
      (checked (if a.isSome && s.padLost (crew.padAt o) 4096 then some (trapAt 0xB 0 (BitVec.ofNat 64 o)) else none)
        (.ok (.done (f s cur w crew acc o))))

/-- `amov` (R268): an accumulator from the scratchpad. -/
def execAmov (a : BitVec 7) (c : BitVec 3) (s : State) : Host.Outcome State Fault Refusal :=
  accOp s c (some a) fun s cur w crew acc o =>
    let k := crew.padAt o
    let r := s.padGet (w.viewIn cur.taking) k 4096
    let el := (List.range 1024).foldl (fun t i => wput t i (BitVec.ofNat 32 (bytesNat ((r.2.2.drop (4 * i)).take 4)))) []
    (r.1.onCore (s.coreOf w) fun q =>
      q.setAcc c.toNat { acc with el := el, defined := true, poison := marked s.spadPoison k 4096 }).acquire cur.warp cur.taking r.2.1
/-- `azero` (R268). -/
def execAzero (c : BitVec 3) (s : State) : Host.Outcome State Fault Refusal :=
  accOp s c none fun s _ w _ acc _ =>
    s.onCore (s.coreOf w) fun q => q.setAcc c.toNat { acc with el := [], defined := true, poison := false }

/-- `ast` (R268): an accumulator to the scratchpad; a poisoned one writes poison. -/
def execAst (a : BitVec 7) (c : BitVec 3) (s : State) : Host.Outcome State Fault Refusal :=
  accOp s c (some a) fun s cur w crew acc o =>
    let k := crew.padAt o
    let bytes := (List.range 1024).flatMap fun i => natBytes 4 (wget acc.el i).toNat
    let r := s.padPut (w.viewIn cur.taking) k bytes
    (if acc.poison then r.1.poisonPad k 4096 else r.1).acquire cur.warp cur.taking r.2

/-- `cap.pass` (R272). -/
def execCapPass (s : State) : Host.Outcome State Fault Refusal :=
  engineOp s Uses.none false fun s _ w k =>
    if capGroup k.warps.length w.wix ≠ k.cap then .ok (.done s)
    else .ok (.done ((s.setCrew w.crew { k with marks := setBit k.marks w.wix true }).settleCap w.crew))

/-! ## TSK (R273) -/

/-- `tsk.sub` (R273). -/
def execTskSub (x : BitVec 4) (c k : BitVec 5) (s : State) : Host.Outcome State Fault Refusal :=
  engineOp s ((useS c.toNat 1).and (useD k.toNat 1)) false fun s cur w _ =>
    let n := (w.sreg c.toNat).toNat
    if n = 0 ∨ 16 < n then .trap (protocol 6 c.toNat)
    else if !((s.core (s.coreOf w)).logical x.toNat).full then .trap (protocol 5 x.toNat)
    else .ok (s.submit cur w (some k.toNat) false false false (.hold x.toNat n))
/-- `tsk.wait` (R273, R117). -/
def execTskWait (k : BitVec 5) (s : State) : Host.Outcome State Fault Refusal :=
  engineOp s (useS k.toNat 1) true fun s cur w _ =>
    let tok := ((cur.sees w).sreg k.toNat).toNat
    let core := s.core (s.coreOf w)
    if core.finished (tok / 64) (tok % 64) then
      .ok (.done (s.acquire cur.warp cur.taking (core.entry (tok % 64)).stamp))
    else .wait (.task (tok % 64) (tok / 64))
/-- `tsk.bstat` (R273). -/
def execTskBstat (k : BitVec 5) (s : State) : Host.Outcome State Fault Refusal :=
  engineOp s (useD k.toNat 1) false fun s cur w _ =>
    let core := s.core (s.coreOf w)
    let x := maskOf fun t =>
      if t < 16 then (core.buf t).full
      else if t < 24 then (core.acc (t - 16)).defined
      else (core.acc (t - 24)).mitt == some cur.warp
    .ok (.done (s.setWarp cur.warp (w.setS k.toNat x)))
/-- `tsk.bclr` (R273). -/
def execTskBclr (x : BitVec 4) (s : State) : Host.Outcome State Fault Refusal :=
  engineOp s Uses.none false fun s _ w _ =>
    let core := s.core (s.coreOf w)
    if core.tasks.any fun t => t.cmd.names.contains x.toNat then .trap (protocol 7 x.toNat)
    else .ok (.done (s.setCore (s.coreOf w) (core.setBuf x.toNat Buf.init)))

/-! ## KV (R274 to R276) -/

/-- The checks of a KV command at its issue (R274, R275). -/
def kvTrap (form c n : Nat) (td : Desc) (k : Crew) (q2 q3 : Word) : Option Trap :=
  if q3 = 0 ∨ 32 < q3.toNat then some (protocol 3 c)
  else if Desc.rank td < 3 then some (protocol 3 n)
  else if form = 0 ∧ (Desc.fmt td = 0 ∨ Desc.fmt td = 3) then some (protocol 3 n)
  else if form = 0 then none else k.padTrap q2.toNat 64 2048

/-- Those checks with the fill check (R247). -/
def State.kvCheck (s : State) (core : Nat) (k : Crew) (form c n x : Nat) (td : Desc) (q2 q3 : Word) : Option Trap :=
  (kvTrap form c n td k q2 q3).or (if form = 0 then (s.core core).fillTrap x else none)

/-- `kvg`, `kvgs` and `kvs`. -/
def kvOp (s : State) (form : Nat) (r q : BitVec 1) (t : BitVec 6) (x : Nat) (c k : BitVec 5) :
    Host.Outcome State Fault Refusal :=
  engineOp s ((useS c.toNat 4).and (useD k.toNat 1)) false fun s cur w crew =>
    let q2 := w.sreg (c.toNat + 2)
    let q3 := w.sreg (c.toNat + 3)
    (crew.desc t.toNat).andThen fun td =>
    checked (s.kvCheck (s.coreOf w) crew form c.toNat t.toNat x td q2 q3)
      (.ok (s.submit cur w (some k.toNat) true (q == 1) (r == 1)
        (.kv form x td (w.sreg c.toNat) (w.sreg (c.toNat + 1)) q2 q3)))

/-- `kv.kvg` (R275). -/
def execKvKvg (r q : BitVec 1) (t : BitVec 6) (x : BitVec 4) (c k : BitVec 5) (s : State) :
    Host.Outcome State Fault Refusal := kvOp s 0 r q t x.toNat c k
/-- `kv.kvgs` (R275). -/
def execKvKvgs (r q : BitVec 1) (t : BitVec 6) (c k : BitVec 5) (s : State) : Host.Outcome State Fault Refusal :=
  kvOp s 1 r q t 0 c k
/-- `kv.kvs` (R275). -/
def execKvKvs (r q : BitVec 1) (t : BitVec 6) (c k : BitVec 5) (s : State) : Host.Outcome State Fault Refusal :=
  kvOp s 2 r q t 0 c k

/-- Whether a selection of `kvinv` is well formed, and whether it names an entry (R276). -/
def kvinvValid (x : Word) : Bool :=
  if x.getLsbD 31 then x == 0xFFFFFFFF else bits x.toNat 22 8 == 0
def kvinvDrops (x : Word) (e : KtbEntry) : Bool :=
  x.getLsbD 31 || (e.vf == bits x.toNat 16 6 && (x.getLsbD 30 || e.slot == bits x.toNat 0 16))

/-- A privileged form that is no CSR access (R147). -/
def State.privileged (s : State) : Option (Nat × Nat) :=
  match s.cur.bind fun c => (s.warp c.warp).map fun w => w.supIn c.group with
  | some true => none
  | _ => some (3, 0xFFFF)

/-- `kv.kvinv` (R276): every KTB of the partition drops what is selected. -/
def execKvKvinv (c : BitVec 5) (s : State) : Host.Outcome State Fault Refusal :=
  unitOp s (useS c.toNat 1) s.privileged false fun s _ w =>
    let x := w.sreg c.toNat
    if !kvinvValid x then .trap (protocol 3 c.toNat)
    else match s.partOfCore (s.coreOf w) with
      | none => .done s
      | some (_, p) =>
        .done { s with cores := s.cores.map fun e =>
          if p.holdsCore e.1 then (e.1, { e.2 with ktb := e.2.ktb.filter fun b => !kvinvDrops x b }) else e }

/-! ## COL (R277, R377, R378) -/

/-- The group and rank of a control word; none when the command is refused (R378). -/
def Partition.rankOf (p : Partition) (g : Word) : Option (Nat × Nat) :=
  let n := bits g.toNat 0 6
  let rank := g.toNat / 16777216
  let r := p.group n
  let first := bits r.gloc.toNat 16 8
  if r.gctl.getLsbD 31 && bits g.toNat 6 18 == 0 && decide (first ≤ rank ∧ rank ≤ first + bits r.gloc.toNat 0 8) then
    some (n, rank)
  else none

/-- Rank `rank` joins its next instance of a group (R378): the group, and the instance number. -/
def Group.join (g : Group) (j : Joined) : Group × Nat :=
  let k := (tfind g.counts j.rank).getD 0
  let insts := if g.insts.any fun i => i.k == k then
      g.insts.map fun i => if i.k = k then { i with joined := i.joined ++ [j] } else i
    else g.insts ++ [{ k := k, joined := [j] }]
  ({ g with counts := tput g.counts j.rank (k + 1), insts := insts }, k)

/-- A submitted collective joins its instance, or completes at once with code 4 (R378, R349). -/
def State.joinCollective (s : State) (core ent launch : Nat) (g : Word) : State :=
  match s.partOfCore core with
  | none => s
  | some (pk, p) =>
    match p.rankOf g with
    | none => (s.engineFault core 4 launch (trapAt 0xD 3 0)).complete core ent 4 0
    | some (n, rank) =>
      let r := (p.group n).join { rank := rank, core := core, ent := ent }
      (s.setPart pk (p.setGroup n r.1)).onCore core fun k =>
        k.setEntry ent { k.entry ent with task := (k.entry ent).task.map fun t => { t with inst := some r.2 } }

/-- The descriptor of a collective; `bar` names none. -/
def Crew.firstDesc (k : Crew) (fn n : Nat) : Answer Desc := if fn = 6 then .ok [] else k.desc n

/-- A collective that was submitted joins its instance; the entry is the one that the submission took. -/
def State.thenJoin (s : State) (w : Warp) (g : Word) (x : Act) : Act :=
  match x with
  | .done s1 =>
    .done (s1.joinCollective (s.coreOf w) (s.pickEntry (s.core (s.coreOf w))) (((s.launchOf w).map Prod.fst).getD 0) g)
  | x => x

/-- COL: function, and the registers. `bar` names no descriptor and takes the mask cx (R380). -/
def colOp (s : State) (fn : Nat) (r q : BitVec 1) (t : BitVec 6) (c k : BitVec 5) : Host.Outcome State Fault Refusal :=
  engineOp s ((useS c.toNat 1).and (useD k.toNat 1)) false fun s cur w crew =>
    (crew.firstDesc fn t.toNat).andThen fun td => (crew.secondDesc (fn == 5) t.toNat).andThen fun td2 =>
      .ok (s.thenJoin w (w.sreg c.toNat) (s.submit cur w (some k.toNat) true (q == 1) (r == 1)
        (.col fn td td2 (w.sreg c.toNat))))

/-- `col.sum` (R277). -/
def execColSum (r q : BitVec 1) (t : BitVec 6) (c k : BitVec 5) (s : State) : Host.Outcome State Fault Refusal :=
  colOp s 0 r q t c k
/-- `col.max` (R277). -/
def execColMax (r q : BitVec 1) (t : BitVec 6) (c k : BitVec 5) (s : State) : Host.Outcome State Fault Refusal :=
  colOp s 1 r q t c k
/-- `col.min` (R277). -/
def execColMin (r q : BitVec 1) (t : BitVec 6) (c k : BitVec 5) (s : State) : Host.Outcome State Fault Refusal :=
  colOp s 2 r q t c k
/-- `col.tri` (R277, R383). -/
def execColTri (r q : BitVec 1) (t : BitVec 6) (c k : BitVec 5) (s : State) : Host.Outcome State Fault Refusal :=
  colOp s 3 r q t c k
/-- `col.bcast` (R277). -/
def execColBcast (r q : BitVec 1) (t : BitVec 6) (c k : BitVec 5) (s : State) : Host.Outcome State Fault Refusal :=
  colOp s 4 r q t c k
/-- `col.gath` (R277). -/
def execColGath (r q : BitVec 1) (t : BitVec 6) (c k : BitVec 5) (s : State) : Host.Outcome State Fault Refusal :=
  colOp s 5 r q t c k
/-- `col.bar` (R277). -/
def execColBar (r q : BitVec 1) (c k : BitVec 5) (s : State) : Host.Outcome State Fault Refusal :=
  colOp s 6 r q 0 c k

end Sys2Proof.Machine
end

