-- ==== Sys2Proof/Machine/Engine.lean ====
section
/-! DEFINITION. What the engines of a core do with data (R257 to R278, R355 to R365, R379 to R384), and the events that
start and complete a task. A command's reads and writes are performed at its completion (log 11). -/
namespace Sys2Proof.Machine

/-! ## One command's accesses (R261, R262) -/

/-- What an engine finds at a source. -/
inductive Found where
  | bytes (b : List Byte)
  | poison
  /-- Not read: the command has stopped. -/
  | unread
  deriving DecidableEq, Repr

/-- The accesses of one command so far: the agent, the handle of the descriptor in use (R84), the tiles touched, whether
poison was met, the fault that stops it with its code, and what an access waits for when a port is down. -/
structure Run where
  state : State
  who : Who
  handle : Nat
  seen : List (Nat × Nat)
  poison : Bool
  stop : Option (Nat × Trap)
  down : Option Wait

/-- The fault of a command, unless it has one. -/
def Run.stopWith (r : Run) (code : Nat) (t : Trap) : Run := if r.stop.isSome then r else { r with stop := some (code, t) }
/-- The completion code (R262). -/
def Run.code (r : Run) : Nat := match r.stop with | some e => e.1 | none => if r.poison then 2 else 1

/-- One touch for each tile of a command (R78, R261), of a replica's tile on a lattice page. -/
def Run.touch (r : Run) (t : Target) : Run :=
  let once := fun (p : Partition) (band tile : Nat) =>
    if r.seen.contains (band, tile) then r
    else { r with state := r.state.touch p band tile r.handle, seen := (band, tile) :: r.seen }
  match t with
  | .dram p pa _ => once p (p.home (pa / 2048)) (pa / 2048)
  | .cells p pa _ _ => if r.state.cacheable p pa then once p (p.repHome r.who.stack (pa / 2048)) (pa / 2048) else r
  | .rep p pa _ st => if r.state.cacheable p pa then once p (p.repHome st (pa / 2048)) (pa / 2048) else r
  | _ => r

/-- A read of n bytes by an engine (R261, R262, R373). -/
def Run.read (r : Run) (va : Dword) (n : Nat) : Run × Found :=
  if r.stop.isSome || r.down.isSome then (r, .unread)
  else match r.state.site r.who va 1 needRead with
    | .trap t => (r.stopWith 3 t, .unread)
    | .wait x => ({ r with down := some x }, .unread)
    | .ok (s, _, t) =>
      let r := { r with state := s }
      let performed := fun (t : Target) =>
        let r1 := r.touch t
        if s.lostTarget t || s.poisonAt t n then ({ r1 with poison := true }, Found.poison)
        else
          let q := r1.state.readHome r1.who.view t n
          ({ r1 with state := q.1, who := { r1.who with view := q.2 } }, .bytes (q.1.bytesAt t n))
      match t with
      | .cells p pa a _ => performed (.rep p pa a r.who.stack)
      | .nothing => (r.stopWith 3 (trapAt 6 5 va), .unread)
      | .down x => ({ r with down := some x }, .unread)
      | .peer dev port off =>
        match s.peerLoad .weak dev port off n r.who.view va with
        | .ok (s1, _, b) => ({ r with state := s1 }, .bytes b)
        | .trap t => (r.stopWith 3 t, .unread)
        | .wait x => ({ r with down := some x }, .unread)
      | .control part off => (r, .bytes (natBytes n (s.regRead 0 part none off n).toNat))
      | .vfPage v off =>
        let words := (List.range ((off % 4 + n + 3) / 4)).flatMap fun i =>
          natBytes 4 (s.regWord 1 v none (off / 4 * 4 + 4 * i)).toNat
        (r, .bytes ((words.drop (off % 4)).take n))
      | t => performed t

/-- Why an engine's write of an address cannot be performed (R124, R122, R262, R373). -/
def State.writeFault (s : State) (w : Who) (va : Dword) : Option (Nat × Trap) ⊕ Wait :=
  match s.site w va 1 needWrite with
  | .trap t => .inl (some (3, t))
  | .wait x => .inr x
  | .ok (s, _, t) =>
    match t with
    | .cells _ _ _ _ => .inl (some (4, trapAt 7 0 va))
    | .nothing => .inl (some (3, trapAt 6 5 va))
    | .down x => .inr x
    | .control _ _ => .inl (some (3, trapAt 6 5 va))
    | .vfPage _ _ => .inl (some (3, trapAt 6 2 va))
    | t => .inl (if s.lostTarget t then some (4, trapAt 0xB 0 (firstLine va)) else none)
/-- What a write waits for, and why it cannot be performed. -/
def writeWait (f : Option (Nat × Trap) ⊕ Wait) : Option Wait := match f with | .inr x => some x | .inl _ => none
def writeTrap (f : Option (Nat × Trap) ⊕ Wait) : Option (Nat × Trap) := match f with | .inl e => e | .inr _ => none

/-- A write that `writeFault` allows; poison writes poison. The peer of a window may refuse it (R391). -/
def Run.write (r : Run) (va : Dword) (n : Nat) (d : Found) : Run :=
  match r.state.site r.who va 1 needWrite with
  | .ok (s, _, t) =>
    let r1 := ({ r with state := s }).touch t
    match t with
    | .peer dev port off =>
      match r1.state.peerStore .weak dev port off (match d with | .bytes b => b | _ => List.replicate n 0) va with
      | .ok s1 => { r1 with state := s1 }
      | .trap t => r1.stopWith 3 t
      | .wait x => { r1 with down := some x }
    | _ =>
      let q := r1.state.writeHome r1.who.view t (match d with | .bytes b => b | _ => List.replicate n 0)
      { r1 with state := if d = .poison then q.1.poisonTarget t n else q.1, who := { r1.who with view := q.2 } }
  | _ => r

/-- One free choice of a command. -/
def Run.choice (r : Run) : Run × Bool := ({ r with state := r.state.drawn }, Config.freeBit r.state.draws)

/-- The writes of a command, once all its sources are read (R262): in order when nothing is wrong; when it met poison,
each element may still be written or is poison; when it stops, each element holds its old or its new value. `put` writes
one element, `ok` tells whether it can be written. -/
def Run.putAll {α : Type} (ok : State → α → Bool) (put : Run → α → Found → Run) : List (α × Found) → Run → Run
  | [], r => r
  | (a, d) :: l, r =>
    if r.stop.isNone && !r.poison then Run.putAll ok put l (put r a d)
    else
      let c := r.choice
      let next :=
        if r.stop.isSome then (if c.2 && ok r.state a && d != .unread then put c.1 a d else c.1)
        else put c.1 a (if c.2 then d else .poison)
      Run.putAll ok put l next

/-- The writes of a command to memory, in elements of n bytes. -/
def Run.writeAll (r : Run) (n : Nat) (l : List (Dword × Found)) : Run :=
  let faults := l.map fun e => r.state.writeFault r.who e.1
  match r.down.or (faults.findSome? writeWait) with
  | some x => { r with down := some x }
  | none =>
    let r1 := match faults.findSome? writeTrap with | some e => r.stopWith e.1 e.2 | none => r
    Run.putAll (fun s va => s.writeFault r.who va == .inl none) (fun r va d => r.write va n d) l r1

/-- The writes of a command to a crew's scratchpad, by offset (R261); none to a lost line of a mapped tile (R122). -/
def Run.padAll (r : Run) (crew : Crew) (n : Nat) (l : List (Nat × Found)) : Run :=
  let lost := fun (s : State) (o : Nat) => s.padLost (crew.padAt o) n
  let r1 := match l.find? fun e => lost r.state e.1 with
    | some e => r.stopWith 4 (trapAt 0xB 0 (BitVec.ofNat 64 (e.1 / 128 * 128)))
    | none => r
  Run.putAll (fun s o => !lost s o) (fun r o d =>
    let k := crew.padAt o
    let q := r.state.padPut r.who.view k (match d with | .bytes b => b | _ => List.replicate n 0)
    { r with state := if d = .poison then q.1.poisonPad k n else q.1, who := { r.who with view := q.2 } }) l r1

/-- What an engine reads of a crew's scratchpad. -/
def Run.padRead (r : Run) (crew : Crew) (o n : Nat) : Run × Found :=
  let k := crew.padAt o
  if marked r.state.spadPoison k n || r.state.padLost k n then ({ r with poison := true }, .poison)
  else
    let q := r.state.padGet r.who.view k n
    ({ r with state := q.1, who := { r.who with view := q.2.1 } }, .bytes q.2.2)

/-- Read a list of sources in order. -/
def Run.collect {α β : Type} (f : Run → α → Run × β) (r : Run) : List α → Run × List β
  | [] => (r, [])
  | a :: l =>
    let x := f r a
    let q := Run.collect f x.1 l
    (q.1, x.2 :: q.2)

/-! ## Tiles (R257, R259) -/

/-- The element positions of an image whose elements have a size, row by row. -/
def imageElements (esize : Nat) : List (Nat × Nat) :=
  (List.range 32).flatMap fun i => (List.range (64 / esize)).map fun j => (i, j)
/-- The byte of an image at which an element lies. -/
def imageByte (esize : Nat) (p : Nat × Nat) : Nat := 64 * p.1 + esize * p.2
/-- The tile positions of a descriptor. -/
def Desc.tile (d : Desc) (p : Nat × Nat) : Bool := decide (p.1 < Desc.rows d ∧ p.2 < Desc.cols d)
/-- The address of a tile position under a coordinate word (R257). -/
def Desc.at_ (d : Desc) (coord : Word) (p : Nat × Nat) : Option Dword :=
  if Desc.tile d p then Desc.elem d (coord.toNat % 65536 + p.1) (coord.toNat / 65536 + p.2) else none

def zeroBytes (n : Nat) : Found := .bytes (List.replicate n 0)

/-- One element of a tile; out of range it is zero. -/
def Run.element (r : Run) (d : Desc) (coord : Word) (p : Nat × Nat) : Run × Found :=
  match Desc.at_ d coord p with
  | some va => r.read va (Desc.esize d)
  | none => (r, zeroBytes (Desc.esize d))
/-- The image of a tile: every element with its position. -/
def Run.image (r : Run) (d : Desc) (coord : Word) : Run × List ((Nat × Nat) × Found) :=
  Run.collect (fun r p => let q := r.element d coord p; (q.1, (p, q.2))) r (imageElements (Desc.esize d))

/-- BASE of a descriptor that a command reaches (R260). -/
def Run.aligned (r : Run) (d : Desc) : Run :=
  if (Desc.base d).toNat % Desc.esize d = 0 then r else r.stopWith 4 (trapAt 4 (Desc.esize d) (Desc.base d))
def Run.withHandle (r : Run) (d : Desc) : Run := { r with handle := Desc.handle d }

/-- The bytes of found elements, by image byte; poison leaves none: the buffer's POISON bit stands for it. -/
def imageTab (esize : Nat) (l : List ((Nat × Nat) × Found)) : Tab Byte :=
  l.foldl (fun t e => match e.2 with | .bytes b => memPut t (imageByte esize e.1) b | _ => t) []

/-- The data and scales of a buffer that a command fills (R259). -/
def State.fillBuf (s : State) (core x : Nat) (data side : Tab Byte) : State :=
  s.onCore core fun k => k.setBuf x { k.buf x with data := data, side := side }

/-- The scale bytes of a g2b fill (R259): two for each of the 32 rows of an image, whatever rows the tile has, as far as the
tensor has the row and the block. -/
def Run.scales (r : Run) (d : Desc) (coord : Word) : Run × Tab Byte :=
  let blocks := (Desc.ext d 0 + 31) / 32
  let row0 := coord.toNat % 65536
  let first := coord.toNat / 65536 / 32
  let places := (List.range 64).filter fun b =>
    (Desc.elem d (row0 + b / 2) 0).isSome && decide (first + b % 2 < blocks)
  let q := Run.collect (fun r b =>
    let x := r.read (Desc.sbase d + BitVec.ofNat 64 ((row0 + b / 2) * blocks + first + b % 2)) 1
    (x.1, (b, x.2))) r places
  (q.1, q.2.foldl (fun t e => match e.2 with | .bytes b => memPut t e.1 b | _ => t) [])

/-! ## Copies (R258, R259) -/

/-- The data action of a copy. `s2b` and `s2s` take no address from tdI, so that its BASE plays no part in them and does not
have to be a multiple of esize (R260 gives code 4 for one that is found while a command runs; log 104). -/
def Run.copy (r : Run) (core form x : Nat) (crew : Crew) (td td2 : Desc) (c0 c1 : Word) : Run :=
  let n := Desc.esize td
  match form with
  | 0 =>
    let q := ((r.aligned td).withHandle td).image td c0
    let sc := if Desc.sfmt td = 0 then (q.1, []) else q.1.scales td c0
    { sc.1 with state := sc.1.state.fillBuf core x (imageTab n q.2) sc.2 }
  | 1 =>
    let q := ((r.aligned td).withHandle td).image td c0
    q.1.padAll crew n (q.2.map fun e => (c1.toNat + imageByte n e.1, e.2))
  | 2 =>
    let places := (imageElements n).filterMap fun p => (Desc.at_ td c0 p).map fun va => (va, p)
    let q := Run.collect (fun r e =>
      let f := r.padRead crew (c1.toNat + imageByte n e.2) n
      (f.1, (e.1, f.2))) ((r.aligned td).withHandle td) places
    q.1.writeAll n q.2
  | 3 =>
    let places := (imageElements n).filterMap fun p => (Desc.at_ td2 c1 p).map fun va => (va, p)
    let q := Run.collect (fun r e => let f := r.element td c0 e.2; (f.1, (e.1, f.2)))
      (((r.aligned td).aligned td2).withHandle td) places
    (q.1.withHandle td2).writeAll n q.2
  | 4 =>
    let q := Run.collect (fun r p =>
      let f := if Desc.tile td p then r.padRead crew (c0.toNat + imageByte n p) n else (r, zeroBytes n)
      (f.1, (p, f.2))) r (imageElements n)
    { q.1 with state := q.1.state.fillBuf core x (imageTab n q.2) [] }
  | _ =>
    let q := Run.collect (fun r o => let f := r.padRead crew (c0.toNat + o) 1; (f.1, (o, f.2))) r (List.range 2048)
    q.1.padAll crew 1 (q.2.map fun e => (c1.toNat + e.1, e.2))

/-! ## Matrix steps (R66, R67, R266) -/

/-- Every finite value of an element format is a multiple of 1 / `elementUnit`. -/
def elementUnit (fmt : Nat) : Nat :=
  match fmt with
  | 1 => 2 ^ 24
  | 2 => 2 ^ 133
  | 4 => Narrow.e4m3n.unit
  | 5 => Narrow.e5m2n.unit
  | _ => Narrow.dm8.unit
/-- The value of a code of an element format, a finite one as a number of units. -/
def elementValue (fmt code : Nat) : Fv :=
  let narrow := fun (f : Narrow) =>
    if code = 128 then Fv.nan false else .fin (decide (128 ≤ code)) (f.units (code % 128)) 0
  match fmt with
  | 1 => match fp16.value code with | .fin n m e => .fin n (m * 2 ^ (e + 24).toNat) 0 | v => v
  | 2 => match bf16.value code with | .fin n m e => .fin n (m * 2 ^ (e + 133).toNat) 0 | v => v
  | 4 => narrow .e4m3n
  | 5 => narrow .e5m2n
  | _ => narrow .dm8

/-- One group sum as an FP32 word (R66, R67): the products of the group, in units of 1 / `unit`, times the scales. -/
def groupSum (ps : List (Fv × Fv)) (scale : Option (Nat × Nat)) (unit : Nat) : Nat :=
  let qs := ps.map fun p => p.1.times p.2
  let isNan := fun (q : Option Fv) => match q with | some v => v.isNan | none => true
  let infs := fun (neg : Bool) => qs.any fun q => q == some (.inf neg)
  let total : Int := qs.foldl (fun a q => match q with
    | some (.fin n m _) => if n then a - (m : Int) else a + (m : Int)
    | _ => a) 0
  let minusZero := !qs.isEmpty && qs.all fun (q : Option Fv) => match q with | some (.fin n m _) => n && m == 0 | _ => false
  match scale with
  | none => fp32.nanCode
  | some sc =>
    if qs.any isNan || (infs true && infs false) then fp32.nanCode
    else if infs true then fp32.signed true fp32.infCode
    else if infs false then fp32.infCode
    else if total = 0 then fp32.signed minusZero 0
    else (fp32.roundRatio .rne false (decide (total < 0)) (total.natAbs * sc.1) (unit * sc.2) 0).1

/-- An operand of a step: the core, its crew, and the place of its tiles. -/
structure Operand where
  spad : Memory
  core : Core
  crew : Crew
  buf : Nat
  pad : Option (Word × Word)

/-- Byte o of row i of an operand's first or second tile (R264, R265). -/
def Operand.byte (x : Operand) (second : Bool) (i o : Nat) : Byte :=
  match x.pad with
  | some p => wget x.spad (x.crew.padAt (padOffset p.1 p.2 second i o))
  | none => wget (x.core.buf (if second then x.buf + 1 else x.buf)).data (64 * i + o)
/-- The format of a tile: each buffer is decoded by its own tag. -/
def Operand.fmt (x : Operand) (second : Bool) : Nat :=
  match x.pad with
  | some p => padFmt p.2
  | none => (x.core.buf (if second then x.buf + 1 else x.buf)).fmt
/-- Element (i, j) of a tile. -/
def Operand.element (x : Operand) (second : Bool) (i j : Nat) : Fv :=
  let n := formatSize (x.fmt second)
  elementValue (x.fmt second) (bytesNat ((List.range n).map fun b => x.byte second i (n * j + b)))
/-- A scale of a tile: side byte b, 1 where the scale tag is 0 (R62 to R64, R266). -/
def Operand.scale (x : Operand) (second : Bool) (b : Nat) : Option (Nat × Nat) :=
  match x.pad with
  | some _ => some (1, 1)
  | none =>
    let q := x.core.buf (if second then x.buf + 1 else x.buf)
    let code := (wget q.side b).toNat
    if q.sfmt = 1 then ps8 code else if q.sfmt = 2 then ds8 code else some (1, 1)

/-- Nibble g of row i of the metadata (R266). -/
def Operand.nibble (x : Operand) (i g : Nat) : Nat := (x.byte true i (g / 2)).toNat / 16 ^ (g % 2) % 16

/-- a(i, k); none when it is absent (R266). -/
def Operand.entry (x : Operand) (sparse : Bool) (i k : Nat) : Option Fv :=
  if !sparse then some (x.element false i k)
  else match nibbleKept (x.nibble i (k / 4)) with
    | some (lo, hi) =>
      if k % 4 = lo then some (x.element false i (2 * (k / 4)))
      else if k % 4 = hi then some (x.element false i (2 * (k / 4) + 1)) else none
    | none => none
/-- b(k, j), for tiles of K reduction indices (R266). -/
def Operand.column (x : Operand) (trans : Bool) (kk k j : Nat) : Fv :=
  let second := decide (kk ≤ k)
  if trans then x.element second j (k % kk) else x.element second (k % kk) j

/-- The product of two scales, none when either is NaN. -/
def scaleProduct (a b : Option (Nat × Nat)) : Option (Nat × Nat) :=
  match a, b with | some x, some y => some (x.1 * y.1, x.2 * y.2) | _, _ => none

/-- Element (i, j) of the accumulator after a step (R66). -/
def stepElement (sparse trans overwrite : Bool) (a b : Operand) (i j : Nat) (old : Word) : Word :=
  let kk := if formatSize (a.fmt false) = 2 then 32 else 64
  let len := (if sparse then 2 * kk else kk) / 4
  let group := fun (q : Nat) =>
    let second := sparse && decide (2 ≤ q)
    let ps := (List.range len).filterMap fun i' =>
      (a.entry sparse i (q * len + i')).map fun x => (x, b.column trans kk (q * len + i') j)
    let sb := b.scale second (2 * j + if sparse then q % 2 else q / 2)
    groupSum ps (scaleProduct (a.scale false (2 * i + q / 2)) sb) (elementUnit (a.fmt false) * elementUnit (b.fmt second))
  let start := if overwrite then group 0 else (fp32.add false .rne old.toNat (group 0)).1
  BitVec.ofNat 32 ([1, 2, 3].foldl (fun acc q => (fp32.add false .rne acc (group q)).1) start)

/-- The accumulator after a step. -/
def State.matrixStep (s : State) (core : Nat) (crew : Crew) (sparse trans overwrite : Bool) (a b : Nat)
    (sa sb : Option (Word × Word)) (acc : Nat) : State :=
  let k := s.core core
  let x : Operand := { spad := s.spad, core := k, crew := crew, buf := a, pad := sa }
  let y : Operand := { spad := s.spad, core := k, crew := crew, buf := b, pad := sb }
  let old := k.acc acc
  let el := (List.range 1024).foldl (fun t i =>
    wput t i (stepElement sparse trans overwrite x y (i / 32) (i % 32) (wget old.el i))) []
  s.setCore core (k.setAcc acc { old with el := el })

/-! ## KV gather and scatter (R275, R355, R356) -/

/-- A KV command refused (R355, R279). -/
def kvRefused : Trap := trapAt 0xD 9 0

/-- What a sequence record's first 24 bytes say (R353). -/
structure SeqRecord where
  state : Nat
  len : Nat
  btp : Dword
  gen : Word

def SeqRecord.of (b : List Byte) : SeqRecord :=
  { state := fieldAt b 0 1, len := fieldAt b 4 4, btp := BitVec.ofNat 64 (fieldAt b 8 8),
    gen := BitVec.ofNat 32 (fieldAt b 16 4) }

/-- A part of a run that neither a fault nor poison met before keeps from being made. -/
def Run.apart {α : Type} (r : Run) (f : Run → Run × α) : Run × α :=
  let q := f { r with stop := none, poison := false }
  ({ q.1 with stop := r.stop.or q.1.stop, poison := r.poison || q.1.poison }, q.2)

/-- The first aligned 8-byte units of a record, each as it is found (R355). -/
def Run.units (r : Run) (va : Dword) (n : Nat) : Run × List Found :=
  Run.collect (fun r i => r.apart fun r => r.read (va + BitVec.ofNat 64 (8 * i)) 8) r (List.range n)

/-- The bytes of what was found, where all of it is. -/
def foundBytes (l : List Found) : Option (List Byte) :=
  l.foldl (fun a f => match a, f with | some x, .bytes b => some (x ++ b) | _, _ => none) (some [])

/-- Whether a record's first unit says that the sequence is not active, whatever became of the others (R355). -/
def unitsRefuse (l : List Found) : Bool :=
  match l.head? with | some (.bytes b) => (SeqRecord.of b).state != 1 | _ => false

/-- The word at an address, and when it was last written (R100); none where it has no clock. -/
def Run.writtenAt (r : Run) (va : Dword) : Option (Nat × Dword) :=
  let mark := fun (s : State) (ws : List Nat) => ws.head?.map fun w => (w, s.readTime ws 0)
  match r.state.site r.who va 1 needRead with
  | .ok (s, _, .cells _ _ a _) => mark s (repWords a r.who.stack 4)
  | .ok (s, _, t) => mark s (t.words 4)
  | _ => none

/-- The block-table entry of a logical block (R354, R356): one that the KTB holds, or what memory holds, by a free choice. An
entry hits only where its GEN is the one that the command read, in the same word, as it was last written: one from before a
later write of GEN was stored too early, even when GEN has its old value again, and so may be one of another word. -/
def Run.block (r : Run) (core vf slot : Nat) (rec : SeqRecord) (time : Option (Nat × Dword)) (b : Nat) : Run × Option Word :=
  let hits := (r.state.core core).ktb.filter fun e =>
    e.vf == vf && e.slot == slot && e.gen == rec.gen && some e.written == time && e.block == b
  let pick := match hits with
    | [] => none
    | _ => hits[(Config.freeDword r.state.draws 0).toNat % (hits.length + 1)]?
  let r := { r with state := r.state.drawn }
  match pick with
  | some e => (r, some e.value)
  | none =>
    let q := r.read (rec.btp + BitVec.ofNat 64 (4 * b)) 4
    match q.2 with
    | .bytes bs =>
      let x := BitVec.ofNat 32 (bytesNat bs)
      let keep := fun (k : Core) => match time with
        | some m =>
          let e : KtbEntry := { vf := vf, slot := slot, gen := rec.gen, written := m, block := b, value := x }
          if k.ktb.contains e then k else { k with ktb := k.ktb ++ [e] }
        | none => k
      (if x.getLsbD 31 then { q.1 with state := q.1.state.onCore core keep } else q.1, some x)
    | _ => (q.1, none)

/-- A quarantine list names a block (R359). -/
def quarNames (quar : Tab Dword) (p : Nat) : Bool := (List.range 16).any fun i => (wget quar i).toNat == 2 ^ 32 + p

/-- A KV command that R355 refuses, whatever else its run met. -/
def Run.refuse (r : Run) : Run := { r with stop := some (4, kvRefused), down := none }

/-- A KV command that met poison before it knew its tokens: what it would have written to the scratchpad is poison (R262). -/
def Run.kvBlind (r : Run) (form size : Nat) (crew : Crew) (q2 : Word) : Run :=
  if form = 1 && r.poison && r.stop.isNone && r.down.isNone then
    r.padAll crew size ((imageElements size).map fun p => (q2.toNat + imageByte size p, .poison))
  else r

/-- A KV command on its own: the run, and the physical blocks in which it met poison. `quar` is the quarantine list as the
command read it, `known` its sequence record where the start has read it, with the time of its GEN. A gather that met an
uncorrectable error completes with code 2, whatever follows (R365): what it would write to a lost line is not written. Of the
codes that apply the first of R355 is taken: every unit and entry is read, whatever the others come to. For an entry with V = 0
the fault log names the entry (log 113). -/
def Run.kv (r : Run) (core form x vf : Nat) (crew : Crew) (td : Desc) (q0 q1 q2 q3 : Word) (refused : Bool) (quar : Tab Dword)
    (known : Option (List Byte × Option (Nat × Dword))) : Run × List Nat :=
  let page := r.state.vf vf
  let slot := q1.toNat % 65536
  let col := q1.toNat / 65536
  let n := q3.toNat
  let size := Desc.esize td
  let r := (r.aligned td).withHandle td
  let home := page.stbase + BitVec.ofNat 64 (64 * slot)
  if r.stop.isSome then (r, [])
  else if refused then (r.stopWith 4 kvRefused, [])
  else
    let rd := match known with
      | some b => (r, [Found.bytes b.1])
      | none => r.units home 3
    let time := match known with | some b => b.2 | none => r.writtenAt (home + 16)
    if unitsRefuse rd.2 then (rd.1.refuse, [])
    else match foundBytes rd.2 with
    | none => (rd.1.kvBlind form size crew q2, [])
    | some bytes =>
        let rec_ := SeqRecord.of bytes
        let rows := (List.range n).filter fun i => form = 2 || decide (q0.toNat + i < rec_.len)
        let blocks := (rows.map fun i => (q0.toNat + i) / 16).eraseDups
        let bt := Run.collect (fun r b =>
          let e := r.apart fun r => r.block core vf slot rec_ time b
          (e.1, (b, e.2))) rd.1 blocks
        let entry := fun (b : Nat) => ((bt.2.find? fun e => e.1 == b).bind Prod.snd).getD 0
        let phys := fun (i : Nat) => (entry ((q0.toNat + i) / 16)).toNat % 2 ^ 31
        let refused := bt.2.any fun e => match e.2 with
          | some w => decide (Desc.ext td 2 ≤ w.toNat % 2 ^ 31) || (w.getLsbD 31 && quarNames quar (w.toNat % 2 ^ 31))
          | none => false
        let missing := bt.2.find? fun e => match e.2 with | some w => !w.getLsbD 31 | none => false
        if refused then (bt.1.refuse, [])
        else if bt.1.stop.isSome || bt.1.down.isSome then (bt.1, [])
        else match missing with
          | some e => (bt.1.stopWith 3 (trapAt 5 1 (rec_.btp + BitVec.ofNat 64 (4 * e.1))), [])
          | none =>
            if bt.1.poison then (bt.1.kvBlind form size crew q2, [])
            else
            let place := fun (p : Nat × Nat) =>
              let t := q0.toNat + p.1
              if rows.contains p.1 && decide (p.2 < Desc.cols td ∧ col + p.2 < Desc.ext td 0) then
                some (Desc.base td + BitVec.ofNat 64 (size * (col + p.2 + t % 16 * Desc.str td 1 + phys p.1 * Desc.str td 2)))
              else none
            if form = 2 then
              let places := (imageElements size).filterMap fun p => (place p).map fun va => (va, p)
              let q := Run.collect (fun r e =>
                let f := r.padRead crew (q2.toNat + imageByte size e.2) size
                (f.1, (e.1, f.2))) bt.1 places
              (q.1.writeAll size q.2, [])
            else
              let q := Run.collect (fun r p =>
                let f := match place p with | some va => r.read va size | none => (r, zeroBytes size)
                (f.1, (p, f.2))) bt.1 (imageElements size)
              let bad := ((q.2.filter fun e => e.2 == .poison).map fun e => phys e.1.1).eraseDups
              let r1 := if bad.isEmpty then q.1 else { q.1 with stop := none }
              let found := if bad.isEmpty then q.2 else q.2.map fun e => (e.1, if e.2 = .unread then .poison else e.2)
              if form = 0 then ({ r1 with state := r1.state.fillBuf core x (imageTab size found) [] }, bad)
              else
                let l := found.map fun e => (q2.toNat + imageByte size e.1, e.2)
                (r1.padAll crew size
                  (if bad.isEmpty then l else l.filter fun e => !r1.state.padLost (crew.padAt e.1) size), bad)

/-- A run of the device's own, which no fault or poison met before stops. -/
def Run.clean (r : Run) : Run := { r with stop := none, poison := false }

/-- Whether a record names a block among the mapped entries of its tokens (R365); an entry that cannot be read names none
(log 105). -/
def Run.recordNames (r : Run) (p : Nat) (rec : SeqRecord) : Run × Bool :=
  let q := Run.collect (fun r b => r.clean.read (rec.btp + BitVec.ofNat 64 (4 * b)) 4) r (List.range ((rec.len + 15) / 16))
  (q.1, q.2.any fun f => match f with | .bytes b => bytesNat b == 2 ^ 31 + p | _ => false)

/-- The quarantine of a block of a VF (R365). It waits as a whole where a record or a table lies behind a port that is down
(R16, R376). -/
def Run.quarantine (r : Run) (core vf part queue p : Nat) : Run :=
  let page := r.state.vf vf
  let free := (List.range 16).find? fun i => (wget page.quar i).toNat < 2 ^ 32
  let s1 := match free with
    | some i => if quarNames page.quar p then r.state
        else r.state.setVf vf { page with quar := wput page.quar i (BitVec.ofNat 64 (2 ^ 32 + p)) }
    | none => r.state
  let stopOne := fun (r : Run) (slot : Nat) =>
    let va := page.stbase + BitVec.ofNat 64 (64 * slot)
    let q := r.clean.units va 2
    match foundBytes q.2 with
    | some b =>
      let named := q.1.recordNames p (SeqRecord.of b)
      if (SeqRecord.of b).state = 1 && named.2 then
        named.1.clean.writeAll 4 [(va, .bytes (natBytes 4 (2 + fieldAt b 1 1 * 256 + 65536)))]
      else named.1
    | none => q.1
  let r1 : Run := (List.range (2 ^ page.stlogn)).foldl stopOne { r with state := s1 }
  let s2 : State := { r1.state with cores := r1.state.cores.map fun (e : Nat × Core) =>
    (e.1, { e.2 with ktb := e.2.ktb.filter fun k => !(k.vf == vf && k.value.toNat == 2 ^ 31 + p) }) }
  let s3 : State := s2.onVf vf fun y => { y with qcnt := y.qcnt + 1, errorIrq := y.errorIrq + 1 }
  let n : Nat := (s3.vf vf).evtn.toNat
  let s4 := if n < 4096 then s3.signal part n 1 0b10001 r1.who.view else s3
  { r1 with state := s4.logFault part { va := 0, cause := 0xA, sub := 0, core := core, source := 3, queue := queue },
            stop := r.stop, poison := r.poison, down := r1.down }

/-! ## Collectives (R69, R277, R278, R379 to R384) -/

/-- The tree of R69 over partials in rank order; at most 8 levels hold 256 ranks. -/
def pairUp {α : Type} (f : α → α → α) : List α → List α
  | a :: b :: r => f a b :: pairUp f r
  | l => l
def treeOf {α : Type} (f : α → α → α) : Nat → List α → List α
  | 0, l => l
  | n + 1, l => treeOf f n (pairUp f l)

/-- FP32 arithmetic of the triple reduction: to nearest, no flag (R383, R384). -/
def triAdd (a b : Nat) : Nat := (fp32.add false .rne a b).1
def triMul (a b : Nat) : Nat := (fp32.mul false .rne a b).1
/-- A word of a row, and whether it depends on poison (R379). -/
abbrev Tainted := Nat × Bool

/-- A maximum that makes every element of a triple a NaN (R383). -/
def triBad (m : Nat) : Bool := (fp32.value m).isNan || m == fp32.infCode
/-- The code of minus infinity. -/
def minusInf32 : Nat := fp32.signed true fp32.infCode

/-- `combine` of R383 on rows of FP32 words. A maximum that is NaN or +inf decides every element, whatever the rest holds, and
an element whose factor is +0 plays no part. -/
def triCombine (a b : List Tainted) : List Tainted :=
  let m1 := a.getD 0 (0, false)
  let m2 := b.getD 0 (0, false)
  if (triBad m1.1 && !m1.2) || (triBad m2.1 && !m2.2) then a.map fun _ => (fp32.nanCode, false)
  else if m1.2 || m2.2 then a.map fun _ => (0, true)
  else
    let top := (fp32.max false .rne m1.1 m2.1).1
    let factor := fun (m : Nat) => if m = minusInf32 then 0 else (exp2of32 (fp32.sub false .rne m top).1).1
    let term := fun (x : Tainted) (f : Nat) => if f = 0 then (0, false) else (triMul x.1 f, x.2)
    let both := fun (i : Nat) =>
      let x := term (a.getD i (0, false)) (factor m1.1)
      let y := term (b.getD i (0, false)) (factor m2.1)
      (triAdd x.1 y.1, x.2 || y.2)
    (List.range a.length).map fun i => if i = 0 then (top, false) else if i = 2 then (0, false) else both i
/-- `normalise` of R383: every NaN is canonical, and the sum of a row that is masked throughout is +0 (R384). -/
def triNormalise (t : List Tainted) : List Tainted :=
  let m := t.getD 0 (0, false)
  let l := t.getD 1 (0, false)
  let empty := l.1 % 2 ^ 31 == 0
  (List.range t.length).map fun i =>
    let x := t.getD i (0, false)
    if i = 0 then (canonical32 m.1, m.2)
    else if i = 1 then (if empty && m.1 == minusInf32 && !m.2 then 0 else canonical32 l.1, l.2)
    else if i = 2 then (bitNat empty, l.2)
    else if empty then (0, l.2)
    else if (fp32.value l.1).isNan then (fp32.nanCode, l.2)
    else ((fp32.div false .rne x.1 l.1).1, l.2 || x.2)

/-- The binary format of a reduction's elements (R278). -/
def reduceFmt (code : Nat) : Fmt := match code with | 0 => fp32 | 1 => fp16 | 2 => bf16 | _ => fp64
/-- A result of a format: every NaN is the canonical one (R48), a sum of one rank's included. -/
def Fmt.canonical (f : Fmt) (x : Nat) : Nat := if (f.value x).isNan then f.nanCode else x
/-- The combining step of sum, max and min (R277). -/
def reduceStep (fn : Nat) (f : Fmt) (a b : Nat) : Nat :=
  match fn with
  | 0 => (f.add false .rne a b).1
  | 1 => (f.max false .rne a b).1
  | _ => (f.min false .rne a b).1

/-- Rows of a tensor: the product of the extents above dimension 0. -/
def Desc.flatRows (d : Desc) : Nat := (List.range (Desc.rank d - 1)).foldl (fun n k => n * Desc.ext d (k + 1)) 1

/-- A tensor as rows of elements, with poison. -/
abbrev Rows := List (List Tainted)

/-- The whole tensor of a descriptor. -/
def Run.tensor (r : Run) (d : Desc) : Run × Rows :=
  Run.collect (fun r i => Run.collect (fun r c =>
    match Desc.elem d i c with
    | some va =>
      let q := r.read va (Desc.esize d)
      (q.1, match q.2 with | .bytes b => (bytesNat b, false) | _ => (0, true))
    | none => (r, (0, false))) r (List.range (Desc.ext d 0))) ((r.aligned d).withHandle d) (List.range (Desc.flatRows d))

/-- A remote rank's tensor: free values, which may be poison (R379). -/
def remoteTensor (draw rank : Nat) (d : Desc) : Rows :=
  (List.range (Desc.flatRows d)).map fun i => (List.range (Desc.ext d 0)).map fun c =>
    let x := Config.freeDword draw (2 * ((i * Desc.ext d 0 + c) * 256 + rank))
    let p := Config.freeDword draw (2 * ((i * Desc.ext d 0 + c) * 256 + rank) + 1)
    (x.toNat % 2 ^ (8 * Desc.esize d), p.getLsbD 0)

/-- Whether any element of some rows is poison. -/
def Rows.bad (x : Rows) : Bool := x.any fun row => row.any Prod.snd

/-- The rows that a function writes at every participant, by flat row (R277, R379, R383). -/
def collectiveResult (fn : Nat) (d : Desc) (data : List Rows) : Rows :=
  let n := Desc.flatRows d
  let elementOfRank := fun (i c : Nat) (x : Rows) => (x.getD i []).getD c (0, false)
  match fn with
  | 3 => (List.range n).map fun i => triNormalise ((treeOf triCombine 8 (data.map fun x => x.getD i [])).headD [])
  | 4 => data.headD []
  | 5 => data.flatten
  | _ => (List.range n).map fun i => (List.range (Desc.ext d 0)).map fun c =>
      let es := data.map (elementOfRank i c)
      let f := reduceFmt (Desc.fmt d)
      (f.canonical ((treeOf (reduceStep fn f) 8 (es.map Prod.fst)).headD 0), es.any Prod.snd)

/-- Whether a descriptor suits a function (R278, R383). The spec does not say what a `gath` does whose second descriptor has
another element size: it counts as data tensors that differ in format (log 35). -/
def suits (fn : Nat) (d d2 : Desc) : Bool :=
  match fn with
  | 3 => Desc.fmt d == 0 && decide (4 ≤ Desc.ext d 0)
  | 4 => true
  | 5 => Desc.esize d == Desc.esize d2
  | 6 => true
  | _ => decide (Desc.fmt d ≤ 3)
/-- Whether two participants' tensors agree in format and extents (R379). -/
def sameShape (d e : Desc) : Bool := Desc.fmt d == Desc.fmt e && (List.range 5).all fun k => Desc.ext d k == Desc.ext e k

/-- A local participant of an instance. -/
structure Member where
  rank : Nat
  core : Nat
  ent : Nat
  task : Task

def Member.cmd (m : Member) : Nat × Desc × Desc :=
  match m.task.cmd with | .col fn td td2 _ => (fn, td, td2) | _ => (6, [], [])

/-- The local participants of an instance, by rank; a remote rank has core 65535. -/
def State.members (s : State) (i : Inst) : List Member :=
  (List.range 256).filterMap fun r => (i.joined.find? fun j => j.rank == r).bind fun j =>
    ((s.core j.core).entry j.ent).task.map fun t => { rank := r, core := j.core, ent := j.ent, task := t }

/-- The run of a member. -/
def Member.run (m : Member) (s : State) (view : Dword) : Run :=
  { state := s, who := { core := m.core, sup := m.task.sup, view := view }, handle := 0, seen := [], poison := false,
    stop := none, down := none }

/-- The addresses and contents that a member writes (R277). -/
def Member.puts (m : Member) (res : Rows) : List (Dword × Found) :=
  let d := if m.cmd.1 = 5 then m.cmd.2.2 else m.cmd.2.1
  (List.range res.length).flatMap fun i =>
    let row := res.getD i []
    (List.range row.length).filterMap fun c => (Desc.elem d i c).map fun va =>
      let x := row.getD c (0, false)
      (va, if x.2 then Found.poison else .bytes (natBytes (Desc.esize d) x.1))

/-- How an instance ends: the state, each member's code and fault, and the largest view time. -/
structure Ended where
  state : State
  codes : List (Nat × Trap)
  view : Dword

/-- What a fault elsewhere in the instance leaves (R379, R349). -/
def cancelledTrap : Trap := trapAt 0xD 8 0

/-- The writes of one member, each element old or new when `free` (R379); `seen` are the tiles that its command has touched. -/
def Member.write (m : Member) (s : State) (view : Dword) (seen : List (Nat × Nat)) (free : Bool) (own : Option (Nat × Trap))
    (l : List (Dword × Found)) : Run :=
  let d := if m.cmd.1 = 5 then m.cmd.2.2 else m.cmd.2.1
  let r := { (m.run s view).withHandle d with seen := seen }
  let r := match own with | some e => r.stopWith e.1 e.2 | none => if free then r.stopWith 4 cancelledTrap else r
  Run.putAll (fun s va => s.writeFault r.who va == .inl none) (fun r va x => r.write va (Desc.esize d) x) l r


/-- What one rank brought to an instance: its tensor, and of a member its fault and the tiles that its command touched. -/
structure Part where
  rank : Nat
  data : Rows
  stop : Option (Nat × Trap)
  seen : List (Nat × Nat)

/-- The part of a member, or of a remote rank (R379). A fault of one member stops no other's transfer. -/
def Run.part (r : Run) (ms : List Member) (draw : Nat) (d : Desc) (k : Nat) : Run × Part :=
  match ms.find? fun m => m.rank == k with
  | none => (r, { rank := k, data := remoteTensor draw k d, stop := none, seen := [] })
  | some m =>
    let q := ({ m.run r.state r.who.view with down := r.down }).tensor m.cmd.2.1
    ({ q.1 with poison := r.poison || q.1.poison, stop := none, seen := [] },
     { rank := k, data := q.2, stop := q.1.stop, seen := q.1.seen })

/-- Why a member's results cannot be written (R260, R379), or what they wait for. -/
def Member.probe (m : Member) (s : State) (res : Rows) : Option (Nat × Trap) ⊕ Wait :=
  let d := if m.cmd.1 = 5 then m.cmd.2.2 else m.cmd.2.1
  if (Desc.base d).toNat % Desc.esize d ≠ 0 then .inl (some (4, trapAt 4 (Desc.esize d) (Desc.base d)))
  else
    let fs := (m.puts res).map fun e => s.writeFault (m.run s 0).who e.1
    match fs.findSome? writeWait with
    | some x => .inr x
    | none => .inl (fs.findSome? writeTrap)

/-- Codes of an instance in which a transfer may have met a translation fault: then no other is done (R379). -/
def faultCodes (l : List (Nat × Trap)) : List (Nat × Trap) :=
  if l.any fun e => e.1 == 3 then l.map fun e => if 3 ≤ e.1 then e else (4, cancelledTrap) else l

/-- The end of an instance whose ranks have all joined, of `ranks` in all; or what a transfer waits for. A rank held elsewhere
brings with it whatever its device has written here (R380). Whether its command differs, and whether its transfer meets a
translation fault, is free (R379, log 34). -/
def State.runInstance (s : State) (ms : List Member) (ranks : Nat) : Ended ⊕ Wait :=
  match ms.head? with
  | none => .inl { state := s, codes := [], view := 0 }
  | some m0 =>
    let fn := m0.cmd.1
    let d := m0.cmd.2.1
    let remote := decide (ms.length < ranks)
    let view := ms.foldl (fun v m => laterOf v m.task.stamp) (if remote then s.latest else 0)
    let strange := remote && Config.freeBit s.draws
    let broken := remote && (Config.freeDword s.draws 64).getLsbD 0
    let s := s.drawn
    let all := fun (e : Nat × Trap) => .inl { state := s, codes := ms.map fun _ => e, view := view : Ended }
    if strange || ms.any fun m => m.cmd.1 != fn || !suits fn m.cmd.2.1 m.cmd.2.2 || !sameShape d m.cmd.2.1 then
      all (4, trapAt 0xD 3 0)
    else if fn = 6 then all (1, trapAt 0 0 0)
    else
      let read := Run.collect (fun r k => r.part ms s.draws d k) (m0.run s.drawn view)
        (if fn = 4 then [0] else List.range ranks)
      let partOf := fun (m : Member) => read.2.find? fun x => x.rank == m.rank
      match read.1.down with
      | some x => .inr x
      | none =>
        if read.2.any fun x => x.stop.isSome then
          .inl { state := read.1.state, codes := ms.map (fun m => ((partOf m).bind Part.stop).getD (4, cancelledTrap)),
                 view := read.1.who.view }
        else
          let res := collectiveResult fn d (read.2.map Part.data)
          let poisoned := read.2.any fun x => x.data.bad
          let probes := ms.map fun m => m.probe read.1.state res
          match probes.findSome? writeWait with
          | some x => .inr x
          | none =>
            let own := probes.map writeTrap
            let fault := broken || own.any fun e => match e with | some x => x.1 == 3 | none => false
            let done := Run.collect (fun (r : Run) (e : Member × Option (Nat × Trap)) =>
              let q := e.1.write r.state r.who.view (((partOf e.1).map Part.seen).getD []) fault e.2 (e.1.puts res)
              ({ r with state := q.state, who := { r.who with view := laterOf r.who.view q.who.view } },
               match q.stop with
               | some x => x
               | none => (if poisoned then 2 else 1, trapAt 0 0 0))) read.1 (ms.zip own)
            .inl { state := done.1.state, codes := faultCodes done.2, view := done.1.who.view }

/-! ## Starting and completing (R246, R262) -/

/-- The instance of a collective task (R378), with its partition and its group. -/
def State.instanceOf (s : State) (core : Nat) (t : Task) : Option (Nat × Partition × Nat × Inst) :=
  match t.cmd, s.partOfCore core, t.inst with
  | .col _ _ _ g, some (k, p), some n =>
    let gi := bits g.toNat 0 6
    ((p.group gi).insts.find? fun i => i.k == n).map fun i => (k, p, gi, i)
  | _, _, _ => none
/-- P of a group (R377). -/
def Group.participants (g : Group) : Nat := bits g.gctl.toNat 0 8 + 1

def State.allJoined (s : State) (core : Nat) (t : Task) : Bool :=
  match s.instanceOf core t with
  | some (_, p, g, i) => decide (i.joined.length = (p.group g).participants)
  | none => false

/-- Whether a task of a core may start (R246, R381): it stands at the head of its queue, so every earlier task of the queue has
completed; of a collective, whose instance all ranks have joined, every earlier one has started (R378, R381; log 28). -/
def State.eligible (s : State) (core : Nat) (t : Task) : Bool :=
  let k := s.core core
  let earlier := k.tasks.filter fun u => decide (u.order < t.order)
  !t.started && (k.vacate == .inService || k.vacate == .asked true || k.vacate == .leaving) &&
  earlier.all (fun u => u.cmd.queue != t.cmd.queue || (t.cmd.queue == 3 && u.started)) &&
  (t.cmd.uses ++ t.cmd.holds).all (fun x => (k.buf x).full) && t.cmd.fills.all (fun x => !(k.buf x).full) &&
  earlier.all (fun u => t.cmd.names.all fun x => !u.cmd.names.contains x) &&
  (t.cmd.queue != 3 || s.allJoined core t)

/-- The run of a task, under the handle of its descriptor (R84). -/
def State.runOf (s : State) (core : Nat) (t : Task) : Run :=
  let handle := match t.cmd with | .kv _ _ td _ _ _ _ => Desc.handle td | _ => 0
  { state := s, who := { core := core, sup := t.sup, view := t.stamp }, handle := handle, seen := t.seen, poison := false,
    stop := none, down := none }

/-- What a KV command reads when it starts (R355, R365): the state, and the task with STCTL's answer, the quarantine list and
the sequence record, where it could be read; a read that waits for a port is outstanding from then on (R16, R375). -/
def State.startKv (s : State) (core : Nat) (t : Task) (v slot : Nat) : State × Task :=
  let page := s.vf v
  let t := { t with quar := page.quar }
  if page.sten && decide (slot < 2 ^ page.stlogn) then
    let q := (s.runOf core t).units (page.stbase + BitVec.ofNat 64 (64 * slot)) 3
    (q.1.state, { t with seqRecord := foundBytes q.2, seen := q.1.seen, refused := unitsRefuse q.2,
                         stalled := if unitsRefuse q.2 then none else q.1.down,
                         genTime := (s.runOf core t).writtenAt (page.stbase + BitVec.ofNat 64 (64 * slot + 16)) })
  else (s, { t with refused := true })

/-- TASK_START (R246); a KV command reads its sequence record (R355). -/
def execTaskStart (core ent : Nat) (s : State) : Host.Outcome State Fault Refusal :=
  match ((s.core core).entry ent).task with
  | none => .next s
  | some t =>
    if !s.eligible core t then .next s
    else
      let rd := match t.cmd, (s.launch t.launch).bind Launch.vf with
        | .kv _ _ _ _ q1 _ _, some v => s.startKv core t v (q1.toNat % 65536)
        | _, _ => (s, t)
      .next (rd.1.onCore core fun k =>
        k.setEntry ent { k.entry ent with task := some { rd.2 with started := true } })

/-- The source number of a fault record (R349). -/
def Command.source (c : Command) : Nat := c.queue + 1

/-- A task's access waits (R16, R376): nothing is done, and the access is outstanding. -/
def State.stallTask (s : State) (core ent : Nat) (x : Wait) : State :=
  s.onCore core fun k =>
    k.setEntry ent { k.entry ent with task := (k.entry ent).task.map fun t => { t with stalled := some x } }

/-- A task ends with what its run came to. -/
def State.endTask (s : State) (core ent : Nat) (t : Task) (r : Run) : State :=
  match r.down with
  | some x => s.stallTask core ent x
  | none =>
    let s1 := match r.stop with
      | some e => r.state.engineFault core t.cmd.source t.launch e.2
      | none => r.state
    s1.complete core ent r.code r.who.view

/-- The end of a collective instance at every local participant (R378, R379). -/
def State.endInstance (s : State) (core : Nat) (t : Task) : State :=
  match s.instanceOf core t with
  | none => s
  | some (k, p, g, i) =>
    let ms := s.members i
    if !(ms.all fun m => m.task.started) then s
    else match s.runInstance ms (p.group g).participants with
      | .inr x => ms.foldl (fun s m => s.stallTask m.core m.ent x) s
      | .inl e =>
        let s1 := (ms.zip e.codes).foldl (fun s x =>
          let s1 := if 3 ≤ x.2.1 then s.engineFault x.1.core 4 x.1.task.launch x.2.2 else s
          s1.complete x.1.core x.1.ent x.2.1 e.view) e.state
        s1.onPart k fun p =>
          let r := p.group g
          p.setGroup g { r with gseq := r.gseq + 1, insts := r.insts.filter fun j => j.k != i.k }

/-- Whether rows that a step reads of a scratchpad operand lie on lost lines (R122); a row lies within one line. -/
def State.operandLost (s : State) (crew : Crew) (sparse : Bool) (p : Option (Word × Word)) : Bool :=
  match p with
  | none => false
  | some w => ([false] ++ if sparse then [true] else []).any fun second => (List.range 32).any fun i =>
      s.padLost (crew.padAt (padBase w.1 + (if second then padSecond w.2 else 0) + 16 * padPitch w.1 * i)) 1

/-- The words that a step reads of a scratchpad operand are recalled where the scratchpad acts as home slice (R93, R98). -/
def State.recallOperand (s : State) (crew : Crew) (sparse : Bool) (p : Option (Word × Word)) : State :=
  match p with
  | none => s
  | some w => s.recallAll (([false] ++ if sparse then [true] else []).flatMap fun second => (List.range 32).flatMap fun i =>
      (List.range 16).flatMap fun o => padWords (crew.padAt (padOffset w.1 w.2 second i (4 * o))) 4)

/-- A matrix step completes (R267). What it reads of a lost line is poison (R122), so its accumulator is. -/
def State.endMatrix (s : State) (core ent : Nat) (crew : Crew) (sparse trans overwrite : Bool) (a b : Nat)
    (sa sb : Option (Word × Word)) (acc : Nat) : State :=
  let s0 := (s.recallOperand crew sparse sa).recallOperand crew sparse sb
  let s1 := (s0.matrixStep core crew sparse trans overwrite a b sa sb acc).complete core ent 1 0
  if s.operandLost crew sparse sa || s.operandLost crew sparse sb then
    s1.onCore core fun k => k.setAcc acc { k.acc acc with poison := true }
  else s1

/-- TASK_COMPLETE (R262). -/
def execTaskComplete (core ent : Nat) (s : State) : Host.Outcome State Fault Refusal :=
  match ((s.core core).entry ent).task with
  | none => .next s
  | some t =>
    if t.cancelled then .next ((s.engineFault core 4 t.launch cancelledTrap).complete core ent 4 0)
    else if !t.started then .next s
    else match s.crew t.crew with
      | none => .next s
      | some crew =>
        match t.cmd with
        | .copy form x td td2 c0 c1 =>
          .next (s.endTask core ent t ((s.runOf core t).copy core form x crew td td2 c0 c1))
        | .mma sparse turned overwrite a b sa sb acc =>
          .next (s.endMatrix core ent crew sparse turned overwrite a b sa sb acc)
        | .hold _ _ => .next (s.complete core ent 1 0)
        | .kv form x td q0 q1 q2 q3 =>
          match s.launch t.launch with
          | none => .next s
          | some l =>
            match l.vf with
            | none => .next (s.endTask core ent t ((s.runOf core t).stopWith 4 kvRefused))
            | some v =>
              let q := (s.runOf core t).kv core form x v crew td q0 q1 q2 q3 t.refused t.quar (t.seqRecord.map fun b => (b, t.genTime))
              let hurt := if q.1.code = 2 then q.2 else []
              .next (s.endTask core ent t (hurt.foldl (fun r p => r.quarantine core v l.part l.queueNo p) q.1))
        | .col _ _ _ _ => .next (s.endInstance core t)

end Sys2Proof.Machine
end

