-- ==== Sys2Proof/Machine/Mapping.lean ====
section
/-! DEFINITION. Scratchpad mapping (R90 to R93), shadow storage (R94, R95) and the period of the lattice rounds (R126), as
operations that the CSR writes and the events share. -/
namespace Sys2Proof.Machine

/-! ## Scratchpad mapping -/

/-- Two ranges of tiles, each by its first and its length less one, that meet. -/
def tilesMeet (a n b m : Nat) : Bool := decide (a ≤ b + m) && decide (b ≤ a + n)

/-- Whether an entry may not become valid in a cluster of a partition (R91): its range leaves the scratchpad, meets
another valid entry of the cluster, or is not DRAM of the partition. -/
def State.smapBad (s : State) (p : Partition) (cluster n : Nat) (e : Smap) : Bool :=
  decide (1023 < e.soff + e.nt) || decide (dramBytes s p < 2048 * (e.gtn + e.nt + 1)) || e.wb ||
  s.smap.any fun f => decide (f.1 / 16 = cluster) && decide (f.1 ≠ 16 * cluster + n) && f.2.v &&
    (tilesMeet f.2.soff f.2.nt e.soff e.nt || tilesMeet f.2.gtn f.2.nt e.gtn e.nt)

/-- Whether a package address lies in a mapped range of a partition. -/
def Smap.covers (e : Smap) (p : Partition) (a : Nat) : Bool :=
  let t := p.fromPackage a / 2048
  p.holds (a / Config.bandBytes) && decide (e.gtn ≤ t) && decide (t ≤ e.gtn + e.nt)

/-- Tiles of a mapped range leave a band's spiral together (R87, R92), dirty ones to be written back; the pins of those that are
pinned end. At reduced service no tile leaves (R389, log 86). -/
def State.expelRange (s : State) (p : Partition) (e : Smap) (band : Nat) : State :=
  let sp := Spiral.of s band
  let inside := fun (t : Tile) => decide (e.gtn ≤ t.tile ∧ t.tile ≤ e.gtn + e.nt)
  let pins := (sp.pinned.map Prod.snd).filter inside
  let loose := sp.order.filter inside
  if s.atReduced band || (pins ++ loose).isEmpty then s
  else
    let s1 := (pins ++ loose).foldl (fun s t => s.onSpiral band (Spiral.remove · t.tile)) s
    pins.foldl (fun s t => s.unpinned p t.owner) (s1.leave p band (pins ++ loose.reverse)).1

/-- An entry becomes valid (R92): the tiles leave, nothing keeps the former contents, and the scratchpad serves the
range. -/
def State.smapOn (s : State) (p : Partition) (cluster n : Nat) (e : Smap) : State :=
  let gone := fun (w : Nat) => e.covers p (4 * w)
  let s0 := (s.owned.filter fun x => gone x.1).foldl (fun s x => s.giveBack x.1) s
  let s1 := p.bandList.foldl (fun s b => s.expelRange p e b) s0
  ({ s1 with copies := s1.copies.filter (fun x => !gone (x.1 / 4096)),
             shared := s1.shared.filter fun x => !gone (x.1 / 4096) }).setSmap cluster n { e with v := true, wb := false }

/-- Software writes V = 0 (R93): the entry serves on until its write-back completes. -/
def State.smapOff (s : State) (cluster n : Nat) : State :=
  let e := s.smapOf cluster n
  if e.v then s.setSmap cluster n { e with wb := true } else s

/-- The write-back of an unmapped entry completes (R93): words that cores own come home, no copy is left, the scratchpad's bytes
go to the global range, encrypted as its own, with their poison, lost lines and clocks, and accesses return to the home spiral. -/
def State.smapDone (s : State) (p : Partition) (cluster n : Nat) : State :=
  let e := s.smapOf cluster n
  let k := 2097152 * cluster + 2048 * e.soff
  let len := 2048 * (e.nt + 1)
  let dest := fun (x : Nat) => p.toPackage (2048 * e.gtn + (x - k))
  let mine := fun (x : Nat) => decide (k ≤ x) && decide (x < k + len)
  let word := fun (w : Nat) => decide (2 ^ 58 ≤ w) && mine (4 * w - 2 ^ 60)
  let s := (s.owned.filter fun x => word x.1).foldl (fun s x => s.giveBack x.1) s
  let mem := (s.spad.filter fun c => mine c.1).foldl (fun m c => wput m (dest c.1) c.2) (s.mem.filter fun c => !e.covers p c.1)
  let poison := (s.spadPoison.filter fun c => mine c.1).foldl (fun m c => tput m (dest c.1) ())
    (s.poison.filter fun c => !e.covers p c.1)
  let moved := s.clocks.filter fun c => decide (c.1 < 2 ^ 61) && word c.1
  let dead := s.lost.filter fun l => decide (2 ^ 60 ≤ 128 * l.1) && mine (128 * l.1 - 2 ^ 60)
  let clocks := moved.foldl (fun t c => tput t (dest (4 * c.1 - 2 ^ 60) / 4) c.2) s.clocks
  { s with mem := mem, poison := poison, clocks := clocks,
           ciphered := (List.range len).foldl (fun t i => if s.sealedBands.isEmpty then t else tput t (dest (k + i)) p.keyId)
             (s.ciphered.filter fun c => !e.covers p c.1),
           lost := dead.foldl (fun t (l : Nat × Unit) => tput (tdel t l.1) (dest (128 * l.1 - 2 ^ 60) / 128) ())
             (s.lost.filter fun l => !e.covers p (128 * l.1)),
           copies := s.copies.filter (fun x => !word (x.1 / 4096)), shared := s.shared.filter (fun x => !word (x.1 / 4096)),
           under := s.under.filter fun c => !e.covers p c.1 }.setSmap cluster n { e with v := false, wb := false }

/-- The words of an entry (R90). -/
def Smap.low (e : Smap) : Word :=
  BitVec.ofNat 32 (bitNat e.v * 2 ^ 31 + bitNat e.wb * 2 ^ 30 + e.nt * 2 ^ 20 + e.soff * 2 ^ 10)
def Smap.high (e : Smap) : Word := BitVec.ofNat 32 e.gtn

/-- A write of the high word (R91): none when GTN is written while V is 1. -/
def State.smapHigh (s : State) (cluster n : Nat) (x : Word) : Option State :=
  let e := s.smapOf cluster n
  if e.v then none else some (s.setSmap cluster n { e with gtn := x.toNat })

/-- A write of the low word (R91): none when it takes cause 0x0E. -/
def State.smapLow (s : State) (p : Partition) (cluster n : Nat) (x : Word) : Option State :=
  let old := s.smapOf cluster n
  let e : Smap := { old with nt := bits x.toNat 20 10, soff := bits x.toNat 10 10 }
  if old.v && (e.nt != old.nt || e.soff != old.soff) then none
  else if !x.getLsbD 31 then
    if old.v then some (s.smapOff cluster n) else some (s.setSmap cluster n e)
  else if old.wb then none
  else if old.v then some s
  else if s.smapBad p cluster n e then none
  else some (s.smapOn p cluster n e)

/-! ## Shadow storage -/

/-- A change of reservation of a band (R94, R95): the status goes to ST, and the tiles that leave are written back. A
band of no partition holds no tile. At reduced service, in which no tile leaves (R389), a reservation is refused with ST 2
(log 86). -/
def State.reserveBand (s : State) (band res : Nat) : State :=
  if s.atReduced band && res != 0 then { s with shdwBand := band, shdwSt := 2 }
  else
  let r := (Spiral.of s band).reserve res
  let s1 := { s with shdwBand := band, shdwSt := r.1 }.setSpiral band r.2.1
  match s.partOfBand band with
  | some (_, p) => (s1.leave p band r.2.2).1
  | none => s1

/-- The word of `shdw` (R94); a change is never in progress between instructions. R287 gives the register scope band: BAND and ST
are the last ones written in the package, whichever core wrote them (log 84). -/
def State.shdwWord (s : State) : Word :=
  BitVec.ofNat 32 (s.shdwSt * 2 ^ 29 + s.shdwBand * 2 ^ 8 + (Spiral.of s s.shdwBand).res)

/-! ## The lattice period -/

/-- `lxsched` (R126): rounds completed, and the period written last. -/
def Partition.lxsched (p : Partition) : Word := BitVec.ofNat 32 (p.rnd.toNat % 65536 * 65536 + p.nextPer)

end Sys2Proof.Machine
end

