-- ==== Sys2Proof/Machine/MemoryEvents.lean ====
section
/-! DEFINITION. What happens to memory without an access: a write-back that a channel accepts (R121), errors (R89, R122),
the rounds of the lattice (R125, R126), scratchpad mapping (R92, R93) and shadow storage (R95) by event, and the
invalidation of translations (R348). -/
namespace Sys2Proof.Machine

/-! ## Write-backs -/

/-- One byte of an accepted write-back reaches DRAM (R79, R121). A byte that DRAM already holds in its newest value is not
taken back to an older one: writes to one address reach the channel in order. -/
def State.acceptByte (s : State) (c : Host.Cell) : State :=
  let covered := match s.partOfBand (c.1 / Config.bandBytes) with
    | some (_, p) => (s.mapped p (p.fromPackage c.1)).isSome
    | none => false
  if covered then s.putByte false c.1 c.2
  else if (tfind s.under c.1).isNone then s
  else if wget s.mem c.1 = c.2 then { s with under := tdel s.under c.1 }
  else { s with under := tput s.under c.1 c.2 }

/-- The first queued write-back of a band is accepted by a memory channel (R87, R121). -/
def State.acceptBack (s : State) (band : Nat) : State :=
  match (tfind s.wbq band).getD [] with
  | [] => s
  | b :: r => b.bytes.foldl State.acceptByte { s with wbq := if r.isEmpty then tdel s.wbq band else tput s.wbq band r }

/-- WRITEBACK_ACCEPTED (R121). -/
def execWritebackAccepted (band : Nat) (s : State) : Host.Outcome State Fault Refusal := .next (s.acceptBack band)

/-! ## Errors -/

/-- An element of a list that a free value chooses. -/
def chooseFrom (l : List Nat) (x : Nat) : Nat := l.getD (x % max l.length 1) 0

/-- SPIRAL_UNCORRECTABLE_ERROR (R89, R128): the 16-byte word at an address, if its tile is resident, holds poison, but for the
4-byte words that a core owns, whose value there the owner's replaces. The home copy of a lattice page is one stack's replica,
whose line is lost; which stack is free. -/
def execSpiralUncorrectableError (addr : Nat) (s : State) : Host.Outcome State Fault Refusal :=
  match s.tileOf addr with
  | none => .next s
  | some (p, band, tile) =>
    if (tfind s.latPages (addr / 4096)).isSome then
      let st := chooseFrom p.stackList (Config.freeDword s.draws 0).toNat
      .next { s.drawn with repLost := tput s.repLost (8 * (addr / 128) + st) () }
    else if s.resident band tile then
      .next { s with poison := (List.range 16).foldl (fun t i =>
        if (tfind s.owned ((addr / 16 * 16 + i) / 4)).isSome then t else tput t (addr / 16 * 16 + i) ()) s.poison }
    else .next s

/-- ONLY_COPY_UNCORRECTABLE_ERROR (R122): an error strikes a word that a core owns and nothing else holds. -/
def execOnlyCopyUncorrectableError (core addr : Nat) (s : State) : Host.Outcome State Fault Refusal :=
  .next (if s.owns core (addr / 4) then s.loseWord (addr / 4) else s)

/-! ## Rounds of the lattice (R125, R126, R128) -/

/-- The least q with n ≤ 2^q. -/
def ceilLog2 (n : Nat) : Nat := if n ≤ 1 then 0 else Nat.log2 (n - 1) + 1

/-- A word of a replica that an exchange has written (R100, R101): its write time reaches that of either replica, and where its
value has changed it passes every lease on it, and the OW copies of it end (R96). -/
def State.exchanged (s : State) (w : Nat) (changed : Bool) (t : Dword) : State :=
  let c := s.clockOf w
  let wts := if changed then laterOf t (c.rts + 1) else t
  let s1 := if changed then s.probe 4095 [w] else s
  if wts = c.wts then s1 else s1.setClock w { c with wts := wts }

/-- One cell of two replicas after a round that pairs them: both take a value, and the later write time of each word (R100). -/
def State.setPair (s : State) (c i k : Nat) (x : Dword) : State :=
  let ci := s.replica (8 * c) i != x
  let ck := s.replica (8 * c) k != x
  let s1 := { s with reps := wput (wput s.reps (repKey (8 * c) i) x) (repKey (8 * c) k) x }
  [8 * c, 8 * c + 4].foldl (fun s a =>
    let t := laterOf (s.clockOf (repWord a i)).wts (s.clockOf (repWord a k)).wts
    (s.exchanged (repWord a i) ci t).exchanged (repWord a k) ck t) s1

/-- The poison of a line of two replicas after a round that pairs them (log 100): a cell is poison in both where it was in one, or
where the replica that repairs the other has it. -/
def State.pairPoison (s : State) (l i k : Nat) (di dk : Bool) : Tab Unit :=
  let inLine := fun (e : Nat × Unit) => e.1 / 8 / 128 == l && (e.1 % 8 == i || e.1 % 8 == k)
  (s.repPoison.filter fun e => inLine e && !(di && e.1 % 8 == i) && !(dk && e.1 % 8 == k)).foldl (fun t e =>
    (List.range 8).foldl (fun t o =>
      let a := e.1 / 64 * 8 + o
      tput (tput t (8 * a + i) ()) (8 * a + k) ()) t)
    (s.repPoison.filter fun e => !inLine e)

/-- The line `l` of a lattice page in the replicas of stacks i and k (R125, R128): every cell that either holds a value, a
clock or poison of. -/
def State.pairLine (s : State) (lt l i k : Nat) : State :=
  let di := (tfind s.repLost (8 * l + i)).isSome
  let dk := (tfind s.repLost (8 * l + k)).isSome
  let held := (s.reps.filter fun e => e.1 / 8 / 16 == l && (e.1 % 8 == i || e.1 % 8 == k)).map fun e => e.1 / 8
  let timed := (s.clocks.filter fun e => decide (2 ^ 61 ≤ e.1) && repAddress e.1 / 128 == l &&
    (repStack e.1 == i || repStack e.1 == k)).map fun e => repAddress e.1 / 8
  if di && dk then s
  else
    let s1 := (held ++ timed).eraseDups.foldl (fun s c =>
      let xi := s.replica (8 * c) i
      let xk := s.replica (8 * c) k
      s.setPair c i k (if di then xk else if dk then xi else join lt xi xk)) s
    { s1 with repLost := (tdel (tdel s1.repLost (8 * l + i)) (8 * l + k)), repPoison := s.pairPoison l i k di dk }

/-- Both tiles of a page become dirty in the home band of a stack's replica, where they are resident (R79). -/
def State.soilReplica (s : State) (p : Partition) (page st : Nat) : State :=
  (List.range 2).foldl (fun s h =>
    let pa := p.fromPackage (4096 * page + 2048 * h)
    if page < 2 ^ 42 ∧ s.cacheable p pa then s.onSpiral (p.repHome st (pa / 2048)) (Spiral.soil · (pa / 2048)) else s) s

/-- The exchange of one round on one page. -/
def State.pairPage (s : State) (p : Partition) (page lt d : Nat) : State :=
  let sts := p.stackList
  (List.range sts.length).foldl (fun s i =>
    let k := i ^^^ d
    let a := sts.getD i 0
    let b := sts.getD k 0
    if i < k ∧ k < sts.length ∧ !(s.stack a).fenced ∧ !(s.stack b).fenced then
      (((List.range 32).foldl (fun s l => s.pairLine lt (32 * page + l) a b) s).soilReplica p page a).soilReplica p page b
    else s) s

/-- One round of a partition (R125, R126). -/
def State.latticeRound (s : State) (part : Nat) (p : Partition) : State :=
  let q := ceilLog2 p.stackList.length
  let d := 2 ^ (p.round % max q 1)
  let pages := s.latPages.filter fun e => p.ownsCells e.1
  let s1 := if q = 0 then s else pages.foldl (fun s e => s.pairPage p e.1 e.2 d) s
  s1.onPart part fun p => { p with round := p.round + 1, rnd := p.rnd + 1, per := p.nextPer }

/-- LATTICE_ROUND (R125, R126, R128). -/
def execLatticeRound (part : Nat) (s : State) : Host.Outcome State Fault Refusal :=
  match s.part part with
  | some p => .next (s.latticeRound part p)
  | none => .next s

/-- LXSCHED_WRITE (R126): a period outside 1 to 256 leaves the field unchanged. -/
def execLxschedWrite (part : Nat) (val : BitVec 32) (s : State) : Host.Outcome State Fault Refusal :=
  let x := val.toNat % 512
  .next (if x = 0 ∨ 256 < x then s else s.onPart part fun p => { p with nextPer := x })

/-! ## Scratchpad mapping and shadow storage -/

/-- SMAP_MAP (R91, R92): the entry becomes valid, unless R91 forbids it. -/
def execSmapMap (cluster n : Nat) (s : State) : Host.Outcome State Fault Refusal :=
  match s.partOfBand (cluster / 8) with
  | none => .next s
  | some (_, p) =>
    let e := s.smapOf cluster n
    .next (if e.v || decide (16 ≤ n) || s.smapBad p cluster n e then s else s.smapOn p cluster n e)

/-- SMAP_UNMAP (R93). -/
def execSmapUnmap (cluster n : Nat) (s : State) : Host.Outcome State Fault Refusal := .next (s.smapOff cluster n)

/-- SMAP_WRITEBACK_DONE (R93). -/
def execSmapWritebackDone (cluster n : Nat) (s : State) : Host.Outcome State Fault Refusal :=
  match s.partOfBand (cluster / 8) with
  | some (_, p) => .next (if (s.smapOf cluster n).wb then s.smapDone p cluster n else s)
  | none => .next s

/-- SHDW_RESERVE_RING8, SHDW_RESERVE_RINGS_7_8 and SHDW_RELEASE (R94, R95). -/
def execShdwReserveRing8 (band : Nat) (s : State) : Host.Outcome State Fault Refusal := .next (s.reserveBand (band % 64) 1)
def execShdwReserveRings78 (band : Nat) (s : State) : Host.Outcome State Fault Refusal := .next (s.reserveBand (band % 64) 2)
def execShdwRelease (band : Nat) (s : State) : Host.Outcome State Fault Refusal := .next (s.reserveBand (band % 64) 0)

/-! ## Translations (R348) -/

/-- TINVC_PAGE, TINVC_ALL and TINVC_COMPLETE (R348): when GO reads 0, no TLB holds a translation of the pages named. -/
def execTinvcPage (part : Nat) (s : State) : Host.Outcome State Fault Refusal :=
  .next (s.controlWrite part none 0x128 0x80000000)
def execTinvcAll (part : Nat) (s : State) : Host.Outcome State Fault Refusal :=
  .next (s.controlWrite part none 0x128 0xC0000000)
def execTinvcComplete (part : Nat) (s : State) : Host.Outcome State Fault Refusal :=
  .next (s.invalidate part)

end Sys2Proof.Machine
end

