-- ==== Sys2Proof/Machine/Control.lean ====
section
/-! DEFINITION. Branches, calls and jumps (R186 to R188), convergence barriers (R32 to R34, R189, R190), the control
instructions (R191 to R194) and the guard (R139). -/
namespace Sys2Proof.Machine

/-! ## Branches and jumps -/

/-- A displacement in halfwords from an address (R186). -/
def branchTarget (pc : Dword) (i : BitVec 21) : Dword := pc + 2 * i.signExtend 64

/-- Whether a thread takes a branch: `p7` negated stands for always (R186). -/
def Thread.branches (th : Thread) (n : BitVec 1) (p : BitVec 3) : Bool := (p == 7 && n == 1) || (th.pred p.toNat ^^ (n == 1))

/-- `br` (R186). -/
def execBr (i : BitVec 21) (n : BitVec 1) (p : BitVec 3) (s : State) : Host.Outcome State Fault Refusal :=
  onIssue s fun c w =>
    let w1 := w.onThreads c.group fun th => { th with pc := if th.branches n p then branchTarget c.pc i else c.next }
    (s.setWarp c.warp w1).switchIf ((threadsOf c.group).any fun t => (w.thread t).branches n p)

/-- `call` (R187): the link enters no latch. -/
def execCall (i : BitVec 21) (s : State) : Host.Outcome State Fault Refusal :=
  onIssue s fun c w => gated s c w (useV 62 2) none true fun c w s =>
    s.setWarp c.warp (w.onThreads c.group fun th =>
      { th.setVs 62 [lowWord c.next, highWord c.next] with pc := branchTarget c.pc i })

/-- The registers that JR names, and a thread with the link written. -/
def linkUses (a : BitVec 7) (link : Option (BitVec 6)) : Uses :=
  match link with | some d => (useSrc a 2).and (useV d.toNat 2) | none => useSrc a 2
def Thread.linked (th : Thread) (link : Option (BitVec 6)) (next : Dword) : Thread :=
  match link with | some d => th.setVs d.toNat [lowWord next, highWord next] | none => th

/-- JR (R188): the target is read before the link is written; an odd target traps (R129). -/
def jump (s : State) (a : BitVec 7) (link : Option (BitVec 6)) : Host.Outcome State Fault Refusal :=
  onIssue s fun c w => gated s c w (linkUses a link) none false fun c w s =>
    let target := fun t => ((s.ctx c w).src64 false t (w.thread t) a).getD 0
    let odd := fun t => (target t).getLsbD 0
    let w1 := w.mapThreads fun t th =>
      if inMask c.taking t then (if odd t then th else { th.linked link c.next with pc := target t })
      else if inMask c.group t then { th with pc := c.next } else th
    let s1 := (s.setWarp c.warp w1).switchIf ((threadsOf c.taking).any fun t => !odd t)
    let bad := ((threadsOf c.taking).filter odd).map fun t => (t, trapAt 4 2 (target t))
    if bad.isEmpty then s1 else s1.raise c bad

/-- `jmp` (R188). -/
def execJrJmp (a : BitVec 7) (s : State) : Host.Outcome State Fault Refusal := jump s a none
/-- `jcall` (R188). -/
def execJrJcall (a : BitVec 7) (d : BitVec 6) (s : State) : Host.Outcome State Fault Refusal := jump s a (some d)
/-- `ret` (R188). -/
def execJrRet (a : BitVec 7) (s : State) : Host.Outcome State Fault Refusal := jump s a none

/-! ## Convergence barriers -/

/-- `cvb.arm` (R32). -/
def Warp.armBar (w : Warp) (n : Nat) (ts : Word) : Warp :=
  let b := w.bar n
  (w.setBar n { b with m := b.m ||| ts }).settleBar n
/-- `cvb.wait` (R32, R33, R190): members arrive and block, with a timeout when `limit` is not 0; the others pass. -/
def Warp.waitBar (w : Warp) (n k : Nat) (ts : Word) (next : Dword) (now limit : Nat) : Warp :=
  let b := w.bar n
  let w1 := w.onThreads (ts &&& ~~~b.m) fun th => { th.setP k false with pc := next }
  let w2 := w1.onThreads (ts &&& b.m) fun th => { th with status := .converge n k next, since := now }
  let expiry := if limit = 0 then b.expiry else (threadsOf (ts &&& b.m)).foldl (fun e t => tput e t (now + limit)) b.expiry
  (w2.setBar n { b with z := b.z ||| (ts &&& b.m), expiry := expiry }).settleBar n

/-- `cvb.arm` (R189). -/
def execCvbArm (n : BitVec 4) (s : State) : Host.Outcome State Fault Refusal :=
  onIssue s fun c w => gated s c w Uses.none none false fun c w s =>
    (s.setWarp c.warp (w.armBar n.toNat c.taking)).advance c c.group
/-- `cvb.wait` (R189, R190). -/
def execCvbWait (b : BitVec 7) (n : BitVec 4) (k : BitVec 3) (s : State) : Host.Outcome State Fault Refusal :=
  onIssue s fun c w => gated s c w (useUni b 1) none true fun c w s =>
    let limit := ((s.ctx c w).usrc b).toNat
    let s1 := s.advance c (c.group &&& ~~~c.taking)
    s1.onWarp c.warp fun w => w.waitBar n.toNat k.toNat c.taking c.next s.cycle limit
/-- `cvb.drop` (R189). -/
def execCvbDrop (h l : BitVec 7) (m : BitVec 2) (s : State) : Host.Outcome State Fault Refusal :=
  onIssue s fun c w => gated s c w Uses.none none false fun c w s =>
    (s.setWarp c.warp (w.dropBars c.taking (BitVec.ofNat 16 (m.toNat * 16384 + h.toNat * 128 + l.toNat)))).advance c c.group

/-! ## Control -/

/-- `nop` (R191). -/
def execCtrlNop (s : State) : Host.Outcome State Fault Refusal :=
  onIssue s fun c w => gated s c w Uses.none none false fun c _ s => s.advance c c.group
/-- `exit` (R191, R192). -/
def execCtrlExit (s : State) : Host.Outcome State Fault Refusal :=
  onIssue s fun c w => gated s c w Uses.none none true fun c _ s =>
    (s.advance c (c.group &&& ~~~c.taking)).finishThreads c.warp c.taking
/-- `yield` (R191, R192): the lane passes over the warp once. -/
def execCtrlYield (s : State) : Host.Outcome State Fault Refusal :=
  onIssue s fun c w => gated s c w Uses.none none true fun c w s =>
    (s.onLane w fun l => { l with gave := true }).advance c c.group
/-- A trap that an instruction names (R193): its code is the sub-cause. -/
def breakWith (s : State) (cause code : Nat) : Host.Outcome State Fault Refusal :=
  onIssue s fun c w => gated s c w Uses.none none false fun c _ s =>
    (s.advance c (c.group &&& ~~~c.taking)).raiseAll c c.taking (trapAt cause code 0)
/-- `brk` (R193). -/
def execCtrlBrk (h l : BitVec 7) (s : State) : Host.Outcome State Fault Refusal := breakWith s 0xF (h.toNat * 128 + l.toNat)
/-- `trap` (R193). -/
def execCtrlTrap (h l : BitVec 7) (s : State) : Host.Outcome State Fault Refusal := breakWith s 0x10 (h.toNat * 128 + l.toNat)
/-- `ctrl.clk` (R191, R194). -/
def execCtrlClk (d : BitVec 6) (s : State) : Host.Outcome State Fault Refusal :=
  uniformOp s (useD d.toNat 2) none fun c => c.warp.setSPair d.toNat c.clk
/-- The guard (R139): the threads whose predicate holds take part in the instruction that the step executes next. -/
def execGuard (n : BitVec 1) (p : BitVec 3) (s : State) : Host.Outcome State Fault Refusal :=
  onIssue s fun c w =>
    { s with cur := some (c.takes w (c.group &&& w.where_ fun th => th.pred p.toNat ^^ (n == 1))) }

end Sys2Proof.Machine
end

