-- ==== Sys2Proof/WellFormed.lean ====
section
/-! DEFINITION. Which operand values make an instruction (R133 to R140, R144). Each check names the sub-cause of cause
0x02 that a word breaking it takes, and says whether the operand passes. -/
namespace Sys2Proof

/-- A condition of R144: its sub-cause and whether it is met. -/
abbrev Check := Nat × Bool

/-- The lowest sub-cause among the checks that fail (R145). -/
def lowestSub : List Check → Option Nat
  | [] => none
  | (sub, ok) :: rest =>
    match ok, lowestSub rest with
    | true, r => r
    | false, none => some sub
    | false, some m => some (min sub m)

/-- A 32-bit source code of a lane form (R134): sub-cause 2 when reserved. -/
def srcL32 (c : BitVec 7) : Check := (2, c.toNat < 0x6E)
/-- Whether a code names a register of an odd number in a place that needs a pair (R137). -/
def evenCode (c : BitVec 7) (limit : Nat) : Bool := c.toNat % 2 == 0 || limit ≤ c.toNat
/-- A 64-bit source code of a lane form (R135, R137): a vector or scalar pair, a latch pair, a special code but `gixh`. -/
def srcL64 (c : BitVec 7) : Check :=
  if c.toNat < 0x60 then (6, c.toNat % 2 == 0)
  else (2, c.toNat != 0x61 && c.toNat != 0x63 && c.toNat != 0x69 && c.toNat < 0x6E)
/-- A 32-bit source code of a uniform form (R134): latches, `tix` and 0x20 to 0x3F are reserved. -/
def srcU32 (c : BitVec 7) : Check :=
  (2, c.toNat < 0x20 || (0x40 ≤ c.toNat && c.toNat < 0x60) || c.toNat == 0x64 || (0x66 ≤ c.toNat && c.toNat < 0x6E))
/-- An address or a jump target: a vector pair or a scalar pair (R137, R188). -/
def addrPair (c : BitVec 7) : Check := if c.toNat < 0x60 then (6, c.toNat % 2 == 0) else (2, false)
/-- The control source of the LAT forms: a broadcast scalar or `z` (R233). -/
def controlSource (c : BitVec 7) : Check := (2, (0x40 ≤ c.toNat && c.toNat < 0x60) || c.toNat == 0x64)
/-- A B operand marked uniform in a uniform form (R282). -/
def uniformU (c : BitVec 7) : Check :=
  (2, c.toNat < 0x20 || c.toNat == 0x64 || (0x66 ≤ c.toNat && c.toNat < 0x6E))
/-- A B operand marked uniform in a lane form (R282). -/
def uniformL (c : BitVec 7) : Check :=
  (2, (0x40 ≤ c.toNat && c.toNat < 0x60) || c.toNat == 0x64 || (0x66 ≤ c.toNat && c.toNat < 0x6E))
/-- A code that must name a scalar register: the request register of `egy.req` and `pwr.gate` (R281, R291). R134 would admit
special codes in a uniform form: a register is none, and they are refused with sub-cause 2 (log 88). -/
def scalarRegister (c : BitVec 7) : Check := (2, c.toNat < 0x20 || (0x40 ≤ c.toNat && c.toNat < 0x60))
/-- A code that must name a scalar pair: a 64-bit source of a uniform form (R179), the record address of `lnch` (R282). -/
def scalarPair (c : BitVec 7) : Check :=
  if c.toNat < 0x20 || (0x40 ≤ c.toNat && c.toNat < 0x60) then (6, c.toNat % 2 == 0) else (2, false)
/-- A field that holds a scalar register number 0x00 to 0x1F, its upper bits zero (R254, R268, R281). The spec gives no sub-cause for
one of 0x20 or more in `tdset`, `amov`, `ast` and `tret`: it takes 7 (log 112, DESIGN CHOICE). -/
def registerNumber (c : BitVec 7) : Check := (7, c.toNat < 0x20)
/-- A destination of a uniform form: s0 to s31 (R136). -/
def scalarDest (d : BitVec 6) : Check := (7, d.toNat < 0x20)
/-- A pair starts at an even register (R137). -/
def even {k : Nat} (d : BitVec k) : Check := (6, d.toNat % 2 == 0)
/-- A group starts at a multiple of its size (R137). -/
def aligned {k : Nat} (d : BitVec k) (n : Nat) : Check := (6, d.toNat % n == 0)
/-- A shift count of SLOGI and VLOGI is at most 31 (R176). -/
def shiftCount (i : BitVec 14) : Check := (7, i.toNat < 32)
/-- RQ 5 to 7 are reserved (R96). -/
def requestType (q : BitVec 3) : Check := (3, q.toNat < 5)
/-- SZ 6 and 7 are reserved (R140). -/
def sizeCode (s : BitVec 3) : Check := (4, s.toNat < 6)
/-- OBS = 0 is reserved in LDAQ and STRL (R104). -/
def observed (o : BitVec 5) : Check := (10, o.toNat != 0)
/-- The register group of an M-form access of 2^SZ bytes (R140). -/
def groupOf {k : Nat} (s : BitVec k) (d : BitVec 6) : Check := (6, d.toNat % (2 ^ (s.toNat - 2)) == 0)
/-- A point block of `n` coordinates from v(a): even start for FP64, and within v63 (R217). -/
def pointBlock (x : BitVec 1) (a : BitVec 6) (n : Nat) : Check :=
  if x.toNat == 1 && a.toNat % 2 == 1 then (6, false) else (8, a.toNat + n * (1 + x.toNat) ≤ 64)
/-- The key source of GEO: read with `.sym`, zero without (R217, R220). -/
def symKey (s : BitVec 1) (b : BitVec 7) : Check := if s.toNat == 1 then srcL32 b else (7, b.toNat == 0)
/-- A multiplicand of MMA: a buffer m0 to m15, or an even scalar pair (R133, R263). -/
def mmaOperand (x : BitVec 1) (a : BitVec 5) : Check :=
  if x.toNat == 1 then (6, a.toNat % 2 == 0) else (7, a.toNat < 16)
/-- The CSR number that the fields of a CSR form assemble (R281). -/
def csrNumber (h : BitVec 5) (l : BitVec 7) : Nat := h.toNat * 128 + l.toNat
/-- The numbers that name a CSR (R287). -/
def csrNamed (n : Nat) : Bool :=
  n == 0x001 || n == 0x002 || n == 0x008 || n == 0x010 || n == 0x011 || n == 0x020 ||
  (0x700 ≤ n && n ≤ 0x703) || (0x7C0 ≤ n && n ≤ 0x7DF) || n == 0x7E0 || n == 0x7E8 || n == 0xFC0 || n == 0xFC1
/-- A CSR number that names no CSR is a reserved encoding (R147). -/
def csrExists (h : BitVec 5) (l : BitVec 7) : Check := (7, csrNamed (csrNumber h l))

/-- The conditions of R144 on the operands of an instruction, sub-causes 2 to 10. -/
def Instr.checks : Instr → List Check
  | .mov _ _ => []
  | .iadd _ _ => []
  | .isub _ _ => []
  | .iand _ _ => []
  | .ior _ _ => []
  | .ixor _ _ => []
  | .ishl _ _ => []
  | .ishr _ _ => []
  | .imin _ _ => []
  | .imax _ _ => []
  | .fadd _ _ => []
  | .fsub _ _ => []
  | .fmul _ _ => []
  | .fmax _ _ => []
  | .fmin _ _ => []
  | .fmac _ _ => []
  | .saluAdd b a d => [srcU32 a, srcU32 b, scalarDest d]
  | .saluSub b a d => [srcU32 a, srcU32 b, scalarDest d]
  | .saluAnd b a d => [srcU32 a, srcU32 b, scalarDest d]
  | .saluOr b a d => [srcU32 a, srcU32 b, scalarDest d]
  | .saluXor b a d => [srcU32 a, srcU32 b, scalarDest d]
  | .saluShl b a d => [srcU32 a, srcU32 b, scalarDest d]
  | .saluShr b a d => [srcU32 a, srcU32 b, scalarDest d]
  | .saluSra b a d => [srcU32 a, srcU32 b, scalarDest d]
  | .saluMin b a d => [srcU32 a, srcU32 b, scalarDest d]
  | .saluMax b a d => [srcU32 a, srcU32 b, scalarDest d]
  | .saluMinn b a d => [srcU32 a, srcU32 b, scalarDest d]
  | .saluMaxn b a d => [srcU32 a, srcU32 b, scalarDest d]
  | .saluMul b a d => [srcU32 a, srcU32 b, scalarDest d]
  | .saluMulh b a d => [srcU32 a, srcU32 b, scalarDest d]
  | .saluDiv b a d => [srcU32 a, srcU32 b, scalarDest d]
  | .saluRem b a d => [srcU32 a, srcU32 b, scalarDest d]
  | .valuAdd b a _ _ => [srcL32 a, srcL32 b]
  | .valuSub b a _ _ => [srcL32 a, srcL32 b]
  | .valuAnd b a _ _ => [srcL32 a, srcL32 b]
  | .valuOr b a _ _ => [srcL32 a, srcL32 b]
  | .valuXor b a _ _ => [srcL32 a, srcL32 b]
  | .valuShl b a _ _ => [srcL32 a, srcL32 b]
  | .valuShr b a _ _ => [srcL32 a, srcL32 b]
  | .valuSra b a _ _ => [srcL32 a, srcL32 b]
  | .valuMin b a _ _ => [srcL32 a, srcL32 b]
  | .valuMax b a _ _ => [srcL32 a, srcL32 b]
  | .valuMinn b a _ _ => [srcL32 a, srcL32 b]
  | .valuMaxn b a _ _ => [srcL32 a, srcL32 b]
  | .valuMul b a _ _ => [srcL32 a, srcL32 b]
  | .valuMulh b a _ _ => [srcL32 a, srcL32 b]
  | .valuDiv b a _ _ => [srcL32 a, srcL32 b]
  | .valuRem b a _ _ => [srcL32 a, srcL32 b]
  | .saddi _ a d => [srcU32 a, scalarDest d]
  | .vaddi _ a _ _ => [srcL32 a]
  | .slogiAnd _ d => [scalarDest d]
  | .slogiOr _ d => [scalarDest d]
  | .slogiXor _ d => [scalarDest d]
  | .slogiShl i d => [scalarDest d, shiftCount i]
  | .slogiShr i d => [scalarDest d, shiftCount i]
  | .slogiSra i d => [scalarDest d, shiftCount i]
  | .slogiClr _ d => [scalarDest d]
  | .vlogiAnd _ _ _ => []
  | .vlogiOr _ _ _ => []
  | .vlogiXor _ _ _ => []
  | .vlogiShl i _ _ => [shiftCount i]
  | .vlogiShr i _ _ => [shiftCount i]
  | .vlogiSra i _ _ => [shiftCount i]
  | .vlogiClr _ _ _ => []
  | .slih _ d => [scalarDest d]
  | .vlih _ _ _ => []
  | .smiscDivn b a d => [srcU32 a, srcU32 b, scalarDest d]
  | .smiscRemn b a d => [srcU32 a, srcU32 b, scalarDest d]
  | .smiscClz a d => [srcU32 a, scalarDest d]
  | .smiscCtz a d => [srcU32 a, scalarDest d]
  | .smiscPopc a d => [srcU32 a, scalarDest d]
  | .smiscBrev a d => [srcU32 a, scalarDest d]
  | .smiscSext8 a d => [srcU32 a, scalarDest d]
  | .smiscSext16 a d => [srcU32 a, scalarDest d]
  | .smiscMulhn b a d => [srcU32 a, srcU32 b, scalarDest d]
  | .smiscRot b a d => [srcU32 a, srcU32 b, scalarDest d]
  | .smiscAdd64 b a d => [scalarPair a, scalarPair b, even d, scalarDest d]
  | .smiscSub64 b a d => [scalarPair a, scalarPair b, even d, scalarDest d]
  | .smiscMad b a d => [srcU32 a, srcU32 b, scalarDest d]
  | .smiscMad64 b a d => [srcU32 a, srcU32 b, even d, scalarDest d]
  | .vmiscDivn b a _ _ => [srcL32 a, srcL32 b]
  | .vmiscRemn b a _ _ => [srcL32 a, srcL32 b]
  | .vmiscClz a _ _ => [srcL32 a]
  | .vmiscCtz a _ _ => [srcL32 a]
  | .vmiscPopc a _ _ => [srcL32 a]
  | .vmiscBrev a _ _ => [srcL32 a]
  | .vmiscSext8 a _ _ => [srcL32 a]
  | .vmiscSext16 a _ _ => [srcL32 a]
  | .vmiscMulhn b a _ _ => [srcL32 a, srcL32 b]
  | .vmiscRot b a _ _ => [srcL32 a, srcL32 b]
  | .vmiscAdd64 b a _ d => [srcL64 a, srcL64 b, even d]
  | .vmiscSub64 b a _ d => [srcL64 a, srcL64 b, even d]
  | .vmiscMad b a _ _ => [srcL32 a, srcL32 b]
  | .vmiscMad64 b a _ d => [srcL32 a, srcL32 b, even d]
  | .scmpEq b a d => [srcU32 a, srcU32 b, scalarDest d]
  | .scmpNe b a d => [srcU32 a, srcU32 b, scalarDest d]
  | .scmpLt b a d => [srcU32 a, srcU32 b, scalarDest d]
  | .scmpLe b a d => [srcU32 a, srcU32 b, scalarDest d]
  | .scmpLtn b a d => [srcU32 a, srcU32 b, scalarDest d]
  | .scmpLen b a d => [srcU32 a, srcU32 b, scalarDest d]
  | .vcmpEq b a _ => [srcL32 a, srcL32 b]
  | .vcmpNe b a _ => [srcL32 a, srcL32 b]
  | .vcmpLt b a _ => [srcL32 a, srcL32 b]
  | .vcmpLe b a _ => [srcL32 a, srcL32 b]
  | .vcmpLtn b a _ => [srcL32 a, srcL32 b]
  | .vcmpLen b a _ => [srcL32 a, srcL32 b]
  | .vcmpEq64 b a _ => [srcL64 a, srcL64 b]
  | .vcmpLt64 b a _ => [srcL64 a, srcL64 b]
  | .vcmpLtn64 b a _ => [srcL64 a, srcL64 b]
  | .predAnd _ _ _ => []
  | .predOr _ _ _ => []
  | .predXor _ _ _ => []
  | .predAndn _ _ _ => []
  | .predAny _ _ => []
  | .predAll _ _ => []
  | .predUni _ _ => []
  | .predBallot _ _ _ => []
  | .predTov _ _ => []
  | .predFromv a => [srcL32 a]
  | .xchShfl b a _ _ => [srcL32 a, srcL32 b]
  | .xchShup b a _ _ => [srcL32 a, srcL32 b]
  | .xchShdn b a _ _ => [srcL32 a, srcL32 b]
  | .xchShxor b a _ _ => [srcL32 a, srcL32 b]
  | .xchBcast a _ _ => [srcL32 a]
  | .xchRadd a _ _ => [srcL32 a]
  | .xchRmin a _ _ => [srcL32 a]
  | .xchRmax a _ _ => [srcL32 a]
  | .xchRminn a _ _ => [srcL32 a]
  | .xchRmaxn a _ _ => [srcL32 a]
  | .xchRand a _ _ => [srcL32 a]
  | .xchRior a _ _ => [srcL32 a]
  | .xchRxor a _ _ => [srcL32 a]
  | .xchRfadd a _ _ => [srcL32 a]
  | .xchRfmin a _ _ => [srcL32 a]
  | .xchRfmax a _ _ => [srcL32 a]
  | .br _ _ _ => []
  | .call _ => []
  | .jrJmp a => [addrPair a]
  | .jrJcall a d => [addrPair a, even d]
  | .jrRet a => [addrPair a]
  | .cvbArm _ => []
  | .cvbWait b _ _ => [srcU32 b]
  | .cvbDrop _ _ _ => []
  | .ctrlNop => []
  | .ctrlExit => []
  | .ctrlYield => []
  | .ctrlBrk _ _ => []
  | .ctrlTrap _ _ => []
  | .ctrlClk d => [even d, scalarDest d]
  | .guard _ _ => []
  | .faluAdd b a _ _ => [srcL32 a, srcL32 b]
  | .faluSub b a _ _ => [srcL32 a, srcL32 b]
  | .faluMul b a _ _ => [srcL32 a, srcL32 b]
  | .faluMin b a _ _ => [srcL32 a, srcL32 b]
  | .faluMax b a _ _ => [srcL32 a, srcL32 b]
  | .faluCpys b a _ _ => [srcL32 a, srcL32 b]
  | .faluAbs a _ _ => [srcL32 a]
  | .faluNeg a _ _ => [srcL32 a]
  | .faluAddFtz b a _ _ => [srcL32 a, srcL32 b]
  | .faluSubFtz b a _ _ => [srcL32 a, srcL32 b]
  | .faluMulFtz b a _ _ => [srcL32 a, srcL32 b]
  | .faluMinFtz b a _ _ => [srcL32 a, srcL32 b]
  | .faluMaxFtz b a _ _ => [srcL32 a, srcL32 b]
  | .ffmaFma b a _ _ => [srcL32 a, srcL32 b]
  | .ffmaFms b a _ _ => [srcL32 a, srcL32 b]
  | .ffmaFnma b a _ _ => [srcL32 a, srcL32 b]
  | .ffmaFnms b a _ _ => [srcL32 a, srcL32 b]
  | .ffmaFmaFtz b a _ _ => [srcL32 a, srcL32 b]
  | .ffmaFmsFtz b a _ _ => [srcL32 a, srcL32 b]
  | .ffmaFnmaFtz b a _ _ => [srcL32 a, srcL32 b]
  | .ffmaFnmsFtz b a _ _ => [srcL32 a, srcL32 b]
  | .fcmpEq b a _ => [srcL32 a, srcL32 b]
  | .fcmpNe b a _ => [srcL32 a, srcL32 b]
  | .fcmpLt b a _ => [srcL32 a, srcL32 b]
  | .fcmpLe b a _ => [srcL32 a, srcL32 b]
  | .fcmpUn b a _ => [srcL32 a, srcL32 b]
  | .fcmpDeq b a _ => [srcL64 a, srcL64 b]
  | .fcmpDne b a _ => [srcL64 a, srcL64 b]
  | .fcmpDlt b a _ => [srcL64 a, srcL64 b]
  | .fcmpDle b a _ => [srcL64 a, srcL64 b]
  | .fcmpDun b a _ => [srcL64 a, srcL64 b]
  | .fspecRcp a _ _ => [srcL32 a]
  | .fspecRsqrt a _ _ => [srcL32 a]
  | .fspecSqrt a _ _ => [srcL32 a]
  | .fspecExp2 a _ _ => [srcL32 a]
  | .fspecLog2 a _ _ => [srcL32 a]
  | .fspecSin a _ _ => [srcL32 a]
  | .fspecCos a _ _ => [srcL32 a]
  | .fspecTanh a _ _ => [srcL32 a]
  | .fspecDiv b a _ _ => [srcL32 a, srcL32 b]
  | .daluAdd b a _ d => [srcL64 a, srcL64 b, even d]
  | .daluSub b a _ d => [srcL64 a, srcL64 b, even d]
  | .daluMul b a _ d => [srcL64 a, srcL64 b, even d]
  | .daluMin b a _ d => [srcL64 a, srcL64 b, even d]
  | .daluMax b a _ d => [srcL64 a, srcL64 b, even d]
  | .daluDiv b a _ d => [srcL64 a, srcL64 b, even d]
  | .daluSqrt a _ d => [srcL64 a, even d]
  | .daluAddFtz b a _ d => [srcL64 a, srcL64 b, even d]
  | .daluSubFtz b a _ d => [srcL64 a, srcL64 b, even d]
  | .daluMulFtz b a _ d => [srcL64 a, srcL64 b, even d]
  | .daluMinFtz b a _ d => [srcL64 a, srcL64 b, even d]
  | .daluMaxFtz b a _ d => [srcL64 a, srcL64 b, even d]
  | .daluDivFtz b a _ d => [srcL64 a, srcL64 b, even d]
  | .daluSqrtFtz a _ d => [srcL64 a, even d]
  | .dfmaFma b a _ d => [srcL64 a, srcL64 b, even d]
  | .dfmaFms b a _ d => [srcL64 a, srcL64 b, even d]
  | .dfmaFnma b a _ d => [srcL64 a, srcL64 b, even d]
  | .dfmaFnms b a _ d => [srcL64 a, srcL64 b, even d]
  | .dfmaFmaFtz b a _ d => [srcL64 a, srcL64 b, even d]
  | .dfmaFmsFtz b a _ d => [srcL64 a, srcL64 b, even d]
  | .dfmaFnmaFtz b a _ d => [srcL64 a, srcL64 b, even d]
  | .dfmaFnmsFtz b a _ d => [srcL64 a, srcL64 b, even d]
  | .fcvtF32F64 _ a _ _ => [srcL64 a]
  | .fcvtF64F32 a _ d => [srcL32 a, even d]
  | .fcvtF16F32 _ a _ _ => [srcL32 a]
  | .fcvtF32F16 a _ _ => [srcL32 a]
  | .fcvtBf16F32 _ a _ _ => [srcL32 a]
  | .fcvtF32Bf16 a _ _ => [srcL32 a]
  | .fcvtS32F32 _ a _ _ => [srcL32 a]
  | .fcvtN32F32 _ a _ _ => [srcL32 a]
  | .fcvtF32S32 _ a _ _ => [srcL32 a]
  | .fcvtF32N32 _ a _ _ => [srcL32 a]
  | .fcvtS64F64 _ a _ d => [srcL64 a, even d]
  | .fcvtF64S64 _ a _ d => [srcL64 a, even d]
  | .fcvtS32F64 _ a _ _ => [srcL64 a]
  | .fcvtF64S32 a _ d => [srcL32 a, even d]
  | .fcvtN64F64 _ a _ d => [srcL64 a, even d]
  | .fcvtF64N64 _ a _ d => [srcL64 a, even d]
  | .frndRnd _ a _ _ => [srcL32 a]
  | .frndCls a _ _ => [srcL32 a]
  | .frndFrexpm a _ _ => [srcL32 a]
  | .frndFrexpe a _ _ => [srcL32 a]
  | .frndLdexp b a _ _ => [srcL32 a, srcL32 b]
  | .frndRndF64 _ a _ d => [srcL64 a, even d]
  | .frndClsF64 a _ _ => [srcL64 a]
  | .frndFrexpmF64 a _ d => [srcL64 a, even d]
  | .frndFrexpeF64 a _ _ => [srcL64 a]
  | .frndLdexpF64 b a _ d => [srcL64 a, srcL32 b, even d]
  | .halu2Bf16Add b a _ _ => [srcL32 a, srcL32 b]
  | .halu2Bf16Sub b a _ _ => [srcL32 a, srcL32 b]
  | .halu2Bf16Mul b a _ _ => [srcL32 a, srcL32 b]
  | .halu2Bf16Fma b a _ _ => [srcL32 a, srcL32 b]
  | .halu2Bf16Min b a _ _ => [srcL32 a, srcL32 b]
  | .halu2Bf16Max b a _ _ => [srcL32 a, srcL32 b]
  | .halu2Bf16Pack b a _ _ => [srcL32 a, srcL32 b]
  | .halu2F16Add b a _ _ => [srcL32 a, srcL32 b]
  | .halu2F16Sub b a _ _ => [srcL32 a, srcL32 b]
  | .halu2F16Mul b a _ _ => [srcL32 a, srcL32 b]
  | .halu2F16Fma b a _ _ => [srcL32 a, srcL32 b]
  | .halu2F16Min b a _ _ => [srcL32 a, srcL32 b]
  | .halu2F16Max b a _ _ => [srcL32 a, srcL32 b]
  | .halu2F16Pack b a _ _ => [srcL32 a, srcL32 b]
  | .qcvtE4m3n _ b _ _ _ _ => [srcL32 b]
  | .qcvtE5m2n _ b _ _ _ _ => [srcL32 b]
  | .qcvtDm8 _ b _ _ _ _ => [srcL32 b]
  | .qdecE4m3nF32 b a _ d => [srcL32 a, srcL32 b, aligned d 4]
  | .qdecE5m2nF32 b a _ d => [srcL32 a, srcL32 b, aligned d 4]
  | .qdecDm8F32 b a _ d => [srcL32 a, srcL32 b, aligned d 4]
  | .qdecE4m3nBf16 b a _ d => [srcL32 a, srcL32 b, even d]
  | .qdecE5m2nBf16 b a _ d => [srcL32 a, srcL32 b, even d]
  | .qdecDm8Bf16 b a _ d => [srcL32 a, srcL32 b, even d]
  | .qdecE4m3nF16 b a _ d => [srcL32 a, srcL32 b, even d]
  | .qdecE5m2nF16 b a _ d => [srcL32 a, srcL32 b, even d]
  | .qdecDm8F16 b a _ d => [srcL32 a, srcL32 b, even d]
  | .cmprComp16 _ a _ _ => [srcL64 a]
  | .cmprComp8 a _ _ => [srcL64 a]
  | .cmprExp16 b a _ d => [srcL32 a, srcL32 b, even d]
  | .cmprExp8 b a _ d => [srcL32 a, srcL32 b, even d]
  | .cmprMeta16 _ a _ _ => [srcL64 a]
  | .cmprMeta8 a _ _ => [srcL64 a]
  | .geoOrient2 s b x a _ _ => [pointBlock x a 6, symKey s b]
  | .geoOrient3 s b x a _ _ => [pointBlock x a 12, symKey s b]
  | .geoIncircle s b x a _ _ => [pointBlock x a 8, symKey s b]
  | .geoInsphere s b x a _ _ => [pointBlock x a 15, symKey s b]
  | .geoSegx x a _ _ => [pointBlock x a 8]
  | .ld s _ q a d => [requestType q, sizeCode s, addrPair a, groupOf s d]
  | .st s _ q a d => [requestType q, sizeCode s, addrPair a, groupOf s d]
  | .ldo32 _ a _ => [addrPair a]
  | .ldo64 _ a d => [addrPair a, even d]
  | .sto32 _ a _ => [addrPair a]
  | .sto64 _ a d => [addrPair a, even d]
  | .ldaq s o q a d => [requestType q, observed o, addrPair a, groupOf s d]
  | .strl s o q a d => [requestType q, observed o, addrPair a, groupOf s d]
  | .amo32Add _ q a _ => [requestType q, addrPair a]
  | .amo32And _ q a _ => [requestType q, addrPair a]
  | .amo32Or _ q a _ => [requestType q, addrPair a]
  | .amo32Xor _ q a _ => [requestType q, addrPair a]
  | .amo32Min _ q a _ => [requestType q, addrPair a]
  | .amo32Max _ q a _ => [requestType q, addrPair a]
  | .amo32Minn _ q a _ => [requestType q, addrPair a]
  | .amo32Maxn _ q a _ => [requestType q, addrPair a]
  | .amoxXchg _ q a _ => [requestType q, addrPair a]
  | .amoxXchg64 _ q a d => [requestType q, addrPair a, even d]
  | .amoxCas _ q a d => [requestType q, addrPair a, even d]
  | .amoxCas64 _ q a d => [requestType q, addrPair a, aligned d 4]
  | .amoxFadd _ q a _ => [requestType q, addrPair a]
  | .amoxAdd64 _ q a d => [requestType q, addrPair a, even d]
  | .lst b a d => [controlSource b, addrPair a, even d]
  | .lld b a d => [controlSource b, addrPair a, even d]
  | .lpoll b a d => [controlSource b, addrPair a, even d]
  | .fence _ => []
  | .cwb b a _ => [addrPair a, srcL32 b]
  | .cinv b a => [addrPair a, srcL32 b]
  | .discard b a => [addrPair a, srcL32 b]
  | .zline a _ => [addrPair a]
  | .pin b a _ _ => [addrPair a, srcL32 b]
  | .unpin a _ _ => [addrPair a]
  | .dist a _ _ => [addrPair a]
  | .touch b a _ _ => [addrPair a, srcL32 b]
  | .demote a d => [srcU32 a, scalarDest d]
  | .evict a d => [srcU32 a, scalarDest d]
  | .rhset b a d => [srcU32 a, srcU32 b, scalarDest d]
  | .spadLd32 b a _ => [srcL32 a, srcL32 b]
  | .spadLd64 b a d => [srcL32 a, srcL32 b, even d]
  | .spadLd128 b a d => [srcL32 a, srcL32 b, aligned d 4]
  | .spadSt32 b a _ => [srcL32 a, srcL32 b]
  | .spadSt64 b a d => [srcL32 a, srcL32 b, even d]
  | .spadSt128 b a d => [srcL32 a, srcL32 b, aligned d 4]
  | .cpyG2b _ _ _ _ _ _ => []
  | .cpyG2s _ _ _ c _ => [even c]
  | .cpyS2g _ _ _ c _ => [even c]
  | .cpyG2g _ _ _ c _ => [even c]
  | .cpyS2b _ _ _ _ _ _ => []
  | .cpyS2s _ _ _ c _ => [even c]
  | .seal d => [scalarDest d]
  | .waitn _ => []
  | .tdset a _ => [registerNumber a, even a]
  | .tdget _ _ d => [scalarDest d]
  | .mma _ _ b a y x _ => [mmaOperand x a, mmaOperand y b]
  | .mmaz _ _ b a y x _ => [mmaOperand x a, mmaOperand y b]
  | .acq _ => []
  | .rel _ => []
  | .amov a _ => [registerNumber a]
  | .azero _ => []
  | .ast a _ => [registerNumber a]
  | .capPass => []
  | .tskSub _ _ _ => []
  | .tskWait _ => []
  | .tskBstat _ => []
  | .tskBclr _ => []
  | .kvKvg _ _ _ _ c _ => [aligned c 4]
  | .kvKvgs _ _ _ c _ => [aligned c 4]
  | .kvKvs _ _ _ c _ => [aligned c 4]
  | .kvKvinv _ => []
  | .colSum _ _ _ _ _ => []
  | .colMax _ _ _ _ _ => []
  | .colMin _ _ _ _ _ => []
  | .colTri _ _ _ _ _ => []
  | .colBcast _ _ _ _ _ => []
  | .colGath _ _ _ _ _ => []
  | .colBar _ _ _ _ => []
  | .tret a => [registerNumber a]
  | .syscall _ _ => []
  | .csrr h l d => [csrExists h l, scalarDest d]
  | .csrw b l h => [csrExists h l, srcU32 b]
  | .csrs b l h => [csrExists h l, srcU32 b]
  | .csrc b l h => [csrExists h l, srcU32 b]
  | .egyRd d => [even d, scalarDest d]
  | .egyReq a d => [scalarRegister a, scalarDest d]
  | .pwrGate a d => [scalarRegister a, scalarDest d]
  | .rsend a => [srcL32 a]
  | .rrecv _ _ => []
  | .lnch b a d => [uniformU b, scalarPair a, scalarDest d]
  | .evtSig b a _ => [srcU32 a, uniformU b]
  | .evtWait b a _ => [srcU32 a, uniformU b]
  | .barCrew => []
  | .barGang => []
  | .qenq b a => [uniformL b, addrPair a]
  | .qdeq b a _ => [uniformL b, addrPair a]
  | .pcrd b _ d => [uniformL b, even d]
  | .pcwr b a => [uniformL b, srcL64 a]
  | .cvbrd b _ d => [uniformU b, scalarDest d]
  | .cvbwr b _ d => [uniformU b, scalarDest d]
  | .cvbTimeout _ _ => []
  | .lldTimeout _ _ => []
  | .watchdog _ _ => []
  | .trapEntry _ => []
  | .nestedTrapEntry _ => []
  | .taskStart _ _ => []
  | .taskComplete _ _ => []
  | .rangeOpComplete _ _ => []
  | .demoteEvictStatus _ _ => []
  | .latticeRound _ => []
  | .lxschedWrite _ _ => []
  | .smapMap _ _ => []
  | .smapUnmap _ _ => []
  | .smapWritebackDone _ _ => []
  | .shdwReserveRing8 _ => []
  | .shdwReserveRings78 _ => []
  | .shdwRelease _ => []
  | .spiralUncorrectableError _ => []
  | .powerAlarm => []
  | .energyWindow _ => []
  | .budgetWrite _ _ => []
  | .qctlWrite _ _ _ => []
  | .qtailWrite _ _ _ => []
  | .qownWrite _ _ _ => []
  | .eventCounterWrite _ _ _ => []
  | .launchBegin _ _ => []
  | .gangDispatch _ _ => []
  | .gangSteal _ _ => []
  | .crewFinish _ => []
  | .launchCompletion _ => []
  | .pcmdVacate _ _ => []
  | .pcmdReturn _ _ => []
  | .heldStop _ => []
  | .preemptSaveEntry _ => []
  | .phlimExpiry _ => []
  | .preemptRestoreEntry _ _ => []
  | .tinvcPage _ => []
  | .tinvcAll _ => []
  | .tinvcComplete _ => []
  | .flctlWrite _ _ => []
  | .coreGateOff _ => []
  | .corePowerRestored _ => []
  | .routerPowerDown _ => []
  | .routerWakeSignal _ => []
  | .routerPowerRestored _ => []
  | .groupRecordWrite _ _ _ _ => []
  | .jalefLinkChange _ _ _ => []
  | .hostPortLinkChange _ _ => []
  | .hostAccess _ _ _ _ _ _ => []
  | .peerAccess _ _ _ _ _ _ _ => []
  | .poolAdmit _ _ _ => []
  | .poolGrow _ _ _ => []
  | .poolRet _ _ _ => []
  | .guarWrite _ _ _ => []
  | .migWrite _ _ _ => []
  | .vfbindWrite _ _ => []
  | .vfportWrite _ _ => []
  | .reset => []
  | .bootctlGo => []
  | .firmwareCheckDone _ => []
  | .raiseFullService _ => []
  | .partitionCreate _ _ _ _ => []
  | .pbootGo _ _ => []
  | .stackFence _ => []
  | .securityAlarm _ _ => []
  | .registerWrite _ _ _ _ _ _ => []
  | .reservedInstructionWord _ _ _ => []
  | .writebackAccepted _ => []
  | .onlyCopyUncorrectableError _ _ => []
  | .partitionDestroy _ => []
  | .powerAlarmEnd => []
  | .peerCollectiveMessage _ _ _ _ => []

/-- The halfword 0x0000 is not an instruction, though its fields read `mov v0, v0` (R131, R144). -/
def Instr.notZeroHalf : Instr → Bool
  | .mov a d => a.toNat != 0 || d.toNat != 0
  | .iadd _ _ => true
  | .isub _ _ => true
  | .iand _ _ => true
  | .ior _ _ => true
  | .ixor _ _ => true
  | .ishl _ _ => true
  | .ishr _ _ => true
  | .imin _ _ => true
  | .imax _ _ => true
  | .fadd _ _ => true
  | .fsub _ _ => true
  | .fmul _ _ => true
  | .fmax _ _ => true
  | .fmin _ _ => true
  | .fmac _ _ => true
  | .saluAdd _ _ _ => true
  | .saluSub _ _ _ => true
  | .saluAnd _ _ _ => true
  | .saluOr _ _ _ => true
  | .saluXor _ _ _ => true
  | .saluShl _ _ _ => true
  | .saluShr _ _ _ => true
  | .saluSra _ _ _ => true
  | .saluMin _ _ _ => true
  | .saluMax _ _ _ => true
  | .saluMinn _ _ _ => true
  | .saluMaxn _ _ _ => true
  | .saluMul _ _ _ => true
  | .saluMulh _ _ _ => true
  | .saluDiv _ _ _ => true
  | .saluRem _ _ _ => true
  | .valuAdd _ _ _ _ => true
  | .valuSub _ _ _ _ => true
  | .valuAnd _ _ _ _ => true
  | .valuOr _ _ _ _ => true
  | .valuXor _ _ _ _ => true
  | .valuShl _ _ _ _ => true
  | .valuShr _ _ _ _ => true
  | .valuSra _ _ _ _ => true
  | .valuMin _ _ _ _ => true
  | .valuMax _ _ _ _ => true
  | .valuMinn _ _ _ _ => true
  | .valuMaxn _ _ _ _ => true
  | .valuMul _ _ _ _ => true
  | .valuMulh _ _ _ _ => true
  | .valuDiv _ _ _ _ => true
  | .valuRem _ _ _ _ => true
  | .saddi _ _ _ => true
  | .vaddi _ _ _ _ => true
  | .slogiAnd _ _ => true
  | .slogiOr _ _ => true
  | .slogiXor _ _ => true
  | .slogiShl _ _ => true
  | .slogiShr _ _ => true
  | .slogiSra _ _ => true
  | .slogiClr _ _ => true
  | .vlogiAnd _ _ _ => true
  | .vlogiOr _ _ _ => true
  | .vlogiXor _ _ _ => true
  | .vlogiShl _ _ _ => true
  | .vlogiShr _ _ _ => true
  | .vlogiSra _ _ _ => true
  | .vlogiClr _ _ _ => true
  | .slih _ _ => true
  | .vlih _ _ _ => true
  | .smiscDivn _ _ _ => true
  | .smiscRemn _ _ _ => true
  | .smiscClz _ _ => true
  | .smiscCtz _ _ => true
  | .smiscPopc _ _ => true
  | .smiscBrev _ _ => true
  | .smiscSext8 _ _ => true
  | .smiscSext16 _ _ => true
  | .smiscMulhn _ _ _ => true
  | .smiscRot _ _ _ => true
  | .smiscAdd64 _ _ _ => true
  | .smiscSub64 _ _ _ => true
  | .smiscMad _ _ _ => true
  | .smiscMad64 _ _ _ => true
  | .vmiscDivn _ _ _ _ => true
  | .vmiscRemn _ _ _ _ => true
  | .vmiscClz _ _ _ => true
  | .vmiscCtz _ _ _ => true
  | .vmiscPopc _ _ _ => true
  | .vmiscBrev _ _ _ => true
  | .vmiscSext8 _ _ _ => true
  | .vmiscSext16 _ _ _ => true
  | .vmiscMulhn _ _ _ _ => true
  | .vmiscRot _ _ _ _ => true
  | .vmiscAdd64 _ _ _ _ => true
  | .vmiscSub64 _ _ _ _ => true
  | .vmiscMad _ _ _ _ => true
  | .vmiscMad64 _ _ _ _ => true
  | .scmpEq _ _ _ => true
  | .scmpNe _ _ _ => true
  | .scmpLt _ _ _ => true
  | .scmpLe _ _ _ => true
  | .scmpLtn _ _ _ => true
  | .scmpLen _ _ _ => true
  | .vcmpEq _ _ _ => true
  | .vcmpNe _ _ _ => true
  | .vcmpLt _ _ _ => true
  | .vcmpLe _ _ _ => true
  | .vcmpLtn _ _ _ => true
  | .vcmpLen _ _ _ => true
  | .vcmpEq64 _ _ _ => true
  | .vcmpLt64 _ _ _ => true
  | .vcmpLtn64 _ _ _ => true
  | .predAnd _ _ _ => true
  | .predOr _ _ _ => true
  | .predXor _ _ _ => true
  | .predAndn _ _ _ => true
  | .predAny _ _ => true
  | .predAll _ _ => true
  | .predUni _ _ => true
  | .predBallot _ _ _ => true
  | .predTov _ _ => true
  | .predFromv _ => true
  | .xchShfl _ _ _ _ => true
  | .xchShup _ _ _ _ => true
  | .xchShdn _ _ _ _ => true
  | .xchShxor _ _ _ _ => true
  | .xchBcast _ _ _ => true
  | .xchRadd _ _ _ => true
  | .xchRmin _ _ _ => true
  | .xchRmax _ _ _ => true
  | .xchRminn _ _ _ => true
  | .xchRmaxn _ _ _ => true
  | .xchRand _ _ _ => true
  | .xchRior _ _ _ => true
  | .xchRxor _ _ _ => true
  | .xchRfadd _ _ _ => true
  | .xchRfmin _ _ _ => true
  | .xchRfmax _ _ _ => true
  | .br _ _ _ => true
  | .call _ => true
  | .jrJmp _ => true
  | .jrJcall _ _ => true
  | .jrRet _ => true
  | .cvbArm _ => true
  | .cvbWait _ _ _ => true
  | .cvbDrop _ _ _ => true
  | .ctrlNop => true
  | .ctrlExit => true
  | .ctrlYield => true
  | .ctrlBrk _ _ => true
  | .ctrlTrap _ _ => true
  | .ctrlClk _ => true
  | .guard _ _ => true
  | .faluAdd _ _ _ _ => true
  | .faluSub _ _ _ _ => true
  | .faluMul _ _ _ _ => true
  | .faluMin _ _ _ _ => true
  | .faluMax _ _ _ _ => true
  | .faluCpys _ _ _ _ => true
  | .faluAbs _ _ _ => true
  | .faluNeg _ _ _ => true
  | .faluAddFtz _ _ _ _ => true
  | .faluSubFtz _ _ _ _ => true
  | .faluMulFtz _ _ _ _ => true
  | .faluMinFtz _ _ _ _ => true
  | .faluMaxFtz _ _ _ _ => true
  | .ffmaFma _ _ _ _ => true
  | .ffmaFms _ _ _ _ => true
  | .ffmaFnma _ _ _ _ => true
  | .ffmaFnms _ _ _ _ => true
  | .ffmaFmaFtz _ _ _ _ => true
  | .ffmaFmsFtz _ _ _ _ => true
  | .ffmaFnmaFtz _ _ _ _ => true
  | .ffmaFnmsFtz _ _ _ _ => true
  | .fcmpEq _ _ _ => true
  | .fcmpNe _ _ _ => true
  | .fcmpLt _ _ _ => true
  | .fcmpLe _ _ _ => true
  | .fcmpUn _ _ _ => true
  | .fcmpDeq _ _ _ => true
  | .fcmpDne _ _ _ => true
  | .fcmpDlt _ _ _ => true
  | .fcmpDle _ _ _ => true
  | .fcmpDun _ _ _ => true
  | .fspecRcp _ _ _ => true
  | .fspecRsqrt _ _ _ => true
  | .fspecSqrt _ _ _ => true
  | .fspecExp2 _ _ _ => true
  | .fspecLog2 _ _ _ => true
  | .fspecSin _ _ _ => true
  | .fspecCos _ _ _ => true
  | .fspecTanh _ _ _ => true
  | .fspecDiv _ _ _ _ => true
  | .daluAdd _ _ _ _ => true
  | .daluSub _ _ _ _ => true
  | .daluMul _ _ _ _ => true
  | .daluMin _ _ _ _ => true
  | .daluMax _ _ _ _ => true
  | .daluDiv _ _ _ _ => true
  | .daluSqrt _ _ _ => true
  | .daluAddFtz _ _ _ _ => true
  | .daluSubFtz _ _ _ _ => true
  | .daluMulFtz _ _ _ _ => true
  | .daluMinFtz _ _ _ _ => true
  | .daluMaxFtz _ _ _ _ => true
  | .daluDivFtz _ _ _ _ => true
  | .daluSqrtFtz _ _ _ => true
  | .dfmaFma _ _ _ _ => true
  | .dfmaFms _ _ _ _ => true
  | .dfmaFnma _ _ _ _ => true
  | .dfmaFnms _ _ _ _ => true
  | .dfmaFmaFtz _ _ _ _ => true
  | .dfmaFmsFtz _ _ _ _ => true
  | .dfmaFnmaFtz _ _ _ _ => true
  | .dfmaFnmsFtz _ _ _ _ => true
  | .fcvtF32F64 _ _ _ _ => true
  | .fcvtF64F32 _ _ _ => true
  | .fcvtF16F32 _ _ _ _ => true
  | .fcvtF32F16 _ _ _ => true
  | .fcvtBf16F32 _ _ _ _ => true
  | .fcvtF32Bf16 _ _ _ => true
  | .fcvtS32F32 _ _ _ _ => true
  | .fcvtN32F32 _ _ _ _ => true
  | .fcvtF32S32 _ _ _ _ => true
  | .fcvtF32N32 _ _ _ _ => true
  | .fcvtS64F64 _ _ _ _ => true
  | .fcvtF64S64 _ _ _ _ => true
  | .fcvtS32F64 _ _ _ _ => true
  | .fcvtF64S32 _ _ _ => true
  | .fcvtN64F64 _ _ _ _ => true
  | .fcvtF64N64 _ _ _ _ => true
  | .frndRnd _ _ _ _ => true
  | .frndCls _ _ _ => true
  | .frndFrexpm _ _ _ => true
  | .frndFrexpe _ _ _ => true
  | .frndLdexp _ _ _ _ => true
  | .frndRndF64 _ _ _ _ => true
  | .frndClsF64 _ _ _ => true
  | .frndFrexpmF64 _ _ _ => true
  | .frndFrexpeF64 _ _ _ => true
  | .frndLdexpF64 _ _ _ _ => true
  | .halu2Bf16Add _ _ _ _ => true
  | .halu2Bf16Sub _ _ _ _ => true
  | .halu2Bf16Mul _ _ _ _ => true
  | .halu2Bf16Fma _ _ _ _ => true
  | .halu2Bf16Min _ _ _ _ => true
  | .halu2Bf16Max _ _ _ _ => true
  | .halu2Bf16Pack _ _ _ _ => true
  | .halu2F16Add _ _ _ _ => true
  | .halu2F16Sub _ _ _ _ => true
  | .halu2F16Mul _ _ _ _ => true
  | .halu2F16Fma _ _ _ _ => true
  | .halu2F16Min _ _ _ _ => true
  | .halu2F16Max _ _ _ _ => true
  | .halu2F16Pack _ _ _ _ => true
  | .qcvtE4m3n _ _ _ _ _ _ => true
  | .qcvtE5m2n _ _ _ _ _ _ => true
  | .qcvtDm8 _ _ _ _ _ _ => true
  | .qdecE4m3nF32 _ _ _ _ => true
  | .qdecE5m2nF32 _ _ _ _ => true
  | .qdecDm8F32 _ _ _ _ => true
  | .qdecE4m3nBf16 _ _ _ _ => true
  | .qdecE5m2nBf16 _ _ _ _ => true
  | .qdecDm8Bf16 _ _ _ _ => true
  | .qdecE4m3nF16 _ _ _ _ => true
  | .qdecE5m2nF16 _ _ _ _ => true
  | .qdecDm8F16 _ _ _ _ => true
  | .cmprComp16 _ _ _ _ => true
  | .cmprComp8 _ _ _ => true
  | .cmprExp16 _ _ _ _ => true
  | .cmprExp8 _ _ _ _ => true
  | .cmprMeta16 _ _ _ _ => true
  | .cmprMeta8 _ _ _ => true
  | .geoOrient2 _ _ _ _ _ _ => true
  | .geoOrient3 _ _ _ _ _ _ => true
  | .geoIncircle _ _ _ _ _ _ => true
  | .geoInsphere _ _ _ _ _ _ => true
  | .geoSegx _ _ _ _ => true
  | .ld _ _ _ _ _ => true
  | .st _ _ _ _ _ => true
  | .ldo32 _ _ _ => true
  | .ldo64 _ _ _ => true
  | .sto32 _ _ _ => true
  | .sto64 _ _ _ => true
  | .ldaq _ _ _ _ _ => true
  | .strl _ _ _ _ _ => true
  | .amo32Add _ _ _ _ => true
  | .amo32And _ _ _ _ => true
  | .amo32Or _ _ _ _ => true
  | .amo32Xor _ _ _ _ => true
  | .amo32Min _ _ _ _ => true
  | .amo32Max _ _ _ _ => true
  | .amo32Minn _ _ _ _ => true
  | .amo32Maxn _ _ _ _ => true
  | .amoxXchg _ _ _ _ => true
  | .amoxXchg64 _ _ _ _ => true
  | .amoxCas _ _ _ _ => true
  | .amoxCas64 _ _ _ _ => true
  | .amoxFadd _ _ _ _ => true
  | .amoxAdd64 _ _ _ _ => true
  | .lst _ _ _ => true
  | .lld _ _ _ => true
  | .lpoll _ _ _ => true
  | .fence _ => true
  | .cwb _ _ _ => true
  | .cinv _ _ => true
  | .discard _ _ => true
  | .zline _ _ => true
  | .pin _ _ _ _ => true
  | .unpin _ _ _ => true
  | .dist _ _ _ => true
  | .touch _ _ _ _ => true
  | .demote _ _ => true
  | .evict _ _ => true
  | .rhset _ _ _ => true
  | .spadLd32 _ _ _ => true
  | .spadLd64 _ _ _ => true
  | .spadLd128 _ _ _ => true
  | .spadSt32 _ _ _ => true
  | .spadSt64 _ _ _ => true
  | .spadSt128 _ _ _ => true
  | .cpyG2b _ _ _ _ _ _ => true
  | .cpyG2s _ _ _ _ _ => true
  | .cpyS2g _ _ _ _ _ => true
  | .cpyG2g _ _ _ _ _ => true
  | .cpyS2b _ _ _ _ _ _ => true
  | .cpyS2s _ _ _ _ _ => true
  | .seal _ => true
  | .waitn _ => true
  | .tdset _ _ => true
  | .tdget _ _ _ => true
  | .mma _ _ _ _ _ _ _ => true
  | .mmaz _ _ _ _ _ _ _ => true
  | .acq _ => true
  | .rel _ => true
  | .amov _ _ => true
  | .azero _ => true
  | .ast _ _ => true
  | .capPass => true
  | .tskSub _ _ _ => true
  | .tskWait _ => true
  | .tskBstat _ => true
  | .tskBclr _ => true
  | .kvKvg _ _ _ _ _ _ => true
  | .kvKvgs _ _ _ _ _ => true
  | .kvKvs _ _ _ _ _ => true
  | .kvKvinv _ => true
  | .colSum _ _ _ _ _ => true
  | .colMax _ _ _ _ _ => true
  | .colMin _ _ _ _ _ => true
  | .colTri _ _ _ _ _ => true
  | .colBcast _ _ _ _ _ => true
  | .colGath _ _ _ _ _ => true
  | .colBar _ _ _ _ => true
  | .tret _ => true
  | .syscall _ _ => true
  | .csrr _ _ _ => true
  | .csrw _ _ _ => true
  | .csrs _ _ _ => true
  | .csrc _ _ _ => true
  | .egyRd _ => true
  | .egyReq _ _ => true
  | .pwrGate _ _ => true
  | .rsend _ => true
  | .rrecv _ _ => true
  | .lnch _ _ _ => true
  | .evtSig _ _ _ => true
  | .evtWait _ _ _ => true
  | .barCrew => true
  | .barGang => true
  | .qenq _ _ => true
  | .qdeq _ _ _ => true
  | .pcrd _ _ _ => true
  | .pcwr _ _ => true
  | .cvbrd _ _ _ => true
  | .cvbwr _ _ _ => true
  | .cvbTimeout _ _ => true
  | .lldTimeout _ _ => true
  | .watchdog _ _ => true
  | .trapEntry _ => true
  | .nestedTrapEntry _ => true
  | .taskStart _ _ => true
  | .taskComplete _ _ => true
  | .rangeOpComplete _ _ => true
  | .demoteEvictStatus _ _ => true
  | .latticeRound _ => true
  | .lxschedWrite _ _ => true
  | .smapMap _ _ => true
  | .smapUnmap _ _ => true
  | .smapWritebackDone _ _ => true
  | .shdwReserveRing8 _ => true
  | .shdwReserveRings78 _ => true
  | .shdwRelease _ => true
  | .spiralUncorrectableError _ => true
  | .powerAlarm => true
  | .energyWindow _ => true
  | .budgetWrite _ _ => true
  | .qctlWrite _ _ _ => true
  | .qtailWrite _ _ _ => true
  | .qownWrite _ _ _ => true
  | .eventCounterWrite _ _ _ => true
  | .launchBegin _ _ => true
  | .gangDispatch _ _ => true
  | .gangSteal _ _ => true
  | .crewFinish _ => true
  | .launchCompletion _ => true
  | .pcmdVacate _ _ => true
  | .pcmdReturn _ _ => true
  | .heldStop _ => true
  | .preemptSaveEntry _ => true
  | .phlimExpiry _ => true
  | .preemptRestoreEntry _ _ => true
  | .tinvcPage _ => true
  | .tinvcAll _ => true
  | .tinvcComplete _ => true
  | .flctlWrite _ _ => true
  | .coreGateOff _ => true
  | .corePowerRestored _ => true
  | .routerPowerDown _ => true
  | .routerWakeSignal _ => true
  | .routerPowerRestored _ => true
  | .groupRecordWrite _ _ _ _ => true
  | .jalefLinkChange _ _ _ => true
  | .hostPortLinkChange _ _ => true
  | .hostAccess _ _ _ _ _ _ => true
  | .peerAccess _ _ _ _ _ _ _ => true
  | .poolAdmit _ _ _ => true
  | .poolGrow _ _ _ => true
  | .poolRet _ _ _ => true
  | .guarWrite _ _ _ => true
  | .migWrite _ _ _ => true
  | .vfbindWrite _ _ => true
  | .vfportWrite _ _ => true
  | .reset => true
  | .bootctlGo => true
  | .firmwareCheckDone _ => true
  | .raiseFullService _ => true
  | .partitionCreate _ _ _ _ => true
  | .pbootGo _ _ => true
  | .stackFence _ => true
  | .securityAlarm _ _ => true
  | .registerWrite _ _ _ _ _ _ => true
  | .reservedInstructionWord _ _ _ => true
  | .writebackAccepted _ => true
  | .onlyCopyUncorrectableError _ _ => true
  | .partitionDestroy _ => true
  | .powerAlarmEnd => true
  | .peerCollectiveMessage _ _ _ _ => true

/-- Whether an instruction is one that a word of the spec encodes: every check of its operands passes, and it is not the
halfword 0x0000 (R131, R144). Device events carry no word and have no check. -/
def WellFormed (i : Instr) : Bool := (lowestSub i.checks).isNone && i.notZeroHalf

end Sys2Proof
end

