-- ==== Sys2Proof/Decode.lean ====
section
/-! DEFINITION. The decoder (R129 to R147): total on any bytes, refusing by name what is not an instruction, and the
encoder. A word is a number; a field is a quotient and a remainder of it. -/
namespace Sys2Proof

/-- Why a word is not an instruction: the cause and the sub-cause of R144. -/
structure Reject where
  cause : Nat
  sub : Nat
  deriving DecidableEq, Repr

/-- Bits [lo + k - 1 : lo] of a word. -/
def fieldNat (w lo k : Nat) : Nat := w / 2 ^ lo % 2 ^ k
/-- The same bits as an operand. -/
def field (w lo k : Nat) : BitVec k := BitVec.ofNat k (fieldNat w lo k)
/-- The major opcode, bits [6:1] (R132). -/
def major (w : Nat) : Nat := fieldNat w 1 6

/-- An instruction read from a word, with the places of the word that its form does not use: those that must be zero
(R133), and whether NW is reserved and set (R136). -/
structure Candidate where
  zero : List (Nat × Nat)
  nwReserved : Bool
  instr : Instr

/-- The conditions on the unused places of a word: sub-cause 7 for a nonzero one, 5 for NW (R144). -/
def Candidate.wordChecks (c : Candidate) (w : Nat) : List Check :=
  (7, c.zero.all fun p => fieldNat w p.1 p.2 == 0) :: (if c.nwReserved then [(5, fieldNat w 13 1 == 0)] else [])

/-- MAJ 0x00 (SALU), by its function in [31:28]. -/
noncomputable def pick00 (w : Nat) : Option Candidate :=
  match fieldNat w 28 4 with
  | 0 => some ⟨[], true, .saluAdd (field w 21 7) (field w 14 7) (field w 7 6)⟩
  | 1 => some ⟨[], true, .saluSub (field w 21 7) (field w 14 7) (field w 7 6)⟩
  | 2 => some ⟨[], true, .saluAnd (field w 21 7) (field w 14 7) (field w 7 6)⟩
  | 3 => some ⟨[], true, .saluOr (field w 21 7) (field w 14 7) (field w 7 6)⟩
  | 4 => some ⟨[], true, .saluXor (field w 21 7) (field w 14 7) (field w 7 6)⟩
  | 5 => some ⟨[], true, .saluShl (field w 21 7) (field w 14 7) (field w 7 6)⟩
  | 6 => some ⟨[], true, .saluShr (field w 21 7) (field w 14 7) (field w 7 6)⟩
  | 7 => some ⟨[], true, .saluSra (field w 21 7) (field w 14 7) (field w 7 6)⟩
  | 8 => some ⟨[], true, .saluMin (field w 21 7) (field w 14 7) (field w 7 6)⟩
  | 9 => some ⟨[], true, .saluMax (field w 21 7) (field w 14 7) (field w 7 6)⟩
  | 10 => some ⟨[], true, .saluMinn (field w 21 7) (field w 14 7) (field w 7 6)⟩
  | 11 => some ⟨[], true, .saluMaxn (field w 21 7) (field w 14 7) (field w 7 6)⟩
  | 12 => some ⟨[], true, .saluMul (field w 21 7) (field w 14 7) (field w 7 6)⟩
  | 13 => some ⟨[], true, .saluMulh (field w 21 7) (field w 14 7) (field w 7 6)⟩
  | 14 => some ⟨[], true, .saluDiv (field w 21 7) (field w 14 7) (field w 7 6)⟩
  | _ => some ⟨[], true, .saluRem (field w 21 7) (field w 14 7) (field w 7 6)⟩
/-- MAJ 0x01 (SADDI). -/
noncomputable def pick01 (w : Nat) : Option Candidate := some ⟨[], true, .saddi (field w 21 11) (field w 14 7) (field w 7 6)⟩
/-- MAJ 0x02 (SLOGI), by its function in [31:28]. -/
noncomputable def pick02 (w : Nat) : Option Candidate :=
  match fieldNat w 28 4 with
  | 0 => some ⟨[], true, .slogiAnd (field w 14 14) (field w 7 6)⟩
  | 1 => some ⟨[], true, .slogiOr (field w 14 14) (field w 7 6)⟩
  | 2 => some ⟨[], true, .slogiXor (field w 14 14) (field w 7 6)⟩
  | 3 => some ⟨[], true, .slogiShl (field w 14 14) (field w 7 6)⟩
  | 4 => some ⟨[], true, .slogiShr (field w 14 14) (field w 7 6)⟩
  | 5 => some ⟨[], true, .slogiSra (field w 14 14) (field w 7 6)⟩
  | 6 => some ⟨[], true, .slogiClr (field w 14 14) (field w 7 6)⟩
  | _ => none
/-- MAJ 0x03 (SLIH). -/
noncomputable def pick03 (w : Nat) : Option Candidate := some ⟨[], true, .slih (field w 14 18) (field w 7 6)⟩
/-- MAJ 0x04 (SMISC), by its function in [31:28]. -/
noncomputable def pick04 (w : Nat) : Option Candidate :=
  match fieldNat w 28 4 with
  | 0 => some ⟨[], true, .smiscDivn (field w 21 7) (field w 14 7) (field w 7 6)⟩
  | 1 => some ⟨[], true, .smiscRemn (field w 21 7) (field w 14 7) (field w 7 6)⟩
  | 2 => some ⟨[(21, 7)], true, .smiscClz (field w 14 7) (field w 7 6)⟩
  | 3 => some ⟨[(21, 7)], true, .smiscCtz (field w 14 7) (field w 7 6)⟩
  | 4 => some ⟨[(21, 7)], true, .smiscPopc (field w 14 7) (field w 7 6)⟩
  | 5 => some ⟨[(21, 7)], true, .smiscBrev (field w 14 7) (field w 7 6)⟩
  | 6 => some ⟨[(21, 7)], true, .smiscSext8 (field w 14 7) (field w 7 6)⟩
  | 7 => some ⟨[(21, 7)], true, .smiscSext16 (field w 14 7) (field w 7 6)⟩
  | 8 => some ⟨[], true, .smiscMulhn (field w 21 7) (field w 14 7) (field w 7 6)⟩
  | 9 => some ⟨[], true, .smiscRot (field w 21 7) (field w 14 7) (field w 7 6)⟩
  | 10 => some ⟨[], true, .smiscAdd64 (field w 21 7) (field w 14 7) (field w 7 6)⟩
  | 11 => some ⟨[], true, .smiscSub64 (field w 21 7) (field w 14 7) (field w 7 6)⟩
  | 12 => some ⟨[], true, .smiscMad (field w 21 7) (field w 14 7) (field w 7 6)⟩
  | 13 => some ⟨[], true, .smiscMad64 (field w 21 7) (field w 14 7) (field w 7 6)⟩
  | _ => none
/-- MAJ 0x05 (SCMP), by its function in [31:28]. -/
noncomputable def pick05 (w : Nat) : Option Candidate :=
  match fieldNat w 28 4 with
  | 0 => some ⟨[], true, .scmpEq (field w 21 7) (field w 14 7) (field w 7 6)⟩
  | 1 => some ⟨[], true, .scmpNe (field w 21 7) (field w 14 7) (field w 7 6)⟩
  | 2 => some ⟨[], true, .scmpLt (field w 21 7) (field w 14 7) (field w 7 6)⟩
  | 3 => some ⟨[], true, .scmpLe (field w 21 7) (field w 14 7) (field w 7 6)⟩
  | 4 => some ⟨[], true, .scmpLtn (field w 21 7) (field w 14 7) (field w 7 6)⟩
  | 5 => some ⟨[], true, .scmpLen (field w 21 7) (field w 14 7) (field w 7 6)⟩
  | _ => none
/-- MAJ 0x08 (VALU), by its function in [31:28]. -/
noncomputable def pick08 (w : Nat) : Option Candidate :=
  match fieldNat w 28 4 with
  | 0 => some ⟨[], false, .valuAdd (field w 21 7) (field w 14 7) (field w 13 1) (field w 7 6)⟩
  | 1 => some ⟨[], false, .valuSub (field w 21 7) (field w 14 7) (field w 13 1) (field w 7 6)⟩
  | 2 => some ⟨[], false, .valuAnd (field w 21 7) (field w 14 7) (field w 13 1) (field w 7 6)⟩
  | 3 => some ⟨[], false, .valuOr (field w 21 7) (field w 14 7) (field w 13 1) (field w 7 6)⟩
  | 4 => some ⟨[], false, .valuXor (field w 21 7) (field w 14 7) (field w 13 1) (field w 7 6)⟩
  | 5 => some ⟨[], false, .valuShl (field w 21 7) (field w 14 7) (field w 13 1) (field w 7 6)⟩
  | 6 => some ⟨[], false, .valuShr (field w 21 7) (field w 14 7) (field w 13 1) (field w 7 6)⟩
  | 7 => some ⟨[], false, .valuSra (field w 21 7) (field w 14 7) (field w 13 1) (field w 7 6)⟩
  | 8 => some ⟨[], false, .valuMin (field w 21 7) (field w 14 7) (field w 13 1) (field w 7 6)⟩
  | 9 => some ⟨[], false, .valuMax (field w 21 7) (field w 14 7) (field w 13 1) (field w 7 6)⟩
  | 10 => some ⟨[], false, .valuMinn (field w 21 7) (field w 14 7) (field w 13 1) (field w 7 6)⟩
  | 11 => some ⟨[], false, .valuMaxn (field w 21 7) (field w 14 7) (field w 13 1) (field w 7 6)⟩
  | 12 => some ⟨[], false, .valuMul (field w 21 7) (field w 14 7) (field w 13 1) (field w 7 6)⟩
  | 13 => some ⟨[], false, .valuMulh (field w 21 7) (field w 14 7) (field w 13 1) (field w 7 6)⟩
  | 14 => some ⟨[], false, .valuDiv (field w 21 7) (field w 14 7) (field w 13 1) (field w 7 6)⟩
  | _ => some ⟨[], false, .valuRem (field w 21 7) (field w 14 7) (field w 13 1) (field w 7 6)⟩
/-- MAJ 0x09 (VADDI). -/
noncomputable def pick09 (w : Nat) : Option Candidate := some ⟨[], false, .vaddi (field w 21 11) (field w 14 7) (field w 13 1) (field w 7 6)⟩
/-- MAJ 0x0A (VLOGI), by its function in [31:28]. -/
noncomputable def pick0A (w : Nat) : Option Candidate :=
  match fieldNat w 28 4 with
  | 0 => some ⟨[], false, .vlogiAnd (field w 14 14) (field w 13 1) (field w 7 6)⟩
  | 1 => some ⟨[], false, .vlogiOr (field w 14 14) (field w 13 1) (field w 7 6)⟩
  | 2 => some ⟨[], false, .vlogiXor (field w 14 14) (field w 13 1) (field w 7 6)⟩
  | 3 => some ⟨[], false, .vlogiShl (field w 14 14) (field w 13 1) (field w 7 6)⟩
  | 4 => some ⟨[], false, .vlogiShr (field w 14 14) (field w 13 1) (field w 7 6)⟩
  | 5 => some ⟨[], false, .vlogiSra (field w 14 14) (field w 13 1) (field w 7 6)⟩
  | 6 => some ⟨[], false, .vlogiClr (field w 14 14) (field w 13 1) (field w 7 6)⟩
  | _ => none
/-- MAJ 0x0B (VLIH). -/
noncomputable def pick0B (w : Nat) : Option Candidate := some ⟨[], false, .vlih (field w 14 18) (field w 13 1) (field w 7 6)⟩
/-- MAJ 0x0C (VMISC), by its function in [31:28]. -/
noncomputable def pick0C (w : Nat) : Option Candidate :=
  match fieldNat w 28 4 with
  | 0 => some ⟨[], false, .vmiscDivn (field w 21 7) (field w 14 7) (field w 13 1) (field w 7 6)⟩
  | 1 => some ⟨[], false, .vmiscRemn (field w 21 7) (field w 14 7) (field w 13 1) (field w 7 6)⟩
  | 2 => some ⟨[(21, 7)], false, .vmiscClz (field w 14 7) (field w 13 1) (field w 7 6)⟩
  | 3 => some ⟨[(21, 7)], false, .vmiscCtz (field w 14 7) (field w 13 1) (field w 7 6)⟩
  | 4 => some ⟨[(21, 7)], false, .vmiscPopc (field w 14 7) (field w 13 1) (field w 7 6)⟩
  | 5 => some ⟨[(21, 7)], false, .vmiscBrev (field w 14 7) (field w 13 1) (field w 7 6)⟩
  | 6 => some ⟨[(21, 7)], false, .vmiscSext8 (field w 14 7) (field w 13 1) (field w 7 6)⟩
  | 7 => some ⟨[(21, 7)], false, .vmiscSext16 (field w 14 7) (field w 13 1) (field w 7 6)⟩
  | 8 => some ⟨[], false, .vmiscMulhn (field w 21 7) (field w 14 7) (field w 13 1) (field w 7 6)⟩
  | 9 => some ⟨[], false, .vmiscRot (field w 21 7) (field w 14 7) (field w 13 1) (field w 7 6)⟩
  | 10 => some ⟨[], false, .vmiscAdd64 (field w 21 7) (field w 14 7) (field w 13 1) (field w 7 6)⟩
  | 11 => some ⟨[], false, .vmiscSub64 (field w 21 7) (field w 14 7) (field w 13 1) (field w 7 6)⟩
  | 12 => some ⟨[], false, .vmiscMad (field w 21 7) (field w 14 7) (field w 13 1) (field w 7 6)⟩
  | 13 => some ⟨[], false, .vmiscMad64 (field w 21 7) (field w 14 7) (field w 13 1) (field w 7 6)⟩
  | _ => none
/-- MAJ 0x0D (VCMP), by its function in [31:28]. -/
noncomputable def pick0D (w : Nat) : Option Candidate :=
  match fieldNat w 28 4 with
  | 0 => some ⟨[(10, 3)], true, .vcmpEq (field w 21 7) (field w 14 7) (field w 7 3)⟩
  | 1 => some ⟨[(10, 3)], true, .vcmpNe (field w 21 7) (field w 14 7) (field w 7 3)⟩
  | 2 => some ⟨[(10, 3)], true, .vcmpLt (field w 21 7) (field w 14 7) (field w 7 3)⟩
  | 3 => some ⟨[(10, 3)], true, .vcmpLe (field w 21 7) (field w 14 7) (field w 7 3)⟩
  | 4 => some ⟨[(10, 3)], true, .vcmpLtn (field w 21 7) (field w 14 7) (field w 7 3)⟩
  | 5 => some ⟨[(10, 3)], true, .vcmpLen (field w 21 7) (field w 14 7) (field w 7 3)⟩
  | 6 => some ⟨[(10, 3)], true, .vcmpEq64 (field w 21 7) (field w 14 7) (field w 7 3)⟩
  | 7 => some ⟨[(10, 3)], true, .vcmpLt64 (field w 21 7) (field w 14 7) (field w 7 3)⟩
  | 8 => some ⟨[(10, 3)], true, .vcmpLtn64 (field w 21 7) (field w 14 7) (field w 7 3)⟩
  | _ => none
/-- MAJ 0x0E (PRED), by its function in [31:28]. -/
noncomputable def pick0E (w : Nat) : Option Candidate :=
  match fieldNat w 28 4 with
  | 0 => some ⟨[(10, 3), (18, 3), (25, 3)], true, .predAnd (field w 21 4) (field w 14 4) (field w 7 3)⟩
  | 1 => some ⟨[(10, 3), (18, 3), (25, 3)], true, .predOr (field w 21 4) (field w 14 4) (field w 7 3)⟩
  | 2 => some ⟨[(10, 3), (18, 3), (25, 3)], true, .predXor (field w 21 4) (field w 14 4) (field w 7 3)⟩
  | 3 => some ⟨[(10, 3), (18, 3), (25, 3)], true, .predAndn (field w 21 4) (field w 14 4) (field w 7 3)⟩
  | 4 => some ⟨[(10, 3), (18, 10)], true, .predAny (field w 14 4) (field w 7 3)⟩
  | 5 => some ⟨[(10, 3), (18, 10)], true, .predAll (field w 14 4) (field w 7 3)⟩
  | 6 => some ⟨[(10, 3), (18, 10)], true, .predUni (field w 14 4) (field w 7 3)⟩
  | 7 => some ⟨[(18, 10)], false, .predBallot (field w 14 4) (field w 13 1) (field w 7 6)⟩
  | 8 => some ⟨[(14, 14)], false, .predTov (field w 13 1) (field w 7 6)⟩
  | 9 => some ⟨[(7, 6), (21, 7)], true, .predFromv (field w 14 7)⟩
  | _ => none
/-- MAJ 0x0F (XCH), by its function in [31:28]. -/
noncomputable def pick0F (w : Nat) : Option Candidate :=
  match fieldNat w 28 4 with
  | 0 => some ⟨[], false, .xchShfl (field w 21 7) (field w 14 7) (field w 13 1) (field w 7 6)⟩
  | 1 => some ⟨[], false, .xchShup (field w 21 7) (field w 14 7) (field w 13 1) (field w 7 6)⟩
  | 2 => some ⟨[], false, .xchShdn (field w 21 7) (field w 14 7) (field w 13 1) (field w 7 6)⟩
  | 3 => some ⟨[], false, .xchShxor (field w 21 7) (field w 14 7) (field w 13 1) (field w 7 6)⟩
  | 4 => some ⟨[(21, 7)], false, .xchBcast (field w 14 7) (field w 13 1) (field w 7 6)⟩
  | 5 => some ⟨[(21, 7)], false, .xchRadd (field w 14 7) (field w 13 1) (field w 7 6)⟩
  | 6 => some ⟨[(21, 7)], false, .xchRmin (field w 14 7) (field w 13 1) (field w 7 6)⟩
  | 7 => some ⟨[(21, 7)], false, .xchRmax (field w 14 7) (field w 13 1) (field w 7 6)⟩
  | 8 => some ⟨[(21, 7)], false, .xchRminn (field w 14 7) (field w 13 1) (field w 7 6)⟩
  | 9 => some ⟨[(21, 7)], false, .xchRmaxn (field w 14 7) (field w 13 1) (field w 7 6)⟩
  | 10 => some ⟨[(21, 7)], false, .xchRand (field w 14 7) (field w 13 1) (field w 7 6)⟩
  | 11 => some ⟨[(21, 7)], false, .xchRior (field w 14 7) (field w 13 1) (field w 7 6)⟩
  | 12 => some ⟨[(21, 7)], false, .xchRxor (field w 14 7) (field w 13 1) (field w 7 6)⟩
  | 13 => some ⟨[(21, 7)], false, .xchRfadd (field w 14 7) (field w 13 1) (field w 7 6)⟩
  | 14 => some ⟨[(21, 7)], false, .xchRfmin (field w 14 7) (field w 13 1) (field w 7 6)⟩
  | _ => some ⟨[(21, 7)], false, .xchRfmax (field w 14 7) (field w 13 1) (field w 7 6)⟩
/-- MAJ 0x10 (BR). -/
noncomputable def pick10 (w : Nat) : Option Candidate := some ⟨[], false, .br (field w 11 21) (field w 10 1) (field w 7 3)⟩
/-- MAJ 0x11 (CALL). -/
noncomputable def pick11 (w : Nat) : Option Candidate := some ⟨[(7, 4)], false, .call (field w 11 21)⟩
/-- MAJ 0x12 (JR), by its function in [31:28]. -/
noncomputable def pick12 (w : Nat) : Option Candidate :=
  match fieldNat w 28 4 with
  | 0 => some ⟨[(7, 6), (21, 7)], true, .jrJmp (field w 14 7)⟩
  | 1 => some ⟨[(21, 7)], true, .jrJcall (field w 14 7) (field w 7 6)⟩
  | 2 => some ⟨[(7, 6), (21, 7)], true, .jrRet (field w 14 7)⟩
  | _ => none
/-- MAJ 0x13 (CVB), by its function in [31:28]. -/
noncomputable def pick13 (w : Nat) : Option Candidate :=
  match fieldNat w 28 4 with
  | 0 => some ⟨[(11, 2), (14, 14)], true, .cvbArm (field w 7 4)⟩
  | 1 => some ⟨[(10, 3), (18, 3)], true, .cvbWait (field w 21 7) (field w 14 4) (field w 7 3)⟩
  | 2 => some ⟨[(9, 4)], true, .cvbDrop (field w 21 7) (field w 14 7) (field w 7 2)⟩
  | _ => none
/-- MAJ 0x14 (CTRL), by its function in [31:28]. -/
noncomputable def pick14 (w : Nat) : Option Candidate :=
  match fieldNat w 28 4 with
  | 0 => some ⟨[(7, 6), (14, 14)], true, .ctrlNop⟩
  | 1 => some ⟨[(7, 6), (14, 14)], true, .ctrlExit⟩
  | 2 => some ⟨[(7, 6), (14, 14)], true, .ctrlYield⟩
  | 3 => some ⟨[(7, 6)], true, .ctrlBrk (field w 21 7) (field w 14 7)⟩
  | 4 => some ⟨[(7, 6)], true, .ctrlTrap (field w 21 7) (field w 14 7)⟩
  | 5 => some ⟨[(14, 14)], true, .ctrlClk (field w 7 6)⟩
  | 6 => some ⟨[(7, 6), (18, 10)], true, .guard (field w 17 1) (field w 14 3)⟩
  | _ => none
/-- MAJ 0x18 (FALU), by its function in [31:28]. -/
noncomputable def pick18 (w : Nat) : Option Candidate :=
  match fieldNat w 28 4 with
  | 0 => some ⟨[], false, .faluAdd (field w 21 7) (field w 14 7) (field w 13 1) (field w 7 6)⟩
  | 1 => some ⟨[], false, .faluSub (field w 21 7) (field w 14 7) (field w 13 1) (field w 7 6)⟩
  | 2 => some ⟨[], false, .faluMul (field w 21 7) (field w 14 7) (field w 13 1) (field w 7 6)⟩
  | 3 => some ⟨[], false, .faluMin (field w 21 7) (field w 14 7) (field w 13 1) (field w 7 6)⟩
  | 4 => some ⟨[], false, .faluMax (field w 21 7) (field w 14 7) (field w 13 1) (field w 7 6)⟩
  | 5 => some ⟨[], false, .faluCpys (field w 21 7) (field w 14 7) (field w 13 1) (field w 7 6)⟩
  | 6 => some ⟨[(21, 7)], false, .faluAbs (field w 14 7) (field w 13 1) (field w 7 6)⟩
  | 7 => some ⟨[(21, 7)], false, .faluNeg (field w 14 7) (field w 13 1) (field w 7 6)⟩
  | 8 => some ⟨[], false, .faluAddFtz (field w 21 7) (field w 14 7) (field w 13 1) (field w 7 6)⟩
  | 9 => some ⟨[], false, .faluSubFtz (field w 21 7) (field w 14 7) (field w 13 1) (field w 7 6)⟩
  | 10 => some ⟨[], false, .faluMulFtz (field w 21 7) (field w 14 7) (field w 13 1) (field w 7 6)⟩
  | 11 => some ⟨[], false, .faluMinFtz (field w 21 7) (field w 14 7) (field w 13 1) (field w 7 6)⟩
  | 12 => some ⟨[], false, .faluMaxFtz (field w 21 7) (field w 14 7) (field w 13 1) (field w 7 6)⟩
  | _ => none
/-- MAJ 0x19 (FFMA), by its function in [31:28]. -/
noncomputable def pick19 (w : Nat) : Option Candidate :=
  match fieldNat w 28 4 with
  | 0 => some ⟨[], false, .ffmaFma (field w 21 7) (field w 14 7) (field w 13 1) (field w 7 6)⟩
  | 1 => some ⟨[], false, .ffmaFms (field w 21 7) (field w 14 7) (field w 13 1) (field w 7 6)⟩
  | 2 => some ⟨[], false, .ffmaFnma (field w 21 7) (field w 14 7) (field w 13 1) (field w 7 6)⟩
  | 3 => some ⟨[], false, .ffmaFnms (field w 21 7) (field w 14 7) (field w 13 1) (field w 7 6)⟩
  | 8 => some ⟨[], false, .ffmaFmaFtz (field w 21 7) (field w 14 7) (field w 13 1) (field w 7 6)⟩
  | 9 => some ⟨[], false, .ffmaFmsFtz (field w 21 7) (field w 14 7) (field w 13 1) (field w 7 6)⟩
  | 10 => some ⟨[], false, .ffmaFnmaFtz (field w 21 7) (field w 14 7) (field w 13 1) (field w 7 6)⟩
  | 11 => some ⟨[], false, .ffmaFnmsFtz (field w 21 7) (field w 14 7) (field w 13 1) (field w 7 6)⟩
  | _ => none
/-- MAJ 0x1A (FCMP), by its function in [31:28]. -/
noncomputable def pick1A (w : Nat) : Option Candidate :=
  match fieldNat w 28 4 with
  | 0 => some ⟨[(10, 3)], true, .fcmpEq (field w 21 7) (field w 14 7) (field w 7 3)⟩
  | 1 => some ⟨[(10, 3)], true, .fcmpNe (field w 21 7) (field w 14 7) (field w 7 3)⟩
  | 2 => some ⟨[(10, 3)], true, .fcmpLt (field w 21 7) (field w 14 7) (field w 7 3)⟩
  | 3 => some ⟨[(10, 3)], true, .fcmpLe (field w 21 7) (field w 14 7) (field w 7 3)⟩
  | 4 => some ⟨[(10, 3)], true, .fcmpUn (field w 21 7) (field w 14 7) (field w 7 3)⟩
  | 8 => some ⟨[(10, 3)], true, .fcmpDeq (field w 21 7) (field w 14 7) (field w 7 3)⟩
  | 9 => some ⟨[(10, 3)], true, .fcmpDne (field w 21 7) (field w 14 7) (field w 7 3)⟩
  | 10 => some ⟨[(10, 3)], true, .fcmpDlt (field w 21 7) (field w 14 7) (field w 7 3)⟩
  | 11 => some ⟨[(10, 3)], true, .fcmpDle (field w 21 7) (field w 14 7) (field w 7 3)⟩
  | 12 => some ⟨[(10, 3)], true, .fcmpDun (field w 21 7) (field w 14 7) (field w 7 3)⟩
  | _ => none
/-- MAJ 0x1B (FSPEC), by its function in [31:28]. -/
noncomputable def pick1B (w : Nat) : Option Candidate :=
  match fieldNat w 28 4 with
  | 0 => some ⟨[(21, 7)], false, .fspecRcp (field w 14 7) (field w 13 1) (field w 7 6)⟩
  | 1 => some ⟨[(21, 7)], false, .fspecRsqrt (field w 14 7) (field w 13 1) (field w 7 6)⟩
  | 2 => some ⟨[(21, 7)], false, .fspecSqrt (field w 14 7) (field w 13 1) (field w 7 6)⟩
  | 3 => some ⟨[(21, 7)], false, .fspecExp2 (field w 14 7) (field w 13 1) (field w 7 6)⟩
  | 4 => some ⟨[(21, 7)], false, .fspecLog2 (field w 14 7) (field w 13 1) (field w 7 6)⟩
  | 5 => some ⟨[(21, 7)], false, .fspecSin (field w 14 7) (field w 13 1) (field w 7 6)⟩
  | 6 => some ⟨[(21, 7)], false, .fspecCos (field w 14 7) (field w 13 1) (field w 7 6)⟩
  | 7 => some ⟨[(21, 7)], false, .fspecTanh (field w 14 7) (field w 13 1) (field w 7 6)⟩
  | 8 => some ⟨[], false, .fspecDiv (field w 21 7) (field w 14 7) (field w 13 1) (field w 7 6)⟩
  | _ => none
/-- MAJ 0x1C (DALU), by its function in [31:28]. -/
noncomputable def pick1C (w : Nat) : Option Candidate :=
  match fieldNat w 28 4 with
  | 0 => some ⟨[], false, .daluAdd (field w 21 7) (field w 14 7) (field w 13 1) (field w 7 6)⟩
  | 1 => some ⟨[], false, .daluSub (field w 21 7) (field w 14 7) (field w 13 1) (field w 7 6)⟩
  | 2 => some ⟨[], false, .daluMul (field w 21 7) (field w 14 7) (field w 13 1) (field w 7 6)⟩
  | 3 => some ⟨[], false, .daluMin (field w 21 7) (field w 14 7) (field w 13 1) (field w 7 6)⟩
  | 4 => some ⟨[], false, .daluMax (field w 21 7) (field w 14 7) (field w 13 1) (field w 7 6)⟩
  | 5 => some ⟨[], false, .daluDiv (field w 21 7) (field w 14 7) (field w 13 1) (field w 7 6)⟩
  | 6 => some ⟨[(21, 7)], false, .daluSqrt (field w 14 7) (field w 13 1) (field w 7 6)⟩
  | 8 => some ⟨[], false, .daluAddFtz (field w 21 7) (field w 14 7) (field w 13 1) (field w 7 6)⟩
  | 9 => some ⟨[], false, .daluSubFtz (field w 21 7) (field w 14 7) (field w 13 1) (field w 7 6)⟩
  | 10 => some ⟨[], false, .daluMulFtz (field w 21 7) (field w 14 7) (field w 13 1) (field w 7 6)⟩
  | 11 => some ⟨[], false, .daluMinFtz (field w 21 7) (field w 14 7) (field w 13 1) (field w 7 6)⟩
  | 12 => some ⟨[], false, .daluMaxFtz (field w 21 7) (field w 14 7) (field w 13 1) (field w 7 6)⟩
  | 13 => some ⟨[], false, .daluDivFtz (field w 21 7) (field w 14 7) (field w 13 1) (field w 7 6)⟩
  | 14 => some ⟨[(21, 7)], false, .daluSqrtFtz (field w 14 7) (field w 13 1) (field w 7 6)⟩
  | _ => none
/-- MAJ 0x1D (DFMA), by its function in [31:28]. -/
noncomputable def pick1D (w : Nat) : Option Candidate :=
  match fieldNat w 28 4 with
  | 0 => some ⟨[], false, .dfmaFma (field w 21 7) (field w 14 7) (field w 13 1) (field w 7 6)⟩
  | 1 => some ⟨[], false, .dfmaFms (field w 21 7) (field w 14 7) (field w 13 1) (field w 7 6)⟩
  | 2 => some ⟨[], false, .dfmaFnma (field w 21 7) (field w 14 7) (field w 13 1) (field w 7 6)⟩
  | 3 => some ⟨[], false, .dfmaFnms (field w 21 7) (field w 14 7) (field w 13 1) (field w 7 6)⟩
  | 8 => some ⟨[], false, .dfmaFmaFtz (field w 21 7) (field w 14 7) (field w 13 1) (field w 7 6)⟩
  | 9 => some ⟨[], false, .dfmaFmsFtz (field w 21 7) (field w 14 7) (field w 13 1) (field w 7 6)⟩
  | 10 => some ⟨[], false, .dfmaFnmaFtz (field w 21 7) (field w 14 7) (field w 13 1) (field w 7 6)⟩
  | 11 => some ⟨[], false, .dfmaFnmsFtz (field w 21 7) (field w 14 7) (field w 13 1) (field w 7 6)⟩
  | _ => none
/-- MAJ 0x1E (FCVT), by its function in [31:28]. -/
noncomputable def pick1E (w : Nat) : Option Candidate :=
  match fieldNat w 28 4 with
  | 0 => some ⟨[(23, 5)], false, .fcvtF32F64 (field w 21 2) (field w 14 7) (field w 13 1) (field w 7 6)⟩
  | 1 => some ⟨[(21, 7)], false, .fcvtF64F32 (field w 14 7) (field w 13 1) (field w 7 6)⟩
  | 2 => some ⟨[(23, 5)], false, .fcvtF16F32 (field w 21 2) (field w 14 7) (field w 13 1) (field w 7 6)⟩
  | 3 => some ⟨[(21, 7)], false, .fcvtF32F16 (field w 14 7) (field w 13 1) (field w 7 6)⟩
  | 4 => some ⟨[(23, 5)], false, .fcvtBf16F32 (field w 21 2) (field w 14 7) (field w 13 1) (field w 7 6)⟩
  | 5 => some ⟨[(21, 7)], false, .fcvtF32Bf16 (field w 14 7) (field w 13 1) (field w 7 6)⟩
  | 6 => some ⟨[(23, 5)], false, .fcvtS32F32 (field w 21 2) (field w 14 7) (field w 13 1) (field w 7 6)⟩
  | 7 => some ⟨[(23, 5)], false, .fcvtN32F32 (field w 21 2) (field w 14 7) (field w 13 1) (field w 7 6)⟩
  | 8 => some ⟨[(23, 5)], false, .fcvtF32S32 (field w 21 2) (field w 14 7) (field w 13 1) (field w 7 6)⟩
  | 9 => some ⟨[(23, 5)], false, .fcvtF32N32 (field w 21 2) (field w 14 7) (field w 13 1) (field w 7 6)⟩
  | 10 => some ⟨[(23, 5)], false, .fcvtS64F64 (field w 21 2) (field w 14 7) (field w 13 1) (field w 7 6)⟩
  | 11 => some ⟨[(23, 5)], false, .fcvtF64S64 (field w 21 2) (field w 14 7) (field w 13 1) (field w 7 6)⟩
  | 12 => some ⟨[(23, 5)], false, .fcvtS32F64 (field w 21 2) (field w 14 7) (field w 13 1) (field w 7 6)⟩
  | 13 => some ⟨[(21, 7)], false, .fcvtF64S32 (field w 14 7) (field w 13 1) (field w 7 6)⟩
  | 14 => some ⟨[(23, 5)], false, .fcvtN64F64 (field w 21 2) (field w 14 7) (field w 13 1) (field w 7 6)⟩
  | _ => some ⟨[(23, 5)], false, .fcvtF64N64 (field w 21 2) (field w 14 7) (field w 13 1) (field w 7 6)⟩
/-- MAJ 0x1F (FRND), by its function in [31:28]. -/
noncomputable def pick1F (w : Nat) : Option Candidate :=
  match fieldNat w 28 4 with
  | 0 => some ⟨[(23, 5)], false, .frndRnd (field w 21 2) (field w 14 7) (field w 13 1) (field w 7 6)⟩
  | 1 => some ⟨[(21, 7)], false, .frndCls (field w 14 7) (field w 13 1) (field w 7 6)⟩
  | 2 => some ⟨[(21, 7)], false, .frndFrexpm (field w 14 7) (field w 13 1) (field w 7 6)⟩
  | 3 => some ⟨[(21, 7)], false, .frndFrexpe (field w 14 7) (field w 13 1) (field w 7 6)⟩
  | 4 => some ⟨[], false, .frndLdexp (field w 21 7) (field w 14 7) (field w 13 1) (field w 7 6)⟩
  | 8 => some ⟨[(23, 5)], false, .frndRndF64 (field w 21 2) (field w 14 7) (field w 13 1) (field w 7 6)⟩
  | 9 => some ⟨[(21, 7)], false, .frndClsF64 (field w 14 7) (field w 13 1) (field w 7 6)⟩
  | 10 => some ⟨[(21, 7)], false, .frndFrexpmF64 (field w 14 7) (field w 13 1) (field w 7 6)⟩
  | 11 => some ⟨[(21, 7)], false, .frndFrexpeF64 (field w 14 7) (field w 13 1) (field w 7 6)⟩
  | 12 => some ⟨[], false, .frndLdexpF64 (field w 21 7) (field w 14 7) (field w 13 1) (field w 7 6)⟩
  | _ => none
/-- MAJ 0x20 (HALU2), by its function in [31:28]. -/
noncomputable def pick20 (w : Nat) : Option Candidate :=
  match fieldNat w 28 4 with
  | 0 => some ⟨[], false, .halu2Bf16Add (field w 21 7) (field w 14 7) (field w 13 1) (field w 7 6)⟩
  | 1 => some ⟨[], false, .halu2Bf16Sub (field w 21 7) (field w 14 7) (field w 13 1) (field w 7 6)⟩
  | 2 => some ⟨[], false, .halu2Bf16Mul (field w 21 7) (field w 14 7) (field w 13 1) (field w 7 6)⟩
  | 3 => some ⟨[], false, .halu2Bf16Fma (field w 21 7) (field w 14 7) (field w 13 1) (field w 7 6)⟩
  | 4 => some ⟨[], false, .halu2Bf16Min (field w 21 7) (field w 14 7) (field w 13 1) (field w 7 6)⟩
  | 5 => some ⟨[], false, .halu2Bf16Max (field w 21 7) (field w 14 7) (field w 13 1) (field w 7 6)⟩
  | 6 => some ⟨[], false, .halu2Bf16Pack (field w 21 7) (field w 14 7) (field w 13 1) (field w 7 6)⟩
  | 8 => some ⟨[], false, .halu2F16Add (field w 21 7) (field w 14 7) (field w 13 1) (field w 7 6)⟩
  | 9 => some ⟨[], false, .halu2F16Sub (field w 21 7) (field w 14 7) (field w 13 1) (field w 7 6)⟩
  | 10 => some ⟨[], false, .halu2F16Mul (field w 21 7) (field w 14 7) (field w 13 1) (field w 7 6)⟩
  | 11 => some ⟨[], false, .halu2F16Fma (field w 21 7) (field w 14 7) (field w 13 1) (field w 7 6)⟩
  | 12 => some ⟨[], false, .halu2F16Min (field w 21 7) (field w 14 7) (field w 13 1) (field w 7 6)⟩
  | 13 => some ⟨[], false, .halu2F16Max (field w 21 7) (field w 14 7) (field w 13 1) (field w 7 6)⟩
  | 14 => some ⟨[], false, .halu2F16Pack (field w 21 7) (field w 14 7) (field w 13 1) (field w 7 6)⟩
  | _ => none
/-- MAJ 0x21 (QCVT), by its function in [30:28]. -/
noncomputable def pick21 (w : Nat) : Option Candidate :=
  match fieldNat w 28 3 with
  | 0 => some ⟨[(20, 1)], false, .qcvtE4m3n (field w 31 1) (field w 21 7) (field w 16 4) (field w 14 2) (field w 13 1) (field w 7 6)⟩
  | 1 => some ⟨[(20, 1)], false, .qcvtE5m2n (field w 31 1) (field w 21 7) (field w 16 4) (field w 14 2) (field w 13 1) (field w 7 6)⟩
  | 2 => some ⟨[(20, 1)], false, .qcvtDm8 (field w 31 1) (field w 21 7) (field w 16 4) (field w 14 2) (field w 13 1) (field w 7 6)⟩
  | _ => none
/-- MAJ 0x22 (QDEC), by its function in [31:28]. -/
noncomputable def pick22 (w : Nat) : Option Candidate :=
  match fieldNat w 28 4 with
  | 0 => some ⟨[], false, .qdecE4m3nF32 (field w 21 7) (field w 14 7) (field w 13 1) (field w 7 6)⟩
  | 1 => some ⟨[], false, .qdecE5m2nF32 (field w 21 7) (field w 14 7) (field w 13 1) (field w 7 6)⟩
  | 2 => some ⟨[], false, .qdecDm8F32 (field w 21 7) (field w 14 7) (field w 13 1) (field w 7 6)⟩
  | 4 => some ⟨[], false, .qdecE4m3nBf16 (field w 21 7) (field w 14 7) (field w 13 1) (field w 7 6)⟩
  | 5 => some ⟨[], false, .qdecE5m2nBf16 (field w 21 7) (field w 14 7) (field w 13 1) (field w 7 6)⟩
  | 6 => some ⟨[], false, .qdecDm8Bf16 (field w 21 7) (field w 14 7) (field w 13 1) (field w 7 6)⟩
  | 8 => some ⟨[], false, .qdecE4m3nF16 (field w 21 7) (field w 14 7) (field w 13 1) (field w 7 6)⟩
  | 9 => some ⟨[], false, .qdecE5m2nF16 (field w 21 7) (field w 14 7) (field w 13 1) (field w 7 6)⟩
  | 10 => some ⟨[], false, .qdecDm8F16 (field w 21 7) (field w 14 7) (field w 13 1) (field w 7 6)⟩
  | _ => none
/-- MAJ 0x23 (CMPR), by its function in [31:28]. -/
noncomputable def pick23 (w : Nat) : Option Candidate :=
  match fieldNat w 28 4 with
  | 0 => some ⟨[(22, 6)], false, .cmprComp16 (field w 21 1) (field w 14 7) (field w 13 1) (field w 7 6)⟩
  | 1 => some ⟨[(21, 7)], false, .cmprComp8 (field w 14 7) (field w 13 1) (field w 7 6)⟩
  | 2 => some ⟨[], false, .cmprExp16 (field w 21 7) (field w 14 7) (field w 13 1) (field w 7 6)⟩
  | 3 => some ⟨[], false, .cmprExp8 (field w 21 7) (field w 14 7) (field w 13 1) (field w 7 6)⟩
  | 4 => some ⟨[(22, 6)], false, .cmprMeta16 (field w 21 1) (field w 14 7) (field w 13 1) (field w 7 6)⟩
  | 5 => some ⟨[(21, 7)], false, .cmprMeta8 (field w 14 7) (field w 13 1) (field w 7 6)⟩
  | _ => none
/-- MAJ 0x24 (GEO), by its function in [30:28]. -/
noncomputable def pick24 (w : Nat) : Option Candidate :=
  if fieldNat w 28 4 = 12 then none else
  match fieldNat w 28 3 with
  | 0 => some ⟨[], false, .geoOrient2 (field w 31 1) (field w 21 7) (field w 20 1) (field w 14 6) (field w 13 1) (field w 7 6)⟩
  | 1 => some ⟨[], false, .geoOrient3 (field w 31 1) (field w 21 7) (field w 20 1) (field w 14 6) (field w 13 1) (field w 7 6)⟩
  | 2 => some ⟨[], false, .geoIncircle (field w 31 1) (field w 21 7) (field w 20 1) (field w 14 6) (field w 13 1) (field w 7 6)⟩
  | 3 => some ⟨[], false, .geoInsphere (field w 31 1) (field w 21 7) (field w 20 1) (field w 14 6) (field w 13 1) (field w 7 6)⟩
  | 4 => some ⟨[(21, 7)], false, .geoSegx (field w 20 1) (field w 14 6) (field w 13 1) (field w 7 6)⟩
  | _ => none
/-- MAJ 0x26 (LD). -/
noncomputable def pick26 (w : Nat) : Option Candidate := some ⟨[], true, .ld (field w 29 3) (field w 24 5) (field w 21 3) (field w 14 7) (field w 7 6)⟩
/-- MAJ 0x27 (ST). -/
noncomputable def pick27 (w : Nat) : Option Candidate := some ⟨[], true, .st (field w 29 3) (field w 24 5) (field w 21 3) (field w 14 7) (field w 7 6)⟩
/-- MAJ 0x28 (LDO32). -/
noncomputable def pick28 (w : Nat) : Option Candidate := some ⟨[], true, .ldo32 (field w 21 11) (field w 14 7) (field w 7 6)⟩
/-- MAJ 0x29 (LDO64). -/
noncomputable def pick29 (w : Nat) : Option Candidate := some ⟨[], true, .ldo64 (field w 21 11) (field w 14 7) (field w 7 6)⟩
/-- MAJ 0x2A (STO32). -/
noncomputable def pick2A (w : Nat) : Option Candidate := some ⟨[], true, .sto32 (field w 21 11) (field w 14 7) (field w 7 6)⟩
/-- MAJ 0x2B (STO64). -/
noncomputable def pick2B (w : Nat) : Option Candidate := some ⟨[], true, .sto64 (field w 21 11) (field w 14 7) (field w 7 6)⟩
/-- MAJ 0x2C (LDAQ). -/
noncomputable def pick2C (w : Nat) : Option Candidate := some ⟨[], true, .ldaq (field w 29 2) (field w 24 5) (field w 21 3) (field w 14 7) (field w 7 6)⟩
/-- MAJ 0x2D (STRL). -/
noncomputable def pick2D (w : Nat) : Option Candidate := some ⟨[], true, .strl (field w 29 2) (field w 24 5) (field w 21 3) (field w 14 7) (field w 7 6)⟩
/-- MAJ 0x2E (AMO32), by its function in [31:29]. -/
noncomputable def pick2E (w : Nat) : Option Candidate :=
  match fieldNat w 29 3 with
  | 0 => some ⟨[], true, .amo32Add (field w 24 5) (field w 21 3) (field w 14 7) (field w 7 6)⟩
  | 1 => some ⟨[], true, .amo32And (field w 24 5) (field w 21 3) (field w 14 7) (field w 7 6)⟩
  | 2 => some ⟨[], true, .amo32Or (field w 24 5) (field w 21 3) (field w 14 7) (field w 7 6)⟩
  | 3 => some ⟨[], true, .amo32Xor (field w 24 5) (field w 21 3) (field w 14 7) (field w 7 6)⟩
  | 4 => some ⟨[], true, .amo32Min (field w 24 5) (field w 21 3) (field w 14 7) (field w 7 6)⟩
  | 5 => some ⟨[], true, .amo32Max (field w 24 5) (field w 21 3) (field w 14 7) (field w 7 6)⟩
  | 6 => some ⟨[], true, .amo32Minn (field w 24 5) (field w 21 3) (field w 14 7) (field w 7 6)⟩
  | _ => some ⟨[], true, .amo32Maxn (field w 24 5) (field w 21 3) (field w 14 7) (field w 7 6)⟩
/-- MAJ 0x2F (AMOX), by its function in [31:29]. -/
noncomputable def pick2F (w : Nat) : Option Candidate :=
  match fieldNat w 29 3 with
  | 0 => some ⟨[], true, .amoxXchg (field w 24 5) (field w 21 3) (field w 14 7) (field w 7 6)⟩
  | 1 => some ⟨[], true, .amoxXchg64 (field w 24 5) (field w 21 3) (field w 14 7) (field w 7 6)⟩
  | 2 => some ⟨[], true, .amoxCas (field w 24 5) (field w 21 3) (field w 14 7) (field w 7 6)⟩
  | 3 => some ⟨[], true, .amoxCas64 (field w 24 5) (field w 21 3) (field w 14 7) (field w 7 6)⟩
  | 4 => some ⟨[], true, .amoxFadd (field w 24 5) (field w 21 3) (field w 14 7) (field w 7 6)⟩
  | 5 => some ⟨[], true, .amoxAdd64 (field w 24 5) (field w 21 3) (field w 14 7) (field w 7 6)⟩
  | _ => none
/-- MAJ 0x30 (LST), by its function in [31:28]. -/
noncomputable def pick30 (w : Nat) : Option Candidate :=
  match fieldNat w 28 4 with
  | 0 => some ⟨[], true, .lst (field w 21 7) (field w 14 7) (field w 7 6)⟩
  | 1 => some ⟨[], true, .lld (field w 21 7) (field w 14 7) (field w 7 6)⟩
  | 2 => some ⟨[], true, .lpoll (field w 21 7) (field w 14 7) (field w 7 6)⟩
  | _ => none
/-- MAJ 0x31 (FENCE), by its function in [31:28]. -/
noncomputable def pick31 (w : Nat) : Option Candidate :=
  match fieldNat w 28 4 with
  | 0 => some ⟨[(12, 1), (14, 14)], true, .fence (field w 7 5)⟩
  | 1 => some ⟨[(12, 1)], true, .cwb (field w 21 7) (field w 14 7) (field w 7 5)⟩
  | 2 => some ⟨[(7, 6)], true, .cinv (field w 21 7) (field w 14 7)⟩
  | 3 => some ⟨[(7, 6)], true, .discard (field w 21 7) (field w 14 7)⟩
  | 4 => some ⟨[(12, 1), (21, 7)], true, .zline (field w 14 7) (field w 7 5)⟩
  | _ => none
/-- MAJ 0x32 (PIN), by its function in [31:28]. -/
noncomputable def pick32 (w : Nat) : Option Candidate :=
  match fieldNat w 28 4 with
  | 0 => some ⟨[], false, .pin (field w 21 7) (field w 14 7) (field w 13 1) (field w 7 6)⟩
  | 1 => some ⟨[(21, 7)], false, .unpin (field w 14 7) (field w 13 1) (field w 7 6)⟩
  | 2 => some ⟨[(21, 7)], false, .dist (field w 14 7) (field w 13 1) (field w 7 6)⟩
  | 3 => some ⟨[], false, .touch (field w 21 7) (field w 14 7) (field w 13 1) (field w 7 6)⟩
  | 4 => some ⟨[(21, 7)], true, .demote (field w 14 7) (field w 7 6)⟩
  | 5 => some ⟨[(21, 7)], true, .evict (field w 14 7) (field w 7 6)⟩
  | 6 => some ⟨[], true, .rhset (field w 21 7) (field w 14 7) (field w 7 6)⟩
  | _ => none
/-- MAJ 0x33 (SPAD), by its function in [31:28]. -/
noncomputable def pick33 (w : Nat) : Option Candidate :=
  match fieldNat w 28 4 with
  | 0 => some ⟨[], true, .spadLd32 (field w 21 7) (field w 14 7) (field w 7 6)⟩
  | 1 => some ⟨[], true, .spadLd64 (field w 21 7) (field w 14 7) (field w 7 6)⟩
  | 2 => some ⟨[], true, .spadLd128 (field w 21 7) (field w 14 7) (field w 7 6)⟩
  | 3 => some ⟨[], true, .spadSt32 (field w 21 7) (field w 14 7) (field w 7 6)⟩
  | 4 => some ⟨[], true, .spadSt64 (field w 21 7) (field w 14 7) (field w 7 6)⟩
  | 5 => some ⟨[], true, .spadSt128 (field w 21 7) (field w 14 7) (field w 7 6)⟩
  | _ => none
/-- MAJ 0x34 (CPY), by its function in [31:29]. -/
noncomputable def pick34 (w : Nat) : Option Candidate :=
  match fieldNat w 29 3 with
  | 0 => some ⟨[], false, .cpyG2b (field w 28 1) (field w 27 1) (field w 21 6) (field w 17 4) (field w 12 5) (field w 7 5)⟩
  | 1 => some ⟨[(17, 4)], false, .cpyG2s (field w 28 1) (field w 27 1) (field w 21 6) (field w 12 5) (field w 7 5)⟩
  | 2 => some ⟨[(17, 4)], false, .cpyS2g (field w 28 1) (field w 27 1) (field w 21 6) (field w 12 5) (field w 7 5)⟩
  | 3 => some ⟨[(17, 4)], false, .cpyG2g (field w 28 1) (field w 27 1) (field w 21 6) (field w 12 5) (field w 7 5)⟩
  | 4 => some ⟨[], false, .cpyS2b (field w 28 1) (field w 27 1) (field w 21 6) (field w 17 4) (field w 12 5) (field w 7 5)⟩
  | 5 => some ⟨[(17, 4)], false, .cpyS2s (field w 28 1) (field w 27 1) (field w 21 6) (field w 12 5) (field w 7 5)⟩
  | _ => none
/-- MAJ 0x35 (SEAL), by its function in [31:28]. -/
noncomputable def pick35 (w : Nat) : Option Candidate :=
  match fieldNat w 28 4 with
  | 0 => some ⟨[(14, 14)], true, .seal (field w 7 6)⟩
  | 1 => some ⟨[(7, 6), (21, 7)], true, .waitn (field w 14 7)⟩
  | _ => none
/-- MAJ 0x36 (TDSET), by its function in [31:28]. -/
noncomputable def pick36 (w : Nat) : Option Candidate :=
  match fieldNat w 28 4 with
  | 0 => some ⟨[(21, 7)], true, .tdset (field w 14 7) (field w 7 6)⟩
  | 1 => some ⟨[(20, 1), (25, 3)], true, .tdget (field w 21 4) (field w 14 6) (field w 7 6)⟩
  | _ => none
/-- MAJ 0x37 (MMA), by its function in [22:22]. -/
noncomputable def pick37 (w : Nat) : Option Candidate :=
  if fieldNat w 25 1 = 1 then none else
  match fieldNat w 22 1 with
  | 0 => some ⟨[(26, 6)], false, .mma (field w 24 1) (field w 23 1) (field w 17 5) (field w 12 5) (field w 11 1) (field w 10 1) (field w 7 3)⟩
  | _ => some ⟨[(26, 6)], false, .mmaz (field w 24 1) (field w 23 1) (field w 17 5) (field w 12 5) (field w 11 1) (field w 10 1) (field w 7 3)⟩
/-- MAJ 0x38 (ACQ), by its function in [31:28]. -/
noncomputable def pick38 (w : Nat) : Option Candidate :=
  match fieldNat w 28 4 with
  | 0 => some ⟨[(10, 3), (14, 14)], true, .acq (field w 7 3)⟩
  | 1 => some ⟨[(10, 3), (14, 14)], true, .rel (field w 7 3)⟩
  | 2 => some ⟨[(10, 3), (21, 7)], true, .amov (field w 14 7) (field w 7 3)⟩
  | 3 => some ⟨[(10, 3), (14, 14)], true, .azero (field w 7 3)⟩
  | 4 => some ⟨[(10, 3), (21, 7)], true, .ast (field w 14 7) (field w 7 3)⟩
  | 5 => some ⟨[(7, 6), (14, 14)], true, .capPass⟩
  | _ => none
/-- MAJ 0x39 (TSK), by its function in [31:29]. -/
noncomputable def pick39 (w : Nat) : Option Candidate :=
  match fieldNat w 29 3 with
  | 0 => some ⟨[(21, 8)], false, .tskSub (field w 17 4) (field w 12 5) (field w 7 5)⟩
  | 1 => some ⟨[(12, 17)], false, .tskWait (field w 7 5)⟩
  | 2 => some ⟨[(12, 17)], false, .tskBstat (field w 7 5)⟩
  | 3 => some ⟨[(7, 10), (21, 8)], false, .tskBclr (field w 17 4)⟩
  | _ => none
/-- MAJ 0x3A (KV), by its function in [31:29]. -/
noncomputable def pick3A (w : Nat) : Option Candidate :=
  match fieldNat w 29 3 with
  | 0 => some ⟨[], false, .kvKvg (field w 28 1) (field w 27 1) (field w 21 6) (field w 17 4) (field w 12 5) (field w 7 5)⟩
  | 1 => some ⟨[(17, 4)], false, .kvKvgs (field w 28 1) (field w 27 1) (field w 21 6) (field w 12 5) (field w 7 5)⟩
  | 2 => some ⟨[(17, 4)], false, .kvKvs (field w 28 1) (field w 27 1) (field w 21 6) (field w 12 5) (field w 7 5)⟩
  | 3 => some ⟨[(7, 5), (17, 12)], false, .kvKvinv (field w 12 5)⟩
  | _ => none
/-- MAJ 0x3B (COL), by its function in [31:29]. -/
noncomputable def pick3B (w : Nat) : Option Candidate :=
  match fieldNat w 29 3 with
  | 0 => some ⟨[(17, 4)], false, .colSum (field w 28 1) (field w 27 1) (field w 21 6) (field w 12 5) (field w 7 5)⟩
  | 1 => some ⟨[(17, 4)], false, .colMax (field w 28 1) (field w 27 1) (field w 21 6) (field w 12 5) (field w 7 5)⟩
  | 2 => some ⟨[(17, 4)], false, .colMin (field w 28 1) (field w 27 1) (field w 21 6) (field w 12 5) (field w 7 5)⟩
  | 3 => some ⟨[(17, 4)], false, .colTri (field w 28 1) (field w 27 1) (field w 21 6) (field w 12 5) (field w 7 5)⟩
  | 4 => some ⟨[(17, 4)], false, .colBcast (field w 28 1) (field w 27 1) (field w 21 6) (field w 12 5) (field w 7 5)⟩
  | 5 => some ⟨[(17, 4)], false, .colGath (field w 28 1) (field w 27 1) (field w 21 6) (field w 12 5) (field w 7 5)⟩
  | 6 => some ⟨[(17, 10)], false, .colBar (field w 28 1) (field w 27 1) (field w 12 5) (field w 7 5)⟩
  | _ => none
/-- MAJ 0x3C (TRET), by its function in [31:28]. -/
noncomputable def pick3C (w : Nat) : Option Candidate :=
  match fieldNat w 28 4 with
  | 0 => some ⟨[(7, 6), (21, 7)], true, .tret (field w 14 7)⟩
  | 1 => some ⟨[(7, 6)], true, .syscall (field w 21 7) (field w 14 7)⟩
  | 2 => some ⟨[(26, 2)], true, .csrr (field w 21 5) (field w 14 7) (field w 7 6)⟩
  | 3 => some ⟨[(12, 1)], true, .csrw (field w 21 7) (field w 14 7) (field w 7 5)⟩
  | 4 => some ⟨[(12, 1)], true, .csrs (field w 21 7) (field w 14 7) (field w 7 5)⟩
  | 5 => some ⟨[(12, 1)], true, .csrc (field w 21 7) (field w 14 7) (field w 7 5)⟩
  | 6 => some ⟨[(14, 14)], true, .egyRd (field w 7 6)⟩
  | 7 => some ⟨[(21, 7)], true, .egyReq (field w 14 7) (field w 7 6)⟩
  | 8 => some ⟨[(21, 7)], true, .pwrGate (field w 14 7) (field w 7 6)⟩
  | _ => none
/-- MAJ 0x3D (RSEND), by its function in [31:28]. -/
noncomputable def pick3D (w : Nat) : Option Candidate :=
  match fieldNat w 28 4 with
  | 0 => some ⟨[(7, 6), (21, 7)], true, .rsend (field w 14 7)⟩
  | 1 => some ⟨[(14, 14)], false, .rrecv (field w 13 1) (field w 7 6)⟩
  | 2 => some ⟨[], true, .lnch (field w 21 7) (field w 14 7) (field w 7 6)⟩
  | 3 => some ⟨[(12, 1)], true, .evtSig (field w 21 7) (field w 14 7) (field w 7 5)⟩
  | 4 => some ⟨[(12, 1)], true, .evtWait (field w 21 7) (field w 14 7) (field w 7 5)⟩
  | 5 => some ⟨[(7, 6), (14, 14)], true, .barCrew⟩
  | 6 => some ⟨[(7, 6), (14, 14)], true, .barGang⟩
  | 7 => some ⟨[(7, 6)], true, .qenq (field w 21 7) (field w 14 7)⟩
  | 8 => some ⟨[(10, 3)], true, .qdeq (field w 21 7) (field w 14 7) (field w 7 3)⟩
  | 9 => some ⟨[(14, 7)], false, .pcrd (field w 21 7) (field w 13 1) (field w 7 6)⟩
  | 10 => some ⟨[(7, 6)], true, .pcwr (field w 21 7) (field w 14 7)⟩
  | 11 => some ⟨[(18, 3)], true, .cvbrd (field w 21 7) (field w 14 4) (field w 7 6)⟩
  | 12 => some ⟨[(18, 3)], true, .cvbwr (field w 21 7) (field w 14 4) (field w 7 6)⟩
  | _ => none

/-- Whether a major opcode names a class (R142). -/
def majorNamed (m : Nat) : Bool :=
  !(m == 0x06 || m == 0x07 || (0x15 ≤ m && m ≤ 0x17) || m == 0x25 || m == 0x3E || m == 0x3F)

/-- The candidate for a word whose major opcode is named (R142); none where the function is reserved. -/
noncomputable def pick (w : Nat) : Option Candidate :=
  match major w with
  | 0 => pick00 w
  | 1 => pick01 w
  | 2 => pick02 w
  | 3 => pick03 w
  | 4 => pick04 w
  | 5 => pick05 w
  | 8 => pick08 w
  | 9 => pick09 w
  | 10 => pick0A w
  | 11 => pick0B w
  | 12 => pick0C w
  | 13 => pick0D w
  | 14 => pick0E w
  | 15 => pick0F w
  | 16 => pick10 w
  | 17 => pick11 w
  | 18 => pick12 w
  | 19 => pick13 w
  | 20 => pick14 w
  | 24 => pick18 w
  | 25 => pick19 w
  | 26 => pick1A w
  | 27 => pick1B w
  | 28 => pick1C w
  | 29 => pick1D w
  | 30 => pick1E w
  | 31 => pick1F w
  | 32 => pick20 w
  | 33 => pick21 w
  | 34 => pick22 w
  | 35 => pick23 w
  | 36 => pick24 w
  | 38 => pick26 w
  | 39 => pick27 w
  | 40 => pick28 w
  | 41 => pick29 w
  | 42 => pick2A w
  | 43 => pick2B w
  | 44 => pick2C w
  | 45 => pick2D w
  | 46 => pick2E w
  | 47 => pick2F w
  | 48 => pick30 w
  | 49 => pick31 w
  | 50 => pick32 w
  | 51 => pick33 w
  | 52 => pick34 w
  | 53 => pick35 w
  | 54 => pick36 w
  | 55 => pick37 w
  | 56 => pick38 w
  | 57 => pick39 w
  | 58 => pick3A w
  | 59 => pick3B w
  | 60 => pick3C w
  | 61 => pick3D w
  | _ => none

/-- Sub-cause 4 of LDAQ and STRL: their SZ is 0 to 3, so bit 31 is clear (R140, R144). -/
def szChecks (w : Nat) : List Check :=
  if major w == 0x2C || major w == 0x2D then [(4, fieldNat w 31 1 == 0)] else []

/-- Whether a guard may stand before this word: not another guard, a `br` or a `call` (R139). -/
def guardable (w : Nat) : Bool :=
  !(major w == 0x10 || major w == 0x11 || (major w == 0x14 && fieldNat w 28 4 == 6))

/-- Decode a 32-bit word (R142 to R145); `guarded` when a guard stands before it. -/
noncomputable def decode32 (guarded : Bool) (w : Nat) : Except Reject Instr :=
  if majorNamed (major w) then
    match pick w with
    | none => .error ⟨2, 1⟩
    | some c =>
      match lowestSub ((9, !guarded || guardable w) :: szChecks w ++ c.wordChecks w ++ c.instr.checks) with
      | some sub => .error ⟨2, sub⟩
      | none => .ok c.instr
  else .error ⟨1, 1⟩

/-- Decode a 16-bit instruction (R131). -/
noncomputable def decode16 (h : Nat) : Except Reject Instr :=
  if h = 0 then .error ⟨1, 2⟩
  else match fieldNat h 1 4 with
    | 0 => .ok (.mov (field h 11 5) (field h 5 6))
    | 1 => .ok (.iadd (field h 11 5) (field h 5 6))
    | 2 => .ok (.isub (field h 11 5) (field h 5 6))
    | 3 => .ok (.iand (field h 11 5) (field h 5 6))
    | 4 => .ok (.ior (field h 11 5) (field h 5 6))
    | 5 => .ok (.ixor (field h 11 5) (field h 5 6))
    | 6 => .ok (.ishl (field h 11 5) (field h 5 6))
    | 7 => .ok (.ishr (field h 11 5) (field h 5 6))
    | 8 => .ok (.imin (field h 11 5) (field h 5 6))
    | 9 => .ok (.imax (field h 11 5) (field h 5 6))
    | 10 => .ok (.fadd (field h 11 5) (field h 5 6))
    | 11 => .ok (.fsub (field h 11 5) (field h 5 6))
    | 12 => .ok (.fmul (field h 11 5) (field h 5 6))
    | 13 => .ok (.fmax (field h 11 5) (field h 5 6))
    | 14 => .ok (.fmin (field h 11 5) (field h 5 6))
    | _ => .ok (.fmac (field h 11 5) (field h 5 6))

/-- How long the instruction that starts with this halfword is, in bytes (R129). -/
def lengthOf (h : Nat) : Nat := if h % 2 = 0 then 2 else 4

/-- The number that some bytes hold, the first byte lowest (R129). -/
def leNat : List Byte → Nat
  | [] => 0
  | b :: rest => b.toNat + 256 * leNat rest

/-- The first `n` bytes of a number, the lowest first. -/
def natLE : Nat → Nat → List Byte
  | 0, _ => []
  | n + 1, x => BitVec.ofNat 8 (x % 256) :: natLE n (x / 256)

/-- Decode the instruction at the head of some bytes (R129): its halfwords lie in little-endian order, the first at the
lowest address. The answer carries the word read and its length in bytes. A list too short to hold the instruction is no
instruction: what a fetch that fails raises is said where the machine fetches. -/
noncomputable def decodeBytes (guarded : Bool) (bs : List Byte) : Nat × Nat × Except Reject Instr :=
  let h := leNat (bs.take 2)
  if h % 2 = 0 then (2, h, decode16 h)
  else
    let w := leNat (bs.take 4)
    (4, w, decode32 guarded w)


/-! The layouts of R131 and R132: each adds the fields of its form to the fixed bits of a word. -/

def lay_a5at11_d6at5 (base : Nat) (a : BitVec 5) (d : BitVec 6) : Nat :=
  base + a.toNat * 2048 + d.toNat * 32
def lay_b7at21_a7at14_d6at7 (base : Nat) (b : BitVec 7) (a : BitVec 7) (d : BitVec 6) : Nat :=
  base + b.toNat * 2097152 + a.toNat * 16384 + d.toNat * 128
def lay_b7at21_a7at14_w1at13_d6at7 (base : Nat) (b : BitVec 7) (a : BitVec 7) (w : BitVec 1) (d : BitVec 6) : Nat :=
  base + b.toNat * 2097152 + a.toNat * 16384 + w.toNat * 8192 + d.toNat * 128
def lay_i11at21_a7at14_d6at7 (base : Nat) (i : BitVec 11) (a : BitVec 7) (d : BitVec 6) : Nat :=
  base + i.toNat * 2097152 + a.toNat * 16384 + d.toNat * 128
def lay_i11at21_a7at14_w1at13_d6at7 (base : Nat) (i : BitVec 11) (a : BitVec 7) (w : BitVec 1) (d : BitVec 6) : Nat :=
  base + i.toNat * 2097152 + a.toNat * 16384 + w.toNat * 8192 + d.toNat * 128
def lay_i14at14_d6at7 (base : Nat) (i : BitVec 14) (d : BitVec 6) : Nat :=
  base + i.toNat * 16384 + d.toNat * 128
def lay_i14at14_w1at13_d6at7 (base : Nat) (i : BitVec 14) (w : BitVec 1) (d : BitVec 6) : Nat :=
  base + i.toNat * 16384 + w.toNat * 8192 + d.toNat * 128
def lay_i18at14_d6at7 (base : Nat) (i : BitVec 18) (d : BitVec 6) : Nat :=
  base + i.toNat * 16384 + d.toNat * 128
def lay_i18at14_w1at13_d6at7 (base : Nat) (i : BitVec 18) (w : BitVec 1) (d : BitVec 6) : Nat :=
  base + i.toNat * 16384 + w.toNat * 8192 + d.toNat * 128
def lay_a7at14_d6at7 (base : Nat) (a : BitVec 7) (d : BitVec 6) : Nat :=
  base + a.toNat * 16384 + d.toNat * 128
def lay_a7at14_w1at13_d6at7 (base : Nat) (a : BitVec 7) (w : BitVec 1) (d : BitVec 6) : Nat :=
  base + a.toNat * 16384 + w.toNat * 8192 + d.toNat * 128
def lay_b7at21_a7at14_p3at7 (base : Nat) (b : BitVec 7) (a : BitVec 7) (p : BitVec 3) : Nat :=
  base + b.toNat * 2097152 + a.toNat * 16384 + p.toNat * 128
def lay_b4at21_a4at14_d3at7 (base : Nat) (b : BitVec 4) (a : BitVec 4) (d : BitVec 3) : Nat :=
  base + b.toNat * 2097152 + a.toNat * 16384 + d.toNat * 128
def lay_a4at14_d3at7 (base : Nat) (a : BitVec 4) (d : BitVec 3) : Nat :=
  base + a.toNat * 16384 + d.toNat * 128
def lay_a4at14_w1at13_d6at7 (base : Nat) (a : BitVec 4) (w : BitVec 1) (d : BitVec 6) : Nat :=
  base + a.toNat * 16384 + w.toNat * 8192 + d.toNat * 128
def lay_w1at13_d6at7 (base : Nat) (w : BitVec 1) (d : BitVec 6) : Nat :=
  base + w.toNat * 8192 + d.toNat * 128
def lay_a7at14 (base : Nat) (a : BitVec 7) : Nat :=
  base + a.toNat * 16384
def lay_i21at11_n1at10_p3at7 (base : Nat) (i : BitVec 21) (n : BitVec 1) (p : BitVec 3) : Nat :=
  base + i.toNat * 2048 + n.toNat * 1024 + p.toNat * 128
def lay_i21at11 (base : Nat) (i : BitVec 21) : Nat :=
  base + i.toNat * 2048
def lay_n4at7 (base : Nat) (n : BitVec 4) : Nat :=
  base + n.toNat * 128
def lay_b7at21_n4at14_k3at7 (base : Nat) (b : BitVec 7) (n : BitVec 4) (k : BitVec 3) : Nat :=
  base + b.toNat * 2097152 + n.toNat * 16384 + k.toNat * 128
def lay_h7at21_l7at14_m2at7 (base : Nat) (h : BitVec 7) (l : BitVec 7) (m : BitVec 2) : Nat :=
  base + h.toNat * 2097152 + l.toNat * 16384 + m.toNat * 128
def lay_h7at21_l7at14 (base : Nat) (h : BitVec 7) (l : BitVec 7) : Nat :=
  base + h.toNat * 2097152 + l.toNat * 16384
def lay_d6at7 (base : Nat) (d : BitVec 6) : Nat :=
  base + d.toNat * 128
def lay_n1at17_p3at14 (base : Nat) (n : BitVec 1) (p : BitVec 3) : Nat :=
  base + n.toNat * 131072 + p.toNat * 16384
def lay_r2at21_a7at14_w1at13_d6at7 (base : Nat) (r : BitVec 2) (a : BitVec 7) (w : BitVec 1) (d : BitVec 6) : Nat :=
  base + r.toNat * 2097152 + a.toNat * 16384 + w.toNat * 8192 + d.toNat * 128
def lay_s1at31_b7at21_g4at16_r2at14_w1at13_d6at7 (base : Nat) (s : BitVec 1) (b : BitVec 7) (g : BitVec 4) (r : BitVec 2) (w : BitVec 1) (d : BitVec 6) : Nat :=
  base + s.toNat * 2147483648 + b.toNat * 2097152 + g.toNat * 65536 + r.toNat * 16384 + w.toNat * 8192 + d.toNat * 128
def lay_f1at21_a7at14_w1at13_d6at7 (base : Nat) (f : BitVec 1) (a : BitVec 7) (w : BitVec 1) (d : BitVec 6) : Nat :=
  base + f.toNat * 2097152 + a.toNat * 16384 + w.toNat * 8192 + d.toNat * 128
def lay_s1at31_b7at21_x1at20_a6at14_w1at13_d6at7 (base : Nat) (s : BitVec 1) (b : BitVec 7) (x : BitVec 1) (a : BitVec 6) (w : BitVec 1) (d : BitVec 6) : Nat :=
  base + s.toNat * 2147483648 + b.toNat * 2097152 + x.toNat * 1048576 + a.toNat * 16384 + w.toNat * 8192 + d.toNat * 128
def lay_x1at20_a6at14_w1at13_d6at7 (base : Nat) (x : BitVec 1) (a : BitVec 6) (w : BitVec 1) (d : BitVec 6) : Nat :=
  base + x.toNat * 1048576 + a.toNat * 16384 + w.toNat * 8192 + d.toNat * 128
def lay_s3at29_o5at24_q3at21_a7at14_d6at7 (base : Nat) (s : BitVec 3) (o : BitVec 5) (q : BitVec 3) (a : BitVec 7) (d : BitVec 6) : Nat :=
  base + s.toNat * 536870912 + o.toNat * 16777216 + q.toNat * 2097152 + a.toNat * 16384 + d.toNat * 128
def lay_f11at21_a7at14_d6at7 (base : Nat) (f : BitVec 11) (a : BitVec 7) (d : BitVec 6) : Nat :=
  base + f.toNat * 2097152 + a.toNat * 16384 + d.toNat * 128
def lay_s2at29_o5at24_q3at21_a7at14_d6at7 (base : Nat) (s : BitVec 2) (o : BitVec 5) (q : BitVec 3) (a : BitVec 7) (d : BitVec 6) : Nat :=
  base + s.toNat * 536870912 + o.toNat * 16777216 + q.toNat * 2097152 + a.toNat * 16384 + d.toNat * 128
def lay_o5at24_q3at21_a7at14_d6at7 (base : Nat) (o : BitVec 5) (q : BitVec 3) (a : BitVec 7) (d : BitVec 6) : Nat :=
  base + o.toNat * 16777216 + q.toNat * 2097152 + a.toNat * 16384 + d.toNat * 128
def lay_m5at7 (base : Nat) (m : BitVec 5) : Nat :=
  base + m.toNat * 128
def lay_b7at21_a7at14_m5at7 (base : Nat) (b : BitVec 7) (a : BitVec 7) (m : BitVec 5) : Nat :=
  base + b.toNat * 2097152 + a.toNat * 16384 + m.toNat * 128
def lay_b7at21_a7at14 (base : Nat) (b : BitVec 7) (a : BitVec 7) : Nat :=
  base + b.toNat * 2097152 + a.toNat * 16384
def lay_a7at14_m5at7 (base : Nat) (a : BitVec 7) (m : BitVec 5) : Nat :=
  base + a.toNat * 16384 + m.toNat * 128
def lay_r1at28_q1at27_t6at21_x4at17_c5at12_k5at7 (base : Nat) (r : BitVec 1) (q : BitVec 1) (t : BitVec 6) (x : BitVec 4) (c : BitVec 5) (k : BitVec 5) : Nat :=
  base + r.toNat * 268435456 + q.toNat * 134217728 + t.toNat * 2097152 + x.toNat * 131072 + c.toNat * 4096 + k.toNat * 128
def lay_r1at28_q1at27_t6at21_c5at12_k5at7 (base : Nat) (r : BitVec 1) (q : BitVec 1) (t : BitVec 6) (c : BitVec 5) (k : BitVec 5) : Nat :=
  base + r.toNat * 268435456 + q.toNat * 134217728 + t.toNat * 2097152 + c.toNat * 4096 + k.toNat * 128
def lay_x4at21_a6at14_d6at7 (base : Nat) (x : BitVec 4) (a : BitVec 6) (d : BitVec 6) : Nat :=
  base + x.toNat * 2097152 + a.toNat * 16384 + d.toNat * 128
def lay_p1at24_t1at23_b5at17_a5at12_y1at11_x1at10_c3at7 (base : Nat) (p : BitVec 1) (t : BitVec 1) (b : BitVec 5) (a : BitVec 5) (y : BitVec 1) (x : BitVec 1) (c : BitVec 3) : Nat :=
  base + p.toNat * 16777216 + t.toNat * 8388608 + b.toNat * 131072 + a.toNat * 4096 + y.toNat * 2048 + x.toNat * 1024 + c.toNat * 128
def lay_c3at7 (base : Nat) (c : BitVec 3) : Nat :=
  base + c.toNat * 128
def lay_a7at14_c3at7 (base : Nat) (a : BitVec 7) (c : BitVec 3) : Nat :=
  base + a.toNat * 16384 + c.toNat * 128
def lay_x4at17_c5at12_k5at7 (base : Nat) (x : BitVec 4) (c : BitVec 5) (k : BitVec 5) : Nat :=
  base + x.toNat * 131072 + c.toNat * 4096 + k.toNat * 128
def lay_k5at7 (base : Nat) (k : BitVec 5) : Nat :=
  base + k.toNat * 128
def lay_x4at17 (base : Nat) (x : BitVec 4) : Nat :=
  base + x.toNat * 131072
def lay_c5at12 (base : Nat) (c : BitVec 5) : Nat :=
  base + c.toNat * 4096
def lay_r1at28_q1at27_c5at12_k5at7 (base : Nat) (r : BitVec 1) (q : BitVec 1) (c : BitVec 5) (k : BitVec 5) : Nat :=
  base + r.toNat * 268435456 + q.toNat * 134217728 + c.toNat * 4096 + k.toNat * 128
def lay_h5at21_l7at14_d6at7 (base : Nat) (h : BitVec 5) (l : BitVec 7) (d : BitVec 6) : Nat :=
  base + h.toNat * 2097152 + l.toNat * 16384 + d.toNat * 128
def lay_b7at21_l7at14_h5at7 (base : Nat) (b : BitVec 7) (l : BitVec 7) (h : BitVec 5) : Nat :=
  base + b.toNat * 2097152 + l.toNat * 16384 + h.toNat * 128
def lay_b7at21_a7at14_k3at7 (base : Nat) (b : BitVec 7) (a : BitVec 7) (k : BitVec 3) : Nat :=
  base + b.toNat * 2097152 + a.toNat * 16384 + k.toNat * 128
def lay_b7at21_w1at13_d6at7 (base : Nat) (b : BitVec 7) (w : BitVec 1) (d : BitVec 6) : Nat :=
  base + b.toNat * 2097152 + w.toNat * 8192 + d.toNat * 128
def lay_b7at21_n4at14_d6at7 (base : Nat) (b : BitVec 7) (n : BitVec 4) (d : BitVec 6) : Nat :=
  base + b.toNat * 2097152 + n.toNat * 16384 + d.toNat * 128

/-- The bits of the word of an instruction (R131 to R142), by the same tables; 0 for a device event, which has none. -/
def encode : Instr → Nat
  | .mov a d => lay_a5at11_d6at5 0x0 a d
  | .iadd a d => lay_a5at11_d6at5 0x2 a d
  | .isub a d => lay_a5at11_d6at5 0x4 a d
  | .iand a d => lay_a5at11_d6at5 0x6 a d
  | .ior a d => lay_a5at11_d6at5 0x8 a d
  | .ixor a d => lay_a5at11_d6at5 0xA a d
  | .ishl a d => lay_a5at11_d6at5 0xC a d
  | .ishr a d => lay_a5at11_d6at5 0xE a d
  | .imin a d => lay_a5at11_d6at5 0x10 a d
  | .imax a d => lay_a5at11_d6at5 0x12 a d
  | .fadd a d => lay_a5at11_d6at5 0x14 a d
  | .fsub a d => lay_a5at11_d6at5 0x16 a d
  | .fmul a d => lay_a5at11_d6at5 0x18 a d
  | .fmax a d => lay_a5at11_d6at5 0x1A a d
  | .fmin a d => lay_a5at11_d6at5 0x1C a d
  | .fmac a d => lay_a5at11_d6at5 0x1E a d
  | .saluAdd b a d => lay_b7at21_a7at14_d6at7 0x1 b a d
  | .saluSub b a d => lay_b7at21_a7at14_d6at7 0x10000001 b a d
  | .saluAnd b a d => lay_b7at21_a7at14_d6at7 0x20000001 b a d
  | .saluOr b a d => lay_b7at21_a7at14_d6at7 0x30000001 b a d
  | .saluXor b a d => lay_b7at21_a7at14_d6at7 0x40000001 b a d
  | .saluShl b a d => lay_b7at21_a7at14_d6at7 0x50000001 b a d
  | .saluShr b a d => lay_b7at21_a7at14_d6at7 0x60000001 b a d
  | .saluSra b a d => lay_b7at21_a7at14_d6at7 0x70000001 b a d
  | .saluMin b a d => lay_b7at21_a7at14_d6at7 0x80000001 b a d
  | .saluMax b a d => lay_b7at21_a7at14_d6at7 0x90000001 b a d
  | .saluMinn b a d => lay_b7at21_a7at14_d6at7 0xA0000001 b a d
  | .saluMaxn b a d => lay_b7at21_a7at14_d6at7 0xB0000001 b a d
  | .saluMul b a d => lay_b7at21_a7at14_d6at7 0xC0000001 b a d
  | .saluMulh b a d => lay_b7at21_a7at14_d6at7 0xD0000001 b a d
  | .saluDiv b a d => lay_b7at21_a7at14_d6at7 0xE0000001 b a d
  | .saluRem b a d => lay_b7at21_a7at14_d6at7 0xF0000001 b a d
  | .valuAdd b a w d => lay_b7at21_a7at14_w1at13_d6at7 0x11 b a w d
  | .valuSub b a w d => lay_b7at21_a7at14_w1at13_d6at7 0x10000011 b a w d
  | .valuAnd b a w d => lay_b7at21_a7at14_w1at13_d6at7 0x20000011 b a w d
  | .valuOr b a w d => lay_b7at21_a7at14_w1at13_d6at7 0x30000011 b a w d
  | .valuXor b a w d => lay_b7at21_a7at14_w1at13_d6at7 0x40000011 b a w d
  | .valuShl b a w d => lay_b7at21_a7at14_w1at13_d6at7 0x50000011 b a w d
  | .valuShr b a w d => lay_b7at21_a7at14_w1at13_d6at7 0x60000011 b a w d
  | .valuSra b a w d => lay_b7at21_a7at14_w1at13_d6at7 0x70000011 b a w d
  | .valuMin b a w d => lay_b7at21_a7at14_w1at13_d6at7 0x80000011 b a w d
  | .valuMax b a w d => lay_b7at21_a7at14_w1at13_d6at7 0x90000011 b a w d
  | .valuMinn b a w d => lay_b7at21_a7at14_w1at13_d6at7 0xA0000011 b a w d
  | .valuMaxn b a w d => lay_b7at21_a7at14_w1at13_d6at7 0xB0000011 b a w d
  | .valuMul b a w d => lay_b7at21_a7at14_w1at13_d6at7 0xC0000011 b a w d
  | .valuMulh b a w d => lay_b7at21_a7at14_w1at13_d6at7 0xD0000011 b a w d
  | .valuDiv b a w d => lay_b7at21_a7at14_w1at13_d6at7 0xE0000011 b a w d
  | .valuRem b a w d => lay_b7at21_a7at14_w1at13_d6at7 0xF0000011 b a w d
  | .saddi i a d => lay_i11at21_a7at14_d6at7 0x3 i a d
  | .vaddi i a w d => lay_i11at21_a7at14_w1at13_d6at7 0x13 i a w d
  | .slogiAnd i d => lay_i14at14_d6at7 0x5 i d
  | .slogiOr i d => lay_i14at14_d6at7 0x10000005 i d
  | .slogiXor i d => lay_i14at14_d6at7 0x20000005 i d
  | .slogiShl i d => lay_i14at14_d6at7 0x30000005 i d
  | .slogiShr i d => lay_i14at14_d6at7 0x40000005 i d
  | .slogiSra i d => lay_i14at14_d6at7 0x50000005 i d
  | .slogiClr i d => lay_i14at14_d6at7 0x60000005 i d
  | .vlogiAnd i w d => lay_i14at14_w1at13_d6at7 0x15 i w d
  | .vlogiOr i w d => lay_i14at14_w1at13_d6at7 0x10000015 i w d
  | .vlogiXor i w d => lay_i14at14_w1at13_d6at7 0x20000015 i w d
  | .vlogiShl i w d => lay_i14at14_w1at13_d6at7 0x30000015 i w d
  | .vlogiShr i w d => lay_i14at14_w1at13_d6at7 0x40000015 i w d
  | .vlogiSra i w d => lay_i14at14_w1at13_d6at7 0x50000015 i w d
  | .vlogiClr i w d => lay_i14at14_w1at13_d6at7 0x60000015 i w d
  | .slih i d => lay_i18at14_d6at7 0x7 i d
  | .vlih i w d => lay_i18at14_w1at13_d6at7 0x17 i w d
  | .smiscDivn b a d => lay_b7at21_a7at14_d6at7 0x9 b a d
  | .smiscRemn b a d => lay_b7at21_a7at14_d6at7 0x10000009 b a d
  | .smiscClz a d => lay_a7at14_d6at7 0x20000009 a d
  | .smiscCtz a d => lay_a7at14_d6at7 0x30000009 a d
  | .smiscPopc a d => lay_a7at14_d6at7 0x40000009 a d
  | .smiscBrev a d => lay_a7at14_d6at7 0x50000009 a d
  | .smiscSext8 a d => lay_a7at14_d6at7 0x60000009 a d
  | .smiscSext16 a d => lay_a7at14_d6at7 0x70000009 a d
  | .smiscMulhn b a d => lay_b7at21_a7at14_d6at7 0x80000009 b a d
  | .smiscRot b a d => lay_b7at21_a7at14_d6at7 0x90000009 b a d
  | .smiscAdd64 b a d => lay_b7at21_a7at14_d6at7 0xA0000009 b a d
  | .smiscSub64 b a d => lay_b7at21_a7at14_d6at7 0xB0000009 b a d
  | .smiscMad b a d => lay_b7at21_a7at14_d6at7 0xC0000009 b a d
  | .smiscMad64 b a d => lay_b7at21_a7at14_d6at7 0xD0000009 b a d
  | .vmiscDivn b a w d => lay_b7at21_a7at14_w1at13_d6at7 0x19 b a w d
  | .vmiscRemn b a w d => lay_b7at21_a7at14_w1at13_d6at7 0x10000019 b a w d
  | .vmiscClz a w d => lay_a7at14_w1at13_d6at7 0x20000019 a w d
  | .vmiscCtz a w d => lay_a7at14_w1at13_d6at7 0x30000019 a w d
  | .vmiscPopc a w d => lay_a7at14_w1at13_d6at7 0x40000019 a w d
  | .vmiscBrev a w d => lay_a7at14_w1at13_d6at7 0x50000019 a w d
  | .vmiscSext8 a w d => lay_a7at14_w1at13_d6at7 0x60000019 a w d
  | .vmiscSext16 a w d => lay_a7at14_w1at13_d6at7 0x70000019 a w d
  | .vmiscMulhn b a w d => lay_b7at21_a7at14_w1at13_d6at7 0x80000019 b a w d
  | .vmiscRot b a w d => lay_b7at21_a7at14_w1at13_d6at7 0x90000019 b a w d
  | .vmiscAdd64 b a w d => lay_b7at21_a7at14_w1at13_d6at7 0xA0000019 b a w d
  | .vmiscSub64 b a w d => lay_b7at21_a7at14_w1at13_d6at7 0xB0000019 b a w d
  | .vmiscMad b a w d => lay_b7at21_a7at14_w1at13_d6at7 0xC0000019 b a w d
  | .vmiscMad64 b a w d => lay_b7at21_a7at14_w1at13_d6at7 0xD0000019 b a w d
  | .scmpEq b a d => lay_b7at21_a7at14_d6at7 0xB b a d
  | .scmpNe b a d => lay_b7at21_a7at14_d6at7 0x1000000B b a d
  | .scmpLt b a d => lay_b7at21_a7at14_d6at7 0x2000000B b a d
  | .scmpLe b a d => lay_b7at21_a7at14_d6at7 0x3000000B b a d
  | .scmpLtn b a d => lay_b7at21_a7at14_d6at7 0x4000000B b a d
  | .scmpLen b a d => lay_b7at21_a7at14_d6at7 0x5000000B b a d
  | .vcmpEq b a p => lay_b7at21_a7at14_p3at7 0x1B b a p
  | .vcmpNe b a p => lay_b7at21_a7at14_p3at7 0x1000001B b a p
  | .vcmpLt b a p => lay_b7at21_a7at14_p3at7 0x2000001B b a p
  | .vcmpLe b a p => lay_b7at21_a7at14_p3at7 0x3000001B b a p
  | .vcmpLtn b a p => lay_b7at21_a7at14_p3at7 0x4000001B b a p
  | .vcmpLen b a p => lay_b7at21_a7at14_p3at7 0x5000001B b a p
  | .vcmpEq64 b a p => lay_b7at21_a7at14_p3at7 0x6000001B b a p
  | .vcmpLt64 b a p => lay_b7at21_a7at14_p3at7 0x7000001B b a p
  | .vcmpLtn64 b a p => lay_b7at21_a7at14_p3at7 0x8000001B b a p
  | .predAnd b a d => lay_b4at21_a4at14_d3at7 0x1D b a d
  | .predOr b a d => lay_b4at21_a4at14_d3at7 0x1000001D b a d
  | .predXor b a d => lay_b4at21_a4at14_d3at7 0x2000001D b a d
  | .predAndn b a d => lay_b4at21_a4at14_d3at7 0x3000001D b a d
  | .predAny a d => lay_a4at14_d3at7 0x4000001D a d
  | .predAll a d => lay_a4at14_d3at7 0x5000001D a d
  | .predUni a d => lay_a4at14_d3at7 0x6000001D a d
  | .predBallot a w d => lay_a4at14_w1at13_d6at7 0x7000001D a w d
  | .predTov w d => lay_w1at13_d6at7 0x8000001D w d
  | .predFromv a => lay_a7at14 0x9000001D a
  | .xchShfl b a w d => lay_b7at21_a7at14_w1at13_d6at7 0x1F b a w d
  | .xchShup b a w d => lay_b7at21_a7at14_w1at13_d6at7 0x1000001F b a w d
  | .xchShdn b a w d => lay_b7at21_a7at14_w1at13_d6at7 0x2000001F b a w d
  | .xchShxor b a w d => lay_b7at21_a7at14_w1at13_d6at7 0x3000001F b a w d
  | .xchBcast a w d => lay_a7at14_w1at13_d6at7 0x4000001F a w d
  | .xchRadd a w d => lay_a7at14_w1at13_d6at7 0x5000001F a w d
  | .xchRmin a w d => lay_a7at14_w1at13_d6at7 0x6000001F a w d
  | .xchRmax a w d => lay_a7at14_w1at13_d6at7 0x7000001F a w d
  | .xchRminn a w d => lay_a7at14_w1at13_d6at7 0x8000001F a w d
  | .xchRmaxn a w d => lay_a7at14_w1at13_d6at7 0x9000001F a w d
  | .xchRand a w d => lay_a7at14_w1at13_d6at7 0xA000001F a w d
  | .xchRior a w d => lay_a7at14_w1at13_d6at7 0xB000001F a w d
  | .xchRxor a w d => lay_a7at14_w1at13_d6at7 0xC000001F a w d
  | .xchRfadd a w d => lay_a7at14_w1at13_d6at7 0xD000001F a w d
  | .xchRfmin a w d => lay_a7at14_w1at13_d6at7 0xE000001F a w d
  | .xchRfmax a w d => lay_a7at14_w1at13_d6at7 0xF000001F a w d
  | .br i n p => lay_i21at11_n1at10_p3at7 0x21 i n p
  | .call i => lay_i21at11 0x23 i
  | .jrJmp a => lay_a7at14 0x25 a
  | .jrJcall a d => lay_a7at14_d6at7 0x10000025 a d
  | .jrRet a => lay_a7at14 0x20000025 a
  | .cvbArm n => lay_n4at7 0x27 n
  | .cvbWait b n k => lay_b7at21_n4at14_k3at7 0x10000027 b n k
  | .cvbDrop h l m => lay_h7at21_l7at14_m2at7 0x20000027 h l m
  | .ctrlNop => 0x29
  | .ctrlExit => 0x10000029
  | .ctrlYield => 0x20000029
  | .ctrlBrk h l => lay_h7at21_l7at14 0x30000029 h l
  | .ctrlTrap h l => lay_h7at21_l7at14 0x40000029 h l
  | .ctrlClk d => lay_d6at7 0x50000029 d
  | .guard n p => lay_n1at17_p3at14 0x60000029 n p
  | .faluAdd b a w d => lay_b7at21_a7at14_w1at13_d6at7 0x31 b a w d
  | .faluSub b a w d => lay_b7at21_a7at14_w1at13_d6at7 0x10000031 b a w d
  | .faluMul b a w d => lay_b7at21_a7at14_w1at13_d6at7 0x20000031 b a w d
  | .faluMin b a w d => lay_b7at21_a7at14_w1at13_d6at7 0x30000031 b a w d
  | .faluMax b a w d => lay_b7at21_a7at14_w1at13_d6at7 0x40000031 b a w d
  | .faluCpys b a w d => lay_b7at21_a7at14_w1at13_d6at7 0x50000031 b a w d
  | .faluAbs a w d => lay_a7at14_w1at13_d6at7 0x60000031 a w d
  | .faluNeg a w d => lay_a7at14_w1at13_d6at7 0x70000031 a w d
  | .faluAddFtz b a w d => lay_b7at21_a7at14_w1at13_d6at7 0x80000031 b a w d
  | .faluSubFtz b a w d => lay_b7at21_a7at14_w1at13_d6at7 0x90000031 b a w d
  | .faluMulFtz b a w d => lay_b7at21_a7at14_w1at13_d6at7 0xA0000031 b a w d
  | .faluMinFtz b a w d => lay_b7at21_a7at14_w1at13_d6at7 0xB0000031 b a w d
  | .faluMaxFtz b a w d => lay_b7at21_a7at14_w1at13_d6at7 0xC0000031 b a w d
  | .ffmaFma b a w d => lay_b7at21_a7at14_w1at13_d6at7 0x33 b a w d
  | .ffmaFms b a w d => lay_b7at21_a7at14_w1at13_d6at7 0x10000033 b a w d
  | .ffmaFnma b a w d => lay_b7at21_a7at14_w1at13_d6at7 0x20000033 b a w d
  | .ffmaFnms b a w d => lay_b7at21_a7at14_w1at13_d6at7 0x30000033 b a w d
  | .ffmaFmaFtz b a w d => lay_b7at21_a7at14_w1at13_d6at7 0x80000033 b a w d
  | .ffmaFmsFtz b a w d => lay_b7at21_a7at14_w1at13_d6at7 0x90000033 b a w d
  | .ffmaFnmaFtz b a w d => lay_b7at21_a7at14_w1at13_d6at7 0xA0000033 b a w d
  | .ffmaFnmsFtz b a w d => lay_b7at21_a7at14_w1at13_d6at7 0xB0000033 b a w d
  | .fcmpEq b a p => lay_b7at21_a7at14_p3at7 0x35 b a p
  | .fcmpNe b a p => lay_b7at21_a7at14_p3at7 0x10000035 b a p
  | .fcmpLt b a p => lay_b7at21_a7at14_p3at7 0x20000035 b a p
  | .fcmpLe b a p => lay_b7at21_a7at14_p3at7 0x30000035 b a p
  | .fcmpUn b a p => lay_b7at21_a7at14_p3at7 0x40000035 b a p
  | .fcmpDeq b a p => lay_b7at21_a7at14_p3at7 0x80000035 b a p
  | .fcmpDne b a p => lay_b7at21_a7at14_p3at7 0x90000035 b a p
  | .fcmpDlt b a p => lay_b7at21_a7at14_p3at7 0xA0000035 b a p
  | .fcmpDle b a p => lay_b7at21_a7at14_p3at7 0xB0000035 b a p
  | .fcmpDun b a p => lay_b7at21_a7at14_p3at7 0xC0000035 b a p
  | .fspecRcp a w d => lay_a7at14_w1at13_d6at7 0x37 a w d
  | .fspecRsqrt a w d => lay_a7at14_w1at13_d6at7 0x10000037 a w d
  | .fspecSqrt a w d => lay_a7at14_w1at13_d6at7 0x20000037 a w d
  | .fspecExp2 a w d => lay_a7at14_w1at13_d6at7 0x30000037 a w d
  | .fspecLog2 a w d => lay_a7at14_w1at13_d6at7 0x40000037 a w d
  | .fspecSin a w d => lay_a7at14_w1at13_d6at7 0x50000037 a w d
  | .fspecCos a w d => lay_a7at14_w1at13_d6at7 0x60000037 a w d
  | .fspecTanh a w d => lay_a7at14_w1at13_d6at7 0x70000037 a w d
  | .fspecDiv b a w d => lay_b7at21_a7at14_w1at13_d6at7 0x80000037 b a w d
  | .daluAdd b a w d => lay_b7at21_a7at14_w1at13_d6at7 0x39 b a w d
  | .daluSub b a w d => lay_b7at21_a7at14_w1at13_d6at7 0x10000039 b a w d
  | .daluMul b a w d => lay_b7at21_a7at14_w1at13_d6at7 0x20000039 b a w d
  | .daluMin b a w d => lay_b7at21_a7at14_w1at13_d6at7 0x30000039 b a w d
  | .daluMax b a w d => lay_b7at21_a7at14_w1at13_d6at7 0x40000039 b a w d
  | .daluDiv b a w d => lay_b7at21_a7at14_w1at13_d6at7 0x50000039 b a w d
  | .daluSqrt a w d => lay_a7at14_w1at13_d6at7 0x60000039 a w d
  | .daluAddFtz b a w d => lay_b7at21_a7at14_w1at13_d6at7 0x80000039 b a w d
  | .daluSubFtz b a w d => lay_b7at21_a7at14_w1at13_d6at7 0x90000039 b a w d
  | .daluMulFtz b a w d => lay_b7at21_a7at14_w1at13_d6at7 0xA0000039 b a w d
  | .daluMinFtz b a w d => lay_b7at21_a7at14_w1at13_d6at7 0xB0000039 b a w d
  | .daluMaxFtz b a w d => lay_b7at21_a7at14_w1at13_d6at7 0xC0000039 b a w d
  | .daluDivFtz b a w d => lay_b7at21_a7at14_w1at13_d6at7 0xD0000039 b a w d
  | .daluSqrtFtz a w d => lay_a7at14_w1at13_d6at7 0xE0000039 a w d
  | .dfmaFma b a w d => lay_b7at21_a7at14_w1at13_d6at7 0x3B b a w d
  | .dfmaFms b a w d => lay_b7at21_a7at14_w1at13_d6at7 0x1000003B b a w d
  | .dfmaFnma b a w d => lay_b7at21_a7at14_w1at13_d6at7 0x2000003B b a w d
  | .dfmaFnms b a w d => lay_b7at21_a7at14_w1at13_d6at7 0x3000003B b a w d
  | .dfmaFmaFtz b a w d => lay_b7at21_a7at14_w1at13_d6at7 0x8000003B b a w d
  | .dfmaFmsFtz b a w d => lay_b7at21_a7at14_w1at13_d6at7 0x9000003B b a w d
  | .dfmaFnmaFtz b a w d => lay_b7at21_a7at14_w1at13_d6at7 0xA000003B b a w d
  | .dfmaFnmsFtz b a w d => lay_b7at21_a7at14_w1at13_d6at7 0xB000003B b a w d
  | .fcvtF32F64 r a w d => lay_r2at21_a7at14_w1at13_d6at7 0x3D r a w d
  | .fcvtF64F32 a w d => lay_a7at14_w1at13_d6at7 0x1000003D a w d
  | .fcvtF16F32 r a w d => lay_r2at21_a7at14_w1at13_d6at7 0x2000003D r a w d
  | .fcvtF32F16 a w d => lay_a7at14_w1at13_d6at7 0x3000003D a w d
  | .fcvtBf16F32 r a w d => lay_r2at21_a7at14_w1at13_d6at7 0x4000003D r a w d
  | .fcvtF32Bf16 a w d => lay_a7at14_w1at13_d6at7 0x5000003D a w d
  | .fcvtS32F32 r a w d => lay_r2at21_a7at14_w1at13_d6at7 0x6000003D r a w d
  | .fcvtN32F32 r a w d => lay_r2at21_a7at14_w1at13_d6at7 0x7000003D r a w d
  | .fcvtF32S32 r a w d => lay_r2at21_a7at14_w1at13_d6at7 0x8000003D r a w d
  | .fcvtF32N32 r a w d => lay_r2at21_a7at14_w1at13_d6at7 0x9000003D r a w d
  | .fcvtS64F64 r a w d => lay_r2at21_a7at14_w1at13_d6at7 0xA000003D r a w d
  | .fcvtF64S64 r a w d => lay_r2at21_a7at14_w1at13_d6at7 0xB000003D r a w d
  | .fcvtS32F64 r a w d => lay_r2at21_a7at14_w1at13_d6at7 0xC000003D r a w d
  | .fcvtF64S32 a w d => lay_a7at14_w1at13_d6at7 0xD000003D a w d
  | .fcvtN64F64 r a w d => lay_r2at21_a7at14_w1at13_d6at7 0xE000003D r a w d
  | .fcvtF64N64 r a w d => lay_r2at21_a7at14_w1at13_d6at7 0xF000003D r a w d
  | .frndRnd r a w d => lay_r2at21_a7at14_w1at13_d6at7 0x3F r a w d
  | .frndCls a w d => lay_a7at14_w1at13_d6at7 0x1000003F a w d
  | .frndFrexpm a w d => lay_a7at14_w1at13_d6at7 0x2000003F a w d
  | .frndFrexpe a w d => lay_a7at14_w1at13_d6at7 0x3000003F a w d
  | .frndLdexp b a w d => lay_b7at21_a7at14_w1at13_d6at7 0x4000003F b a w d
  | .frndRndF64 r a w d => lay_r2at21_a7at14_w1at13_d6at7 0x8000003F r a w d
  | .frndClsF64 a w d => lay_a7at14_w1at13_d6at7 0x9000003F a w d
  | .frndFrexpmF64 a w d => lay_a7at14_w1at13_d6at7 0xA000003F a w d
  | .frndFrexpeF64 a w d => lay_a7at14_w1at13_d6at7 0xB000003F a w d
  | .frndLdexpF64 b a w d => lay_b7at21_a7at14_w1at13_d6at7 0xC000003F b a w d
  | .halu2Bf16Add b a w d => lay_b7at21_a7at14_w1at13_d6at7 0x41 b a w d
  | .halu2Bf16Sub b a w d => lay_b7at21_a7at14_w1at13_d6at7 0x10000041 b a w d
  | .halu2Bf16Mul b a w d => lay_b7at21_a7at14_w1at13_d6at7 0x20000041 b a w d
  | .halu2Bf16Fma b a w d => lay_b7at21_a7at14_w1at13_d6at7 0x30000041 b a w d
  | .halu2Bf16Min b a w d => lay_b7at21_a7at14_w1at13_d6at7 0x40000041 b a w d
  | .halu2Bf16Max b a w d => lay_b7at21_a7at14_w1at13_d6at7 0x50000041 b a w d
  | .halu2Bf16Pack b a w d => lay_b7at21_a7at14_w1at13_d6at7 0x60000041 b a w d
  | .halu2F16Add b a w d => lay_b7at21_a7at14_w1at13_d6at7 0x80000041 b a w d
  | .halu2F16Sub b a w d => lay_b7at21_a7at14_w1at13_d6at7 0x90000041 b a w d
  | .halu2F16Mul b a w d => lay_b7at21_a7at14_w1at13_d6at7 0xA0000041 b a w d
  | .halu2F16Fma b a w d => lay_b7at21_a7at14_w1at13_d6at7 0xB0000041 b a w d
  | .halu2F16Min b a w d => lay_b7at21_a7at14_w1at13_d6at7 0xC0000041 b a w d
  | .halu2F16Max b a w d => lay_b7at21_a7at14_w1at13_d6at7 0xD0000041 b a w d
  | .halu2F16Pack b a w d => lay_b7at21_a7at14_w1at13_d6at7 0xE0000041 b a w d
  | .qcvtE4m3n s b g r w d => lay_s1at31_b7at21_g4at16_r2at14_w1at13_d6at7 0x43 s b g r w d
  | .qcvtE5m2n s b g r w d => lay_s1at31_b7at21_g4at16_r2at14_w1at13_d6at7 0x10000043 s b g r w d
  | .qcvtDm8 s b g r w d => lay_s1at31_b7at21_g4at16_r2at14_w1at13_d6at7 0x20000043 s b g r w d
  | .qdecE4m3nF32 b a w d => lay_b7at21_a7at14_w1at13_d6at7 0x45 b a w d
  | .qdecE5m2nF32 b a w d => lay_b7at21_a7at14_w1at13_d6at7 0x10000045 b a w d
  | .qdecDm8F32 b a w d => lay_b7at21_a7at14_w1at13_d6at7 0x20000045 b a w d
  | .qdecE4m3nBf16 b a w d => lay_b7at21_a7at14_w1at13_d6at7 0x40000045 b a w d
  | .qdecE5m2nBf16 b a w d => lay_b7at21_a7at14_w1at13_d6at7 0x50000045 b a w d
  | .qdecDm8Bf16 b a w d => lay_b7at21_a7at14_w1at13_d6at7 0x60000045 b a w d
  | .qdecE4m3nF16 b a w d => lay_b7at21_a7at14_w1at13_d6at7 0x80000045 b a w d
  | .qdecE5m2nF16 b a w d => lay_b7at21_a7at14_w1at13_d6at7 0x90000045 b a w d
  | .qdecDm8F16 b a w d => lay_b7at21_a7at14_w1at13_d6at7 0xA0000045 b a w d
  | .cmprComp16 f a w d => lay_f1at21_a7at14_w1at13_d6at7 0x47 f a w d
  | .cmprComp8 a w d => lay_a7at14_w1at13_d6at7 0x10000047 a w d
  | .cmprExp16 b a w d => lay_b7at21_a7at14_w1at13_d6at7 0x20000047 b a w d
  | .cmprExp8 b a w d => lay_b7at21_a7at14_w1at13_d6at7 0x30000047 b a w d
  | .cmprMeta16 f a w d => lay_f1at21_a7at14_w1at13_d6at7 0x40000047 f a w d
  | .cmprMeta8 a w d => lay_a7at14_w1at13_d6at7 0x50000047 a w d
  | .geoOrient2 s b x a w d => lay_s1at31_b7at21_x1at20_a6at14_w1at13_d6at7 0x49 s b x a w d
  | .geoOrient3 s b x a w d => lay_s1at31_b7at21_x1at20_a6at14_w1at13_d6at7 0x10000049 s b x a w d
  | .geoIncircle s b x a w d => lay_s1at31_b7at21_x1at20_a6at14_w1at13_d6at7 0x20000049 s b x a w d
  | .geoInsphere s b x a w d => lay_s1at31_b7at21_x1at20_a6at14_w1at13_d6at7 0x30000049 s b x a w d
  | .geoSegx x a w d => lay_x1at20_a6at14_w1at13_d6at7 0x40000049 x a w d
  | .ld s o q a d => lay_s3at29_o5at24_q3at21_a7at14_d6at7 0x4D s o q a d
  | .st s o q a d => lay_s3at29_o5at24_q3at21_a7at14_d6at7 0x4F s o q a d
  | .ldo32 f a d => lay_f11at21_a7at14_d6at7 0x51 f a d
  | .ldo64 f a d => lay_f11at21_a7at14_d6at7 0x53 f a d
  | .sto32 f a d => lay_f11at21_a7at14_d6at7 0x55 f a d
  | .sto64 f a d => lay_f11at21_a7at14_d6at7 0x57 f a d
  | .ldaq s o q a d => lay_s2at29_o5at24_q3at21_a7at14_d6at7 0x59 s o q a d
  | .strl s o q a d => lay_s2at29_o5at24_q3at21_a7at14_d6at7 0x5B s o q a d
  | .amo32Add o q a d => lay_o5at24_q3at21_a7at14_d6at7 0x5D o q a d
  | .amo32And o q a d => lay_o5at24_q3at21_a7at14_d6at7 0x2000005D o q a d
  | .amo32Or o q a d => lay_o5at24_q3at21_a7at14_d6at7 0x4000005D o q a d
  | .amo32Xor o q a d => lay_o5at24_q3at21_a7at14_d6at7 0x6000005D o q a d
  | .amo32Min o q a d => lay_o5at24_q3at21_a7at14_d6at7 0x8000005D o q a d
  | .amo32Max o q a d => lay_o5at24_q3at21_a7at14_d6at7 0xA000005D o q a d
  | .amo32Minn o q a d => lay_o5at24_q3at21_a7at14_d6at7 0xC000005D o q a d
  | .amo32Maxn o q a d => lay_o5at24_q3at21_a7at14_d6at7 0xE000005D o q a d
  | .amoxXchg o q a d => lay_o5at24_q3at21_a7at14_d6at7 0x5F o q a d
  | .amoxXchg64 o q a d => lay_o5at24_q3at21_a7at14_d6at7 0x2000005F o q a d
  | .amoxCas o q a d => lay_o5at24_q3at21_a7at14_d6at7 0x4000005F o q a d
  | .amoxCas64 o q a d => lay_o5at24_q3at21_a7at14_d6at7 0x6000005F o q a d
  | .amoxFadd o q a d => lay_o5at24_q3at21_a7at14_d6at7 0x8000005F o q a d
  | .amoxAdd64 o q a d => lay_o5at24_q3at21_a7at14_d6at7 0xA000005F o q a d
  | .lst b a d => lay_b7at21_a7at14_d6at7 0x61 b a d
  | .lld b a d => lay_b7at21_a7at14_d6at7 0x10000061 b a d
  | .lpoll b a d => lay_b7at21_a7at14_d6at7 0x20000061 b a d
  | .fence m => lay_m5at7 0x63 m
  | .cwb b a m => lay_b7at21_a7at14_m5at7 0x10000063 b a m
  | .cinv b a => lay_b7at21_a7at14 0x20000063 b a
  | .discard b a => lay_b7at21_a7at14 0x30000063 b a
  | .zline a m => lay_a7at14_m5at7 0x40000063 a m
  | .pin b a w d => lay_b7at21_a7at14_w1at13_d6at7 0x65 b a w d
  | .unpin a w d => lay_a7at14_w1at13_d6at7 0x10000065 a w d
  | .dist a w d => lay_a7at14_w1at13_d6at7 0x20000065 a w d
  | .touch b a w d => lay_b7at21_a7at14_w1at13_d6at7 0x30000065 b a w d
  | .demote a d => lay_a7at14_d6at7 0x40000065 a d
  | .evict a d => lay_a7at14_d6at7 0x50000065 a d
  | .rhset b a d => lay_b7at21_a7at14_d6at7 0x60000065 b a d
  | .spadLd32 b a d => lay_b7at21_a7at14_d6at7 0x67 b a d
  | .spadLd64 b a d => lay_b7at21_a7at14_d6at7 0x10000067 b a d
  | .spadLd128 b a d => lay_b7at21_a7at14_d6at7 0x20000067 b a d
  | .spadSt32 b a d => lay_b7at21_a7at14_d6at7 0x30000067 b a d
  | .spadSt64 b a d => lay_b7at21_a7at14_d6at7 0x40000067 b a d
  | .spadSt128 b a d => lay_b7at21_a7at14_d6at7 0x50000067 b a d
  | .cpyG2b r q t x c k => lay_r1at28_q1at27_t6at21_x4at17_c5at12_k5at7 0x69 r q t x c k
  | .cpyG2s r q t c k => lay_r1at28_q1at27_t6at21_c5at12_k5at7 0x20000069 r q t c k
  | .cpyS2g r q t c k => lay_r1at28_q1at27_t6at21_c5at12_k5at7 0x40000069 r q t c k
  | .cpyG2g r q t c k => lay_r1at28_q1at27_t6at21_c5at12_k5at7 0x60000069 r q t c k
  | .cpyS2b r q t x c k => lay_r1at28_q1at27_t6at21_x4at17_c5at12_k5at7 0x80000069 r q t x c k
  | .cpyS2s r q t c k => lay_r1at28_q1at27_t6at21_c5at12_k5at7 0xA0000069 r q t c k
  | .seal d => lay_d6at7 0x6B d
  | .waitn a => lay_a7at14 0x1000006B a
  | .tdset a d => lay_a7at14_d6at7 0x6D a d
  | .tdget x a d => lay_x4at21_a6at14_d6at7 0x1000006D x a d
  | .mma p t b a y x c => lay_p1at24_t1at23_b5at17_a5at12_y1at11_x1at10_c3at7 0x6F p t b a y x c
  | .mmaz p t b a y x c => lay_p1at24_t1at23_b5at17_a5at12_y1at11_x1at10_c3at7 0x40006F p t b a y x c
  | .acq c => lay_c3at7 0x71 c
  | .rel c => lay_c3at7 0x10000071 c
  | .amov a c => lay_a7at14_c3at7 0x20000071 a c
  | .azero c => lay_c3at7 0x30000071 c
  | .ast a c => lay_a7at14_c3at7 0x40000071 a c
  | .capPass => 0x50000071
  | .tskSub x c k => lay_x4at17_c5at12_k5at7 0x73 x c k
  | .tskWait k => lay_k5at7 0x20000073 k
  | .tskBstat k => lay_k5at7 0x40000073 k
  | .tskBclr x => lay_x4at17 0x60000073 x
  | .kvKvg r q t x c k => lay_r1at28_q1at27_t6at21_x4at17_c5at12_k5at7 0x75 r q t x c k
  | .kvKvgs r q t c k => lay_r1at28_q1at27_t6at21_c5at12_k5at7 0x20000075 r q t c k
  | .kvKvs r q t c k => lay_r1at28_q1at27_t6at21_c5at12_k5at7 0x40000075 r q t c k
  | .kvKvinv c => lay_c5at12 0x60000075 c
  | .colSum r q t c k => lay_r1at28_q1at27_t6at21_c5at12_k5at7 0x77 r q t c k
  | .colMax r q t c k => lay_r1at28_q1at27_t6at21_c5at12_k5at7 0x20000077 r q t c k
  | .colMin r q t c k => lay_r1at28_q1at27_t6at21_c5at12_k5at7 0x40000077 r q t c k
  | .colTri r q t c k => lay_r1at28_q1at27_t6at21_c5at12_k5at7 0x60000077 r q t c k
  | .colBcast r q t c k => lay_r1at28_q1at27_t6at21_c5at12_k5at7 0x80000077 r q t c k
  | .colGath r q t c k => lay_r1at28_q1at27_t6at21_c5at12_k5at7 0xA0000077 r q t c k
  | .colBar r q c k => lay_r1at28_q1at27_c5at12_k5at7 0xC0000077 r q c k
  | .tret a => lay_a7at14 0x79 a
  | .syscall h l => lay_h7at21_l7at14 0x10000079 h l
  | .csrr h l d => lay_h5at21_l7at14_d6at7 0x20000079 h l d
  | .csrw b l h => lay_b7at21_l7at14_h5at7 0x30000079 b l h
  | .csrs b l h => lay_b7at21_l7at14_h5at7 0x40000079 b l h
  | .csrc b l h => lay_b7at21_l7at14_h5at7 0x50000079 b l h
  | .egyRd d => lay_d6at7 0x60000079 d
  | .egyReq a d => lay_a7at14_d6at7 0x70000079 a d
  | .pwrGate a d => lay_a7at14_d6at7 0x80000079 a d
  | .rsend a => lay_a7at14 0x7B a
  | .rrecv w d => lay_w1at13_d6at7 0x1000007B w d
  | .lnch b a d => lay_b7at21_a7at14_d6at7 0x2000007B b a d
  | .evtSig b a m => lay_b7at21_a7at14_m5at7 0x3000007B b a m
  | .evtWait b a m => lay_b7at21_a7at14_m5at7 0x4000007B b a m
  | .barCrew => 0x5000007B
  | .barGang => 0x6000007B
  | .qenq b a => lay_b7at21_a7at14 0x7000007B b a
  | .qdeq b a k => lay_b7at21_a7at14_k3at7 0x8000007B b a k
  | .pcrd b w d => lay_b7at21_w1at13_d6at7 0x9000007B b w d
  | .pcwr b a => lay_b7at21_a7at14 0xA000007B b a
  | .cvbrd b n d => lay_b7at21_n4at14_d6at7 0xB000007B b n d
  | .cvbwr b n d => lay_b7at21_n4at14_d6at7 0xC000007B b n d
  | .cvbTimeout _ _ => 0
  | .lldTimeout _ _ => 0
  | .watchdog _ _ => 0
  | .trapEntry _ => 0
  | .nestedTrapEntry _ => 0
  | .taskStart _ _ => 0
  | .taskComplete _ _ => 0
  | .rangeOpComplete _ _ => 0
  | .demoteEvictStatus _ _ => 0
  | .latticeRound _ => 0
  | .lxschedWrite _ _ => 0
  | .smapMap _ _ => 0
  | .smapUnmap _ _ => 0
  | .smapWritebackDone _ _ => 0
  | .shdwReserveRing8 _ => 0
  | .shdwReserveRings78 _ => 0
  | .shdwRelease _ => 0
  | .spiralUncorrectableError _ => 0
  | .powerAlarm => 0
  | .energyWindow _ => 0
  | .budgetWrite _ _ => 0
  | .qctlWrite _ _ _ => 0
  | .qtailWrite _ _ _ => 0
  | .qownWrite _ _ _ => 0
  | .eventCounterWrite _ _ _ => 0
  | .launchBegin _ _ => 0
  | .gangDispatch _ _ => 0
  | .gangSteal _ _ => 0
  | .crewFinish _ => 0
  | .launchCompletion _ => 0
  | .pcmdVacate _ _ => 0
  | .pcmdReturn _ _ => 0
  | .heldStop _ => 0
  | .preemptSaveEntry _ => 0
  | .phlimExpiry _ => 0
  | .preemptRestoreEntry _ _ => 0
  | .tinvcPage _ => 0
  | .tinvcAll _ => 0
  | .tinvcComplete _ => 0
  | .flctlWrite _ _ => 0
  | .coreGateOff _ => 0
  | .corePowerRestored _ => 0
  | .routerPowerDown _ => 0
  | .routerWakeSignal _ => 0
  | .routerPowerRestored _ => 0
  | .groupRecordWrite _ _ _ _ => 0
  | .jalefLinkChange _ _ _ => 0
  | .hostPortLinkChange _ _ => 0
  | .hostAccess _ _ _ _ _ _ => 0
  | .peerAccess _ _ _ _ _ _ _ => 0
  | .poolAdmit _ _ _ => 0
  | .poolGrow _ _ _ => 0
  | .poolRet _ _ _ => 0
  | .guarWrite _ _ _ => 0
  | .migWrite _ _ _ => 0
  | .vfbindWrite _ _ => 0
  | .vfportWrite _ _ => 0
  | .reset => 0
  | .bootctlGo => 0
  | .firmwareCheckDone _ => 0
  | .raiseFullService _ => 0
  | .partitionCreate _ _ _ _ => 0
  | .pbootGo _ _ => 0
  | .stackFence _ => 0
  | .securityAlarm _ _ => 0
  | .registerWrite _ _ _ _ _ _ => 0
  | .reservedInstructionWord _ _ _ => 0
  | .writebackAccepted _ => 0
  | .onlyCopyUncorrectableError _ _ => 0
  | .partitionDestroy _ => 0
  | .powerAlarmEnd => 0
  | .peerCollectiveMessage _ _ _ _ => 0

/-- The length of an instruction's word in bytes; 0 for a device event (R129). -/
def encodedLength : Instr → Nat
  | .mov _ _ => 2
  | .iadd _ _ => 2
  | .isub _ _ => 2
  | .iand _ _ => 2
  | .ior _ _ => 2
  | .ixor _ _ => 2
  | .ishl _ _ => 2
  | .ishr _ _ => 2
  | .imin _ _ => 2
  | .imax _ _ => 2
  | .fadd _ _ => 2
  | .fsub _ _ => 2
  | .fmul _ _ => 2
  | .fmax _ _ => 2
  | .fmin _ _ => 2
  | .fmac _ _ => 2
  | .saluAdd _ _ _ => 4
  | .saluSub _ _ _ => 4
  | .saluAnd _ _ _ => 4
  | .saluOr _ _ _ => 4
  | .saluXor _ _ _ => 4
  | .saluShl _ _ _ => 4
  | .saluShr _ _ _ => 4
  | .saluSra _ _ _ => 4
  | .saluMin _ _ _ => 4
  | .saluMax _ _ _ => 4
  | .saluMinn _ _ _ => 4
  | .saluMaxn _ _ _ => 4
  | .saluMul _ _ _ => 4
  | .saluMulh _ _ _ => 4
  | .saluDiv _ _ _ => 4
  | .saluRem _ _ _ => 4
  | .valuAdd _ _ _ _ => 4
  | .valuSub _ _ _ _ => 4
  | .valuAnd _ _ _ _ => 4
  | .valuOr _ _ _ _ => 4
  | .valuXor _ _ _ _ => 4
  | .valuShl _ _ _ _ => 4
  | .valuShr _ _ _ _ => 4
  | .valuSra _ _ _ _ => 4
  | .valuMin _ _ _ _ => 4
  | .valuMax _ _ _ _ => 4
  | .valuMinn _ _ _ _ => 4
  | .valuMaxn _ _ _ _ => 4
  | .valuMul _ _ _ _ => 4
  | .valuMulh _ _ _ _ => 4
  | .valuDiv _ _ _ _ => 4
  | .valuRem _ _ _ _ => 4
  | .saddi _ _ _ => 4
  | .vaddi _ _ _ _ => 4
  | .slogiAnd _ _ => 4
  | .slogiOr _ _ => 4
  | .slogiXor _ _ => 4
  | .slogiShl _ _ => 4
  | .slogiShr _ _ => 4
  | .slogiSra _ _ => 4
  | .slogiClr _ _ => 4
  | .vlogiAnd _ _ _ => 4
  | .vlogiOr _ _ _ => 4
  | .vlogiXor _ _ _ => 4
  | .vlogiShl _ _ _ => 4
  | .vlogiShr _ _ _ => 4
  | .vlogiSra _ _ _ => 4
  | .vlogiClr _ _ _ => 4
  | .slih _ _ => 4
  | .vlih _ _ _ => 4
  | .smiscDivn _ _ _ => 4
  | .smiscRemn _ _ _ => 4
  | .smiscClz _ _ => 4
  | .smiscCtz _ _ => 4
  | .smiscPopc _ _ => 4
  | .smiscBrev _ _ => 4
  | .smiscSext8 _ _ => 4
  | .smiscSext16 _ _ => 4
  | .smiscMulhn _ _ _ => 4
  | .smiscRot _ _ _ => 4
  | .smiscAdd64 _ _ _ => 4
  | .smiscSub64 _ _ _ => 4
  | .smiscMad _ _ _ => 4
  | .smiscMad64 _ _ _ => 4
  | .vmiscDivn _ _ _ _ => 4
  | .vmiscRemn _ _ _ _ => 4
  | .vmiscClz _ _ _ => 4
  | .vmiscCtz _ _ _ => 4
  | .vmiscPopc _ _ _ => 4
  | .vmiscBrev _ _ _ => 4
  | .vmiscSext8 _ _ _ => 4
  | .vmiscSext16 _ _ _ => 4
  | .vmiscMulhn _ _ _ _ => 4
  | .vmiscRot _ _ _ _ => 4
  | .vmiscAdd64 _ _ _ _ => 4
  | .vmiscSub64 _ _ _ _ => 4
  | .vmiscMad _ _ _ _ => 4
  | .vmiscMad64 _ _ _ _ => 4
  | .scmpEq _ _ _ => 4
  | .scmpNe _ _ _ => 4
  | .scmpLt _ _ _ => 4
  | .scmpLe _ _ _ => 4
  | .scmpLtn _ _ _ => 4
  | .scmpLen _ _ _ => 4
  | .vcmpEq _ _ _ => 4
  | .vcmpNe _ _ _ => 4
  | .vcmpLt _ _ _ => 4
  | .vcmpLe _ _ _ => 4
  | .vcmpLtn _ _ _ => 4
  | .vcmpLen _ _ _ => 4
  | .vcmpEq64 _ _ _ => 4
  | .vcmpLt64 _ _ _ => 4
  | .vcmpLtn64 _ _ _ => 4
  | .predAnd _ _ _ => 4
  | .predOr _ _ _ => 4
  | .predXor _ _ _ => 4
  | .predAndn _ _ _ => 4
  | .predAny _ _ => 4
  | .predAll _ _ => 4
  | .predUni _ _ => 4
  | .predBallot _ _ _ => 4
  | .predTov _ _ => 4
  | .predFromv _ => 4
  | .xchShfl _ _ _ _ => 4
  | .xchShup _ _ _ _ => 4
  | .xchShdn _ _ _ _ => 4
  | .xchShxor _ _ _ _ => 4
  | .xchBcast _ _ _ => 4
  | .xchRadd _ _ _ => 4
  | .xchRmin _ _ _ => 4
  | .xchRmax _ _ _ => 4
  | .xchRminn _ _ _ => 4
  | .xchRmaxn _ _ _ => 4
  | .xchRand _ _ _ => 4
  | .xchRior _ _ _ => 4
  | .xchRxor _ _ _ => 4
  | .xchRfadd _ _ _ => 4
  | .xchRfmin _ _ _ => 4
  | .xchRfmax _ _ _ => 4
  | .br _ _ _ => 4
  | .call _ => 4
  | .jrJmp _ => 4
  | .jrJcall _ _ => 4
  | .jrRet _ => 4
  | .cvbArm _ => 4
  | .cvbWait _ _ _ => 4
  | .cvbDrop _ _ _ => 4
  | .ctrlNop => 4
  | .ctrlExit => 4
  | .ctrlYield => 4
  | .ctrlBrk _ _ => 4
  | .ctrlTrap _ _ => 4
  | .ctrlClk _ => 4
  | .guard _ _ => 4
  | .faluAdd _ _ _ _ => 4
  | .faluSub _ _ _ _ => 4
  | .faluMul _ _ _ _ => 4
  | .faluMin _ _ _ _ => 4
  | .faluMax _ _ _ _ => 4
  | .faluCpys _ _ _ _ => 4
  | .faluAbs _ _ _ => 4
  | .faluNeg _ _ _ => 4
  | .faluAddFtz _ _ _ _ => 4
  | .faluSubFtz _ _ _ _ => 4
  | .faluMulFtz _ _ _ _ => 4
  | .faluMinFtz _ _ _ _ => 4
  | .faluMaxFtz _ _ _ _ => 4
  | .ffmaFma _ _ _ _ => 4
  | .ffmaFms _ _ _ _ => 4
  | .ffmaFnma _ _ _ _ => 4
  | .ffmaFnms _ _ _ _ => 4
  | .ffmaFmaFtz _ _ _ _ => 4
  | .ffmaFmsFtz _ _ _ _ => 4
  | .ffmaFnmaFtz _ _ _ _ => 4
  | .ffmaFnmsFtz _ _ _ _ => 4
  | .fcmpEq _ _ _ => 4
  | .fcmpNe _ _ _ => 4
  | .fcmpLt _ _ _ => 4
  | .fcmpLe _ _ _ => 4
  | .fcmpUn _ _ _ => 4
  | .fcmpDeq _ _ _ => 4
  | .fcmpDne _ _ _ => 4
  | .fcmpDlt _ _ _ => 4
  | .fcmpDle _ _ _ => 4
  | .fcmpDun _ _ _ => 4
  | .fspecRcp _ _ _ => 4
  | .fspecRsqrt _ _ _ => 4
  | .fspecSqrt _ _ _ => 4
  | .fspecExp2 _ _ _ => 4
  | .fspecLog2 _ _ _ => 4
  | .fspecSin _ _ _ => 4
  | .fspecCos _ _ _ => 4
  | .fspecTanh _ _ _ => 4
  | .fspecDiv _ _ _ _ => 4
  | .daluAdd _ _ _ _ => 4
  | .daluSub _ _ _ _ => 4
  | .daluMul _ _ _ _ => 4
  | .daluMin _ _ _ _ => 4
  | .daluMax _ _ _ _ => 4
  | .daluDiv _ _ _ _ => 4
  | .daluSqrt _ _ _ => 4
  | .daluAddFtz _ _ _ _ => 4
  | .daluSubFtz _ _ _ _ => 4
  | .daluMulFtz _ _ _ _ => 4
  | .daluMinFtz _ _ _ _ => 4
  | .daluMaxFtz _ _ _ _ => 4
  | .daluDivFtz _ _ _ _ => 4
  | .daluSqrtFtz _ _ _ => 4
  | .dfmaFma _ _ _ _ => 4
  | .dfmaFms _ _ _ _ => 4
  | .dfmaFnma _ _ _ _ => 4
  | .dfmaFnms _ _ _ _ => 4
  | .dfmaFmaFtz _ _ _ _ => 4
  | .dfmaFmsFtz _ _ _ _ => 4
  | .dfmaFnmaFtz _ _ _ _ => 4
  | .dfmaFnmsFtz _ _ _ _ => 4
  | .fcvtF32F64 _ _ _ _ => 4
  | .fcvtF64F32 _ _ _ => 4
  | .fcvtF16F32 _ _ _ _ => 4
  | .fcvtF32F16 _ _ _ => 4
  | .fcvtBf16F32 _ _ _ _ => 4
  | .fcvtF32Bf16 _ _ _ => 4
  | .fcvtS32F32 _ _ _ _ => 4
  | .fcvtN32F32 _ _ _ _ => 4
  | .fcvtF32S32 _ _ _ _ => 4
  | .fcvtF32N32 _ _ _ _ => 4
  | .fcvtS64F64 _ _ _ _ => 4
  | .fcvtF64S64 _ _ _ _ => 4
  | .fcvtS32F64 _ _ _ _ => 4
  | .fcvtF64S32 _ _ _ => 4
  | .fcvtN64F64 _ _ _ _ => 4
  | .fcvtF64N64 _ _ _ _ => 4
  | .frndRnd _ _ _ _ => 4
  | .frndCls _ _ _ => 4
  | .frndFrexpm _ _ _ => 4
  | .frndFrexpe _ _ _ => 4
  | .frndLdexp _ _ _ _ => 4
  | .frndRndF64 _ _ _ _ => 4
  | .frndClsF64 _ _ _ => 4
  | .frndFrexpmF64 _ _ _ => 4
  | .frndFrexpeF64 _ _ _ => 4
  | .frndLdexpF64 _ _ _ _ => 4
  | .halu2Bf16Add _ _ _ _ => 4
  | .halu2Bf16Sub _ _ _ _ => 4
  | .halu2Bf16Mul _ _ _ _ => 4
  | .halu2Bf16Fma _ _ _ _ => 4
  | .halu2Bf16Min _ _ _ _ => 4
  | .halu2Bf16Max _ _ _ _ => 4
  | .halu2Bf16Pack _ _ _ _ => 4
  | .halu2F16Add _ _ _ _ => 4
  | .halu2F16Sub _ _ _ _ => 4
  | .halu2F16Mul _ _ _ _ => 4
  | .halu2F16Fma _ _ _ _ => 4
  | .halu2F16Min _ _ _ _ => 4
  | .halu2F16Max _ _ _ _ => 4
  | .halu2F16Pack _ _ _ _ => 4
  | .qcvtE4m3n _ _ _ _ _ _ => 4
  | .qcvtE5m2n _ _ _ _ _ _ => 4
  | .qcvtDm8 _ _ _ _ _ _ => 4
  | .qdecE4m3nF32 _ _ _ _ => 4
  | .qdecE5m2nF32 _ _ _ _ => 4
  | .qdecDm8F32 _ _ _ _ => 4
  | .qdecE4m3nBf16 _ _ _ _ => 4
  | .qdecE5m2nBf16 _ _ _ _ => 4
  | .qdecDm8Bf16 _ _ _ _ => 4
  | .qdecE4m3nF16 _ _ _ _ => 4
  | .qdecE5m2nF16 _ _ _ _ => 4
  | .qdecDm8F16 _ _ _ _ => 4
  | .cmprComp16 _ _ _ _ => 4
  | .cmprComp8 _ _ _ => 4
  | .cmprExp16 _ _ _ _ => 4
  | .cmprExp8 _ _ _ _ => 4
  | .cmprMeta16 _ _ _ _ => 4
  | .cmprMeta8 _ _ _ => 4
  | .geoOrient2 _ _ _ _ _ _ => 4
  | .geoOrient3 _ _ _ _ _ _ => 4
  | .geoIncircle _ _ _ _ _ _ => 4
  | .geoInsphere _ _ _ _ _ _ => 4
  | .geoSegx _ _ _ _ => 4
  | .ld _ _ _ _ _ => 4
  | .st _ _ _ _ _ => 4
  | .ldo32 _ _ _ => 4
  | .ldo64 _ _ _ => 4
  | .sto32 _ _ _ => 4
  | .sto64 _ _ _ => 4
  | .ldaq _ _ _ _ _ => 4
  | .strl _ _ _ _ _ => 4
  | .amo32Add _ _ _ _ => 4
  | .amo32And _ _ _ _ => 4
  | .amo32Or _ _ _ _ => 4
  | .amo32Xor _ _ _ _ => 4
  | .amo32Min _ _ _ _ => 4
  | .amo32Max _ _ _ _ => 4
  | .amo32Minn _ _ _ _ => 4
  | .amo32Maxn _ _ _ _ => 4
  | .amoxXchg _ _ _ _ => 4
  | .amoxXchg64 _ _ _ _ => 4
  | .amoxCas _ _ _ _ => 4
  | .amoxCas64 _ _ _ _ => 4
  | .amoxFadd _ _ _ _ => 4
  | .amoxAdd64 _ _ _ _ => 4
  | .lst _ _ _ => 4
  | .lld _ _ _ => 4
  | .lpoll _ _ _ => 4
  | .fence _ => 4
  | .cwb _ _ _ => 4
  | .cinv _ _ => 4
  | .discard _ _ => 4
  | .zline _ _ => 4
  | .pin _ _ _ _ => 4
  | .unpin _ _ _ => 4
  | .dist _ _ _ => 4
  | .touch _ _ _ _ => 4
  | .demote _ _ => 4
  | .evict _ _ => 4
  | .rhset _ _ _ => 4
  | .spadLd32 _ _ _ => 4
  | .spadLd64 _ _ _ => 4
  | .spadLd128 _ _ _ => 4
  | .spadSt32 _ _ _ => 4
  | .spadSt64 _ _ _ => 4
  | .spadSt128 _ _ _ => 4
  | .cpyG2b _ _ _ _ _ _ => 4
  | .cpyG2s _ _ _ _ _ => 4
  | .cpyS2g _ _ _ _ _ => 4
  | .cpyG2g _ _ _ _ _ => 4
  | .cpyS2b _ _ _ _ _ _ => 4
  | .cpyS2s _ _ _ _ _ => 4
  | .seal _ => 4
  | .waitn _ => 4
  | .tdset _ _ => 4
  | .tdget _ _ _ => 4
  | .mma _ _ _ _ _ _ _ => 4
  | .mmaz _ _ _ _ _ _ _ => 4
  | .acq _ => 4
  | .rel _ => 4
  | .amov _ _ => 4
  | .azero _ => 4
  | .ast _ _ => 4
  | .capPass => 4
  | .tskSub _ _ _ => 4
  | .tskWait _ => 4
  | .tskBstat _ => 4
  | .tskBclr _ => 4
  | .kvKvg _ _ _ _ _ _ => 4
  | .kvKvgs _ _ _ _ _ => 4
  | .kvKvs _ _ _ _ _ => 4
  | .kvKvinv _ => 4
  | .colSum _ _ _ _ _ => 4
  | .colMax _ _ _ _ _ => 4
  | .colMin _ _ _ _ _ => 4
  | .colTri _ _ _ _ _ => 4
  | .colBcast _ _ _ _ _ => 4
  | .colGath _ _ _ _ _ => 4
  | .colBar _ _ _ _ => 4
  | .tret _ => 4
  | .syscall _ _ => 4
  | .csrr _ _ _ => 4
  | .csrw _ _ _ => 4
  | .csrs _ _ _ => 4
  | .csrc _ _ _ => 4
  | .egyRd _ => 4
  | .egyReq _ _ => 4
  | .pwrGate _ _ => 4
  | .rsend _ => 4
  | .rrecv _ _ => 4
  | .lnch _ _ _ => 4
  | .evtSig _ _ _ => 4
  | .evtWait _ _ _ => 4
  | .barCrew => 4
  | .barGang => 4
  | .qenq _ _ => 4
  | .qdeq _ _ _ => 4
  | .pcrd _ _ _ => 4
  | .pcwr _ _ => 4
  | .cvbrd _ _ _ => 4
  | .cvbwr _ _ _ => 4
  | .cvbTimeout _ _ => 0
  | .lldTimeout _ _ => 0
  | .watchdog _ _ => 0
  | .trapEntry _ => 0
  | .nestedTrapEntry _ => 0
  | .taskStart _ _ => 0
  | .taskComplete _ _ => 0
  | .rangeOpComplete _ _ => 0
  | .demoteEvictStatus _ _ => 0
  | .latticeRound _ => 0
  | .lxschedWrite _ _ => 0
  | .smapMap _ _ => 0
  | .smapUnmap _ _ => 0
  | .smapWritebackDone _ _ => 0
  | .shdwReserveRing8 _ => 0
  | .shdwReserveRings78 _ => 0
  | .shdwRelease _ => 0
  | .spiralUncorrectableError _ => 0
  | .powerAlarm => 0
  | .energyWindow _ => 0
  | .budgetWrite _ _ => 0
  | .qctlWrite _ _ _ => 0
  | .qtailWrite _ _ _ => 0
  | .qownWrite _ _ _ => 0
  | .eventCounterWrite _ _ _ => 0
  | .launchBegin _ _ => 0
  | .gangDispatch _ _ => 0
  | .gangSteal _ _ => 0
  | .crewFinish _ => 0
  | .launchCompletion _ => 0
  | .pcmdVacate _ _ => 0
  | .pcmdReturn _ _ => 0
  | .heldStop _ => 0
  | .preemptSaveEntry _ => 0
  | .phlimExpiry _ => 0
  | .preemptRestoreEntry _ _ => 0
  | .tinvcPage _ => 0
  | .tinvcAll _ => 0
  | .tinvcComplete _ => 0
  | .flctlWrite _ _ => 0
  | .coreGateOff _ => 0
  | .corePowerRestored _ => 0
  | .routerPowerDown _ => 0
  | .routerWakeSignal _ => 0
  | .routerPowerRestored _ => 0
  | .groupRecordWrite _ _ _ _ => 0
  | .jalefLinkChange _ _ _ => 0
  | .hostPortLinkChange _ _ => 0
  | .hostAccess _ _ _ _ _ _ => 0
  | .peerAccess _ _ _ _ _ _ _ => 0
  | .poolAdmit _ _ _ => 0
  | .poolGrow _ _ _ => 0
  | .poolRet _ _ _ => 0
  | .guarWrite _ _ _ => 0
  | .migWrite _ _ _ => 0
  | .vfbindWrite _ _ => 0
  | .vfportWrite _ _ => 0
  | .reset => 0
  | .bootctlGo => 0
  | .firmwareCheckDone _ => 0
  | .raiseFullService _ => 0
  | .partitionCreate _ _ _ _ => 0
  | .pbootGo _ _ => 0
  | .stackFence _ => 0
  | .securityAlarm _ _ => 0
  | .registerWrite _ _ _ _ _ _ => 0
  | .reservedInstructionWord _ _ _ => 0
  | .writebackAccepted _ => 0
  | .onlyCopyUncorrectableError _ _ => 0
  | .partitionDestroy _ => 0
  | .powerAlarmEnd => 0
  | .peerCollectiveMessage _ _ _ _ => 0

/-- The bytes of an instruction as memory holds them. -/
def encodeBytes (i : Instr) : List Byte := natLE (encodedLength i) (encode i)

/-- The instruction that the decoder reads from bits numbered as the opcode table numbers them; bits above `nbits` are
zero. -/
noncomputable def decodeTableWord (nbits w : Nat) : Option Instr :=
  match (decodeBytes false (natLE 8 (w % 2 ^ nbits))).2.2 with
  | .ok i => some i
  | .error _ => none

end Sys2Proof
end

