-- ==== Sys2Proof/Machine/Fetch.lean ====
section
/-! DEFINITION. Instruction fetch (R129, R130): halfwords, words, and guarded instructions, read through translation as
memory stands or as the core has kept it. A fetch raises no view time; one that a copy of the core's serves makes no touch, and
any other makes one (R78). -/
namespace Sys2Proof.Machine

/-- The need of a fetch (R345). -/
def needFetch : Need := { read := false, write := false, fetch := true }

/-- A halfword at a place: what memory holds now, as `fresh` reads it, or something older that the core has kept, by a free
choice (R130). -/
def State.fetchAt (s : State) (core place now : Nat) (fresh : Answer State) : Answer (State × Nat) :=
  let read := fresh.andThen fun r => .ok (r.keepCode core place now, now)
  match s.oldCode core place now with
  | [] => read
  | x :: xs =>
    match Config.staleChoice s.draws s.cycle, (x :: xs)[Config.staleChoice s.draws s.cycle - 1]? with
    | _ + 1, some old => .ok (s.drawn, old)
    | _, _ => read.andThen fun r => .ok (r.1.drawn, r.2)

/-- Whether a copy may serve a fetch of what stands at a place: one that the core has kept, or one in its data cache. -/
def State.fetchCopy (s : State) (core place now : Nat) (ws : List Nat) : Bool :=
  s.code.any (fun k => k.core == core && k.place == place && k.half == now) ||
  ws.all fun w => s.keeps core w || (tfind s.copies (4096 * w + core)).isSome

/-- Whether a fetch makes its touch: only a fetch that a copy may serve has the choice. -/
def State.fetchTouches (s : State) (core place now : Nat) (ws : List Nat) : Bool :=
  !(s.fetchCopy core place now ws && Config.freeBit s.draws)

/-- One halfword. A fetch that leaves the package takes what the peer answers; a device register page gives 0. A word that
another core owns is recalled first (R98). -/
def State.fetchHalf (s : State) (core : Nat) (sup : Bool) (va : Dword) : Answer (State × Nat) :=
  let w : Who := { core := core, sup := sup, view := 0 }
  (s.site w va 2 needFetch).andThen fun r =>
    let place := r.1.codePlace core r.2.1.pa
    let read := fun (t : Target) =>
      let now := bytesNat (r.1.bytesAt t 2)
      let touches := r.1.fetchTouches core place now (t.words 2)
      r.1.fetchAt core place now
        (if r.1.lostTarget t then .trap (trapAt 0xB 0 va)
        else if touches && r.1.poisonAt t 2 then .trap (trapAt 0xA 0 va)
        else .ok ((r.1.drawn.recall core (t.words 2)).touchTarget touches t 0))
    match r.2.2 with
    | .cells p pa a _ => read (.rep p pa a w.stack)
    | .nothing => .trap (trapAt 6 5 va)
    | .down x => .wait x
    | .peer dev port off =>
      (r.1.peerLoad .weak dev port off 2 0 va).andThen fun q => .ok (q.1, bytesNat q.2.2)
    | .vfPage _ _ => .ok (r.1, 0)
    | .control _ _ => .ok (r.1, 0)
    | t => read t

/-- What a fetch of a core at a place reaches, and the halfword there; nothing of a place that no fetch of the core can find as
it stands. -/
def State.placeNow (s : State) (core place : Nat) : Option (Nat × Target) :=
  let found := fun (t : Target) =>
    match t with
    | .peer _ _ _ => none
    | .down _ => none
    | .control _ _ => none
    | .vfPage _ _ => none
    | .cells _ _ _ _ => none
    | .nothing => none
    | t => if s.lostTarget t || s.poisonAt t 2 then none else some (bytesNat (s.bytesAt t 2), t)
  if isSupervisorCore core then found (s.reachPackage core place)
  else match s.partOfCore core with
    | none => none
    | some (_, p) =>
      if Config.hostBase ≤ place ∨ p.holds (place / Config.bandBytes) then
        let pa := if Config.hostBase ≤ place then place else p.fromPackage place
        let a := s.cellAddress p pa
        found (if (tfind s.latPages (a / 4096)).isSome then .rep p pa a (coreStack core) else s.reach p core pa)
      else none

/-- A core fetches ahead (R130): it keeps what stands at a place now, with one touch unless a copy serves it (R78). -/
def State.fetchAhead (s : State) (core place : Nat) : State :=
  match s.placeNow core place with
  | none => s
  | some (half, t) =>
    ((s.recall core (t.words 2)).keepCode core place half).drawn.touchTarget (s.fetchTouches core place half (t.words 2)) t 0

/-- An instruction of 16 or 32 bits: the state, the word, and its length in bytes. -/
def State.fetchWord (s : State) (core : Nat) (sup : Bool) (va : Dword) : Answer (State × Nat × Nat) :=
  (s.fetchHalf core sup va).andThen fun r =>
    if lengthOf r.2 = 2 then .ok (r.1, r.2, 2)
    else (r.1.fetchHalf core sup (va + 2)).andThen fun q => .ok (q.1, r.2 + 65536 * q.2, 4)

/-- Whether a 32-bit word is a guard (R139). -/
def isGuard (w : Nat) : Bool := w % 2 == 1 && major w == 0x14 && fieldNat w 28 4 == 6

/-- The word at an address, looking through a guard, and the address after it: what a resume record may name (R302).
None when it cannot be fetched. -/
def State.peekWord (s : State) (core : Nat) (sup : Bool) (va : Dword) : Option (Nat × Dword) :=
  match s.fetchWord core sup va with
  | .ok (_, w, n) =>
    if isGuard w then
      match s.fetchWord core sup (va + 4) with
      | .ok (_, x, m) => some (x, va + 4 + BitVec.ofNat 64 m)
      | _ => none
    else some (w, va + BitVec.ofNat 64 n)
  | _ => none

/-- Words that a resume record's STATE 1 may name (R302), and `lld`. -/
def isCvbWait (w : Nat) : Bool := w % 2 == 1 && major w == 0x13 && fieldNat w 28 4 == 1
def isBarCrew (w : Nat) : Bool := w % 2 == 1 && major w == 0x3D && fieldNat w 28 4 == 5
def isBarGang (w : Nat) : Bool := w % 2 == 1 && major w == 0x3D && fieldNat w 28 4 == 6
def isLld (w : Nat) : Bool := w % 2 == 1 && major w == 0x30 && fieldNat w 28 4 == 1

end Sys2Proof.Machine
end

