-- ==== Sys2Proof/Machine/Launch.lean ====
section
/-! DEFINITION. Launch records, kernel headers and stage tables (R157, R158, R162, R309, R310), placement (R8, R320), and
the start of a crew (R311). -/
namespace Sys2Proof.Machine

/-! ## Headers -/

/-- A header read from 64 bytes at an address; none when it breaks R157 or R158. The spec says that an assembler rounds a
scratchpad size up to a multiple of 2,048, and not what becomes of a header with another size: the model takes it to break a limit
(log 80). -/
def Header.ofBytes (addr : Dword) (b : List Byte) : Option Header :=
  let kv := fieldAt b 4 1
  let ks := fieldAt b 5 1
  let warps := fieldAt b 6 2
  let spad := fieldAt b 8 4
  let crews := fieldAt b 12 2
  let role := fieldAt b 14 2
  let traps := fieldAt b 16 4
  let energy := fieldAt b 20 4
  if fieldAt b 0 4 = 0x4B584E46 ∧ 1 ≤ kv ∧ kv ≤ 64 ∧ 1 ≤ ks ∧ ks ≤ 32 ∧ 1 ≤ warps ∧ warps ≤ 32 ∧ spad ≤ 2097152 ∧
      spad % 2048 = 0 ∧ 1 ≤ crews ∧ crews ≤ 32 ∧ role < 8 ∧ traps % 2 = 0 ∧ traps < 2 ^ 21 ∧ energy ≤ 15 ∧
      fieldAt b 32 32 = 0 then
    some { entry := addr + 64, kv := kv, ks := ks, warps := warps, spad := spad, crews := crews, role := role,
           traps := BitVec.ofNat 32 traps, energy := energy, stages := BitVec.ofNat 64 (fieldAt b 24 8) }
  else none

/-- The stage role, and the pre-emption role (R157). -/
def Header.staged (h : Header) : Bool := h.role.testBit 0
def Header.savesItself (h : Header) : Bool := h.role.testBit 1

/-- Bytes that the device reads for itself, in units of 8, in supervisor mode; none when they cannot be read. -/
def State.deviceRead (s : State) (core : Nat) (va : Dword) (n : Nat) : Answer (State × Option (List Byte)) :=
  match s.slotRead core 0 va n with
  | .ok r => .ok (r.1, some r.2.2)
  | .trap _ => .ok (s, none)
  | .wait w => .wait w

/-- The header at an address (R310). -/
def State.readHeader (s : State) (core : Nat) (addr : Dword) : Answer (State × Option Header) :=
  if addr.toNat % 64 ≠ 0 then .ok (s, none)
  else (s.deviceRead core addr 8).andThen fun r => .ok (r.1, r.2.bind (Header.ofBytes addr))

/-- One stage of a table from its 24 bytes and its header (R39, R162); the last stage has no output queue. -/
def tableStage (b : List Byte) (h : Header) (last : Bool) : Option Stage :=
  let size := fieldAt b 8 4
  let cap := fieldAt b 12 4
  let mark := fieldAt b 16 4
  let none_ := size = 0 ∧ cap = 0 ∧ mark = 0
  let queue := ¬ last ∧ 4 ≤ size ∧ size ≤ 256 ∧ size % 4 = 0 ∧ 2 ≤ cap ∧ cap ≤ 65536 ∧ 1 ≤ mark ∧ mark < cap
  if h.staged ∧ h.crews = 1 ∧ fieldAt b 20 4 = 0 ∧ (none_ ∨ queue) then
    some { header := h, size := size, capacity := cap, mark := mark, entries := [] }
  else none

/-- The stages of a table from its k-th on, `n` of them. -/
def State.readStages (core : Nat) (table : Dword) : Nat → Nat → State → Answer (State × Option (List Stage))
  | 0, _, s => .ok (s, some [])
  | n + 1, k, s =>
    (s.deviceRead core (table + BitVec.ofNat 64 (8 + 24 * k)) 3).andThen fun r =>
      match r.2 with
      | none => .ok (r.1, none)
      | some b =>
        (r.1.readHeader core (BitVec.ofNat 64 (fieldAt b 0 8))).andThen fun q =>
          match q.2.bind fun h => tableStage b h (n == 0) with
          | none => .ok (q.1, none)
          | some st =>
            (State.readStages core table n (k + 1) q.1).andThen fun x => .ok (x.1, x.2.map fun l => st :: l)

/-- The stage table that a header names (R162); stage 0 is the header itself. -/
def State.readTable (s : State) (core : Nat) (h : Header) : Answer (State × Option (List Stage)) :=
  if h.stages = 0 ∨ h.stages.toNat % 8 ≠ 0 then .ok (s, none)
  else (s.deviceRead core h.stages 1).andThen fun r =>
    match r.2 with
    | none => .ok (r.1, none)
    | some b =>
      let n := fieldAt b 0 4
      if n = 0 ∨ 8 < n ∨ fieldAt b 4 4 ≠ 0 then .ok (r.1, none)
      else (State.readStages core h.stages n 0 r.1).andThen fun q =>
        .ok (q.1, q.2.bind fun l => match l with
          | st :: _ => if st.header = h then q.2 else none
          | [] => none)

/-! ## Records -/

/-- A launch record (R309). -/
structure LaunchRec where
  hdr : Dword
  gangs : Nat
  args : Dword
  qstore : Dword
  dev : Word
  dinc : Word
  wev : Word
  wth : Word
  dobs : Nat
  wobs : Nat
  flags : Nat
  rest : Nat

def LaunchRec.ofBytes (b : List Byte) : LaunchRec :=
  { hdr := BitVec.ofNat 64 (fieldAt b 0 8), gangs := fieldAt b 8 8, args := BitVec.ofNat 64 (fieldAt b 16 8),
    qstore := BitVec.ofNat 64 (fieldAt b 24 8), dev := BitVec.ofNat 32 (fieldAt b 32 4),
    dinc := BitVec.ofNat 32 (fieldAt b 36 4), wev := BitVec.ofNat 32 (fieldAt b 40 4),
    wth := BitVec.ofNat 32 (fieldAt b 44 4), dobs := fieldAt b 48 1, wobs := fieldAt b 49 1, flags := fieldAt b 50 1,
    rest := fieldAt b 51 1 + fieldAt b 56 8 }

/-- An event field: a counter, or none (R309). -/
def eventField (x : Word) : Bool := x == 0xFFFFFFFF || decide (x.toNat < 4096)

/-- The conditions of R310 on the record alone. -/
def LaunchRec.sound (r : LaunchRec) : Bool :=
  decide (r.gangs ≤ 2 ^ 40) && eventField r.dev && eventField r.wev && decide (r.dobs < 32) && decide (r.wobs < 32) &&
    decide (r.flags < 2) && r.rest == 0

/-- Whether a gang fits an empty band (R8, R310, R320): a core of 64 lanes holds every crew that a header can declare,
and more, so that only the scratchpad can be short: 8 clusters of 1,024 tiles. -/
def Header.fitsEmptyBand (h : Header) : Bool := h.spad == 0 || decide (h.crews ≤ 8 * (2097152 / h.spad))

/-- A record examined by R310: its header and stages, none when it is refused. -/
def State.examine (s : State) (core : Nat) (r : LaunchRec) : Answer (State × Option (Header × List Stage)) :=
  if !r.sound then .ok (s, none)
  else (s.readHeader core r.hdr).andThen fun q =>
    match q.2 with
    | none => .ok (q.1, none)
    | some h =>
      if !h.fitsEmptyBand then .ok (q.1, none)
      else if h.staged then
        if r.qstore = 0 ∨ r.qstore.toNat % 128 ≠ 0 then .ok (q.1, none)
        else (q.1.readTable core h).andThen fun t => .ok (t.1, t.2.map fun l => (h, l))
      else if r.qstore ≠ 0 then .ok (q.1, none)
      else .ok (q.1, some (h, []))

/-! ## Placement -/

/-- The crews that hold a core's storage (R245, R253): those neither suspended nor finished. -/
def State.crewsOn (s : State) (core : Nat) : List (Nat × Crew) :=
  s.crews.filter fun e => e.2.core == core && e.2.state == .resident

/-- The warps of a core's crews. -/
def State.warpsOn (s : State) (core : Nat) : List Warp := (s.crewsOn core).flatMap fun e => (s.warpsOf e.2).map Prod.snd

/-- The free index on a lane for a warp of `kv` vector registers (R8): at most eight warps, in 8 KiB. -/
def laneSlot (ws : List Warp) (lane kv : Nat) : Option Nat :=
  let here := ws.filter fun w => w.lane == lane
  if 8 ≤ here.length ∨ 8192 < 128 * ((here.map Warp.kv).sum + kv) then none
  else (List.range 8).find? fun j => here.all fun w => w.slot != j

/-- A lane and an index for a warp. -/
def pickLane (ws : List Warp) (kv : Nat) : Option (Nat × Nat) :=
  (List.range 64).findSome? fun l => (laneSlot ws l kv).map fun j => (l, j)

/-- The crews whose scratchpad runs stand in a cluster. -/
def State.padCrews (s : State) (cluster : Nat) : List (Nat × Crew) :=
  s.crews.filter fun e =>
    coreCluster e.2.core == cluster && e.2.state == .resident && e.2.size != 0 && e.2.scanned.isNone
/-- The tiles of a run. -/
def Crew.padTiles (c : Crew) : Nat × Nat := (c.spad / 2048, c.size / 2048)
/-- Scratchpad tiles of a cluster that are not free: those of crews, but for some, and those that an entry maps. -/
def State.padUsed (s : State) (cluster : Nat) (except : List (Nat × Crew)) : List (Nat × Nat) :=
  ((s.padCrews cluster).filter fun e => !except.any fun x => x.1 == e.1).map (fun e => e.2.padTiles) ++
  ((s.smap.filter fun e => e.2.v && e.1 / 16 == cluster).map fun e => (e.2.soff, e.2.nt + 1))

/-- Whether a run of tiles from `o` on is clear of others. -/
def runClear (used : List (Nat × Nat)) (o tiles : Nat) : Bool :=
  decide (o + tiles ≤ 1024) && used.all fun u => decide (u.1 + u.2 ≤ o) || decide (o + tiles ≤ u.1)
/-- A free run of scratchpad tiles (R320), by its first tile. -/
def State.padRun (s : State) (cluster tiles : Nat) : Option Nat :=
  if tiles = 0 then some 0 else (List.range 1024).find? fun o => runClear (s.padUsed cluster []) o tiles

/-! ## Storage of held crews (R339) -/

/-- Tiles of shadow storage that a band has left (R95): the positions of its reserved rings, less what is scanned out there. -/
def State.shadowRoom (s : State) (band : Nat) : Nat :=
  65536 - (Spiral.of s band).limit -
    ((s.crews.filter fun e => coreBand e.2.core == band && e.2.scanned.isSome).map fun e => e.2.size / 2048).sum

/-- The held crews of a cluster, of other launches than one, whose runs meet tiles from `o` on. -/
def State.heldRuns (s : State) (launch cluster o tiles : Nat) : List (Nat × Crew) :=
  (s.padCrews cluster).filter fun e =>
    (s.core e.2.core).vacate == .vacated && e.2.launch != launch && !runClear [e.2.padTiles] o tiles

/-- A run of tiles that a placement of a launch takes from held crews of others, for want of a free one: by its first tile, with
those crews. A claim that finds too little shadow storage fails. -/
def State.padClaim (s : State) (launch cluster tiles : Nat) : Option (Nat × List (Nat × Crew)) :=
  match s.padRun cluster tiles with
  | some o => some (o, [])
  | none =>
    ((List.range 1024).find? fun o =>
      let held := s.heldRuns launch cluster o tiles
      runClear (s.padUsed cluster held) o tiles &&
        decide ((held.map fun e => e.2.size / 2048).sum ≤ s.shadowRoom (cluster / 8))).map fun o =>
      (o, s.heldRuns launch cluster o tiles)

/-- A crew's run is scanned out. -/
def State.scanOut (s : State) (ck : Nat) (c : Crew) : State :=
  let a := 2097152 * coreCluster c.core + c.spad
  let mine := fun (k : Nat) => decide (a ≤ k) && decide (k < a + c.size)
  let kept : Memory × Tab Unit :=
    ((s.spad.filter fun e => mine e.1).map (fun e => (e.1 - a, e.2)),
     (s.spadPoison.filter fun e => mine e.1).map fun e => (e.1 - a, ()))
  { s.setCrew ck { c with scanned := some kept } with
    spad := s.spad.filter fun e => !mine e.1, spadPoison := s.spadPoison.filter fun e => !mine e.1 }

/-- A crew's run is scanned back in where there is room; none when there is none. -/
def State.scanIn (s : State) (ck : Nat) : Option State :=
  match s.crew ck with
  | none => some s
  | some c => match c.scanned with
    | none => some s
    | some kept => (s.padRun (coreCluster c.core) (c.size / 2048)).map fun o =>
        let a := 2097152 * coreCluster c.core + 2048 * o
        { s.setCrew ck { c with scanned := none, spad := 2048 * o } with
          spad := kept.1.foldl (fun m e => wput m (a + e.1) e.2) s.spad,
          spadPoison := kept.2.foldl (fun t e => tput t (a + e.1) ()) s.spadPoison }

/-- Every scanned-out run of a core's crews comes back before they resume. -/
def State.scanAllIn (s : State) (core : Nat) : Option State :=
  (s.crewsOn core).foldl (fun s e => s.bind fun s => s.scanIn e.1) (some s)

/-- Bytes of the scratchpads read 0, with no poison and no lost line (R240, R311). -/
def State.wipePad (s : State) (a n : Nat) : State :=
  let mine := fun (k : Nat) => decide (a ≤ k) && decide (k < a + n)
  { s with spad := s.spad.filter (fun e => !mine e.1), spadPoison := s.spadPoison.filter (fun e => !mine e.1),
           lost := s.lost.filter fun e => decide (128 * e.1 < 2 ^ 60) || !mine (128 * e.1 - 2 ^ 60) }

/-- Whether a core may take a crew of a launch (R245, R320, R326, R337). -/
def State.coreOpen (s : State) (core launch : Nat) : Bool :=
  let k := s.core core
  k.gate == .on && k.vacate == .inService && (s.crewsOn core).all fun e => e.2.launch == launch

/-- A new warp (R311), with ARGS in its scalar registers. -/
def Warp.start (crew wix lane slot kv ks : Nat) (entry args view : Dword) (sup : Bool) : Warp :=
  let w : Warp :=
    { crew := crew, wix := wix, lane := lane, slot := slot, kv := kv, ks := ks, s := [], frm := 0, fflags := 0,
      threads := List.replicate 32 { Thread.init entry sup with view := view }, bars := [], pend := [], batches := [],
      subs := [], run := .resident, pausedAt := none, stuck := none, seals := [], ended := 0 }
  if ks = 1 then w.setS 0 (lowWord args) else w.setSPair 0 args

/-- Lanes for the warps of a crew, in turn. -/
def placeWarps (ws : List Warp) (mk : Nat → Nat → Nat → Warp) : Nat → Nat → Option (List Warp)
  | 0, _ => some []
  | n + 1, i =>
    (pickLane ws (mk i 0 0).kv).bind fun l =>
      (placeWarps (mk i l.1 l.2 :: ws) mk n (i + 1)).map fun r => mk i l.1 l.2 :: r

/-- A crew placed on a core and started (R311, R320); none when it does not fit. -/
def State.placeCrew (s : State) (core : Nat) (launch gang cix : Nat) (h : Header) (args view : Dword) (sup : Bool) :
    Option State :=
  if !s.coreOpen core launch then none
  else
    let ck := s.fresh
    let cluster := coreCluster core
    match placeWarps (s.warpsOn core) (fun i l j => Warp.start ck i l j h.kv h.ks h.entry args view sup) h.warps 0,
        s.padClaim launch cluster (h.spad / 2048) with
    | some ws, some (o, held) =>
      let keys := (List.range h.warps).map fun i => ck + 1 + i
      let s := (held.foldl (fun s e => s.scanOut e.1 e.2) s).wipePad (2097152 * cluster + 2048 * o) h.spad
      let crew : Crew :=
        { launch := launch, gang := gang, cix := cix, core := core, spad := 2048 * o, size := h.spad, warps := keys, td := [],
          cap := 0, marks := 0, arrived := 0, cover := 4 * h.energy, state := .resident, spill := [], scanned := none }
      let s1 := { s with warps := (keys.zip ws).foldl (fun t (e : Nat × Warp) => tput t e.1 e.2) s.warps, fresh := ck + 1 + h.warps }
      some ((s1.setCrew ck crew).onGang gang fun g => { g with crews := g.crews ++ [ck] })
    | _, _ => none

/-- The first core of a band on which a crew fits. -/
def State.placeInBand (s : State) (band : Nat) (launch gang cix : Nat) (h : Header) (args view : Dword) (sup : Bool) :
    Option State :=
  (List.range 32).findSome? fun i => s.placeCrew (32 * band + i) launch gang cix h args view sup

/-- The crews of a gang from index `i` on, `n` of them, all or none (R18, R320). All crews of a gang need the same, so
that filling cores in turn finds a placement when there is one. -/
def State.placeCrews (band launch gang : Nat) (h : Header) (args view : Dword) (sup : Bool) :
    Nat → Nat → State → Option State
  | 0, _, s => some s
  | n + 1, i, s => (s.placeInBand band launch gang i h args view sup).bind fun s1 =>
      State.placeCrews band launch gang h args view sup n (i + 1) s1

/-- A gang placed in a band with its crews started, its key the next unused one; none when it does not fit. -/
def State.placeGang (s : State) (band launch stage : Nat) (index : Dword) (h : Header) (args view : Dword) (sup : Bool) :
    Option State :=
  let gk := s.fresh
  let gang : Gang :=
    { launch := launch, index := index, band := band, stage := stage, crews := [], arrived := 0, state := .assigned }
  State.placeCrews band launch gk h args view sup h.crews 0 ({ s with fresh := gk + 1 }.setGang gk gang)

/-! ## Appending to a queue (R313, R352) -/

/-- Where the record at a ring index lies, in the partition's physical space. -/
def Queue.slot (q : Queue) (i : Word) : Nat := q.base.toNat + 64 * (i.toNat % 2 ^ q.logn)

end Sys2Proof.Machine
end

