-- ==== Sys2Proof/Machine/Preempt.lean ====
section
/-! DEFINITION. Leaving a core and resuming on one (R280, R301 to R304, R338 to R342): resume records, the restore frame, the
end of a pre-empted crew's stay on its core. -/
namespace Sys2Proof.Machine

/-! ## Resume records (R301) -/

/-- The resume word of a PC and a STATE. -/
def resumeWord (pc : Dword) (st : Nat) : Dword :=
  BitVec.ofNat 64 (bits pc.toNat 1 56 * 2 + st * 2 ^ 62)
/-- STATE and PC of a resume word. -/
def resumeState (x : Dword) : Nat := x.toNat / 2 ^ 62
def resumePc (x : Dword) : Dword := (BitVec.ofNat 57 (x.toNat % 2 ^ 57)).signExtend 64 &&& ~~~1

/-- The record of a thread at pre-emption. `subs` are the parked sub-warps that have not entered a handler. -/
def Thread.record (subs : List Sub) (t now : Nat) (th : Thread) : Dword × Nat :=
  let left := if th.timeout = 0 then 0 else max 1 (th.timeout - now)
  match th.status with
  | .finished => (resumeWord th.pc 2, 0)
  | .parked =>
    let pc := ((subs.find? fun x => inMask x.mask t).map Sub.origin).getD th.pc
    (resumeWord pc 3, 0)
  | .converge _ _ _ => (resumeWord th.pc 1, 0)
  | .crewBarrier _ => (resumeWord th.pc 1, 0)
  | .gangBarrier _ => (resumeWord th.pc 1, 0)
  | _ => (resumeWord th.pc 0, left)

/-- The timeouts of a warp go on after a pause (R33, R339). -/
def Warp.unpause (w : Warp) (now : Nat) : Warp :=
  match w.pausedAt with
  | none => w
  | some p =>
    let w1 := w.mapThreads fun _ th =>
      { th with timeout := if th.timeout = 0 then 0 else th.timeout + (now - p), since := th.since + (now - p) }
    { w1 with pausedAt := none,
              bars := w1.bars.map fun e => (e.1, { e.2 with expiry := e.2.expiry.map fun x => (x.1, x.2 + (now - p)) }) }

/-! ## Resuming (R302, R304) -/

/-- Every convergence barrier of a warp is checked (R304). -/
def Warp.settleAll (w : Warp) : Warp := (List.range 16).foldl Warp.settleBar w

/-- A thread whose record holds STATE 1 (R302): blocked in the barrier at its PC; it has arrived where the restored
arrivals name it, and otherwise arrives now. -/
def State.rejoin (s : State) (wk t : Nat) (pc : Dword) : State :=
  match s.warp wk with
  | none => s
  | some w =>
    match s.peekWord (s.coreOf w) (s.baseMode w) pc with
    | none => s
    | some (x, next) =>
      if isCvbWait x then
        let n := fieldNat x 14 4
        let k := fieldNat x 7 3
        let b := w.bar n
        if inMask b.z t then
          s.onThread wk t fun th => { th with status := .converge n k next, since := s.cycle }
        else if inMask b.m t then
          let c : Ctx := { warp := w, place := s.placeOf w, clk := BitVec.ofNat 64 s.cycle }
          let limit := (c.usrc (field x 21 7)).toNat
          let w1 := w.mapThreads fun i th =>
            if i = t then { th with status := .converge n k next, since := s.cycle } else th
          let due := match w.pausedAt with | some p => p + limit | none => s.cycle + limit
          let expiry := if limit = 0 then b.expiry else tput b.expiry t due
          s.setWarp wk (w1.setBar n { b with z := setBit b.z t true, expiry := expiry })
        else s.onThread wk t fun th => { th.setP k false with pc := next }
      else if isBarCrew x then s.onThread wk t fun th => { th with status := .crewBarrier next, since := s.cycle }
      else if isBarGang x then s.onThread wk t fun th => { th with status := .gangBarrier next, since := s.cycle }
      else s

/-- The threads whose records hold STATE 3: parked by the frame at +0 of the slot, when it names them (R302). -/
def State.repark (s : State) (wk : Nat) (m : Word) (f : Frame) : State :=
  let ts := m &&& f.mask
  if ts = 0 then s
  else s.onWarp wk fun w =>
    { w.onThreads ts (fun th => { th with status := .parked }) with
      subs := [{ mask := ts, cause := f.cause, sub := f.sub, addr := f.addr, word := f.word, pc := f.pc,
                 origin := f.pc, detail := f.detail, nested := false, framed := true }] }

/-- Every thread of a warp resumes from its record (R304). `f` is the frame at +0 of the slot, when some record holds
STATE 3. -/
def State.resumeAll (s : State) (wk : Nat) (s31 : Word) (f : Option Frame) : State :=
  match s.warp wk with
  | none => s
  | some w =>
    let base := s.baseMode w
    let core := s.coreOf w
    let rec3 := w.where_ fun th => resumeState th.resume == 3
    let done := w.where_ fun th => resumeState th.resume == 2
    let w1 := (w.setS 31 s31).mapThreads fun _ th =>
      let pc := resumePc th.resume
      let lld := match s.peekWord core base pc with | some (x, _) => isLld x | none => false
      { th.clearLatches with pc := pc, status := .ready, handler := .none, sup := base, held := none,
                             timeout := if th.left = 0 || !lld then 0 else (w.pausedAt.getD s.cycle) + th.left }
    let s1 := s.setWarp wk { w1 with subs := [], run := .resident }
    let s2 := (threadsOf (w.where_ fun th => resumeState th.resume == 1)).foldl (fun s t =>
      s.rejoin wk t (resumePc (w.thread t).resume)) s1
    let s3 := match f with | some f => s2.repark wk rec3 f | none => s2
    let s4 := s3.onWarp wk fun w => w.unpause s.cycle
    let s5 := if done = 0 then s4 else s4.finishThreads wk done
    (s5.onWarp wk Warp.settleAll).settleBarriers w

/-! ## Leaving (R340) -/

/-- The engine state of a core at its reset values (R244, R245); the submission counts go on, so that every token issued
before names a finished task (R280). -/
def Core.resetEngine (c : Core) : Core :=
  { c with bufs := [], accs := [], ktb := [], entries := c.entries.map fun e => (e.1, { e.2 with task := none, stamp := 0 }) }

/-- Entries of a riser FIFO that stay: those whose launch has a crew on either core (R295). -/
def State.purgeFifo (s : State) (core : Nat) : State :=
  let low := lowerCore core
  let live := ((s.crewsOn low) ++ s.crewsOn (upperCore core)).map fun e => e.2.launch
  s.onCore low fun k => { k with fifo := k.fifo.filter fun e => live.contains e.1 }

/-- The command of a partition ends (R337): PSTAT. -/
def State.commandDone (s : State) (core res : Nat) : State :=
  match s.partOfCore core with
  | some (k, _) => s.onPart k fun p => { p with pstat := BitVec.ofNat 32 (res * 2 ^ 29) }
  | none => s

/-- A core that every crew has left is vacated (R340). -/
def State.leftCore (s : State) (core : Nat) : State :=
  if (s.crewsOn core).isEmpty then
    let s1 := (s.onCore core Core.resetEngine).purgeFifo core
    if (s1.core core).vacate = .leaving then
      (s1.onCore core fun k => { k with vacate := .vacated }).commandDone core 0
    else s1
  else s

/-- The state in which a warp that has left its core is kept: nothing of its registers, and no command (R340). -/
def Warp.emptied (w : Warp) : Warp :=
  { w.mapThreads (fun _ th => { th.clearLatches with v := [], p := 0, count := 0, status := .parked, handler := .none, resume := 0,
                                                     left := 0, timeout := 0, held := none }) with
    s := [], frm := 0, fflags := 0, bars := [], pend := [], batches := [], subs := [], run := .left, pausedAt := none,
    stuck := none, seals := [], ended := 0 }

/-- Whether a crew's warps have all left or finished. -/
def State.allLeft (s : State) (c : Crew) : Bool := (s.warpsOf c).all fun e => e.2.run == .left || e.2.unfinished == 0

/-- The crew of a warp that has left is suspended once all its warps have (R340). -/
def State.crewLeaves (s : State) (ck : Nat) : State :=
  match s.crew ck with
  | none => s
  | some c =>
    if s.allLeft c then
      (s.setCrew ck { c with state := .suspended, td := [], cap := 0, marks := 0, arrived := 0 }).leftCore c.core
    else s

/-- Whether a warp's threads run a pre-emption handler. -/
def Warp.saving (w : Warp) : Bool := w.threads.any fun t => t.handler == .preempt || t.handler == .nestedPreempt

/-- A warp re-enters a core through a restore frame (R341): every register 0, every barrier free, every record STATE 2. Its
threads have seen every access of their crew, and what engines wrote for it, before it left (R351). Where the write of the
frame waits for a port, the warp stays out until it can be made. -/
def State.enterRestore (s : State) (wk : Nat) : State :=
  match s.warp wk with
  | none => s
  | some w =>
    match s.crew w.crew, s.launchOf w with
    | some c, some (lk, l) =>
      match s.part l.part with
      | none => s
      | some p =>
        let spill := (tfind c.spill w.wix).getD 0
        let e := w.emptied
        let seen := laterOf (viewOf (s.warpsOf c)) s.latest
        let w1 := { e.mapThreads (fun _ th =>
            { th with resume := resumeWord 0 2, status := .ready, view := seen, fenced := s.draws }) with
          run := .resident, pausedAt := some s.cycle }
        let s1 := (s.setWarp wk w1).enterHandler wk 64 0xFFFFFFFF (fun _ => .preempt)
          { cause := 0x11, sub := 2, addr := 0, mask := 0, word := 0, pc := 0, view := 0, detail := spill, s31 := 0 }
        match (s1.warp wk).bind Warp.stuck with
        | some x => s.stick wk (some x)
        | none =>
          if !((s1.warp wk).map Warp.saving).getD false then s1
          else match s1.slotWrite c.core wk seen (p.savebase + BitVec.ofNat 64 (s1.slotOf w1 + 128)) [spill] with
            | .ok r => r.1.acquire wk 0xFFFFFFFF r.2
            | .trap t => s1.abortFor lk c.core t
            | .wait x => s.stick wk (some x)
    | _, _ => s

/-- The `tret` of a save frame, once it need not wait (R340): the warp leaves, and its spill pointer stays with the crew. A
warp whose core is no longer being vacated re-enters at once. -/
def State.leaveWarp (s : State) (wk : Nat) (w : Warp) (spill : Dword) : State :=
  let s1 := (s.setWarp wk w.emptied).onCrew w.crew fun c => { c with spill := tput c.spill w.wix spill }
  let core := s.coreOf w
  let all := match s1.crew w.crew with | some c => s1.allLeft c | none => true
  if all || (s1.core core).vacate != .inService then s1.crewLeaves w.crew else s1.enterRestore wk

end Sys2Proof.Machine
end

