-- ==== Sys2Proof/Machine/System.lean ====
section
/-! DEFINITION. SYSA and SYSB (R281 to R304): leaving a handler, system calls, control and status registers, energy, the
power gate, the riser FIFO, launches, events, barriers, stage queues, and what a pre-emption handler saves and restores. -/
namespace Sys2Proof.Machine

/-! ## Leaving a handler and calling system software (R284, R285) -/

/-- The handler of an issue's lowest thread. -/
def Warp.handlerIn (w : Warp) (m : Word) : Handler := ((lowestOf m).map fun t => (w.thread t).handler).getD .none

/-- Whether a handler of a warp is nested, or a sub-warp waits to enter a nested one (R332). -/
def Warp.nesting (w : Warp) : Bool := w.inNested || w.subs.any Sub.nested

/-- Sub-cause 13 of R283. -/
def State.trapOnly (s : State) : Option (Nat × Nat) :=
  match s.cur.bind fun c => (s.warp c.warp).map fun w => w.handlerIn c.group with
  | some Handler.none => some (2, 13)
  | _ => none

/-- Sub-cause 12 of R283: a form of a pre-emption handler. -/
def State.preemptOnly (s : State) : Option (Nat × Nat) :=
  match s.cur.bind fun c => (s.warp c.warp).map fun w => w.handlerIn c.group with
  | some Handler.preempt => none
  | some Handler.nestedPreempt => none
  | _ => some (2, 12)

/-- Whether a leaving `tret` need not wait (R340): the crew's commands have completed, and no register is pending: of a sealed
batch, of a gate's token, which stands as a seal register does (R291), or of a demote or an evict, which is finished before
the core is vacated (R243). -/
def State.leaveReady (s : State) (core : Nat) (w : Warp) : Bool :=
  !((s.core core).tasks.any fun t => t.crew == w.crew) && w.pend.isEmpty

/-- `tret` of a frame of a trap or nested handler (R284). -/
def State.returnFrom (s : State) (c : Cur) (w : Warp) (f : Frame) (v : Dword) : State :=
  let base := s.baseMode w
  s.setWarp c.warp ((w.setS 31 f.s31).mapThreads fun t th =>
    if inMask c.taking t then
      if inMask f.mask t then Thread.leaveHandler base f.pc (laterOf f.view v) th
      else { th with pc := c.next, view := laterOf th.view v, held := none }
    else if inMask c.group t then { th with pc := c.next } else th)

/-- `tret` (R284, R304, R332, R340): it writes s31, so it waits while a batch or a token is to write it (R251). On a supervisor core,
which belongs to no partition and has no `savebase`, its threads stay at it (log 115, DESIGN CHOICE). -/
def execTret (a : BitVec 7) (s : State) : Host.Outcome State Fault Refusal :=
  onIssue s fun c w => gated s c w (useUni a 1) s.trapOnly true fun c w s =>
    let others := s.advance c (c.group &&& ~~~c.taking)
    let outer := match w.handlerIn c.taking with | .trap => true | .preempt => true | _ => false
    let off := (s.ctx c w).usrc a
    let core := s.coreOf w
    match s.partOfCore core with
    | none => s
    | some (_, p) =>
      if (tfind w.pend 31).isSome then s.waitFor c c.taking 31
      else if outer && w.nesting then others.block c c.taking .nestedEnd
      else if off.toNat % 64 ≠ 0 then others.raiseAll c c.taking (trapAt 4 64 (off.setWidth 64))
      else match (s.slotRead core (w.viewIn c.taking) (p.savebase + off.setWidth 64) 8).atAddress (p.savebase + off.setWidth 64) with
        | .trap t => others.raiseAll c c.taking t
        | .wait x => others.block c c.taking x
        | .ok r =>
          let s1 := r.1
          let f := Frame.ofBytes r.2.2
          if f.cause = 0x11 ∧ f.sub = 1 then
            if !s1.leaveReady core w then
              others.block c c.taking .commandsEnd
            else match s1.slotRead core r.2.1 (p.savebase + BitVec.ofNat 64 (s1.slotOf w + 128)) 1 with
              | .trap t => others.raiseAll c c.taking t
              | .wait x => others.block c c.taking x
              | .ok q => q.1.leaveWarp c.warp w (BitVec.ofNat 64 (bytesNat q.2.2))
          else if f.cause = 0x11 then
            if w.threads.any fun th => resumeState th.resume == 3 then
              let frame := p.savebase + BitVec.ofNat 64 (s1.slotOf w)
              match (s1.slotRead core r.2.1 frame 8).atAddress frame with
              | .trap t => others.raiseAll c c.taking t
              | .wait x => others.block c c.taking x
              | .ok q => q.1.resumeAll c.warp f.s31 (some (Frame.ofBytes q.2.2))
            else s1.resumeAll c.warp f.s31 none
          else if f.pc.getLsbD 0 then others.raiseAll c c.taking (trapAt 4 2 f.pc)
          else s1.returnFrom c w f r.2.1

/-- `syscall` (R285). -/
def execSyscall (h l : BitVec 7) (s : State) : Host.Outcome State Fault Refusal :=
  breakWith s 0x10 (0x10000 + (h.toNat * 128 + l.toNat))

/-! ## Control and status registers (R286 to R288) -/

/-- Half-column mode on a core (R11, R325). -/
def State.narrow (s : State) (core : Nat) : Bool :=
  s.alarm || match s.partOfCore core with
    | some (_, p) => decide (p.rem < 0) && (s.crewsOn core).all fun e => e.2.cover == 0
    | none => false

/-- `devid` (R3). -/
def devid (stack : Nat) : Word :=
  BitVec.ofNat 32 (0x860 * 2 ^ 20 + (if Config.fabSecond stack then 2 else 1) * 2 ^ 16 + Config.stepping.toNat * 2 ^ 8 + 1)

/-- The value of a CSR for a warp on a core. -/
def State.csrRead (s : State) (w : Warp) (core n : Nat) : Word :=
  let p := s.partOfCore core
  let part := fun (f : Partition → Word) => (p.map fun e => f e.2).getD 0
  if n = 0x001 then w.fflags.setWidth 32
  else if n = 0x002 then w.frm.setWidth 32
  else if n = 0x008 then BitVec.ofNat 32 (bitNat (s.narrow core))
  else if n = 0x010 then part fun p => BitVec.ofNat 32 (wrapInt 32 p.rem)
  else if n = 0x011 then BitVec.ofNat 32 (16 - (s.core (lowerCore core)).fifo.length)
  else if n = 0x020 then ((s.crew w.crew).map Crew.arrived).getD 0
  else if n = 0x700 then part fun p => lowWord p.trapvec
  else if n = 0x701 then part fun p => highWord p.trapvec
  else if n = 0x702 then part fun p => lowWord p.savebase
  else if n = 0x703 then part fun p => highWord p.savebase
  else if 0x7C0 ≤ n ∧ n < 0x7E0 then
    let e := s.smapOf (coreCluster core) ((n - 0x7C0) / 2)
    if n % 2 = 0 then e.low else e.high
  else if n = 0x7E0 then s.shdwWord
  else if n = 0x7E8 then part Partition.lxsched
  else if n = 0xFC0 then devid (coreStack core)
  else if n = 0xFC1 then BitVec.ofNat 32 (s.stack (coreStack core)).lvl
  else 0

/-- CSRs that user mode does not reach, that it only reads, and those all of whose fields are RO (R287). -/
def csrHidden (n : Nat) : Bool := decide (0x7C0 ≤ n ∧ n < 0x7E0) || n == 0x7E0 || n == 0x7E8
def csrReadOnly (n : Nat) : Bool := n == 0x008 || n == 0x010 || n == 0x011 || n == 0xFC0 || n == 0xFC1
def csrGuarded (n : Nat) : Bool := csrHidden n || csrReadOnly n || decide (0x700 ≤ n ∧ n < 0x704)

/-- A value that a field may not hold (R286): RES = 3, or a period outside 1 to 256. -/
def csrReserved (n : Nat) (x : Word) : Bool :=
  (n == 0x7E0 && x.toNat % 4 == 3) || (n == 0x7E8 && (x.toNat % 512 == 0 || decide (256 < x.toNat % 512)))

/-- Whether a core may write `shdw` for a value's band (R94). -/
def shdwCore (core : Nat) (x : Word) : Bool := isSupervisorCore core && coreStack core == bits x.toNat 8 6 / 8

/-- Write a CSR; none when the write takes cause 0x0E (R91). -/
def State.csrWrite (s : State) (wk : Nat) (w : Warp) (core n : Nat) (x : Word) : Option State :=
  let part := fun (f : Partition → Partition) => match s.partOfCore core with | some (k, _) => s.onPart k f | none => s
  if n = 0x001 then some (s.onWarp wk fun w => { w with fflags := x.setWidth 5 })
  else if n = 0x002 then some (s.onWarp wk fun w => { w with frm := x.setWidth 2 })
  else if n = 0x020 then some (s.onCrew w.crew fun c => { c with arrived := x })
  else if n = 0x700 then some (part fun p => { p with trapvec := pairOf (x &&& ~~~1) (highWord p.trapvec) })
  else if n = 0x701 then some (part fun p => { p with trapvec := pairOf (lowWord p.trapvec) x })
  else if n = 0x702 then some (part fun p => { p with savebase := pairOf (x &&& ~~~0xFF) (highWord p.savebase) })
  else if n = 0x703 then some (part fun p => { p with savebase := pairOf (lowWord p.savebase) x })
  else if 0x7C0 ≤ n ∧ n < 0x7E0 then
    match s.partOfCore core with
    | none => some s
    | some (_, p) =>
      let k := (n - 0x7C0) / 2
      if n % 2 = 0 then s.smapLow p (coreCluster core) k x else s.smapHigh (coreCluster core) k x
  else if n = 0x7E0 then some (s.reserveBand (bits x.toNat 8 6) (x.toNat % 4))
  else if n = 0x7E8 then some (part fun p => { p with nextPer := x.toNat % 512 })
  else some s

/-- `csrr` (R286). -/
def execCsrr (h : BitVec 5) (l : BitVec 7) (d : BitVec 6) (s : State) : Host.Outcome State Fault Refusal :=
  let n := csrNumber h l
  let user := match s.privileged with | some _ => true | none => false
  let extra := if n = 0x020 then s.preemptOnly else if user && csrHidden n then some (3, n) else none
  unitOp s (useD d.toNat 1) extra false fun s c w =>
    .done (s.setWarp c.warp (w.setS d.toNat (s.csrRead w (s.coreOf w) n)))

/-- `csrw`, `csrs` and `csrc` (R286): one action on the CSR. The sub-cause of cause 0x0E is not stated, and free. -/
def csrOp (s : State) (b : BitVec 7) (l : BitVec 7) (h : BitVec 5) (f : Word → Word → Word) :
    Host.Outcome State Fault Refusal :=
  let n := csrNumber h l
  onIssue s fun c w =>
    let core := s.coreOf w
    let u := useUni b 1
    let x := f (s.csrRead w core n) ((s.ctx c w).usrc b)
    let extra :=
      if n = 0x020 then s.preemptOnly
      else if (u.pendingRead w).isNone && csrReserved n x then some (2, 15)
      else if !w.supIn c.group && csrGuarded n then some (3, n)
      else if n = 0x7E0 ∧ shdwCore core x = false then some (3, n)
      else none
    gated s c w u extra false fun c w s =>
      if csrReadOnly n then s.advance c c.group
      else match s.csrWrite c.warp w core n x with
        | some s1 => s1.advance c c.group
        | none => (s.drawn.advance c (c.group &&& ~~~c.taking)).raiseAll c c.taking
            (trapAt 0xE (lowWord (Config.freeDword s.draws 0)).toNat 0)

/-- `csrw` (R286). -/
def execCsrw (b l : BitVec 7) (h : BitVec 5) (s : State) : Host.Outcome State Fault Refusal := csrOp s b l h fun _ x => x
/-- `csrs` (R286). -/
def execCsrs (b l : BitVec 7) (h : BitVec 5) (s : State) : Host.Outcome State Fault Refusal := csrOp s b l h fun o x => o ||| x
/-- `csrc` (R286). -/
def execCsrc (b l : BitVec 7) (h : BitVec 5) (s : State) : Host.Outcome State Fault Refusal := csrOp s b l h fun o x => o &&& ~~~x

/-! ## Energy (R289, R290) -/

/-- `egy.rd` (R289). -/
def execEgyRd (d : BitVec 6) (s : State) : Host.Outcome State Fault Refusal :=
  unitOp s (useD d.toNat 2) none false fun s c w =>
    let p := s.partOfCore (s.coreOf w)
    let lo := (p.map fun e => BitVec.ofNat 32 (wrapInt 32 e.2.rem)).getD 0
    let hi := (p.map fun e => e.2.windows).getD 0
    .done (s.setWarp c.warp (w.setSPair d.toNat (pairOf lo hi)))

/-- `egy.req` (R290): granted whole or refused. -/
def execEgyReq (a : BitVec 7) (d : BitVec 6) (s : State) : Host.Outcome State Fault Refusal :=
  unitOp s ((useUni a 1).and (useD d.toNat 1)) none false fun s c w =>
    let r := (s.ctx c w).usrc a
    match s.partOfCore (s.coreOf w) with
    | none => .done (s.setWarp c.warp (w.setS d.toNat 0))
    | some (k, p) =>
      if r ≠ 0 ∧ (r.toNat : Int) ≤ p.rem then
        let s1 := (s.setPart k { p with rem := p.rem - r.toNat }).onCrew w.crew fun k => { k with cover := k.cover + r.toNat }
        .done (s1.setWarp c.warp (w.setS d.toNat r))
      else .done (s.setWarp c.warp (w.setS d.toNat 0))

/-! ## The power gate of an upper core (R291, R292, R326, R327) -/

/-- Traps of cause 0x12. -/
def riserTrap (sub : Nat) : Trap := trapAt 0x12 sub 0

/-- A token is written (R292). -/
def State.giveToken (s : State) (core : Nat) (r : GateRequest) (code : Nat) : State :=
  s.onWarp r.warp fun w => if tfind w.pend r.reg = some (.gate core) then w.deliver r.reg code 0 else w
/-- Every waiting request of a core gets a code of its own, or the one given. -/
def State.giveTokens (s : State) (core : Nat) (code : Option Nat) : State :=
  let k := s.core core
  k.gateRequests.foldl (fun s r => s.giveToken core r (code.getD r.code)) (s.setCore core { k with gateRequests := [] })
/-- Threads that wait in `rsend`. -/
def Status.sending : Status → Bool | .waiting .riserFree => true | _ => false
/-- The trap of threads that were blocked in an instruction at a PC, taken there (R327, R336). -/
def State.trapBlocked (s : State) (wk : Nat) (m : Word) (pc : Dword) (t : Trap) : State :=
  match s.warp wk with
  | none => s
  | some w =>
    let x := s.peekWord (s.coreOf w) (w.supIn m) pc
    let word := match x with | some q => q.1 | none => (Config.freeDword s.draws 0).toNat
    s.drawn.raiseAll { warp := wk, group := m, taking := m, pc := pc, next := match x with | some q => q.2 | none => pc,
                       word := BitVec.ofNat 32 word, clk := 0, held := none } m t
/-- The warps of a lower core that wait in `rsend` take cause 0x12 when the gate above them shuts (R327). -/
def State.dropSenders (s : State) (core : Nat) : State :=
  (s.warps.filter fun e => s.coreOf e.2 == core).foldl (fun s e =>
    (((threadsOf (e.2.where_ fun th => th.status.sending)).map fun t => (e.2.thread t).pc).eraseDups).foldl (fun s pc =>
      s.trapBlocked e.1 (e.2.where_ fun th => th.status.sending && th.pc == pc) pc (riserTrap 3)) s) s
/-- The gate takes effect (R326, R327): the FIFO under the core is emptied, and no one waits to send to it. -/
def State.gateOff (s : State) (core : Nat) : State :=
  (((s.giveTokens core none).onCore core fun k => { k with gate := .off }).onCore (lowerCore core) fun k =>
    { k with fifo := [] }).dropSenders (lowerCore core)
/-- No resident warp, and no crew kept by R253: the crews of a core that was vacated do not count (R326, R339). -/
def State.gateIdle (s : State) (core : Nat) : Bool := (s.core core).vacate == .vacated || (s.crewsOn core).isEmpty

/-- A request served (R326). -/
def State.gateAsk (s : State) (core warp reg : Nat) (ungate : Bool) : State :=
  let r := fun (n : Nat) => ({ warp := warp, reg := reg, code := n } : GateRequest)
  let now := fun (s : State) (n : Nat) => s.giveToken core (r n) n
  let later := fun (s : State) (n : Nat) => s.onCore core fun k => { k with gateRequests := k.gateRequests ++ [r n] }
  let set := fun (s : State) (g : Gate) => s.onCore core fun k => { k with gate := g }
  match (s.core core).gate, ungate with
  | .on, false => if s.gateIdle core then (later s 1).gateOff core else set (later s 1) .drain
  | .on, true => now s 2
  | .drain, true => now (set (s.giveTokens core (some 4)) .on) 1
  | .drain, false => later s 2
  | .off, false => now s 2
  | .off, true => set (later s 1) .wake
  | .wake, false => now (set (s.giveTokens core (some 4)) .off) 1
  | .wake, true => later s 2

/-- `pwr.gate` (R291, R292). -/
def execPwrGate (a : BitVec 7) (d : BitVec 6) (s : State) : Host.Outcome State Fault Refusal :=
  unitOp s ((useUni a 1).and (useD d.toNat 1)) s.privileged false fun s c w =>
    let x := ((s.ctx c w).usrc a).toNat
    let band := bits x 8 6
    let core := 32 * band + 4 * (4 + bits x 4 2) + bits x 0 2
    let good := bits x 14 17 == 0 && bits x 6 2 == 0 && bits x 2 2 == 0 &&
      match s.partOfCore (s.coreOf w) with | some (_, p) => p.holds band | none => false
    let s1 := s.setWarp c.warp { w with pend := tput w.pend d.toNat (.gate core) }
    if good then .done (s1.gateAsk core c.warp d.toNat (x.testBit 31))
    else .done (s1.giveToken core { warp := c.warp, reg := d.toNat, code := 3 } 3)

/-! ## The riser FIFO (R293 to R295) -/

/-- `rsend` (R293, R294): threads that read a stale latch trap, the others send. -/
def execRsend (a : BitVec 7) (s : State) : Host.Outcome State Fault Refusal :=
  onIssue s fun c w => gated s c w (useSrc a 1) none true fun c w s =>
    let core := s.coreOf w
    let others := s.advance c (c.group &&& ~~~c.taking)
    let gate := (s.core (upperCore core)).gate
    if isUpperCore core then others.raiseAll c c.taking (riserTrap 1)
    else if gate = .off ∨ gate = .wake then others.raiseAll c c.taking (riserTrap 3)
    else
      let word := fun t => (s.ctxOf c w t).src t (w.reader t) a
      let good := maskOf fun t => inMask c.taking t && (word t).isSome
      let bad := c.taking &&& ~~~good
      let s1 :=
        if good = 0 then others
        else if 16 ≤ (s.core core).fifo.length then others.block c good .riserFree
        else
          let launch := ((s.launchOf w).map Prod.fst).getD 0
          let entry := (List.range 32).map fun t => if inMask good t then (word t).getD 0 else 0
          (others.onCore core fun k => { k with fifo := k.fifo ++ [(launch, entry, w.viewIn good)] }).advance c good
      if bad = 0 then s1 else s1.raiseAll c bad staleLatch

/-- `rrecv` (R293 to R295). -/
def execRrecv (nw : BitVec 1) (d : BitVec 6) (s : State) : Host.Outcome State Fault Refusal :=
  onIssue s fun c w => gated s c w (useV d.toNat 1) none true fun c w s =>
    let core := s.coreOf w
    let others := s.advance c (c.group &&& ~~~c.taking)
    let low := lowerCore core
    if !isUpperCore core then others.raiseAll c c.taking (riserTrap 1)
    else match (s.core low).fifo with
      | [] => others.block c c.taking .riserEntry
      | (launch, words, stamp) :: rest =>
        if some launch ≠ (s.launchOf w).map Prod.fst then others.raiseAll c c.taking (riserTrap 2)
        else
          let w1 := w.mapThreads fun t th =>
            if inMask c.taking t then
              { th.result (nw == 1) d.toNat [words.getD t 0] with view := laterOf th.view stamp, pc := c.next, held := none }
            else if inMask c.group t then { th with pc := c.next } else th
          (s.setWarp c.warp w1).onCore low fun k => { k with fifo := rest }

/-! ## Launches (R296, R313) -/

/-- The status that queue `q` answers to a record, and the state (R296, R313). -/
def State.offer (s : State) (core pk : Nat) (p : Partition) (view : Dword) (vf : Option Nat) (q : Nat) (bs : List Byte) :
    Answer (State × Nat) :=
  if 63 < q then .ok (s, 2)
  else
    let x := p.queue q
    if !x.en || !x.src || (x.owned && vf != some x.owner) then .ok (s, 3)
    else (s.examine core (LaunchRec.ofBytes bs)).andThen fun r =>
      match r.2 with
      | none => .ok (r.1, 3)
      | some _ =>
        match r.1.deviceWrite p view (x.slot x.tail) bs with
        | .wait w => .wait w
        | .trap _ => .ok (r.1.onPart pk fun p => p.setQueue q { p.queue q with err := true }, 3)
        | .ok w =>
          if (x.tail - x.head).toNat = 2 ^ x.logn then .ok (r.1, 1)
          else .ok (w.1.onPart pk fun p => p.setQueue q { p.queue q with tail := (p.queue q).tail + 1 }, 0)

/-- `lnch` (R296): the earlier writes of the issuing threads are released to an accepted launch. On a supervisor core, which
belongs to no partition, the record is read and D stays as it is (log 115, DESIGN CHOICE). -/
def execLnch (b a : BitVec 7) (d : BitVec 6) (s : State) : Host.Outcome State Fault Refusal :=
  unitOp s ((useUni a 2).and ((useUni b 1).and (useD d.toNat 1))) none false fun s c w =>
    let x := s.ctx c w
    let core := s.coreOf w
    let who : Who := { core := core, sup := w.supIn c.taking, view := w.viewIn c.taking }
    match s.threadLoad who 0 (x.usrc64 a) 64, s.partOfCore core with
    | .trap t, _ => .trap t
    | .wait x, _ => .wait s x
    | .ok _, none => .done s
    | .ok r, some (pk, p) =>
      match r.1.offer core pk p r.2.1 ((s.launchOf w).bind fun l => l.2.vf) (x.usrc b).toNat r.2.2 with
      | .trap t => .trap t
      | .wait x => .wait s x
      | .ok q => .done ((if q.2 = 0 then q.1.releasedBy c.warp c.taking else q.1).onWarp c.warp fun w =>
          (w.setS d.toNat (BitVec.ofNat 32 q.2)).onThreads c.taking fun th => { th with view := laterOf th.view r.2.1 })

/-! ## Events (R297) -/

/-- The trap of an event number of 4,096 or above. -/
def eventTrap (n : Word) : Trap := trapAt 6 7 (n.setWidth 64)

/-- `evt.sig` (R297). A supervisor core belongs to no partition, whose events these are: it signals none (log 115, DESIGN CHOICE). -/
def execEvtSig (b a : BitVec 7) (m : BitVec 5) (s : State) : Host.Outcome State Fault Refusal :=
  unitOp s ((useUni a 1).and (useUni b 1)) none false fun s c w =>
    let n := (s.ctx c w).usrc a
    if 4096 ≤ n.toNat then .trap (eventTrap n)
    else match s.partOfCore (s.coreOf w) with
      | none => .done s
      | some (k, _) => .done ((if m = 0 then s else s.releasedBy c.warp c.taking).signal k n.toNat ((s.ctx c w).usrc b) m
          (w.viewIn c.taking))

/-- `evt.wait` (R297). A supervisor core, which belongs to no partition, has no event to wait for: it goes on (log 115, DESIGN
CHOICE). -/
def execEvtWait (b a : BitVec 7) (m : BitVec 5) (s : State) : Host.Outcome State Fault Refusal :=
  unitOp s ((useUni a 1).and (useUni b 1)) none true fun s c w =>
    let n := (s.ctx c w).usrc a
    let x := (s.ctx c w).usrc b
    if 4096 ≤ n.toNat then .trap (eventTrap n)
    else match s.partOfCore (s.coreOf w) with
      | none => .done s
      | some (_, p) =>
        if (wget p.events n.toNat).toNat < x.toNat then .wait s (.event n.toNat x)
        else .done (s.setWarp c.warp (w.onThreads c.taking fun th =>
          { th with view := laterOf th.view (p.eventStamp n.toNat m) }))

/-! ## Crew and gang barriers (R36, R298) -/

/-- The taking-part threads block in a barrier. -/
def arriveAt (s : State) (st : Dword → Status) (settle : State → Warp → State) : Host.Outcome State Fault Refusal :=
  onIssue s fun c w => gated s c w Uses.none none true fun c w s =>
    settle ((s.advance c (c.group &&& ~~~c.taking)).onWarp c.warp fun w =>
      w.onThreads c.taking fun th => { th with status := st c.next, pc := c.pc, since := s.cycle }) w

/-- `bar.crew` (R298). -/
def execBarCrew (s : State) : Host.Outcome State Fault Refusal := arriveAt s .crewBarrier fun s w => s.settleCrew w.crew
/-- `bar.gang` (R298). -/
def execBarGang (s : State) : Host.Outcome State Fault Refusal :=
  arriveAt s .gangBarrier fun s w => match s.crew w.crew with | some c => s.settleGang c.gang | none => s

/-! ## Stage queues (R41, R299, R300) -/

/-- Whether any crew of a stage of a launch has not finished. -/
def State.stageRuns (s : State) (lk k : Nat) : Bool :=
  s.gangs.any fun e => e.2.launch == lk && e.2.stage == k && e.2.state != .finished

/-- Queue k is closed (R41): no crew of its producing stage runs, and none can start (R40). -/
def State.closed (s : State) (lk : Nat) (l : Launch) : Nat → Bool
  | 0 => !s.stageRuns lk 0 && (l.aborted || (decide (l.gangs ≤ l.next) && l.redo.isEmpty))
  | k + 1 => !s.stageRuns lk (k + 1) &&
      (l.aborted || (((l.stages[k]?).map fun x => x.entries.isEmpty).getD true && s.closed lk l k))

/-- A stage of a launch, and a change of it. -/
def Launch.stage (l : Launch) (k : Nat) : Option Stage := l.stages[k]?
def Launch.onStage (l : Launch) (k : Nat) (f : Stage → Stage) : Launch := { l with stages := l.stages.modify k f }

/-- Units of 4 bytes from an address, as weak OW loads or stores of class c (R299). A fault names the entry's address. -/
def State.readUnits (s : State) (w : Who) (va : Dword) : Nat → Answer (State × Dword × List Byte)
  | 0 => .ok (s, w.view, [])
  | n + 1 =>
    (s.threadLoad w 0 va 4).andThen fun r =>
      (State.readUnits r.1 { w with view := r.2.1 } (va + 4) n).andThen fun q => .ok (q.1, q.2.1, r.2.2 ++ q.2.2)
def State.writeUnits (s : State) (w : Who) (va : Dword) : List Word → Answer (State × Dword)
  | [] => .ok (s, w.view)
  | x :: r =>
    (s.threadStore w 0 va (natBytes 4 x.toNat)).andThen fun q => State.writeUnits q.1 { w with view := q.2 } (va + 4) r
/-- Traps of cause 0x13. -/
def stageTrap (sub : Nat) : Trap := trapAt 0x13 sub 0

/-- `qenq` (R299, R300). -/
def execQenq (b a : BitVec 7) (s : State) : Host.Outcome State Fault Refusal :=
  inTurnOp s ((useSrc a 2).and (useSrc b 1)) none true fun s c w t =>
    let th := w.thread t
    let x := s.ctxOf c w t
    match s.launchOf w, x.src t th.reader b, x.src64 false t th.reader a with
    | some (lk, l), some q, some va =>
      let k := (s.placeOf w).stg
      if l.stages.isEmpty then .trap (stageTrap 1)
      else match l.stage k with
        | none => .trap (stageTrap 2)
        | some st =>
          if q.toNat ≠ k ∨ st.size = 0 then .trap (stageTrap 2)
          else if s.closed lk l k then .trap (stageTrap 3)
          else if st.capacity ≤ st.entries.length then .wait s (.enqueue k)
          else ((s.readUnits (s.whoIs c w t) va (st.size / 4)).atAddress va).act s fun r =>
            ((r.1.releasedBy c.warp (setBit 0 t true)).onLaunch lk fun l =>
              l.onStage k fun st => { st with entries := st.entries ++ [(r.2.2, r.2.1)] }).wrote c t fun th =>
                { th with view := r.2.1 }
    | _, _, _ => .trap staleLatch

/-- `qdeq` (R299, R300). -/
def execQdeq (b a : BitVec 7) (k : BitVec 3) (s : State) : Host.Outcome State Fault Refusal :=
  inTurnOp s ((useSrc a 2).and (useSrc b 1)) none true fun s c w t =>
    let th := w.thread t
    let x := s.ctxOf c w t
    match s.launchOf w, x.src t th.reader b, x.src64 false t th.reader a with
    | some (lk, l), some q, some va =>
      let n := (s.placeOf w).stg
      if l.stages.isEmpty then .trap (stageTrap 1)
      else if n = 0 ∨ q.toNat ≠ n - 1 then .trap (stageTrap 2)
      else match (l.stage (n - 1)).map Stage.entries with
        | some ((bs, stamp) :: rest) =>
          ((s.writeUnits (s.whoIs c w t) va (registersOf bs)).atAddress va).act s fun r =>
            (r.1.onLaunch lk fun l => l.onStage (n - 1) fun st => { st with entries := rest }).wrote c t
              fun th => { th.setP k.toNat true with view := laterOf r.2 stamp }
        | _ =>
          if s.closed lk l (n - 1) then .done (s.wrote c t fun th => th.setP k.toNat false) else .wait s (.dequeue (n - 1))
    | _, _, _ => .trap staleLatch

/-! ## Saving and restoring a warp (R301 to R303) -/

/-- An item of a thread's resume record (R302). -/
def Thread.recordItem (th : Thread) (sel : Nat) : Dword :=
  if sel = 0 then th.resume else if sel = 1 then BitVec.ofNat 64 th.left else 0
/-- An item written. R302 gives the remaining timeout no width: all 64 bits of the pair are kept (log 114, DESIGN CHOICE). -/
def Thread.setRecordItem (th : Thread) (sel : Nat) (x : Dword) : Thread :=
  if sel = 0 then { th with resume := x &&& 0xC1FFFFFFFFFFFFFE } else if sel = 1 then { th with left := x.toNat } else th

/-- `pcrd` (R302). -/
def execPcrd (b : BitVec 7) (nw : BitVec 1) (d : BitVec 6) (s : State) : Host.Outcome State Fault Refusal :=
  laneOp s ((useSrc b 1).and (useV d.toNat 2)) s.preemptOnly fun x t th =>
    match x.src t th b with
    | some sel =>
      let y := th.recordItem sel.toNat
      .ok (th.result (nw == 1) d.toNat [lowWord y, highWord y], Raised.none)
    | none => .error staleLatch
/-- `pcwr` (R302). -/
def execPcwr (b a : BitVec 7) (s : State) : Host.Outcome State Fault Refusal :=
  laneOp s ((useSrc b 1).and (useSrc a 2)) s.preemptOnly fun x t th =>
    match x.src t th b, x.src64 false t th a with
    | some sel, some y => .ok (th.setRecordItem sel.toNat y, Raised.none)
    | _, _ => .error staleLatch

/-- A word of a convergence barrier (R303): timeouts count from where the warp stopped, and go on when it goes on. -/
def Warp.barItem (w : Warp) (n sel : Nat) : Word :=
  let b := w.bar n
  if sel = 0 then b.m else if sel = 1 then b.z
  else if sel < 34 then
    match tfind b.expiry (sel - 2) with | some e => BitVec.ofNat 32 (max 1 (e - w.pausedAt.getD 0)) | none => 0
  else 0
def Warp.setBarItem (w : Warp) (n sel : Nat) (x : Word) : Warp :=
  let b := w.bar n
  if sel = 0 then w.setBar n { b with m := x } else if sel = 1 then w.setBar n { b with z := x }
  else if sel < 34 then
    w.setBar n { b with expiry := if x = 0 then tdel b.expiry (sel - 2)
                                  else tput b.expiry (sel - 2) (w.pausedAt.getD 0 + x.toNat) }
  else w

/-- `cvbrd` (R303). -/
def execCvbrd (b : BitVec 7) (n : BitVec 4) (d : BitVec 6) (s : State) : Host.Outcome State Fault Refusal :=
  unitOp s ((useUni b 1).and (useD d.toNat 1)) s.preemptOnly false fun s c w =>
    .done (s.setWarp c.warp (w.setS d.toNat (w.barItem n.toNat ((s.ctx c w).usrc b).toNat)))
/-- `cvbwr` (R303). -/
def execCvbwr (b : BitVec 7) (n : BitVec 4) (d : BitVec 6) (s : State) : Host.Outcome State Fault Refusal :=
  unitOp s ((useUni b 1).and (useS d.toNat 1)) s.preemptOnly false fun s c w =>
    .done (s.setWarp c.warp (w.setBarItem n.toNat ((s.ctx c w).usrc b).toNat (w.sreg d.toNat)))

end Sys2Proof.Machine
end

