-- ==== Sys2Proof/Machine/Waking.lean ====
section
/-! DEFINITION. What happens to threads without an instruction of theirs: the end of a wait, timeouts (R33, R127), the
watchdog (R336), the entry of a handler (R330 to R332), and the completion of range forms and of `demote` and `evict`. -/
namespace Sys2Proof.Machine

/-! ## Waits that have ended -/

/-- Whether none of some write-backs is queued any more (R121). -/
def State.settled (s : State) (ids : List Nat) : Bool :=
  s.wbq.all fun e => e.2.all fun b => !ids.contains b.id

/-- Whether what a thread waits for has come (R24), so that it issues its instruction again. -/
def State.waitOver (s : State) (wk : Nat) (w : Warp) (x : Wait) : Bool :=
  let core := s.coreOf w
  match x with
  | .scalar n => (tfind w.pend n).isNone
  | .tableFull => !(s.core core).freeEntries.isEmpty
  | .sealLimit => decide (w.sealedCount < 16)
  | .batches n => decide (w.sealedCount ≤ n)
  | .mitt a => ((s.core core).acc a).mitt == some wk
  | .task ent seq => (s.core core).finished seq ent
  | .event n th => match s.partOfCore core with
    | some (_, p) => decide (th.toNat ≤ (wget p.events n).toNat)
    | none => true
  | .lattice a stack lt th =>
    (tfind s.repLost (8 * (a / 128) + stack)).isSome || (s.stack stack).fenced || s.repMarked a stack 8 ||
      join lt (s.replica a stack) th == s.replica a stack
  | .enqueue q => match s.launchOf w with
    | some (lk, l) => s.closed lk l q || ((l.stage q).map fun st => decide (st.entries.length < st.capacity)).getD true
    | none => true
  | .dequeue q => match s.launchOf w with
    | some (lk, l) => s.closed lk l q || ((l.stage q).map fun st => !st.entries.isEmpty).getD true
    | none => true
  | .riserFree =>
    let g := (s.core (upperCore core)).gate
    decide ((s.core core).fifo.length < 16) || g == .off || g == .wake
  | .riserEntry => !(s.core (lowerCore core)).fifo.isEmpty
  | .range _ _ => false
  | .nestedEnd => !w.nesting
  | .commandsEnd => s.leaveReady core w
  | .link port y => s.linkUp (.link port y)
  | .peerLink mask y => s.linkUp (.peerLink mask y)

/-- Whether a thread could issue, as far as it goes by itself (R24). -/
def State.awake (s : State) (wk : Nat) (w : Warp) (th : Thread) : Bool :=
  match th.status with
  | .ready => true
  | .waiting x => s.waitOver wk w x
  | _ => false

/-- Whether a warp stands on a core that works: resident, the core powered (R326), its stack not fenced, and its partition not
stopped; of a supervisor core, its stack released from the boot ROM (R15, R388). -/
def State.stands (s : State) (w : Warp) : Bool :=
  let core := s.coreOf w
  match s.crew w.crew with
  | some c => w.run == .resident && c.state == .resident && !(s.stack (coreStack core)).fenced &&
      ((s.core core).gate == .on || (s.core core).gate == .drain) &&
      (if isSupervisorCore core then (s.stack (coreStack core)).boot == .running
       else match s.partOfCore core with | some (_, p) => !p.stopped | none => false)
  | none => false

/-- Whether a warp may issue at all: no access of the hardware's to its save slot is under way. -/
def State.runs (s : State) (w : Warp) : Bool := s.stands w && w.stuck.isNone

/-- The threads of a warp that may issue at all now (R330, R332): while a handler runs, its threads alone. -/
def Warp.acting (w : Warp) (th : Thread) : Bool :=
  if w.inNested then th.handler == .nestedTrap || th.handler == .nestedPreempt
  else !w.inHandler || th.handler != .none

/-- The threads of a warp that are ready (R24, R330, R332); none while one of them waits for a full task table (R246). -/
def State.readyMask (s : State) (wk : Nat) (w : Warp) : Word :=
  if (w.where_ fun th => w.acting th && th.status == .waiting .tableFull && !s.awake wk w th) != 0 then 0
  else w.where_ fun th => w.acting th && s.awake wk w th

/-! ## Lanes (R28, R37, R192, R366) -/

/-- The warps of a lane that are on it and have not finished, and those of them that have a ready thread. -/
def State.laneWarps (s : State) (lane : Nat) : List (Nat × Warp) :=
  s.warps.filter fun e => s.laneOf e.2 == lane && s.runs e.2 && e.2.unfinished != 0
def State.laneReady (s : State) (lane : Nat) : List (Nat × Warp) :=
  (s.laneWarps lane).filter fun e => s.readyMask e.1 e.2 != 0

/-- Whether a warp's group holds the cap of its crew (R271). -/
def State.holdsCap (s : State) (w : Warp) : Bool :=
  (s.crew w.crew).any fun c => capGroup c.warps.length w.wix == c.cap

/-- Warps in round-robin order after the one served last. -/
def roundRobin (last : Nat) (ws : List (Nat × Warp)) : List (Nat × Warp) :=
  ws.filter (fun e => decide (last < e.1)) ++ ws.filter fun e => decide (e.1 ≤ last)

/-- Whether a lane may serve warp `k` of those that are ready and still pass none of them over more than 8 times in a row (R37): of
the others, each passed over once more by this choice, no more than d + 1 must be served within the next d + 1 choices. -/
def Lane.mayServe (l : Lane) (ready : List (Nat × Warp)) (k : Nat) : Bool :=
  let passed := (ready.filter fun e => e.1 != k).map fun e => (tfind l.passed e.1).getD 0 + 1
  passed.all (fun p => decide (p ≤ 8)) && (List.range 9).all fun d => decide ((passed.filter fun p => decide (8 ≤ p + d)).length ≤ d + 1)

/-- The warp that has been passed over most, the first of several. -/
def Lane.mostPassed (l : Lane) (ws : List (Nat × Warp)) : Option (Nat × Warp) :=
  ws.foldl (fun best e => match best with
    | none => some e
    | some b => if (tfind l.passed b.1).getD 0 < (tfind l.passed e.1).getD 0 then some e else best) none

/-- The warp that a lane issues for next: the one that keeps it until a switch point (R28); at a switch point, in round-robin
order, the first that holds the cap, else the first of all, that leaves every other within the bound of 8 (R37, R366), else the
one that has been passed over most. A warp that gave way is chosen only when it stands alone (R192). -/
def State.laneChoice (s : State) (lane : Nat) : Option Nat :=
  let l := s.lane lane
  match l.keeps.bind fun k => (s.laneWarps lane).find? fun e => e.1 == k with
  | some e => some e.1
  | none =>
    let ready := roundRobin l.last (s.laneReady lane)
    let others := ready.filter fun e => !(l.gave && e.1 == l.last)
    let open_ := if others.isEmpty then ready else others
    let preferred := open_.filter fun e => s.holdsCap e.2
    (((preferred ++ open_).find? fun e => l.mayServe ready e.1).or (l.mostPassed open_)).map Prod.fst

/-- A lane serves a warp: at a switch point the other ready warps have been passed over once more. -/
def State.serveLane (s : State) (wk : Nat) (w : Warp) : State :=
  let lane := s.laneOf w
  let l := s.lane lane
  s.onLane w fun l0 =>
    { keeps := some wk, last := wk, gave := false,
      passed := if l.keeps = some wk then l0.passed
        else (s.laneReady lane).filterMap fun e => if e.1 = wk then none else some (e.1, (tfind l.passed e.1).getD 0 + 1) }

/-! ## Timeouts -/

/-- CVB_TIMEOUT of a thread is due (R33): the cycle of the expiry has passed, so that an arrival in that cycle wins. -/
def State.cvbDue (s : State) (w : Warp) (t : Nat) : Bool :=
  match (w.thread t).status with
  | .converge n _ _ => s.stands w && match tfind (w.bar n).expiry t with | some e => decide (e < s.cycle) | none => false
  | _ => false

/-- CVB_TIMEOUT (R32, R33): the thread leaves Z and stays in M. -/
def execCvbTimeout (wk t : Nat) (s : State) : Host.Outcome State Fault Refusal :=
  match s.warp wk with
  | none => .next s
  | some w =>
    if !s.cvbDue w t then .next s
    else match (w.thread t).status with
      | .converge n k next =>
        let b := w.bar n
        let w1 := w.mapThreads fun i th => if i = t then { th.setP k true with status := .ready, pc := next } else th
        .next (s.setWarp wk (w1.setBar n { b with z := setBit b.z t false, expiry := tdel b.expiry t }))
      | _ => .next s

/-- LLD_TIMEOUT of a thread is due (R127, R33). -/
def State.lldDue (s : State) (w : Warp) (t : Nat) : Bool :=
  let th := w.thread t
  match th.status with
  | .waiting (.lattice _ _ _ _) => s.stands w && th.timeout != 0 && decide (th.timeout < s.cycle)
  | _ => false

/-- LLD_TIMEOUT (R127, R235): the thread issues its `lld` again, which finds the timeout expired and delivers the cell. -/
def execLldTimeout (wk t : Nat) (s : State) : Host.Outcome State Fault Refusal :=
  match s.warp wk with
  | none => .next s
  | some w => if s.lldDue w t then .next (s.onThread wk t fun th => { th with status := .ready }) else .next s

/-! ## The watchdog -/

/-- Arithmetic cycles of a microsecond: 3.3 GHz, or 1.1 GHz at reduced service (R389). -/
def State.cyclesPerMicro (s : State) (core : Nat) : Nat := if (s.stack (coreStack core)).lvl = 1 then 1100 else 3300

/-- Blocked in an instruction or a barrier (R336). -/
def Status.blocked : Status → Bool
  | .waiting _ => true
  | .converge _ _ _ => true
  | .crewBarrier _ => true
  | .gangBarrier _ => true
  | _ => false

/-- WATCHDOG of a thread is due (R336): it has been blocked for longer than the limit, and is so still. -/
def State.dogDue (s : State) (wk : Nat) (w : Warp) (t : Nat) : Bool :=
  let th := w.thread t
  match s.partOfCore (s.coreOf w) with
  | none => false
  | some (_, p) =>
    s.stands w && th.status.blocked && !s.awake wk w th && p.wdog != 0 &&
      decide (p.wdog.toNat * s.cyclesPerMicro (s.coreOf w) < s.cycle - th.since)

/-- The arrivals of some threads are withdrawn (R336). -/
def State.withdraw (s : State) (wk : Nat) (w : Warp) (m : Word) : State :=
  let crew := (threadsOf m).any fun t => (w.thread t).status.inCrew
  let gang := (threadsOf m).any fun t => (w.thread t).status.inGang
  let s1 := s.onWarp wk fun w =>
    { w with bars := w.bars.map fun e =>
        (e.1, { e.2 with z := e.2.z &&& ~~~m, expiry := e.2.expiry.filter fun x => !inMask m x.1 }) }
  let s2 := if crew then s1.onCrew w.crew fun c => { c with arrived := setBit c.arrived w.wix false } else s1
  match s.crew w.crew with
  | some c => if gang then s2.onGang c.gang fun g => { g with arrived := setBit g.arrived c.cix false } else s2
  | none => s2

/-- WATCHDOG (R336): the threads blocked too long at the PC of thread `t` take cause 0x14 together. -/
def execWatchdog (wk t : Nat) (s : State) : Host.Outcome State Fault Refusal :=
  match s.warp wk with
  | none => .next s
  | some w =>
    if !s.dogDue wk w t then .next s
    else
      let pc := (w.thread t).pc
      let m := maskOf fun i => (w.thread i).pc == pc && s.dogDue wk w i
      .next ((s.withdraw wk w m).trapBlocked wk m pc (trapAt 0x14 0 0))

/-! ## Entering a handler -/

/-- Whether no thread outside a mask could issue (R330). Threads that a full task table stops (R246) count as blocked (log 118,
DESIGN CHOICE). -/
def State.quiet (s : State) (wk : Nat) (w : Warp) (m : Word) : Bool :=
  (s.readyMask wk w) &&& ~~~m == 0

/-- Whether an entry may be made now: none is under way, or what the write of its frame waits for has come (R16). -/
def State.mayEnter (s : State) (wk : Nat) (w : Warp) : Bool :=
  s.stands w && match w.stuck with | none => true | some x => s.waitOver wk w x

/-- The sub-warp that enters its handler next, once the warp is quiescent and runs none (R330, R331), or has begun to. -/
def State.nextSub (s : State) (wk : Nat) (w : Warp) : Option Sub :=
  let v := (s.core (s.coreOf w)).vacate
  if !s.mayEnter wk w || w.inHandler || v == .asked true || v == .leaving then none
  else match w.subs.find? fun x => !x.nested with
    | some x => if w.stuck.isSome || s.quiet wk w x.mask then some x else none
    | none => none
/-- The same for a nested handler (R332). -/
def State.nextNested (s : State) (wk : Nat) (w : Warp) : Option Sub :=
  if !s.mayEnter wk w || w.inNested then none
  else match w.subs.find? fun x => x.nested with
    | some x => if w.stuck.isSome || s.quiet wk w x.mask then some x else none
    | none => none

/-- A parked sub-warp is taken off the list, by its place. -/
def dropSub (nested : Bool) : List Sub → List Sub
  | [] => []
  | x :: r => if x.nested = nested then r else x :: dropSub nested r

/-- A sub-warp whose frame its save or restore handler wrote enters by that frame (R302); the entry is a switch point (R28). -/
def State.enterWritten (s : State) (wk : Nat) (m : Word) : State :=
  match s.warp wk with
  | none => s
  | some w => match s.partOfCore (s.coreOf w) with
    | none => s
    | some (_, p) => (s.freeLane wk).setWarp wk ((w.setS 31 (BitVec.ofNat 32 (s.slotOf w))).mapThreads fun t th =>
        let th := th.clearLatches
        if inMask m t then th.enters .trap p.trapvec th.view else th)

/-- What an entry comes to: one that has to wait leaves its sub-warp where it was, parked. -/
def State.unlessStuck (s : State) (wk : Nat) (s1 : State) : State :=
  match (s1.warp wk).bind Warp.stuck with
  | some x => s.stick wk (some x)
  | none => s1

/-- TRAP_ENTRY (R330, R331). -/
def execTrapEntry (wk : Nat) (s : State) : Host.Outcome State Fault Refusal :=
  match s.warp wk with
  | none => .next s
  | some w => match s.nextSub wk w with
    | none => .next s
    | some x =>
      let s1 := s.onWarp wk fun w => { w with subs := dropSub false w.subs, stuck := none }
      .next (if x.framed then s1.enterWritten wk x.mask
        else s.unlessStuck wk (s1.enterHandler wk 0 x.mask (fun _ => .trap) x.frame))

/-- NESTED_TRAP_ENTRY (R332). -/
def execNestedTrapEntry (wk : Nat) (s : State) : Host.Outcome State Fault Refusal :=
  match s.warp wk with
  | none => .next s
  | some w => match s.nextNested wk w with
    | none => .next s
    | some x =>
      let s1 := s.onWarp wk fun w => { w with subs := dropSub true w.subs, stuck := none }
      .next (s.unlessStuck wk (s1.enterHandler wk 192 x.mask
        (fun th => if th.handler = .preempt then .nestedPreempt else .nestedTrap) x.frame))

/-! ## Range forms, `demote` and `evict` -/

/-- RANGE_OP_COMPLETE of a thread is due (R237). -/
def State.rangeDue (s : State) (w : Warp) (t : Nat) : Bool :=
  match (w.thread t).status with
  | .waiting (.range ids _) => s.runs w && s.settled ids
  | _ => false

/-- RANGE_OP_COMPLETE (R237): the thread goes on to its next instruction. -/
def execRangeOpComplete (wk t : Nat) (s : State) : Host.Outcome State Fault Refusal :=
  match s.warp wk with
  | none => .next s
  | some w =>
    if !s.rangeDue w t then .next s
    else match (w.thread t).status with
      | .waiting (.range _ next) => .next (s.onThread wk t fun th => { th with status := .ready, pc := next, held := none })
      | _ => .next s

/-- DEMOTE_EVICT_STATUS of a register is due (R243). -/
def State.statusDue (s : State) (w : Warp) (d : Nat) : Bool :=
  match tfind w.pend d with | some (.spiral ids) => s.settled ids | _ => false

/-- DEMOTE_EVICT_STATUS (R243). -/
def execDemoteEvictStatus (wk d : Nat) (s : State) : Host.Outcome State Fault Refusal :=
  match s.warp wk with
  | none => .next s
  | some w => if s.statusDue w d then .next (s.setWarp wk (w.deliver d 0 0)) else .next s

end Sys2Proof.Machine
end

