-- ==== Sys2Proof/Machine/Schedule.lean ====
section
/-! DEFINITION. The distributors (R309 to R325): the begin of a launch, the offer of resources and the dispatch of gangs,
stages (R39 to R43), stealing, the end of crews and launches, energy windows, and the power gate's own events (R326). -/
namespace Sys2Proof.Machine

/-! ## Beginning (R314) -/

/-- The record of a ring slot as the device reads it, with the time that the read acquires; none when it cannot be read. A port
that is down is waited for (R16, R376). -/
def State.readSlot (s : State) (p : Partition) (pa : Nat) : Answer (State × Option (List Byte × Dword)) :=
  let t := s.reach p 0 pa
  let read := if s.lostTarget t || s.poisonAt t 64 then Answer.ok (s, none)
    else
      let r := s.readHome 0 t 64
      .ok (r.1, some (s.bytesAt t 64, r.2))
  match t with
  | .down x => .wait x
  | .peer dev port off => match s.peerLoad .weak dev port off 64 0 0 with
    | .ok r => .ok (r.1, some (r.2.2, 0))
    | .trap _ => .ok (s, none)
    | .wait x => .wait x
  | .dram _ _ _ => read
  | .pad _ => read
  | .host _ _ _ _ => read
  | _ => .ok (s, none)

/-- A core of a partition for what the device reads for itself. -/
def Partition.anyCore (p : Partition) : Nat := 32 * (p.bandList.head?).getD 0

/-- A header for a launch that has none. -/
def Header.none_ : Header :=
  { entry := 0, kv := 1, ks := 1, warps := 1, spad := 0, crews := 1, role := 0, traps := 0, energy := 0, stages := 0 }

/-- A launch as it begins. -/
def Launch.make (part : Nat) (queue : Option Nat) (idx : Word) (vf : Option Nat) (r : LaunchRec) (h : Option (Header × List Stage))
    (stamp : Dword) : Launch :=
  { part := part, queue := queue, idx := idx, vf := vf, hdr := r.hdr, header := (h.map Prod.fst).getD Header.none_,
    gangs := if h.isSome then r.gangs else 0, args := r.args, qstore := r.qstore, dev := r.dev, dinc := r.dinc, wev := r.wev,
    wth := r.wth, dobs := BitVec.ofNat 5 r.dobs, wobs := BitVec.ofNat 5 r.wobs, ser := decide (r.flags % 2 = 1),
    refused := h.isNone, begun := true, next := 0, redo := [], done := 0, stages := (h.map Prod.snd).getD [], band := none,
    aborted := false, reissued := false, finished := false, stamp := stamp, detached := false, stuck := none }

/-- The unretired launches of a queue. -/
def State.queueLaunches (s : State) (part q : Nat) : List (Nat × Launch) :=
  s.launches.filter fun e => e.2.part == part && e.2.queue == some q

/-- An access that the device makes for a partition waits (R16, R376): none when it is known to, else the state in which it is
outstanding. The key is a queue's number, or 64 for PBOOT. -/
def State.deviceWaits (s : State) (part key : Nat) (x : Wait) : Option State :=
  if ((s.part part).bind fun p => tfind p.stuck key) = some x then none
  else some (s.onPart part fun p => { p with stuck := tput p.stuck key x })
/-- It waits no more. -/
def State.deviceGoes (s : State) (part key : Nat) : State := s.onPart part fun p => { p with stuck := tdel p.stuck key }

/-- LAUNCH_BEGIN (R310, R313, R314). A launch of the queue that still runs from before it was enabled again has no place in the ring; one
with SER waits for it none the less (log 119, DESIGN CHOICE). -/
def State.beginAt (s : State) (part q : Nat) : Option State :=
  match s.part part with
  | none => none
  | some p =>
    let x := p.queue q
    let mine := s.queueLaunches part q
    if !x.en || x.disp == x.tail || p.stopped || mine.any fun e => e.2.idx == x.disp && !e.2.detached then none
    else match s.readSlot p (x.slot x.disp) with
      | .wait y => s.deviceWaits part q y
      | .trap _ => none
      | .ok slot =>
        let vf := if x.owned then some x.owner else none
        let rec_ := LaunchRec.ofBytes ((slot.2.map Prod.fst).getD [])
        let found := if slot.2.isNone then Answer.ok (slot.1, none) else slot.1.examine p.anyCore rec_
        match found with
        | .wait y => s.deviceWaits part q y
        | .trap _ => none
        | .ok (s1, none) =>
          let s1 := s1.deviceGoes part q
          some ((({ s1 with fresh := s1.fresh + 1 }.setLaunch s1.fresh
            (Launch.make part (some q) x.disp vf rec_ none 0))).advanceDisp s1.fresh)
        | .ok (s1, some h) =>
          let ready := (rec_.wev == 0xFFFFFFFF || decide (rec_.wth.toNat ≤ (wget p.events rec_.wev.toNat).toNat)) &&
            (rec_.flags % 2 == 0 || mine.all fun e => e.2.finished)
          if !ready then none
          else
            let s1 := s1.deviceGoes part q
            let read := (slot.2.map Prod.snd).getD 0
            let seen := if rec_.wev = 0xFFFFFFFF then 0 else p.eventStamp rec_.wev.toNat (BitVec.ofNat 5 rec_.wobs)
            some (({ s1 with fresh := s1.fresh + 1 }.setLaunch s1.fresh
              (Launch.make part (some q) x.disp vf rec_ (some h) (laterOf read seen))).advanceDisp s1.fresh)

/-- LAUNCH_BEGIN (R314). -/
def execLaunchBegin (part q : Nat) (s : State) : Host.Outcome State Fault Refusal := .next ((s.beginAt part q).getD s)

/-! ## Stages (R40, R42, R43) -/

/-- Whether the band still reserves room for a stage of a staged launch (R42). -/
def State.reserves (s : State) (lk : Nat) (l : Launch) (k : Nat) : Bool :=
  !l.aborted && !l.finished && match k with
    | 0 => decide (l.next < l.gangs) || !l.redo.isEmpty || s.stageRuns lk 0
    | j + 1 => !s.closed lk l j || s.stageRuns lk (j + 1) || ((l.stage j).map fun x => !x.entries.isEmpty).getD false

/-- Whether a crew of a stage is on a core: one that is suspended holds no room there (R42, R44). -/
def State.stageHere (s : State) (lk k : Nat) : Bool :=
  s.gangs.any fun e => e.2.launch == lk && e.2.stage == k && e.2.crews.any fun c => (s.crew c).any fun c => c.state == .resident

/-- One crew of each reserved stage that has none on a core, placed in turn: none when they do not all fit. -/
def State.placeStages (band lk : Nat) (l : Launch) : List Nat → State → Option State
  | [], s => some s
  | k :: r, s =>
    if s.reserves lk l k && !s.stageHere lk k then
      match l.stage k with
      | some st => (s.placeGang band lk k 0 st.header 0 0 false).bind (State.placeStages band lk l r)
      | none => State.placeStages band lk l r s
    else State.placeStages band lk l r s

/-- The cores of held crews, as places where nothing is claimed (R339): what they hold counts as taken. -/
def State.unclaimed (s : State) : State :=
  { s with cores := s.cores.map fun e => if e.2.vacate = .vacated then (e.1, { e.2 with vacate := .leaving }) else e }

/-- Whether every reservation of a band still holds (R42), in room that is free as it stands. -/
def State.keepsReserved (s : State) (band : Nat) : Bool :=
  ((s.launches.filter fun e => e.2.band == some band && !e.2.stages.isEmpty && !e.2.finished).foldl (fun (o : Option State) e =>
    o.bind fun s => s.placeStages band e.1 e.2 (List.range e.2.stages.length)) (some s.unclaimed)).isSome

/-- Entries that wait for a stage, and whether its output has room. -/
def Launch.waiting (l : Launch) (k : Nat) : Nat := match k with | 0 => 0 | j + 1 => ((l.stage j).map fun x => x.entries.length).getD 0
def Launch.room (l : Launch) (k : Nat) : Bool :=
  match l.stage k with | some x => x.size == 0 || decide (x.entries.length < x.capacity) | none => true
/-- How far a stage's input stands above its mark. -/
def Launch.excess (l : Launch) (k : Nat) : Nat := match k with
  | 0 => 0
  | j + 1 => ((l.stage j).map fun x => x.entries.length - x.mark).getD 0

/-- Stages by descending excess, ties to the lower. -/
def placeExcess (l : Launch) (k : Nat) : List Nat → List Nat
  | [] => [k]
  | j :: r => if l.excess k > l.excess j then k :: j :: r else j :: placeExcess l k r

/-- The stages that may gain resources, in the order of R43. R40 also lets a crew of a stage start on an empty queue while a crew
of the stage before runs: the model starts none so (log 81). -/
def State.stageOrder (s : State) (lk : Nat) (l : Launch) : List Nat :=
  let ks := (List.range l.stages.length).filter fun k => k != 0 && decide (0 < l.waiting k)
  let idle := ks.filter fun k => !s.stageHere lk k
  let high := (ks.filter fun k => decide (0 < l.excess k) && l.room k).foldl (fun r k => placeExcess l k r) []
  let open_ := ks.filter l.room
  let zero := if (decide (l.next < l.gangs) || !l.redo.isEmpty) && l.room 0 then [0] else []
  idle ++ high ++ open_ ++ zero

/-! ## Dispatch (R315, R320, R323) -/

/-- Energy charges of a gang (R323), and whether a partition admits it. -/
def Header.charge (h : Header) : Nat := 4 * h.energy * h.crews
def Partition.admits (p : Partition) (h : Header) : Bool := decide ((h.charge : Int) ≤ p.rem)

/-- The gang index dispatched next, and what is left. -/
def Launch.take (l : Launch) : Option (Nat × Launch) :=
  match l.redo with
  | i :: r => some (i, { l with redo := r })
  | [] => if l.next < l.gangs then some (l.next, { l with next := l.next + 1 }) else none

/-- Whether gangs of a partition may be placed in a band at all. -/
def State.bandOpen (s : State) (p : Partition) (band : Nat) : Bool :=
  p.holds band && !p.stopped && !(s.stack (band / 8)).fenced

/-- One gang of a launch placed in a band (R39, R315, R320, R323); none when it has none that fits and is admitted. -/
def State.dispatchTo (s : State) (lk : Nat) (l : Launch) (band : Nat) : Option State :=
  match s.part l.part with
  | none => none
  | some p =>
    if !s.bandOpen p band || l.aborted || l.refused || l.finished then none
    else
      let pay := fun (h : Header) (s : State) =>
        if s.keepsReserved band then some ((s.onPart l.part fun p => { p with rem := p.rem - h.charge }).advanceDisp lk) else none
      if l.stages.isEmpty then
        if !p.admits l.header then none
        else (l.take).bind fun x =>
          ((s.setLaunch lk x.2).placeGang band lk 0 (BitVec.ofNat 64 x.1) l.header l.args l.stamp l.queue.isNone).bind
            (pay l.header)
      else if l.band.isSome && l.band != some band then none
      else
        let l1 := { l with band := some band }
        (s.stageOrder lk l).findSome? fun k =>
          match l.stage k with
          | none => none
          | some st =>
            if !p.admits st.header then none
            else if k = 0 then (l1.take).bind fun x =>
              ((s.setLaunch lk x.2).placeGang band lk 0 (BitVec.ofNat 64 x.1) st.header l.args l.stamp false).bind
                (pay st.header)
            else ((s.setLaunch lk l1).placeGang band lk k 0 st.header l.args l.stamp false).bind (pay st.header)

/-- The queues of a priority level in the order in which they are served: after the one served last (R315). -/
def Partition.queueOrder (p : Partition) (pri : Nat) : List Nat :=
  let last := match tfind p.served pri with | some q => q | none => 63
  (((List.range 64).map fun i => (last + 1 + i) % 64)).filter fun q => (p.queue q).pri == pri

/-- The launches offered a band's resources, in order (R43, R315): the staged launches that stand there, the boot gang,
then the begun launches of the queues. -/
def State.offerOrder (s : State) (part : Nat) (p : Partition) (band : Nat) : List Nat :=
  let mine := s.launches.filter fun e => e.2.part == part
  let staged := (mine.filter fun e => !e.2.stages.isEmpty && e.2.band == some band).map Prod.fst
  let boot := (mine.filter fun e => e.2.queue.isNone).map Prod.fst
  let queues := [3, 2, 1, 0].flatMap fun pri => (p.queueOrder pri).flatMap fun q =>
    (mine.filter fun e => e.2.queue == some q && !staged.contains e.1).map Prod.fst
  staged ++ boot ++ queues

/-- The launch that gains a band's resources, and the state: its queue is the one of its priority served last (R315). -/
def State.offerBand (s : State) (part band : Nat) : Option (Nat × State) :=
  match s.part part with
  | none => none
  | some p => (s.offerOrder part p band).findSome? fun lk =>
      (s.launch lk).bind fun l => (s.dispatchTo lk l band).map fun s1 =>
        (lk, match l.queue with
          | some q => s1.onPart part fun p => { p with served := tput p.served (p.queue q).pri q }
          | none => s1)

/-- GANG_DISPATCH (R315): the launch is the one that gains the band's resources. -/
def execGangDispatch (launch band : Nat) (s : State) : Host.Outcome State Fault Refusal :=
  match s.launch launch with
  | none => .next s
  | some l => match s.offerBand l.part band with
    | some (k, s1) => .next (if k = launch then s1 else s)
    | none => .next s

/-! ## Stealing (R321) -/

/-- The crews and warps of a gang are taken out of the state: with a launch's last crew on a riser pair its entries there go
(R295), and a core that it leaves empty resets its engine state (R245). The launch's release covers what the warps have seen and
written (R316). -/
def State.removeGang (s : State) (gk : Nat) : State :=
  match s.gang gk with
  | none => s
  | some g =>
    let crews := g.crews
    let warps := crews.flatMap fun k => ((s.crew k).map Crew.warps).getD []
    let cores := (crews.filterMap fun k => (s.crew k).map Crew.core).eraseDups
    let seen := viewOf (warps.filterMap fun k => (s.warp k).map fun w => (k, w))
    let s1 := s.onLaunch g.launch fun l => { l with stamp := laterOf l.stamp seen }
    cores.foldl (fun s k => (s.purgeFifo k).leftCore k)
      { s1 with gangs := tdel s1.gangs gk, crews := s1.crews.filter fun e => !crews.contains e.1,
                warps := s1.warps.filter fun e => !warps.contains e.1 }

/-- GANG_STEAL (R321): a gang assigned to a band, none of whose crews has started, moves whole; none of an aborted launch (R335). -/
def State.steal (s : State) (gk band : Nat) : Option State :=
  match s.gang gk with
  | none => none
  | some g =>
    match s.launch g.launch with
    | none => none
    | some l =>
      match s.part l.part with
      | none => none
      | some p =>
        if g.state ≠ .assigned ∨ !l.stages.isEmpty ∨ l.aborted ∨ !s.bandOpen p band then none
        else
          let covers := g.crews.map fun k => ((s.crew k).map Crew.cover).getD 0
          let s0 := s.removeGang gk
          (s0.placeGang band g.launch 0 g.index l.header l.args l.stamp l.queue.isNone).bind fun s1 =>
            if s1.keepsReserved band then
              some { s1 with crews := s1.crews.map fun e =>
                if e.2.gang = s0.fresh then (e.1, { e.2 with cover := covers.getD e.2.cix 0 }) else e }
            else none

def execGangSteal (gang band : Nat) (s : State) : Host.Outcome State Fault Refusal := .next ((s.steal gang band).getD s)

/-! ## The end of crews, gangs and launches (R20, R253, R316) -/

/-- Whether a crew is done: its warps have finished, and its commands completed (R253). -/
def State.crewDone (s : State) (c : Crew) (ck : Nat) : Bool :=
  c.state == .resident && ((s.warpsOf c).all fun e => e.2.unfinished == 0) &&
    !(s.core c.core).tasks.any fun t => t.crew == ck

/-- What a crew of a staged launch leaves is offered to the launch's stages first (R43). Its queue does not count as served by that
(R315; log 117, DESIGN CHOICE). -/
def State.offerFreed (s : State) (lk band : Nat) : State :=
  match s.launch lk with
  | some l => if l.stages.isEmpty then s else (s.dispatchTo lk l band).getD s
  | none => s

/-- CREW_FINISH (R43, R253). -/
def execCrewFinish (crew : Nat) (s : State) : Host.Outcome State Fault Refusal :=
  match s.crew crew with
  | none => .next s
  | some c =>
    if !s.crewDone c crew then .next s
    else
      let s1 := { s with warps := s.warps.filter fun e => !c.warps.contains e.1 }
      let s2 := s1.setCrew crew { c with state := .finished, td := [] }
      .next ((((s2.leftCore c.core).settleGang c.gang).settleGangEnd c.gang).offerFreed c.launch (coreBand c.core))

/-- Whether a launch has finished (R20, R21, R335): no crew of it is left, and none can start. -/
def State.launchDone (s : State) (lk : Nat) (l : Launch) : Bool :=
  l.begun && !l.finished && !(s.gangs.any fun e => e.2.launch == lk && e.2.state != .finished) &&
    (l.refused || l.aborted || (decide (l.gangs ≤ l.next) && l.redo.isEmpty &&
      (l.stages.isEmpty || s.closed lk l (l.stages.length - 1))))

/-- STATUS of R316. -/
def Launch.status (l : Launch) : Nat := if l.refused then 4 else if l.aborted then 3 else if l.reissued then 2 else 1

/-- A launch is forgotten, with its gangs. -/
def State.forget (s : State) (lk : Nat) : State :=
  let s1 := ((s.gangs.filter fun g => g.2.launch == lk).map Prod.fst).foldl State.removeGang s
  { s1 with launches := tdel s1.launches lk }

/-- QHEAD advances past finished launches in queue order; what they leave is forgotten. -/
def State.retire (part q : Nat) : Nat → State → State
  | 0, s => s
  | n + 1, s =>
    match s.part part with
    | none => s
    | some p =>
      let x := p.queue q
      match (s.queueLaunches part q).find? fun e => e.2.idx == x.head && e.2.finished && !e.2.detached with
      | none => s
      | some e =>
        State.retire part q n ((s.forget e.1).onPart part fun p =>
          p.setQueue q { p.queue q with head := (p.queue q).head + 1 })

/-- The warps that a launch has run release what they wrote (R102, R316). -/
def State.launchReleased (s : State) (lk : Nat) : State :=
  let keys := (s.crews.filter fun e => e.2.launch == lk).flatMap fun e => e.2.warps
  s.sendHome (writtenByWarps keys)

/-- The write of STATUS into a launch's slot, as QBASE and LOGN give it now: they may have been written while EN was 0 and the
launch ran (log 106). -/
def State.writeStatus (s : State) (l : Launch) (p : Partition) (q : Nat) : Answer (State × Dword) :=
  s.deviceWrite p l.stamp ((p.queue q).slot l.idx + 52) (natBytes 4 l.status)

/-- The port that it waits for (R16, R376): the launch has not finished before it. -/
def State.statusWait (s : State) (l : Launch) : Option Wait :=
  match s.part l.part, l.queue with
  | some p, some q => match s.writeStatus l p q with | .wait x => some x | _ => none
  | _, _ => none

/-- LAUNCH_COMPLETION (R316): STATUS, the release, the signal, and retirement; one whose queue has been enabled again since has no
place in the ring to retire from. The boot gang's outcome goes to PBOOT (R390). -/
def State.completeLaunch (s : State) (lk : Nat) (l : Launch) : State :=
  let s0 := s.setLaunch lk { l with finished := true }
  let s1 := if l.dobs = 0 then s0 else s0.launchReleased lk
  match s.part l.part, l.queue with
  | some p, some q =>
    let w := match s1.writeStatus l p q with
      | .ok w => w
      | _ => (s1, l.stamp)
    let s2 := if l.refused ∨ l.dev = 0xFFFFFFFF then w.1 else w.1.signal l.part l.dev.toNat l.dinc l.dobs w.2
    if l.detached then s2.forget lk else State.retire l.part q (s.launches.length + 1) s2
  | some p, none =>
    (s1.forget lk).setPart l.part
      { p with pboot := (p.pboot &&& 0xFFFFFFFFFFFFFFC0) ||| BitVec.ofNat 64 (2 * l.status) }
  | none, _ => s1

/-- LAUNCH_COMPLETION is due: the launch is done, and its STATUS can be written or is not known to wait. -/
def State.completionDue (s : State) (lk : Nat) (l : Launch) : Bool :=
  s.launchDone lk l && match s.statusWait l with
    | none => true
    | some x => l.stuck != some x

/-- LAUNCH_COMPLETION: while the write of STATUS waits for a port, it is outstanding and nothing else is done. -/
def execLaunchCompletion (launch : Nat) (s : State) : Host.Outcome State Fault Refusal :=
  match s.launch launch with
  | none => .next s
  | some l =>
    if !s.launchDone launch l then .next s
    else match s.statusWait l with
      | some x => .next (s.setLaunch launch { l with stuck := some x })
      | none => .next (s.completeLaunch launch l)

/-! ## The boot gang (R390) -/

/-- PBOOT_GO (R390): Burdy writes PBOOT, and with GO one gang of the kernel runs in supervisor mode. A header that R310
would refuse gives STATUS 4; one behind a port that is down is waited for, with GO set, and its read is outstanding. -/
def State.bootPartition (s : State) (part : Nat) (p : Partition) (x : Dword) : State :=
  let s1 := s.setPart part { p with pboot := x &&& 0xFFFFFFFFFFFFFFC1, stuck := tdel p.stuck 64 }
  let refuse := fun (s : State) => s.onPart part fun p => { p with pboot := (x &&& 0xFFFFFFFFFFFFFFC0) ||| 8 }
  match s1.readHeader p.anyCore (x &&& 0xFFFFFFFFFFFFFFC0) with
  | .ok (s2, some h) =>
    if h.staged || !h.fitsEmptyBand then refuse s2
    else
      let r : LaunchRec :=
        { hdr := x &&& 0xFFFFFFFFFFFFFFC0, gangs := 1, args := 0, qstore := 0, dev := 0xFFFFFFFF, dinc := 0,
          wev := 0xFFFFFFFF, wth := 0, dobs := 0, wobs := 0, flags := 0, rest := 0 }
      { s2 with fresh := s2.fresh + 1 }.setLaunch s2.fresh (Launch.make part none 0 none r (some (h, [])) 0)
  | .ok (s2, none) => refuse s2
  | .trap _ => refuse s1
  | .wait y => s1.onPart part fun p => { p with stuck := tput p.stuck 64 y }

/-- The boot gang of a partition, if it runs, and whether a start that waited for its header can be made, or waits for something
else now. -/
def State.booting (s : State) (part : Nat) : Bool := s.launches.any fun e => e.2.part == part && e.2.queue.isNone
def State.bootDue (s : State) (part : Nat) (p : Partition) : Bool :=
  p.pboot.getLsbD 0 && !s.booting part && match s.readHeader p.anyCore (p.pboot &&& 0xFFFFFFFFFFFFFFC0) with
    | .wait y => tfind p.stuck 64 != some y
    | _ => true

def execPbootGo (part : Nat) (val : BitVec 64) (s : State) : Host.Outcome State Fault Refusal :=
  match s.part part with
  | none => .next s
  | some p =>
    if s.booting part then .next s
    else if val.getLsbD 0 then .next (s.bootPartition part p val)
    else .next (s.setPart part { p with pboot := val &&& 0xFFFFFFFFFFFFFFC0 ||| (p.pboot &&& 0xE) })

/-! ## Energy windows (R322, R324) -/

/-- ENERGY_WINDOW (R290, R322, R324): REM is refilled by the BUDGET that holds from now on, debt carries on, and every cover
lapses. -/
def execEnergyWindow (part : Nat) (s : State) : Host.Outcome State Fault Refusal :=
  match s.part part with
  | none => .next s
  | some p =>
    let s1 := s.setPart part { p with budgetNow := p.budget, rem := p.budget.toNat + min p.rem 0, windows := p.windows + 1 }
    .next { s1 with crews := s1.crews.map fun e =>
      if p.holdsCore e.2.core then (e.1, { e.2 with cover := 0 }) else e }

/-- Metered draws and credits (R22, R322): a credit never lifts REM above the window's BUDGET. -/
def State.meter (s : State) (part : Nat) (delta : Int) : State :=
  s.onPart part fun p =>
    let x := p.rem + delta
    { p with rem := if 0 ≤ delta then max p.rem (min x p.budgetNow.toNat) else x }

/-- A crew draws energy (R324): from its cover first, and from REM after. -/
def State.drawEnergy (s : State) (ck energy : Nat) : State :=
  match s.crew ck with
  | none => s
  | some c =>
    let s1 := s.setCrew ck { c with cover := c.cover - energy }
    match s.partOfCore c.core with
    | some (k, _) => s1.onPart k fun p => { p with rem := p.rem - ((energy - c.cover : Nat) : Int) }
    | none => s1

/-- POWER_ALARM (R11). -/
def execPowerAlarm (s : State) : Host.Outcome State Fault Refusal := .next { s with alarm := true }
/-- POWER_ALARM_END (R11). -/
def execPowerAlarmEnd (s : State) : Host.Outcome State Fault Refusal := .next { s with alarm := false }

/-- CORE_GATE_OFF (R326): a draining core that nothing holds any more. -/
def State.drained (s : State) (core : Nat) : Bool := (s.core core).gate == .drain && s.gateIdle core
def execCoreGateOff (core : Nat) (s : State) : Host.Outcome State Fault Refusal :=
  .next (if s.drained core then s.gateOff core else s)
/-- CORE_POWER_RESTORED (R326): a waking core is ON. -/
def execCorePowerRestored (core : Nat) (s : State) : Host.Outcome State Fault Refusal :=
  .next (if (s.core core).gate = .wake then (s.giveTokens core none).onCore core fun k => { k with gate := .on } else s)

end Sys2Proof.Machine
end

