-- ==== Sys2Proof/Machine/Tenancy.lean ====
section
/-! DEFINITION. Pre-emption (R337 to R342): the commands of PCMD, the stop of held mode, the save and restore frames, the
limit of handler mode. -/
namespace Sys2Proof.Machine

/-! ## Gangs that have not started (R342) -/

/-- A gang goes back to its launch, to be dispatched again with its index (R319, R342). R322 names no credit for it: what its
admission took from REM stays taken, and it is admitted and charged anew (R323; log 40, DEDUCED). -/
def State.requeueGang (s : State) (gk : Nat) : State :=
  match s.gang gk with
  | none => s
  | some g => (s.removeGang gk).onLaunch g.launch fun l =>
      if g.stage = 0 ∧ !l.aborted then { l with redo := l.redo ++ [g.index.toNat] } else l

/-- The gangs of a core none of whose crews has started are given to other cores (R342). -/
def State.handOver (s : State) (core : Nat) : State :=
  let gs := (s.gangs.filter fun e => e.2.state == .assigned && (s.crewsOn core).any fun c => c.2.gang == e.1).map Prod.fst
  gs.foldl State.requeueGang s

/-! ## Commands (R337, R338) -/

/-- Whether a vacate of a core is in handler mode (R332, R338). -/
def State.handlerMode (s : State) (core : Nat) : Bool :=
  (s.crewsOn core).all fun e => (s.warpsOf e.2).all fun w => !w.2.inHandler &&
    match s.launchOf w.2 with
    | some (_, l) => let h := s.kernelOf w.2 l; h.savesItself && h.traps.getLsbD 0x11
    | none => false

/-- A command ends with a result (R337). -/
def pstatOf (busy : Bool) (res : Nat) : Word := BitVec.ofNat 32 (bitNat busy * 2 ^ 31 + res * 2 ^ 29)

/-- Serve a vacate (R337, R338). A core without crews is vacated at once. -/
def State.serveVacate (s : State) (part : Nat) (p : Partition) (core : Nat) : State :=
  let ends := fun (s : State) (busy : Bool) (res : Nat) => s.onPart part fun p => { p with pstat := pstatOf busy res }
  if !p.holdsCore core then ends s false 1
  else if (s.core core).vacate ≠ .inService then ends s false 2
  else
    let s1 := s.handOver core
    if (s1.crewsOn core).isEmpty then ends (s1.onCore core fun k => { k with vacate := .vacated }) false 0
    else ends (s1.onCore core fun k => { k with vacate := .asked (s1.handlerMode core), askedAt := s1.cycle }) true 0

/-- A held warp goes on (R304, R339). By their records, threads that were blocked in an instruction other than a barrier issue
it again, and every barrier is checked. A warp in a pre-emption handler goes on in it: its records and barriers wait for the
handler's `tret`, and what `holdWarp` turned into durations counts from now. -/
def State.resumeHeld (s : State) (wk : Nat) : State :=
  s.onWarp wk fun w =>
    if w.run ≠ .held then w
    else if w.saving then
      { w.mapThreads (fun _ th => { th with since := s.cycle - th.since,
                                            timeout := if th.timeout = 0 then 0 else s.cycle + th.timeout }) with run := .resident }
    else
      ((({ w with run := .resident }.unpause s.cycle).mapThreads fun _ th => match th.status with
        | .waiting _ => { th with status := .ready, held := none, timeout := if th.left = 0 then 0 else s.cycle + th.left }
        | _ => th)).settleAll

/-- Serve a return (R337, R339, R340): scanned-out storage comes back first, and the command is not accepted before there is room
for it (log 90); then held warps go on, and warps that had left re-enter through a restore frame. -/
def State.serveReturn (s : State) (part : Nat) (p : Partition) (core : Nat) : State :=
  let ends := fun (s : State) (res : Nat) => s.onPart part fun p => { p with pstat := pstatOf false res }
  if !p.holdsCore core then ends s 1
  else if (s.core core).vacate = .inService then ends s 2
  else
    let s0 := (s.scanAllIn core).getD s
    let ws := (s0.crewsOn core).flatMap fun e => s0.warpsOf e.2
    let s1 := s0.onCore core fun k => { k with vacate := .inService }
    let s2 := ws.foldl (fun s w => if w.2.run = .left then s.enterRestore w.1 else s.resumeHeld w.1) s1
    ends (ws.foldl (fun s w => s.settleBarriers w.2) s2) 0

/-- Whether the storage of a core that is to be returned has room to come back that no stage of a launch reserves (R42). -/
def State.mayReturn (s : State) (x : Word) : Bool :=
  let core := bits x.toNat 0 11
  !x.getLsbD 30 || match s.scanAllIn core with
    | none => false
    | some s1 => !s.keepsReserved (coreBand core) ||
        (s1.onCore core fun k => { k with vacate := .inService }).keepsReserved (coreBand core)

/-- The command that stands first is accepted (R337): GO reads 0 when none is left. -/
def State.acceptCommand (s : State) (part : Nat) : State :=
  match s.part part with
  | none => s
  | some p =>
    match p.pcmdQueue with
    | [] => s
    | x :: r =>
      if !s.mayReturn x then s
      else
      let p1 := { p with pcmdQueue := r, pcmd := if r.isEmpty then p.pcmd &&& 0x7FFFFFFF else p.pcmd }
      let s1 := s.setPart part p1
      if x.getLsbD 30 then s1.serveReturn part p1 (bits x.toNat 0 11) else s1.serveVacate part p1 (bits x.toNat 0 11)

/-- The word that asks for a command (R337). -/
def commandWord (ret : Bool) (core : Nat) : Word := BitVec.ofNat 32 (2 ^ 31 + bitNat ret * 2 ^ 30 + core % 2048)

/-- Burdy asks for a command (R337): when it stands first already, or nothing stands before it, it is served; otherwise it
waits its turn. -/
def State.command (s : State) (part : Nat) (ret : Bool) (core : Nat) : State :=
  match s.part part with
  | none => s
  | some p =>
    let x := commandWord ret core
    let idle := !p.pstat.getLsbD 31
    if idle && p.pcmdQueue.head? == some x then s.acceptCommand part
    else
      let s1 := s.controlWrite part none 0x100 x
      if idle && p.pcmdQueue.isEmpty then s1.acceptCommand part else s1

/-- PCMD_VACATE (R337, R338). -/
def execPcmdVacate (part core : Nat) (s : State) : Host.Outcome State Fault Refusal := .next (s.command part false core)
/-- PCMD_RETURN (R337, R340). -/
def execPcmdReturn (part core : Nat) (s : State) : Host.Outcome State Fault Refusal := .next (s.command part true core)

/-! ## Held mode (R339) -/

/-- Whether a started collective waits for another participant to start. -/
def State.waitsForMember (s : State) (core : Nat) (t : Task) : Bool :=
  match s.instanceOf core t with
  | some (_, _, _, i) => !(s.members i).all fun m => m.task.started
  | none => false

/-- Whether a demote or an evict that a warp of a core has begun is unfinished in some band (R243). -/
def State.evicting (s : State) (core : Nat) : Bool :=
  (s.warpsOn core).any fun w => w.pend.any fun e => match e.2 with | .spiral ids => !s.settled ids | _ => false

/-- HELD_STOP is due: the request stands, no demote or evict is unfinished (R243), and no started command is left but what waits
for another core's program, which gating never does (R339). -/
def State.heldDue (s : State) (core : Nat) : Bool :=
  (s.core core).vacate == .asked false && !s.evicting core && !(s.core core).tasks.any fun t => t.started && !s.waitsForMember core t

/-- A collective that waits for another participant is queued again, with nothing of it done (R280, R339). -/
def State.unstart (s : State) (core : Nat) : State :=
  s.onCore core fun k => { k with entries := k.entries.map fun e =>
    (e.1, { e.2 with task := e.2.task.map fun t => { t with started := t.started && !s.waitsForMember core t } }) }

/-- A warp records its threads (R301). -/
def Warp.record (w : Warp) (now : Nat) : Warp :=
  let subs := w.subs.filter fun x => !x.nested
  w.mapThreads fun t th => let r := th.record subs t now; { th with resume := r.1, left := r.2 }

/-- A warp stops where it is (R339): its timeouts do not count until it goes on. A warp whose threads run a pre-emption
handler keeps the records that the handler works on, and its barriers stay as they were paused; while it is held, `since`
holds how long a thread has been blocked, and `timeout` what is left to it. -/
def State.holdWarp (s : State) (wk : Nat) : State :=
  s.onWarp wk fun w =>
    if w.run ≠ .resident ∨ w.unfinished = 0 then w
    else
      let w1 := if w.saving then
          w.mapThreads fun _ th => { th with since := s.cycle - th.since,
                                             timeout := if th.timeout = 0 then 0 else max 1 (th.timeout - s.cycle) }
        else w.record s.cycle
      { w1.mapThreads (fun _ th => th.clearLatches) with
        run := .held, pausedAt := some (w.pausedAt.getD s.cycle), stuck := none }

/-- The keys of the warps on a core. -/
def State.warpKeysOn (s : State) (core : Nat) : List Nat := (s.crewsOn core).flatMap fun e => e.2.warps

/-- HELD_STOP (R339). -/
def execHeldStop (core : Nat) (s : State) : Host.Outcome State Fault Refusal :=
  if !s.heldDue core then .next s
  else
    let s1 := (s.warpKeysOn core).foldl State.holdWarp (s.unstart core)
    .next ((s1.onCore core fun k => { k with vacate := .vacated }).commandDone core 0)

/-! ## Handler mode (R340) -/

/-- A warp enters its save frame (R301, R328, R340): one that cannot be written aborts the launch, and one whose write waits for
a port leaves the warp as it is. -/
def State.enterSave (s : State) (wk : Nat) : State :=
  match s.warp wk with
  | none => s
  | some w =>
    if w.run ≠ .resident ∨ w.unfinished = 0 then s
    else
      match s.partOfCore (s.coreOf w) with
      | none => s
      | some (_, p) =>
        let core := s.coreOf w
        let va := p.savebase + BitVec.ofNat 64 (s.slotOf w + 128)
        let w1 := { (w.record s.cycle) with subs := [], pausedAt := some s.cycle }
        let s1 := s.setWarp wk w1
        let frame := fun (spill : Dword) =>
          ({ cause := 0x11, sub := 1, addr := 0, mask := 0xFFFFFFFF, word := 0, pc := 0, view := w.viewIn 0xFFFFFFFF,
             detail := spill, s31 := w.sreg 31 } : Frame)
        match s1.slotWrite core wk (w.viewIn 0xFFFFFFFF) (va - 64) (dwordsOf (frame 0).bytes) with
        | .wait x => s.stick wk (some x)
        | .trap _ => s1.enterHandler wk 64 0xFFFFFFFF (fun _ => .preempt) (frame 0)
        | .ok _ => match s1.slotRead core (w.viewIn 0xFFFFFFFF) va 1 with
          | .wait x => s.stick wk (some x)
          | .trap t => match s.launchOf w with | some (lk, _) => s1.abortFor lk core t | none => s1
          | .ok r => r.1.enterHandler wk 64 0xFFFFFFFF (fun _ => .preempt) (frame (BitVec.ofNat 64 (bytesNat r.2.2)))

/-- The warps of a core that have not entered their save frame because its write waits for a port, once the wait is over. -/
def State.saveLate (s : State) (core : Nat) : List Nat :=
  (s.warpKeysOn core).filter fun wk => (s.warp wk).any fun w => !w.inHandler && match w.stuck with
    | some x => s.waitOver wk w x
    | none => false

/-- PREEMPT_SAVE_ENTRY (R340). -/
def execPreemptSaveEntry (core : Nat) (s : State) : Host.Outcome State Fault Refusal :=
  match (s.core core).vacate with
  | .asked true =>
    let s1 := s.onCore core fun k => { k with vacate := .leaving }
    .next (((s1.warpKeysOn core).foldl State.enterSave s1).leftCore core)
  | .leaving => .next ((s.saveLate core).foldl State.enterSave s)
  | _ => .next s

/-- PHLIM_EXPIRY is due (R337, R340). -/
def State.phlimDue (s : State) (core : Nat) : Bool :=
  match s.partOfCore core with
  | some (_, p) => (s.core core).vacate == .leaving && p.phlim != 0 &&
      decide (p.phlim.toNat * s.cyclesPerMicro core < s.cycle - (s.core core).askedAt)
  | none => false

/-- PHLIM_EXPIRY (R340): what remains on the core goes on in held mode. -/
def execPhlimExpiry (core : Nat) (s : State) : Host.Outcome State Fault Refusal :=
  .next (if s.phlimDue core then s.onCore core fun k => { k with vacate := .asked false } else s)

/-! ## Resuming a suspended crew (R341) -/

/-- Lanes for some warps, in turn. -/
def placeAll : List Warp → List Warp → Option (List Warp)
  | _, [] => some []
  | used, w :: r =>
    (pickLane used w.kv).bind fun l =>
      let w1 := { w with lane := l.1, slot := l.2 }
      (placeAll (w1 :: used) r).map fun q => w1 :: q

/-- The warps of a resident crew that are still to enter their restore frame, on a core in service, once the port that the frame's
write waits for is up. -/
def State.restoreLate (s : State) (c : Crew) : List Nat :=
  if c.state ≠ .resident ∨ (s.core c.core).vacate ≠ .inService then []
  else (s.warpsOf c).filterMap fun e => match e.2.stuck with
    | some x => if e.2.run == .left && s.waitOver e.1 e.2 x then some e.1 else none
    | none => none

/-- A crew whose tokens name submissions of one core goes to another (R280): the counts there pass them, and none of them names a
task that runs there; none while one does. -/
def State.adoptTokens (s : State) (old new : Nat) : Option State :=
  let k := s.core new
  let es := (s.core old).entries
  if old = new then some s
  else if es.any fun e => (k.entry e.1).task.isSome && decide ((k.entry e.1).seq ≤ e.2.seq) then none
  else some (s.setCore new (es.foldl (fun k e => k.setEntry e.1 { k.entry e.1 with seq := max (k.entry e.1).seq e.2.seq }) k))

/-- A suspended crew placed on a core of its band (R320, R341); none when it does not fit, or while a token of the crew would name
a task of another there (R280). -/
def State.resumeCrew (s : State) (ck core : Nat) : Option State :=
  match s.crew ck with
  | none => none
  | some c =>
    match s.gang c.gang with
    | none => none
    | some g =>
      if c.state ≠ .suspended ∨ coreBand core ≠ g.band ∨ 2048 ≤ core ∨ !s.coreOpen core c.launch ||
          (s.stack (g.band / 8)).fenced then none
      else
        let cluster := coreCluster core
        match placeAll (s.warpsOn core) ((s.warpsOf c).map Prod.snd), s.padClaim c.launch cluster (c.size / 2048) with
        | some ws, some (o, held) =>
          let keys := (s.warpsOf c).map Prod.fst
          let s0 := (held.foldl (fun s e => s.scanOut e.1 e.2) s).wipePad (2097152 * cluster + 2048 * o) c.size
          let s1 := { s0 with warps := (keys.zip ws).foldl (fun t (e : Nat × Warp) => tput t e.1 e.2) s0.warps }
          let s2 := s1.setCrew ck { c with core := core, spad := 2048 * o, state := .resident }
          let s3 := keys.foldl (fun s wk => match s.warp wk with
            | some w => if w.run = .left then s.enterRestore wk else s
            | none => s) s2
          if s2.keepsReserved g.band then s3.adoptTokens c.core core else none
        | _, _ => none

/-- PREEMPT_RESTORE_ENTRY (R341). -/
def execPreemptRestoreEntry (crew core : Nat) (s : State) : Host.Outcome State Fault Refusal :=
  match s.crew crew with
  | none => .next s
  | some c =>
    if c.state = .resident ∧ c.core = core then .next ((s.restoreLate c).foldl State.enterRestore s)
    else .next ((s.resumeCrew crew core).getD s)

end Sys2Proof.Machine
end

