-- ==== Sys2Proof/Machine/Tenants.lean ====
section
/-! DEFINITION. Boot, partitions, fences and alarms (R319, R371, R387 to R390, R394, R395), and the state of routers and
links (R370, R374, R396). -/
namespace Sys2Proof.Machine

/-! ## Boot (R387 to R389) -/

/-- RESET (R388). Host memory is not the device's, and stays as it was written; so do the draws of free values, the numbers
that have not been used, and what is to come. -/
def execReset (s : State) : Host.Outcome State Fault Refusal :=
  .next { State.reset with
    mem := s.mem.filter (fun e => decide (Config.hostBase ≤ e.1)),
    ciphered := s.ciphered.filter (fun e => decide (Config.hostBase ≤ e.1)), agenda := s.agenda, draws := s.draws,
    fresh := max s.fresh 1 }

/-- Bit s of a byte of stacks. -/
def stackBit (st : Nat) : Byte := BitVec.ofNat 8 (2 ^ st)

/-- GO of BOOTCTL (R388): ignored while it reads 1 and after any stack has accepted an image. -/
def State.bootGoNow (s : State) : State :=
  if s.bootGo || s.bootAcpt != 0 then s
  else (List.range 8).foldl (fun s st => s.setStack st { s.stack st with boot := .checking }) { s with bootGo := true, bootDone := 0 }

/-- BOOTCTL_GO (R388). -/
def execBootctlGo (s : State) : Host.Outcome State Fault Refusal := .next s.bootGoNow

/-- BOOTCTL (R388). -/
def State.bootctl (s : State) : Word :=
  BitVec.ofNat 32 (bitNat s.bootGo * 2 ^ 31 + s.bootDone.toNat * 2 ^ 16 + s.bootAcpt.toNat * 2 ^ 8)

/-- Whether an image is laid out as R387 says. -/
def imageLaidOut (len k : Nat) : Bool :=
  decide (len % 4 = 0 ∧ len ≤ 67108864 ∧ 1 ≤ k ∧ k ≤ 64 ∧ 16 + 2 * k + 96 + 96 ≤ len)

/-- Whether a stack accepts the image in the staging window (R387, R388). -/
def State.imageGood (s : State) (st : Nat) : Bool :=
  let word := fun (o : Nat) => bytesNat (memBytes s.staging o 4)
  let len := word 8
  let k := word 12
  let fab := if Config.fabSecond st then 2 else 1
  let key := memBytes s.staging (16 + 2 * k) 96
  word 0 == 0x46584657 && imageLaidOut len k && sha384 key == Config.fuseDigest st &&
    ecdsaVerifies key (memBytes s.staging 0 (len - 96)) (memBytes s.staging (len - 96) 96) && decide (Config.fusedVersion st ≤ word 4) &&
    (List.range k).any fun i => wget s.staging (16 + 2 * i) == BitVec.ofNat 8 fab && wget s.staging (17 + 2 * i) == Config.stepping

/-- What a check comes to: an accepting stack runs at reduced service (R389), a refusing one is fenced (R388). One that has been
fenced off under R319 stays so. -/
def State.checked (s : State) (st : Nat) (good : Bool) : State :=
  let done := s.bootDone ||| stackBit st
  let s1 := { s with bootDone := done, bootGo := s.bootGo && done != 0xFF,
                     bootAcpt := if good then s.bootAcpt ||| stackBit st else s.bootAcpt }
  let struck := (s.stack st).struck
  s1.setStack st (if good then { boot := .running, lvl := 1, fenced := struck, struck := struck }
    else { boot := .refused, lvl := 1, fenced := true, struck := struck })

/-- FIRMWARE_CHECK_DONE (R388). -/
def execFirmwareCheckDone (st : Nat) (s : State) : Host.Outcome State Fault Refusal :=
  .next (if st < 8 ∧ (s.stack st).boot = .checking then s.checked st (s.imageGood st) else s)

/-- Whether a stack holds a band of some partition. -/
def State.stackInUse (s : State) (st : Nat) : Bool := s.parts.any fun e => e.2.stackList.contains st

/-- RAISE_FULL_SERVICE (R389): DRAM takes the dirty tiles of the stack, and its spirals are emptied; a shadow reservation is no
tile, and stays. -/
def execRaiseFullService (st : Nat) (s : State) : Host.Outcome State Fault Refusal :=
  if (s.stack st).boot = .running ∧ (s.stack st).lvl = 1 ∧ !s.stackInUse st then
    .next ({ s with under := s.under.filter (fun e => e.1 / Config.bandBytes / 8 != st),
                    spirals := s.spirals.map fun (e : Nat × Spiral) =>
                      if e.1 / 8 = st then (e.1, { emptySpiral with res := e.2.res }) else e }.setStack st { s.stack st with lvl := 0 })
  else .next s

/-! ## Partitions (R371, R390) -/

/-- A partition as it is made: every register at its reset value, the key made. -/
def Partition.make (top bot left right : Nat) : Partition :=
  { top := top, bot := bot, left := left, right := right, key := true, keyId := 0, budget := 0, budgetNow := 0, rem := 0, windows := 1, stopped := false,
    pboot := 0, secpol := 0, vfbind := 0, vfport := 0, pcmd := 0, pcmdQueue := [], pstat := 0, phlim := 50, wdog := 1000000,
    troot := 0, tinva := 0, tinvc := 0, tinvDue := [], flbase := 0, flen := false, flovf := false, fllogn := 0, fltail := 0,
    flhead := 0,
    cap := [], groups := [], peerWindows := [], exports := [], hostWindows := [], queues := [], served := [], events := [],
    eventRel := [], trapvec := 0, savebase := 0, per := 8, nextPer := 8, rnd := 0, priority := [], round := 0, stuck := [] }

/-- Whether a band may join a partition (R388 to R390). -/
def State.bandFree (s : State) (b : Nat) : Bool :=
  (s.partOfBand b).isNone && (Spiral.of s b).tiles.isEmpty && (Spiral.of s b).res == 0 &&
    (s.stack (b / 8)).boot == .running && !(s.stack (b / 8)).fenced

/-- Whether Burdy may create a partition of a rectangle (R371, R389, R390). -/
def State.mayCreate (s : State) (p : Partition) : Bool :=
  decide (p.top ≤ p.bot ∧ p.bot ≤ 3 ∧ p.left ≤ p.right ∧ p.right ≤ 15) && p.bandList.all s.bandFree &&
    p.bandList.all fun b => (s.stack (b / 8)).lvl == 0 || (b % 8 == 0 && p.bandList.length == 1)

/-- PARTITION_CREATE (R371, R390): with a key of its own. -/
def execPartitionCreate (top bot left right : Nat) (s : State) : Host.Outcome State Fault Refusal :=
  let p := { Partition.make top bot left right with keyId := s.fresh }
  .next (if s.mayCreate p then { s with fresh := s.fresh + 1 }.setPart (cornerBand top left) p else s)

/-- PARTITION_DESTROY (R371, R390): its work ends, its spirals are written back and emptied, and its key is destroyed: every byte
of its DRAM stays encrypted under a key that no one holds any more. At reduced service its tiles stay where they are until the
stack is raised (R389), and their band is not free before; what was queued is written (log 86). Its shadow reservations end with
it, which the spec leaves open (log 85). -/
def execPartitionDestroy (part : Nat) (s : State) : Host.Outcome State Fault Refusal :=
  match s.part part with
  | none => .next s
  | some p =>
    let dram := fun (a : Nat) => decide (a < Config.bandBytes * Config.bandCount) && p.holds (a / Config.bandBytes)
    let pad := fun (k : Nat) => decide (k < 2097152 * 512) && p.holds (k / 2097152 / 8)
    let word := fun (w : Nat) => dram (4 * w) || (decide (2 ^ 58 ≤ w) && pad (4 * w - 2 ^ 60))
    let mine := fun (lk : Nat) => ((s.launch lk).map Launch.part) == some part
    let rep := fun (w : Nat) => decide (2 ^ 61 ≤ w) && p.ownsCells (repAddress w / 4096)
    let gone := fun (b : Nat) => p.holds b && !s.atReduced b
    let stays := fun (a : Nat) => s.atReduced (a / Config.bandBytes) &&
      s.resident (p.home (p.fromPackage a / 2048)) (p.fromPackage a / 2048)
    let crews := s.crews.filter fun e => mine e.2.launch
    let warps := crews.flatMap fun e => e.2.warps
    .next { s with
      parts := tdel s.parts part,
      tlb := s.tlb.filter (fun e => e.part != part),
      code := s.code.filter (fun e => !p.holdsCore e.core),
      launches := s.launches.filter (fun e => e.2.part != part),
      gangs := s.gangs.filter (fun e => !mine e.2.launch),
      crews := s.crews.filter (fun e => !mine e.2.launch),
      warps := s.warps.filter (fun e => !warps.contains e.1),
      cores := s.cores.filter (fun e => !p.holdsCore e.1),
      spirals := s.spirals.filter (fun e => !gone e.1),
      wbq := s.wbq.filter (fun e => !p.holds e.1),
      smap := s.smap.filter (fun e => !p.holds (e.1 / 16 / 8)),
      spad := s.spad.filter (fun e => !pad e.1),
      spadPoison := s.spadPoison.filter (fun e => !pad e.1),
      sealedBands := p.bandList.foldl (fun t b => if (tfind t b).isSome then t else tput t b p.keyId) s.sealedBands,
      under := s.under.filter (fun e => !dram e.1 || stays e.1),
      poison := s.poison.filter (fun e => !dram e.1),
      lost := s.lost.filter (fun e => !word (32 * e.1)),
      owned := s.owned.filter (fun e => !word e.1 && !p.holdsCore e.2.core),
      homes := s.homes.filter (fun e => !word e.1),
      shared := s.shared.filter (fun e => !word (e.1 / 4096) && !rep (e.1 / 4096) && !p.holdsCore (e.1 % 4096)),
      copies := s.copies.filter (fun e => !word (e.1 / 4096) && !rep (e.1 / 4096) && !p.holdsCore (e.1 % 4096)),
      clocks := s.clocks.filter (fun e => !rep e.1),
      reps := s.reps.filter (fun e => !p.ownsCells (e.1 / 8 / 512)),
      repLost := s.repLost.filter (fun e => !p.ownsCells (e.1 / 8 / 32)),
      repPoison := s.repPoison.filter (fun e => !p.ownsCells (e.1 / 8 / 4096)),
      latPages := s.latPages.filter (fun e => !p.ownsCells e.1),
      claims := s.claims.filter fun c => !p.vfbind.getLsbD c.vf }

/-! ## The fence of a stack (R319, R381) -/

/-- What the cores and clusters of a stack alone hold is lost (R122): words they own, and ranges mapped to their
scratchpads. -/
def State.loseHeld (s : State) (st : Nat) : State :=
  let words := (s.owned.filter fun e => coreStack e.2.core == st).map Prod.fst
  let s1 := words.foldl State.loseWord s
  let maps := s.smap.filter fun e => e.2.v && e.1 / 16 / 64 == st
  let s2 := maps.foldl (fun s e =>
    match s.partOfBand (e.1 / 16 / 8) with
    | some (_, p) => (List.range (16 * (e.2.nt + 1))).foldl (fun s i => s.loseWord (p.toPackage (2048 * e.2.gtn + 128 * i) / 4)) s
    | none => s) s1
  let pad := fun (w : Nat) => decide (2 ^ 58 ≤ w) && (4 * w - 2 ^ 60) / 2097152 / 64 == st
  { s2 with smap := s2.smap.filter (fun e => e.1 / 16 / 64 != st),
            owned := s2.owned.filter (fun e => !pad e.1), homes := s2.homes.filter (fun e => !pad e.1),
            shared := s2.shared.filter (fun e => coreStack (e.1 % 4096) != st && !pad (e.1 / 4096)),
            copies := s2.copies.filter fun e => coreStack (e.1 % 4096) != st && !pad (e.1 / 4096) }

/-- The spirals and queued write-backs of a stack's bands are gone, and their pins end (R362). -/
def State.clearBands (s : State) (st : Nat) : State :=
  (List.range 8).foldl (fun s i =>
    let b := 8 * st + i
    let sp := Spiral.of s b
    let s1 := match s.partOfBand b with
      | some (_, p) => sp.pinned.foldl (fun (s : State) (e : Nat × Tile) => s.unpinned p e.2.owner) s
      | none => s
    { s1 with wbq := tdel s1.wbq b }.setSpiral b { emptySpiral with res := sp.res }) s

/-- The groups of a partition become invalid, and their instances end, each completed with code 4 (R377, R381). -/
def State.fenceGroups (s : State) (k : Nat) (p : Partition) : State :=
  let s1 := (List.range 64).foldl (fun s g => s.cancelGroup p g) s
  s1.onPart k fun p => { p with groups := p.groups.map fun e =>
    (e.1, { e.2.ended with gctl := e.2.gctl &&& 0x7FFFFFFF }) }

/-- The crews of a fenced stack end without finishing, and unfinished gangs are dispatched again (R319). -/
def State.fenceGangs (s : State) (st : Nat) : State :=
  let staged := (s.launches.filter fun e => !e.2.stages.isEmpty && !e.2.finished && (e.2.band.map (· / 8)) == some st).map Prod.fst
  let s1 := staged.foldl State.abort s
  let gs := s1.gangs.filter fun e => e.2.band / 8 == st && e.2.state != .finished
  gs.foldl (fun s e => (s.onLaunch e.2.launch fun l =>
    { l with reissued := l.reissued || (e.2.stage == 0 && !l.aborted) }).requeueGang e.1) s1

/-- The cores of a fenced stack hold nothing any more; a vacate that waits for one ends. -/
def State.fenceCores (s : State) (st : Nat) : State :=
  let asked := (s.cores.filter fun e => coreStack e.1 == st && e.2.vacate != .inService && e.2.vacate != .vacated).map Prod.fst
  let s1 := asked.foldl (fun s k => s.commandDone k 0) s
  { s1 with cores := s1.cores.map fun e =>
      if coreStack e.1 = st then
        (e.1, { e.2.resetEngine with fifo := [], vacate := if e.2.vacate = .inService then .inService else .vacated })
      else e }

/-- A stack is fenced off (R319). MASTER and FENCED follow (R318). One that has refused its image is fenced already (R388), and
no later image lifts this fence. -/
def State.fenceStack (s : State) (st : Nat) : State :=
  if 7 < st then s
  else if (s.stack st).fenced then s.setStack st { s.stack st with struck := true }
  else
    let parts := s.parts.filter fun e => e.2.stackList.contains st
    let s1 := (((s.loseHeld st).clearBands st).fenceGangs st).fenceCores st
    let s2 := parts.foldl (fun s e => s.fenceGroups e.1 e.2) s1
    s2.setStack st { s2.stack st with fenced := true, struck := true }

/-- STACK_FENCE (R319). -/
def execStackFence (st : Nat) (s : State) : Host.Outcome State Fault Refusal := .next (s.fenceStack st)

/-! ## Security alarms (R394, R395) -/

/-- The partitions that an alarm of a class affects: `scope` names the stack of class 1 and the partition of class 2. -/
def State.alarmed (s : State) (cls scope : Nat) : List Nat :=
  ((s.parts.filter fun e => match cls with
    | 0 => true
    | 1 => e.2.stackList.contains scope
    | 2 => e.1 == scope
    | 3 => true
    | _ => false)).map Prod.fst

/-- SECURITY_ALARM (R394, R395). -/
def execSecurityAlarm (cls scope : Nat) (s : State) : Host.Outcome State Fault Refusal :=
  .next ((s.alarmed cls scope).foldl (fun s k => s.alarmAt k cls 0xFFFF 0xFFFFFFFF) s)

/-! ## Routers and links (R10, R370, R374, R376, R396) -/

/-- Routers by number: 0 to 63 the local crossbars of the bands, 64 to 71 the central crossbars of the stacks, and from 72
four mesh ports of each stack: N, E, S, W. -/
def edgePort (r : Nat) : Bool :=
  let st := (r - 72) / 4
  let dir := (r - 72) % 4
  decide (72 ≤ r) && ((dir == 0 && decide (st < 4)) || (dir == 2 && decide (4 ≤ st)) || (dir == 1 && st % 4 == 3) ||
    (dir == 3 && st % 4 == 0))
/-- The state of a router; a mesh port that faces the package edge stays DOWN (R10). -/
def State.router (s : State) (r : Nat) : Router := if edgePort r then .down else (tfind s.routers r).getD .active
/-- Change the state of a router that exists and faces no edge. -/
def State.setRouter (s : State) (r : Nat) (x : Router) : State :=
  if edgePort r || decide (104 ≤ r) then s else { s with routers := tput s.routers r x }

/-- A wake signal at a router, or a packet that raises one (R370). -/
def State.wakeRouter (s : State) (r : Nat) : State :=
  match s.router r with
  | .idle => s.setRouter r .active
  | .down => s.setRouter r .waking
  | _ => s
/-- A cycle in which a packet arrives at a router, or in which it neither holds nor receives one (R370). -/
def State.routeCycle (s : State) (r : Nat) (packet : Bool) : State :=
  if packet then s.wakeRouter r else if s.router r = .active then s.setRouter r .idle else s

/-- ROUTER_POWER_DOWN, ROUTER_WAKE_SIGNAL and ROUTER_POWER_RESTORED (R370): an idle window ends without a wake signal. -/
def execRouterPowerDown (r : Nat) (s : State) : Host.Outcome State Fault Refusal :=
  .next (if s.router r = .idle then s.setRouter r .down else s)
def execRouterWakeSignal (r : Nat) (s : State) : Host.Outcome State Fault Refusal := .next (s.wakeRouter r)
def execRouterPowerRestored (r : Nat) (s : State) : Host.Outcome State Fault Refusal :=
  .next (if s.router r = .waking then s.setRouter r .active else s)

/-- What the device's own accesses waited for has come: they are outstanding no more (R16, R375). -/
def State.unstick (s : State) : State :=
  { s with parts := s.parts.map fun e => (e.1, { e.2 with stuck := e.2.stuck.filter fun x => !s.linkUp x.2 }),
           launches := s.launches.map fun e => (e.1, { e.2 with stuck := e.2.stuck.filter fun x => !s.linkUp x }) }

/-- JALEF_LINK_CHANGE (R374, R376): lanes 0 is down, 2, 4 and 7 are up; other values are not issued. -/
def execJalefLinkChange (port lanes : Nat) (peer : BitVec 8) (s : State) : Host.Outcome State Fault Refusal :=
  if port < 16 ∧ (lanes = 0 ∨ lanes = 2 ∨ lanes = 4 ∨ lanes = 7) then
    .next { s with jalef := tput s.jalef port { up := decide (lanes ≠ 0), lanes := lanes, peer := peer.toNat } }.unstick
  else .next s

/-- HOST_PORT_LINK_CHANGE (R396): a port's protocol changes only while the port is down. -/
def execHostPortLinkChange (port : Nat) (proto : BitVec 2) (s : State) : Host.Outcome State Fault Refusal :=
  if port < 2 ∧ proto.toNat ≤ 2 ∧ (proto = 0 ∨ s.proto port = 0) then
    .next { s with hostPorts := tput s.hostPorts port proto.toNat }.unstick
  else .next s

/-- PEER_COLLECTIVE_MESSAGE (R378, R381): a rank of another device joins the next instance of its count, or every
unfinished instance of the group is cancelled. -/
def execPeerCollectiveMessage (part g rank : Nat) (cancel : BitVec 1) (s : State) : Host.Outcome State Fault Refusal :=
  match s.part part with
  | none => .next s
  | some p =>
    let r := p.group g
    let first := bits r.gloc.toNat 16 8
    let away := decide (rank < first) || decide (first + bits r.gloc.toNat 0 8 < rank)
    if 63 < g || !r.gctl.getLsbD 31 || !r.gctl.getLsbD 30 then .next s
    else if cancel = 1 then
      .next ((s.setPart part (p.setGroup g r.ended)).cancelGroup p g)
    else if away && decide (rank < r.participants) then
      .next (s.setPart part (p.setGroup g (r.join { rank := rank, core := 65535, ent := 0 }).1))
    else .next s

end Sys2Proof.Machine
end

