-- ==== Sys2Proof/Machine/HostPort.lean ====
section
/-! DEFINITION. What arrives from outside the cores: register writes of Burdy and the host (R2, R312, R337, R359, R386,
R397), accesses of the host (R115, R385, R386) and of peer devices (R115, R391), and pool operations (R360). -/
namespace Sys2Proof.Machine

/-! ## Register writes -/

/-- BUDGET_WRITE (R322): it takes effect at the next window. -/
def execBudgetWrite (part : Nat) (val : BitVec 32) (s : State) : Host.Outcome State Fault Refusal :=
  .next (s.controlWrite part none 0x0 val)
/-- QCTL_WRITE (R312). -/
def execQctlWrite (part q : Nat) (val : BitVec 32) (s : State) : Host.Outcome State Fault Refusal :=
  .next (if q < 64 then s.controlWrite part none (0x1008 + 32 * q) val else s)
/-- QTAIL_WRITE (R313). -/
def execQtailWrite (part q : Nat) (val : BitVec 32) (s : State) : Host.Outcome State Fault Refusal :=
  .next (if q < 64 then s.controlWrite part none (0x100C + 32 * q) val else s)
/-- QOWN_WRITE (R386). -/
def execQownWrite (part q : Nat) (val : BitVec 32) (s : State) : Host.Outcome State Fault Refusal :=
  .next (if q < 64 then s.controlWrite part none (0x1800 + 4 * q) val else s)
/-- EVENT_COUNTER_WRITE (R317). -/
def execEventCounterWrite (part n : Nat) (val : BitVec 32) (s : State) : Host.Outcome State Fault Refusal :=
  .next (if n < 4096 then s.controlWrite part none (0x4000 + 4 * n) val else s)
/-- FLCTL_WRITE (R349). -/
def execFlctlWrite (part : Nat) (val : BitVec 32) (s : State) : Host.Outcome State Fault Refusal :=
  .next (s.controlWrite part none 0x148 val)
/-- GROUP_RECORD_WRITE (R377). -/
def execGroupRecordWrite (part g word : Nat) (val : BitVec 32) (s : State) : Host.Outcome State Fault Refusal :=
  .next (if g < 64 ∧ word < 4 then s.controlWrite part none (0x400 + 16 * g + 4 * word) val else s)
/-- GUAR_WRITE (R359). -/
def execGuarWrite (vf tier : Nat) (val : BitVec 32) (s : State) : Host.Outcome State Fault Refusal :=
  .next (if vf < 64 ∧ tier < 3 then s.vfWrite vf true (0x14 + 16 * tier) val else s)
/-- MIG_WRITE (R359, R392). -/
def execMigWrite (vf off : Nat) (val : BitVec 32) (s : State) : Host.Outcome State Fault Refusal :=
  .next (if vf < 64 ∧ off % 4 = 0 then s.writeMig vf off val else s)
/-- VFBIND_WRITE (R397). -/
def execVfbindWrite (part : Nat) (val : BitVec 64) (s : State) : Host.Outcome State Fault Refusal :=
  match s.part part with | some p => .next (s.writeVfbind part p val) | none => .next s
/-- VFPORT_WRITE (R397). -/
def execVfportWrite (part : Nat) (val : BitVec 64) (s : State) : Host.Outcome State Fault Refusal :=
  match s.part part with | some p => .next (s.writeVfport part p val) | none => .next s

/-- The partition to which a VF is bound (R397). -/
def State.boundTo (s : State) (v : Nat) : Option (Nat × Partition) := s.parts.find? fun e => decide (v < 64) && e.2.vfbind.getLsbD v

/-- A write of a partition's own CSRs by Burdy (R390): `trapvec` and `savebase` (R287). -/
def Partition.writeCsr (p : Partition) (n : Nat) (x : Word) : Partition :=
  if n = 0x700 then { p with trapvec := pairOf (x &&& ~~~1) (highWord p.trapvec) }
  else if n = 0x701 then { p with trapvec := pairOf (lowWord p.trapvec) x }
  else if n = 0x702 then { p with savebase := pairOf (x &&& ~~~0xFF) (highWord p.savebase) }
  else if n = 0x703 then { p with savebase := pairOf (lowWord p.savebase) x }
  else p

/-- A decoder's registers (R385), whose layout the spec leaves open (log 92): at 0, on in bit 63 and the partition in bits 5 to 0;
at 8 the first byte of the range in the partition's DRAM; at 16 its length. -/
def Decoder.write (d : Decoder) (off : Nat) (x : Dword) : Decoder :=
  if off = 0 then { d with on := x.getLsbD 63, part := bits x.toNat 0 6 }
  else if off = 8 then { d with base := x.toNat } else if off = 16 then { d with size := x.toNat } else d

/-- The HDM decoder of a host port. -/
def State.decoder (s : State) (port : Nat) : Decoder :=
  (tfind s.decoders port).getD { on := false, part := 0, base := 0, size := 0 }

/-- Whether the port of a VF of a partition is up (R385): the host reaches the VF through it alone. -/
def State.vfUp (s : State) (p : Partition) (vf : Nat) : Bool := s.proto (bitNat (p.vfport.getLsbD vf)) != 0

/-- REGISTER_WRITE (R2, R312, R337, R359, R385, R386). Burdy names a partition (region 0: its control page; 2: its CSRs), a VF
(region 1: its page) or a host port (region 3: its HDM decoder); the host names a VF, whose page (1) or whose partition's
control page (0) it reaches while the VF's port is up. -/
def execRegisterWrite (burdy : BitVec 1) (region n off size : Nat) (val : BitVec 64) (s : State) :
    Host.Outcome State Fault Refusal :=
  if burdy = 1 then
    if region = 0 then .next (s.regWrite 0 n none off size val)
    else if region = 1 then .next (if n < 64 then s.regWrite 1 n none off size val else s)
    else if region = 2 then .next (s.onPart n fun p => p.writeCsr off (lowWord val))
    else if region = 3 ∧ n < 2 ∧ size = 8 then .next { s with decoders := tput s.decoders n ((s.decoder n).write off val) }
    else .next s
  else match s.boundTo n with
    | none => .next s
    | some (k, p) =>
      if !s.vfUp p n then .next s
      else if region = 0 then .next (s.regWrite 0 k (some n) off size val)
      else if region = 1 then .next (s.regWrite 1 n (some n) off size val)
      else .next s

/-! ## Pools -/

/-- A pool operation of a bound VF (R360). -/
def poolOp (s : State) (vf tier op n : Nat) : Host.Outcome State Fault Refusal :=
  match s.boundTo vf with
  | none => .next s
  | some (k, p) =>
    if tier = 1 ∨ tier = 2 then
      if 1 ≤ n ∧ n ≤ 64 then
        let r := s.pool k p vf tier op n
        .next { r.1 with delivered := r.1.poolPair vf tier r.2 }
      else .next s
    else .next s
/-- POOL_ADMIT, POOL_GROW and POOL_RET (R360, R361). -/
def execPoolAdmit (vf tier n : Nat) (s : State) : Host.Outcome State Fault Refusal := poolOp s vf tier 0 n
def execPoolGrow (vf tier n : Nat) (s : State) : Host.Outcome State Fault Refusal := poolOp s vf tier 1 n
def execPoolRet (vf tier n : Nat) (s : State) : Host.Outcome State Fault Refusal := poolOp s vf tier 2 n

/-! ## Accesses from outside -/

/-- The sizes of an access from outside: 1, 2, 4 or 8 aligned bytes; larger ones come as several. -/
def outsideSize (addr size : Nat) : Bool := (size == 1 || size == 2 || size == 4 || size == 8) && addr % size == 0

/-- An access from outside to memory (R78, R115, R391): one touch, of a lost line too while its home slice lives, performed at
the home slice. A read of a lost line or of poison delivers a free value, and a write to a lost line is not performed (R122,
log 51). -/
def State.outside (s : State) (t : Target) (size : Nat) (write : Bool) (val : Dword) : State :=
  let touched := s.touchTarget (!s.deadHome t) t 0
  if write then (if s.lostTarget t then touched else (touched.writeHome 0 t (natBytes size val.toNat)).1)
  else if s.lostTarget t then { touched.drawn with delivered := Config.freeDword s.draws 0 }
  else
    let r := (s.readHome 0 t size).1.touchTarget true t 0
    if s.poisonAt t size then { r.drawn with delivered := Config.freeDword s.draws 0 }
    else { r with delivered := BitVec.ofNat 64 (bytesNat (s.bytesAt t size)) }

/-- An access from outside to what an address of a partition's DRAM range reaches; none when it reaches no memory. -/
def State.outsideAt (s : State) (p : Partition) (pa size : Nat) (write : Bool) (val : Dword) : Option State :=
  match s.reach p 0 pa with
  | .dram q pa a => some (s.outside (.dram q pa a) size write val)
  | .pad x => some (s.outside (.pad x) size write val)
  | _ => none

/-- HOST_ACCESS (R115, R359, R385, R386). Region 0: the VF's page; 1: its partition's control page; 2: the range of a partition's
DRAM that the HDM decoder of port `vf` exposes under CXL, by offset; 3: BOOTCTL in BAR0 of PF0; 6: the same in BAR0 of PF1, read
only; 4: the firmware staging window; 5: host memory itself. An access to registers that is narrower than 4 bytes or
misaligned writes nothing and reads 0. -/
def execHostAccess (vf region addr size : Nat) (write : BitVec 1) (val : BitVec 64) (s : State) :
    Host.Outcome State Fault Refusal :=
  if region = 5 then
    .next (if outsideSize addr size then
      s.outside (.host (Config.hostBase + addr % Config.hostBase) 0 true 0) size (write == 1) val else s)
  else if region = 3 ∨ region = 6 then
    if s.proto (if region = 3 then 0 else 1) = 0 then .next s
    else if write = 1 then .next (if region = 3 ∧ addr = 0 ∧ size = 4 ∧ val.getLsbD 31 then s.bootGoNow else s)
    else .next { s with delivered := if addr = 0 ∧ size = 4 then pairOf s.bootctl 0 else 0 }
  else if region = 2 then
    let d := s.decoder vf
    if s.proto vf = 2 ∧ d.on ∧ addr + size ≤ d.size ∧ outsideSize addr size then
      match s.part d.part with
      | some p => .next ((s.outsideAt p (d.base + addr) size (write == 1) val).getD s)
      | none => .next s
    else .next s
  else if region = 4 then
    if s.proto 0 = 0 ∨ 67108864 < addr + size ∨ !outsideSize addr size then .next s
    else if write = 1 then .next { s with staging := memPut s.staging addr (natBytes size val.toNat) }
    else .next { s with delivered := BitVec.ofNat 64 (bytesNat (memBytes s.staging addr size)) }
  else match s.boundTo vf with
    | none => .next s
    | some (k, p) =>
      if !s.vfUp p vf then .next s
      else if region = 0 then
        if write = 1 then .next (s.regWrite 1 vf (some vf) addr size val)
        else .next { s with delivered := s.regRead 1 vf (some vf) addr size }
      else if region = 1 then
        if write = 1 then .next (s.regWrite 0 k (some vf) addr size val)
        else .next { s with delivered := s.regRead 0 k (some vf) addr size }
      else .next s

/-- The first export entry for a sender and an offset (R391). -/
def Partition.exportFor (p : Partition) (peer off : Nat) : Option Window :=
  ((List.range 16).map p.export).find? fun w =>
    w.ctl.getLsbD 31 && bits w.ctl.toNat 16 8 == peer && decide (off < 1073741824 * w.size.toNat)

/-- PEER_ACCESS (R115, R391): an access of class p and of the kind that it had at the sender (0 weak, 1 strong, 2 acquire, which
only reads, 3 release, which only writes); its mask holds p alone, and performed at the home slice every kind keeps its order.
With no entry for it, a routing breach. It arrives over a port that is up. -/
def execPeerAccess (part : Nat) (peer : BitVec 8) (off size kind : Nat) (write : BitVec 1) (val : BitVec 64) (s : State) :
    Host.Outcome State Fault Refusal :=
  match s.part part with
  | none => .next s
  | some p =>
    if !((List.range 16).any fun k => (s.jalefPort k).up && (s.jalefPort k).peer == peer.toNat) || !outsideSize off size ||
        decide (3 < kind) || (kind == 2 && write == 1) || (kind == 3 && write == 0) then .next s
    else match (p.exportFor peer.toNat off).bind fun w => s.outsideAt p (w.base.toNat + off) size (write == 1) val with
      | some s1 => .next s1
      | none => .next (s.alarmAt part 2 0xFFFF 0xFFFFFFFF)

end Sys2Proof.Machine
end

