-- ==== Sys2Proof/Machine/Issue.lean ====
section
/-! DEFINITION. Issues (R24 to R31): PC groups, wait counts and selection, the fetch of a group's instruction, the end of
an issue, and what moves when the agenda names nothing. -/
namespace Sys2Proof.Machine

/-! ## PC groups and selection (R24, R25) -/

/-- A PC group: its PC, its threads, its weight and its population. -/
structure Group1 where
  pc : Dword
  mask : Word
  weight : Nat
  size : Nat
  deriving DecidableEq, Repr

/-- The different PCs of some threads. -/
def Warp.pcsOf (w : Warp) (m : Word) : List Dword := ((threadsOf m).map fun t => (w.thread t).pc).eraseDups

/-- The PC groups of the ready threads (R24). -/
def Warp.groups (w : Warp) (m : Word) : List Group1 :=
  (w.pcsOf m).map fun x =>
    let g := maskOf fun t => inMask m t && (w.thread t).pc == x
    { pc := x, mask := g, weight := (threadsOf g).foldl (fun k t => max k (w.thread t).count) 0, size := (threadsOf g).length }

/-- Whether a group is selected before another (R25): forced groups first, by weight; the others by population; ties to the
lower PC. -/
def Group1.before (a b : Group1) : Bool :=
  let fa := decide (64 ≤ a.weight)
  let fb := decide (64 ≤ b.weight)
  if fa && fb then decide (b.weight < a.weight) || (a.weight == b.weight && decide (a.pc.toNat < b.pc.toNat))
  else if fa then true
  else if fb then false
  else decide (b.size < a.size) || (a.size == b.size && decide (a.pc.toNat < b.pc.toNat))

/-- Insert a group in the order of selection. -/
def placeGroup (a : Group1) : List Group1 → List Group1
  | [] => [a]
  | b :: r => if a.before b then a :: b :: r else b :: placeGroup a r

/-- The groups of an issue, A first (R25). -/
def Warp.select (w : Warp) (m : Word) : List Group1 := ((w.groups m).foldr placeGroup []).take 2

/-- The wait counts after a selection (R25), and every selected thread about to issue. -/
def Warp.count (w : Warp) (ready chosen : Word) : Warp :=
  w.mapThreads fun t th =>
    if inMask chosen t then { th with count := 0, status := .ready }
    else if inMask ready t then { th with count := th.count + 1 } else th

/-! ## Fetching a group's instruction -/

/-- What moves in a step: the state before it, a guard that is executed first, and the instruction. -/
structure Plan where
  state : State
  guard : Option Instr
  instr : Option Instr

/-- A plan that executes nothing. -/
def Plan.still (s : State) : Plan := { state := s, guard := none, instr := none }

/-- Decode a fetched word (R131, R132). -/
noncomputable def decodeFetched (guarded : Bool) (w len : Nat) : Except Reject Instr :=
  if len = 2 then decode16 w else decode32 guarded w

/-- The instruction that a fetched word stands for: one that decodes, or the trap of R144. -/
noncomputable def fetched (guarded : Bool) (w len : Nat) : Instr :=
  match decodeFetched guarded w len with
  | .ok i => i
  | .error r => .reservedInstructionWord r.cause r.sub (BitVec.ofNat 32 w)

/-- A fetch that fails (R129): the group traps; the frame shows the instruction's start, and no word has been fetched. -/
def State.fetchFault (s : State) (c : Cur) (t : Trap) : State :=
  s.drawn.raiseAll { c with word := lowWord (Config.freeDword s.draws 0) } c.group t

/-- The plan of one PC group (R129, R139, R146): its instruction, after its guard if it has one. -/
noncomputable def State.planGroup (s : State) (wk : Nat) (m : Word) (pc clk : Dword) : Plan :=
  match s.warp wk with
  | none => Plan.still s
  | some w =>
    let c : Cur := { warp := wk, group := m, taking := m, pc := pc, next := pc, word := 0, clk := clk,
                     held := ((lowestOf m).map fun t => w.thread t).bind Thread.held }
    let core := s.coreOf w
    let sup := w.supIn m
    match s.fetchWord core sup pc with
    | .trap t => Plan.still (s.fetchFault c t)
    | .wait x => Plan.still (s.stall c m x)
    | .ok f =>
      let one : Cur := { c with next := pc + BitVec.ofNat 64 f.2.2, word := BitVec.ofNat 32 f.2.1 }
      if f.2.2 = 4 ∧ isGuard f.2.1 then
        match decode32 false f.2.1 with
        | .error _ => { state := { f.1 with cur := some one }, guard := none, instr := some (fetched false f.2.1 4) }
        | .ok g =>
          match f.1.fetchWord core sup (pc + 4) with
          | .trap t => Plan.still (f.1.fetchFault c t)
          | .wait x => Plan.still (f.1.stall c m x)
          | .ok h =>
            let two : Cur := { c with next := pc + 4 + BitVec.ofNat 64 h.2.2, word := BitVec.ofNat 32 h.2.1 }
            { state := { h.1 with cur := some two }, guard := some g, instr := some (fetched true h.2.1 h.2.2) }
      else { state := { f.1 with cur := some one }, guard := none, instr := some (fetched false f.2.1 f.2.2) }

/-! ## An issue -/

/-- A gang has started once a thread of it issues (R321). -/
def State.startGang (s : State) (w : Warp) : State :=
  match s.crew w.crew with
  | some c => s.onGang c.gang fun g => if g.state = .assigned then { g with state := .running } else g
  | none => s

/-- The state in which a warp's issue begins (R24 to R28): the counts, the lane, and what is left for group B. -/
def State.beginIssue (s : State) (wk : Nat) (w : Warp) (ready chosen : Word) (b : Option Group1) : State :=
  { ((s.serveLane wk w).setWarp wk (w.count ready chosen)).startGang w with
    rest := some { warp := wk, groupB := b.map fun g => (g.mask, g.pc), clk := BitVec.ofNat 64 s.cycle }, switch := false }

/-- The plan of an issue of a warp; none when it has no ready thread or its lane serves another (R28, R37). -/
noncomputable def State.planIssue (s : State) (wk : Nat) : Option Plan :=
  match s.warp wk with
  | none => none
  | some w =>
    let ready := s.readyMask wk w
    if !s.runs w || s.laneChoice (s.laneOf w) != some wk then none
    else match w.select ready with
      | [] => none
      | [a] => some ((s.beginIssue wk w ready a.mask none).planGroup wk a.mask a.pc (BitVec.ofNat 64 s.cycle))
      | a :: b :: _ => some ((s.beginIssue wk w ready (a.mask ||| b.mask) (some b)).planGroup wk a.mask a.pc (BitVec.ofNat 64 s.cycle))

/-- What is left of group B after group A (R27): the threads that can still issue. -/
def Warp.stillReady (w : Warp) (m : Word) (pc : Dword) : Word :=
  m &&& w.where_ fun th => th.status == .ready && th.pc == pc

/-- The plan of group B. -/
noncomputable def State.planB (s : State) (r : Rest) (m : Word) (pc : Dword) : Plan :=
  let s1 := { s with rest := some { r with groupB := none } }
  match s.warp r.warp with
  | none => Plan.still s1
  | some w => if w.stillReady m pc = 0 then Plan.still s1 else s1.planGroup r.warp (w.stillReady m pc) pc r.clk

/-- The latches of a warp at a switch point (R30). -/
def Warp.switchLatches (w : Warp) : Warp := w.mapThreads fun _ th => th.clearLatches


/-- The end of one group's part of an issue, and of the issue when no group is left (R28, R30). -/
def State.finish (s : State) : State :=
  match s.rest with
  | none => { s with cur := none, switch := false }
  | some r =>
    if r.groupB.isSome then { s with cur := none }
    else
      let s1 := if s.switch then (s.onWarp r.warp Warp.switchLatches).freeLane r.warp else s
      { s1 with cur := none, rest := none, switch := false, cycle := s.cycle + 1, lastWarp := r.warp }

/-! ## What moves next -/

/-- Whether an instruction is an event of the device, not a word. -/
def isEvent (i : Instr) : Bool :=
  encodedLength i == 0 && (match i with | .reservedInstructionWord _ _ _ => false | _ => true)

/-- The units whose records a state lists, by kind. -/
def State.someCore (s : State) (f : Nat → Bool) : Option Nat := (s.cores.find? fun e => f e.1).map Prod.fst
def State.someThread (s : State) (f : Nat → Warp → Nat → Bool) : Option (Nat × Nat) :=
  s.warps.findSome? fun e => ((List.range 32).find? (f e.1 e.2)).map fun t => (e.1, t)
def State.someWarp (s : State) (f : Nat → Warp → Bool) : Option Nat := (s.warps.find? fun e => f e.1 e.2).map Prod.fst
def State.someTask (s : State) (f : Nat → Task → Bool) : Option (Nat × Nat) :=
  s.cores.findSome? fun e => (e.2.entries.find? fun n => match n.2.task with | some t => f e.1 t | none => false).map fun n =>
    (e.1, n.1)

/-- Whether a task can complete now. -/
def State.canComplete (s : State) (core : Nat) (t : Task) : Bool :=
  t.cancelled || (t.started && match s.instanceOf core t with
    | some (_, _, _, i) => (s.members i).all fun m => m.task.started
    | none => true)

/-- Events of the scheduler and the engines that are due. -/
noncomputable def State.dueWork (s : State) : Option Instr :=
  ((s.parts.findSome? fun p => (List.range 64).findSome? fun q => (s.beginAt p.1 q).map fun _ => Instr.launchBegin p.1 q)).orElse fun _ =>
  ((s.parts.findSome? fun p => p.2.bandList.findSome? fun b => (s.offerBand p.1 b).map fun x => Instr.gangDispatch x.1 b)).orElse fun _ =>
  ((s.someTask s.eligible).map fun x => Instr.taskStart x.1 x.2).orElse fun _ =>
  ((s.someTask s.canComplete).map fun x => Instr.taskComplete x.1 x.2).orElse fun _ =>
  ((s.crews.find? fun e => s.crewDone e.2 e.1).map fun e => Instr.crewFinish e.1).orElse fun _ =>
  ((s.launches.find? fun e => s.completionDue e.1 e.2).map fun e => Instr.launchCompletion e.1).orElse fun _ =>
  ((s.parts.find? fun e => s.bootDue e.1 e.2).map fun e => Instr.pbootGo e.1 e.2.pboot)

/-- Events of threads and memory that are due. -/
noncomputable def State.dueThread (s : State) : Option Instr :=
  ((s.someWarp fun k w => (s.nextNested k w).isSome).map Instr.nestedTrapEntry).orElse fun _ =>
  ((s.someWarp fun k w => (s.nextSub k w).isSome).map Instr.trapEntry).orElse fun _ =>
  ((s.someThread fun _ => s.cvbDue).map fun x => Instr.cvbTimeout x.1 x.2).orElse fun _ =>
  ((s.someThread fun _ => s.lldDue).map fun x => Instr.lldTimeout x.1 x.2).orElse fun _ =>
  ((s.someThread s.dogDue).map fun x => Instr.watchdog x.1 x.2).orElse fun _ =>
  ((s.someThread fun _ => s.rangeDue).map fun x => Instr.rangeOpComplete x.1 x.2).orElse fun _ =>
  ((s.warps.findSome? fun e => ((List.range 32).find? (s.statusDue e.2)).map fun d => Instr.demoteEvictStatus e.1 d)).orElse fun _ =>
  ((s.smap.find? fun e => e.2.wb).map fun e => Instr.smapWritebackDone (e.1 / 16) (e.1 % 16)).orElse fun _ =>
  (s.wbq.find? fun e => !e.2.isEmpty).map fun e => Instr.writebackAccepted e.1

/-- The command that stands first in some partition that is not busy. -/
noncomputable def State.dueCommand (s : State) : Option Instr :=
  (s.parts.find? fun e => !e.2.pstat.getLsbD 31 && !e.2.pcmdQueue.isEmpty).bind fun e =>
    (e.2.pcmdQueue.head?.filter s.mayReturn).map fun x =>
      if x.getLsbD 30 then Instr.pcmdReturn e.1 (bits x.toNat 0 11) else Instr.pcmdVacate e.1 (bits x.toNat 0 11)

/-- A suspended crew and a core that takes it (R341), or a crew some of whose warps can enter their restore frames at last. -/
def State.dueRestore (s : State) : Option (Nat × Nat) :=
  s.crews.findSome? fun e =>
    if e.2.state = .suspended then
      ((List.range 32).find? fun i => (s.resumeCrew e.1 (32 * coreBand e.2.core + i)).isSome).map fun i =>
        (e.1, 32 * coreBand e.2.core + i)
    else if (s.restoreLate e.2).isEmpty then none else some (e.1, e.2.core)

/-- Events of pre-emption, power, boot and time that are due. -/
noncomputable def State.dueDevice (s : State) : Option Instr :=
  s.dueCommand.orElse fun _ =>
  ((s.someCore s.heldDue).map Instr.heldStop).orElse fun _ =>
  ((s.someCore fun k => (s.core k).vacate == .asked true ||
      ((s.core k).vacate == .leaving && !(s.saveLate k).isEmpty)).map Instr.preemptSaveEntry).orElse fun _ =>
  ((s.someCore s.phlimDue).map Instr.phlimExpiry).orElse fun _ =>
  ((s.someCore s.drained).map Instr.coreGateOff).orElse fun _ =>
  ((s.someCore fun k => (s.core k).gate == .wake).map Instr.corePowerRestored).orElse fun _ =>
  (s.dueRestore.map fun x => Instr.preemptRestoreEntry x.1 x.2).orElse fun _ =>
  ((s.stackTab.find? fun e => e.2.boot == .checking).map fun e => Instr.firmwareCheckDone e.1).orElse fun _ =>
  ((s.parts.find? fun e => e.2.tinvc.getLsbD 31).map fun e => Instr.tinvcComplete e.1).orElse fun _ =>
  ((s.parts.find? fun e => decide (165000 * e.2.windows.toNat ≤ s.cycle)).map fun e => Instr.energyWindow e.1).orElse fun _ =>
  (s.parts.find? fun e => decide (825 * e.2.per * (e.2.round + 1) ≤ s.cycle)).map fun e => Instr.latticeRound e.1

/-- The event that the default scheduler takes. -/
noncomputable def State.dueEvent (s : State) : Option Instr :=
  s.dueWork.orElse fun _ => s.dueThread.orElse fun _ => s.dueDevice

/-- The warp that issues next by default: after the one that issued last, in turn. -/
noncomputable def State.dueIssue (s : State) : Option Plan :=
  let after := s.warps.filter fun e => decide (s.lastWarp < e.1)
  let upTo := s.warps.filter fun e => decide (e.1 ≤ s.lastWarp)
  (after ++ upTo).findSome? fun e => s.planIssue e.1

/-- A step in which the agenda names nothing: an event or an issue, alternating; with neither, a cycle passes. -/
noncomputable def State.planDefault (s : State) : Plan :=
  let s1 := { s with phase := !s.phase }
  let event := s.dueEvent.map fun i => ({ state := s1, guard := none, instr := some i } : Plan)
  let idle := Plan.still { s1 with cycle := s.cycle + 1 }
  if s.phase then (event.orElse fun _ => s1.dueIssue).getD idle else (s1.dueIssue.orElse fun _ => event).getD idle

/-- A turn that the agenda names; one that cannot be taken is passed over. -/
noncomputable def State.planTurn (s : State) (t : Turn) : Plan :=
  match t with
  | .event i => if isEvent i then { state := s, guard := none, instr := some i } else Plan.still s
  | .issue wk => (s.planIssue wk).getD (Plan.still s)
  | .meter part delta => Plan.still (s.meter part delta)
  | .draw crew energy => Plan.still (s.drawEnergy crew energy)
  | .pass n => Plan.still { s with cycle := s.cycle + n }
  | .ahead core place => Plan.still (s.fetchAhead core (place / 2 * 2))
  | .route r packet => Plan.still (s.routeCycle r packet)
  | .shed core word => Plan.still (s.shed core word)
  | .spread core word => Plan.still (s.spread core word)

/-- What moves next: group B of an issue that has begun, then what the agenda names, then the default. -/
noncomputable def State.plan (s : State) : Plan :=
  match s.rest.bind fun r => r.groupB.map fun g => (r, g) with
  | some x => s.planB x.1 x.2.1 x.2.2
  | none =>
    let s0 := { s with rest := none, cur := none }
    match s.agenda with
    | t :: r => State.planTurn { s0 with agenda := r } t
    | [] => s0.planDefault

/-! ## A fetched word that is no instruction -/

/-- RESERVED_INSTRUCTION_WORD (R144 to R146): every thread of the PC group traps, whatever its guard. -/
def execReservedInstructionWord (cause sub : Nat) (word : BitVec 32) (s : State) : Host.Outcome State Fault Refusal :=
  onIssue s fun c _ => decodeTrap s { c with word := word } cause sub

/-! ## Placing an instruction before the machine -/

/-- One 1 GiB leaf of a page table for every address below 1 GiB: readable, writable, executable, for every mode, accessed
and dirty; and the tables above it (R343, R344). -/
def placeTables (m : Memory) : Memory :=
  let table := fun (m : Memory) (a next : Nat) => memPut m a (natBytes 8 (next + 3))
  memPut (table (table m 0x1000 0x2000) 0x2000 0x3000) 0x3000 (natBytes 8 0xFD)

/-- The partition, the boot gang, its crew and its warp for an instruction placed at address 0x10000: band 0, core 0,
supervisor mode as PBOOT gives it (R390). Keys 0 are never given out (log 6). -/
def Partition.placed : Partition :=
  { top := 0, bot := 0, left := 0, right := 0, key := true, keyId := 0, budget := 0, budgetNow := 0, rem := 0, windows := 1, stopped := false,
    pboot := 0, secpol := 0, vfbind := 0, vfport := 0, pcmd := 0, pcmdQueue := [], pstat := 0, phlim := 50, wdog := 1000000,
    troot := 0x1000, tinva := 0, tinvc := 0, tinvDue := [], flbase := 0, flen := false, flovf := false, fllogn := 0, fltail := 0,
    flhead := 0,
    cap := [], groups := [], peerWindows := [], exports := [], hostWindows := [], queues := [], served := [], events := [],
    eventRel := [], trapvec := 0x20000, savebase := 0x30000, per := 8, nextPer := 8, rnd := 0, priority := [], round := 0, stuck := [] }

def Launch.placed : Launch :=
  { part := 0, queue := none, idx := 0, vf := none, hdr := 0,
    header := { entry := 0x10000, kv := 64, ks := 32, warps := 1, spad := 0, crews := 1, role := 0, traps := 0x1FFFFE,
                energy := 0, stages := 0 },
    gangs := 1, args := 0, qstore := 0, dev := 0xFFFFFFFF, dinc := 0, wev := 0xFFFFFFFF, wth := 0, dobs := 0, wobs := 0,
    ser := false, refused := false, begun := true, next := 1, redo := [], done := 0, stages := [], band := none,
    aborted := false, reissued := false, finished := false, stamp := 0, detached := false, stuck := none }

def Crew.placed : Crew :=
  { launch := 0, gang := 0, cix := 0, core := 0, spad := 0, size := 0, warps := [0], td := [], cap := 0, marks := 0,
    arrived := 0, cover := 0, state := .resident, spill := [], scanned := none }

/-- The state with an instruction placed where the next step fetches (log 9). -/
def State.placeWord (s : State) (nbits w : Nat) : State :=
  let s1 : State := { s with
    mem := memPut (placeTables s.mem) 0x10000 (natBytes 8 (w % 2 ^ nbits)),
    parts := tput s.parts 0 Partition.placed, launches := tput s.launches 0 Launch.placed,
    gangs := tput s.gangs 0 { launch := 0, index := 0, band := 0, stage := 0, crews := [0], arrived := 0, state := .assigned },
    crews := tput s.crews 0 Crew.placed,
    warps := tput s.warps 0 (Warp.start 0 0 0 0 64 32 0x10000 0 0 true),
    tlb := s.tlb.filter fun e => e.part != 0, code := s.code.filter fun e => e.core != 0,
    lanes := tput s.lanes 0 { keeps := some 0, last := 0, gave := false, passed := [] },
    cur := none, rest := none, switch := false, agenda := .issue 0 :: s.agenda }
  s1.setStack 0 { boot := .running, lvl := 0, fenced := false, struck := false }

end Sys2Proof.Machine
end

