-- ==== Sys2Proof/Machine/Dispatch.lean ====
section
/-! DEFINITION. The one match of every instruction and event to its meaning. -/
namespace Sys2Proof.Machine

/-- Each arm is a direct call of the meaning of its row of the opcode table. -/
def exec (i : Instr) (s : State) : Host.Outcome State Fault Refusal :=
  match i with
  | .mov a b => Sys2Proof.Machine.execMov a b s
  | .iadd a b => Sys2Proof.Machine.execIadd a b s
  | .isub a b => Sys2Proof.Machine.execIsub a b s
  | .iand a b => Sys2Proof.Machine.execIand a b s
  | .ior a b => Sys2Proof.Machine.execIor a b s
  | .ixor a b => Sys2Proof.Machine.execIxor a b s
  | .ishl a b => Sys2Proof.Machine.execIshl a b s
  | .ishr a b => Sys2Proof.Machine.execIshr a b s
  | .imin a b => Sys2Proof.Machine.execImin a b s
  | .imax a b => Sys2Proof.Machine.execImax a b s
  | .fadd a b => Sys2Proof.Machine.execFadd a b s
  | .fsub a b => Sys2Proof.Machine.execFsub a b s
  | .fmul a b => Sys2Proof.Machine.execFmul a b s
  | .fmax a b => Sys2Proof.Machine.execFmax a b s
  | .fmin a b => Sys2Proof.Machine.execFmin a b s
  | .fmac a b => Sys2Proof.Machine.execFmac a b s
  | .saluAdd a b c => Sys2Proof.Machine.execSaluAdd a b c s
  | .saluSub a b c => Sys2Proof.Machine.execSaluSub a b c s
  | .saluAnd a b c => Sys2Proof.Machine.execSaluAnd a b c s
  | .saluOr a b c => Sys2Proof.Machine.execSaluOr a b c s
  | .saluXor a b c => Sys2Proof.Machine.execSaluXor a b c s
  | .saluShl a b c => Sys2Proof.Machine.execSaluShl a b c s
  | .saluShr a b c => Sys2Proof.Machine.execSaluShr a b c s
  | .saluSra a b c => Sys2Proof.Machine.execSaluSra a b c s
  | .saluMin a b c => Sys2Proof.Machine.execSaluMin a b c s
  | .saluMax a b c => Sys2Proof.Machine.execSaluMax a b c s
  | .saluMinn a b c => Sys2Proof.Machine.execSaluMinn a b c s
  | .saluMaxn a b c => Sys2Proof.Machine.execSaluMaxn a b c s
  | .saluMul a b c => Sys2Proof.Machine.execSaluMul a b c s
  | .saluMulh a b c => Sys2Proof.Machine.execSaluMulh a b c s
  | .saluDiv a b c => Sys2Proof.Machine.execSaluDiv a b c s
  | .saluRem a b c => Sys2Proof.Machine.execSaluRem a b c s
  | .valuAdd a b c d => Sys2Proof.Machine.execValuAdd a b c d s
  | .valuSub a b c d => Sys2Proof.Machine.execValuSub a b c d s
  | .valuAnd a b c d => Sys2Proof.Machine.execValuAnd a b c d s
  | .valuOr a b c d => Sys2Proof.Machine.execValuOr a b c d s
  | .valuXor a b c d => Sys2Proof.Machine.execValuXor a b c d s
  | .valuShl a b c d => Sys2Proof.Machine.execValuShl a b c d s
  | .valuShr a b c d => Sys2Proof.Machine.execValuShr a b c d s
  | .valuSra a b c d => Sys2Proof.Machine.execValuSra a b c d s
  | .valuMin a b c d => Sys2Proof.Machine.execValuMin a b c d s
  | .valuMax a b c d => Sys2Proof.Machine.execValuMax a b c d s
  | .valuMinn a b c d => Sys2Proof.Machine.execValuMinn a b c d s
  | .valuMaxn a b c d => Sys2Proof.Machine.execValuMaxn a b c d s
  | .valuMul a b c d => Sys2Proof.Machine.execValuMul a b c d s
  | .valuMulh a b c d => Sys2Proof.Machine.execValuMulh a b c d s
  | .valuDiv a b c d => Sys2Proof.Machine.execValuDiv a b c d s
  | .valuRem a b c d => Sys2Proof.Machine.execValuRem a b c d s
  | .saddi a b c => Sys2Proof.Machine.execSaddi a b c s
  | .vaddi a b c d => Sys2Proof.Machine.execVaddi a b c d s
  | .slogiAnd a b => Sys2Proof.Machine.execSlogiAnd a b s
  | .slogiOr a b => Sys2Proof.Machine.execSlogiOr a b s
  | .slogiXor a b => Sys2Proof.Machine.execSlogiXor a b s
  | .slogiShl a b => Sys2Proof.Machine.execSlogiShl a b s
  | .slogiShr a b => Sys2Proof.Machine.execSlogiShr a b s
  | .slogiSra a b => Sys2Proof.Machine.execSlogiSra a b s
  | .slogiClr a b => Sys2Proof.Machine.execSlogiClr a b s
  | .vlogiAnd a b c => Sys2Proof.Machine.execVlogiAnd a b c s
  | .vlogiOr a b c => Sys2Proof.Machine.execVlogiOr a b c s
  | .vlogiXor a b c => Sys2Proof.Machine.execVlogiXor a b c s
  | .vlogiShl a b c => Sys2Proof.Machine.execVlogiShl a b c s
  | .vlogiShr a b c => Sys2Proof.Machine.execVlogiShr a b c s
  | .vlogiSra a b c => Sys2Proof.Machine.execVlogiSra a b c s
  | .vlogiClr a b c => Sys2Proof.Machine.execVlogiClr a b c s
  | .slih a b => Sys2Proof.Machine.execSlih a b s
  | .vlih a b c => Sys2Proof.Machine.execVlih a b c s
  | .smiscDivn a b c => Sys2Proof.Machine.execSmiscDivn a b c s
  | .smiscRemn a b c => Sys2Proof.Machine.execSmiscRemn a b c s
  | .smiscClz a b => Sys2Proof.Machine.execSmiscClz a b s
  | .smiscCtz a b => Sys2Proof.Machine.execSmiscCtz a b s
  | .smiscPopc a b => Sys2Proof.Machine.execSmiscPopc a b s
  | .smiscBrev a b => Sys2Proof.Machine.execSmiscBrev a b s
  | .smiscSext8 a b => Sys2Proof.Machine.execSmiscSext8 a b s
  | .smiscSext16 a b => Sys2Proof.Machine.execSmiscSext16 a b s
  | .smiscMulhn a b c => Sys2Proof.Machine.execSmiscMulhn a b c s
  | .smiscRot a b c => Sys2Proof.Machine.execSmiscRot a b c s
  | .smiscAdd64 a b c => Sys2Proof.Machine.execSmiscAdd64 a b c s
  | .smiscSub64 a b c => Sys2Proof.Machine.execSmiscSub64 a b c s
  | .smiscMad a b c => Sys2Proof.Machine.execSmiscMad a b c s
  | .smiscMad64 a b c => Sys2Proof.Machine.execSmiscMad64 a b c s
  | .vmiscDivn a b c d => Sys2Proof.Machine.execVmiscDivn a b c d s
  | .vmiscRemn a b c d => Sys2Proof.Machine.execVmiscRemn a b c d s
  | .vmiscClz a b c => Sys2Proof.Machine.execVmiscClz a b c s
  | .vmiscCtz a b c => Sys2Proof.Machine.execVmiscCtz a b c s
  | .vmiscPopc a b c => Sys2Proof.Machine.execVmiscPopc a b c s
  | .vmiscBrev a b c => Sys2Proof.Machine.execVmiscBrev a b c s
  | .vmiscSext8 a b c => Sys2Proof.Machine.execVmiscSext8 a b c s
  | .vmiscSext16 a b c => Sys2Proof.Machine.execVmiscSext16 a b c s
  | .vmiscMulhn a b c d => Sys2Proof.Machine.execVmiscMulhn a b c d s
  | .vmiscRot a b c d => Sys2Proof.Machine.execVmiscRot a b c d s
  | .vmiscAdd64 a b c d => Sys2Proof.Machine.execVmiscAdd64 a b c d s
  | .vmiscSub64 a b c d => Sys2Proof.Machine.execVmiscSub64 a b c d s
  | .vmiscMad a b c d => Sys2Proof.Machine.execVmiscMad a b c d s
  | .vmiscMad64 a b c d => Sys2Proof.Machine.execVmiscMad64 a b c d s
  | .scmpEq a b c => Sys2Proof.Machine.execScmpEq a b c s
  | .scmpNe a b c => Sys2Proof.Machine.execScmpNe a b c s
  | .scmpLt a b c => Sys2Proof.Machine.execScmpLt a b c s
  | .scmpLe a b c => Sys2Proof.Machine.execScmpLe a b c s
  | .scmpLtn a b c => Sys2Proof.Machine.execScmpLtn a b c s
  | .scmpLen a b c => Sys2Proof.Machine.execScmpLen a b c s
  | .vcmpEq a b c => Sys2Proof.Machine.execVcmpEq a b c s
  | .vcmpNe a b c => Sys2Proof.Machine.execVcmpNe a b c s
  | .vcmpLt a b c => Sys2Proof.Machine.execVcmpLt a b c s
  | .vcmpLe a b c => Sys2Proof.Machine.execVcmpLe a b c s
  | .vcmpLtn a b c => Sys2Proof.Machine.execVcmpLtn a b c s
  | .vcmpLen a b c => Sys2Proof.Machine.execVcmpLen a b c s
  | .vcmpEq64 a b c => Sys2Proof.Machine.execVcmpEq64 a b c s
  | .vcmpLt64 a b c => Sys2Proof.Machine.execVcmpLt64 a b c s
  | .vcmpLtn64 a b c => Sys2Proof.Machine.execVcmpLtn64 a b c s
  | .predAnd a b c => Sys2Proof.Machine.execPredAnd a b c s
  | .predOr a b c => Sys2Proof.Machine.execPredOr a b c s
  | .predXor a b c => Sys2Proof.Machine.execPredXor a b c s
  | .predAndn a b c => Sys2Proof.Machine.execPredAndn a b c s
  | .predAny a b => Sys2Proof.Machine.execPredAny a b s
  | .predAll a b => Sys2Proof.Machine.execPredAll a b s
  | .predUni a b => Sys2Proof.Machine.execPredUni a b s
  | .predBallot a b c => Sys2Proof.Machine.execPredBallot a b c s
  | .predTov a b => Sys2Proof.Machine.execPredTov a b s
  | .predFromv a => Sys2Proof.Machine.execPredFromv a s
  | .xchShfl a b c d => Sys2Proof.Machine.execXchShfl a b c d s
  | .xchShup a b c d => Sys2Proof.Machine.execXchShup a b c d s
  | .xchShdn a b c d => Sys2Proof.Machine.execXchShdn a b c d s
  | .xchShxor a b c d => Sys2Proof.Machine.execXchShxor a b c d s
  | .xchBcast a b c => Sys2Proof.Machine.execXchBcast a b c s
  | .xchRadd a b c => Sys2Proof.Machine.execXchRadd a b c s
  | .xchRmin a b c => Sys2Proof.Machine.execXchRmin a b c s
  | .xchRmax a b c => Sys2Proof.Machine.execXchRmax a b c s
  | .xchRminn a b c => Sys2Proof.Machine.execXchRminn a b c s
  | .xchRmaxn a b c => Sys2Proof.Machine.execXchRmaxn a b c s
  | .xchRand a b c => Sys2Proof.Machine.execXchRand a b c s
  | .xchRior a b c => Sys2Proof.Machine.execXchRior a b c s
  | .xchRxor a b c => Sys2Proof.Machine.execXchRxor a b c s
  | .xchRfadd a b c => Sys2Proof.Machine.execXchRfadd a b c s
  | .xchRfmin a b c => Sys2Proof.Machine.execXchRfmin a b c s
  | .xchRfmax a b c => Sys2Proof.Machine.execXchRfmax a b c s
  | .br a b c => Sys2Proof.Machine.execBr a b c s
  | .call a => Sys2Proof.Machine.execCall a s
  | .jrJmp a => Sys2Proof.Machine.execJrJmp a s
  | .jrJcall a b => Sys2Proof.Machine.execJrJcall a b s
  | .jrRet a => Sys2Proof.Machine.execJrRet a s
  | .cvbArm a => Sys2Proof.Machine.execCvbArm a s
  | .cvbWait a b c => Sys2Proof.Machine.execCvbWait a b c s
  | .cvbDrop a b c => Sys2Proof.Machine.execCvbDrop a b c s
  | .ctrlNop => Sys2Proof.Machine.execCtrlNop s
  | .ctrlExit => Sys2Proof.Machine.execCtrlExit s
  | .ctrlYield => Sys2Proof.Machine.execCtrlYield s
  | .ctrlBrk a b => Sys2Proof.Machine.execCtrlBrk a b s
  | .ctrlTrap a b => Sys2Proof.Machine.execCtrlTrap a b s
  | .ctrlClk a => Sys2Proof.Machine.execCtrlClk a s
  | .guard a b => Sys2Proof.Machine.execGuard a b s
  | .faluAdd a b c d => Sys2Proof.Machine.execFaluAdd a b c d s
  | .faluSub a b c d => Sys2Proof.Machine.execFaluSub a b c d s
  | .faluMul a b c d => Sys2Proof.Machine.execFaluMul a b c d s
  | .faluMin a b c d => Sys2Proof.Machine.execFaluMin a b c d s
  | .faluMax a b c d => Sys2Proof.Machine.execFaluMax a b c d s
  | .faluCpys a b c d => Sys2Proof.Machine.execFaluCpys a b c d s
  | .faluAbs a b c => Sys2Proof.Machine.execFaluAbs a b c s
  | .faluNeg a b c => Sys2Proof.Machine.execFaluNeg a b c s
  | .faluAddFtz a b c d => Sys2Proof.Machine.execFaluAddFtz a b c d s
  | .faluSubFtz a b c d => Sys2Proof.Machine.execFaluSubFtz a b c d s
  | .faluMulFtz a b c d => Sys2Proof.Machine.execFaluMulFtz a b c d s
  | .faluMinFtz a b c d => Sys2Proof.Machine.execFaluMinFtz a b c d s
  | .faluMaxFtz a b c d => Sys2Proof.Machine.execFaluMaxFtz a b c d s
  | .ffmaFma a b c d => Sys2Proof.Machine.execFfmaFma a b c d s
  | .ffmaFms a b c d => Sys2Proof.Machine.execFfmaFms a b c d s
  | .ffmaFnma a b c d => Sys2Proof.Machine.execFfmaFnma a b c d s
  | .ffmaFnms a b c d => Sys2Proof.Machine.execFfmaFnms a b c d s
  | .ffmaFmaFtz a b c d => Sys2Proof.Machine.execFfmaFmaFtz a b c d s
  | .ffmaFmsFtz a b c d => Sys2Proof.Machine.execFfmaFmsFtz a b c d s
  | .ffmaFnmaFtz a b c d => Sys2Proof.Machine.execFfmaFnmaFtz a b c d s
  | .ffmaFnmsFtz a b c d => Sys2Proof.Machine.execFfmaFnmsFtz a b c d s
  | .fcmpEq a b c => Sys2Proof.Machine.execFcmpEq a b c s
  | .fcmpNe a b c => Sys2Proof.Machine.execFcmpNe a b c s
  | .fcmpLt a b c => Sys2Proof.Machine.execFcmpLt a b c s
  | .fcmpLe a b c => Sys2Proof.Machine.execFcmpLe a b c s
  | .fcmpUn a b c => Sys2Proof.Machine.execFcmpUn a b c s
  | .fcmpDeq a b c => Sys2Proof.Machine.execFcmpDeq a b c s
  | .fcmpDne a b c => Sys2Proof.Machine.execFcmpDne a b c s
  | .fcmpDlt a b c => Sys2Proof.Machine.execFcmpDlt a b c s
  | .fcmpDle a b c => Sys2Proof.Machine.execFcmpDle a b c s
  | .fcmpDun a b c => Sys2Proof.Machine.execFcmpDun a b c s
  | .fspecRcp a b c => Sys2Proof.Machine.execFspecRcp a b c s
  | .fspecRsqrt a b c => Sys2Proof.Machine.execFspecRsqrt a b c s
  | .fspecSqrt a b c => Sys2Proof.Machine.execFspecSqrt a b c s
  | .fspecExp2 a b c => Sys2Proof.Machine.execFspecExp2 a b c s
  | .fspecLog2 a b c => Sys2Proof.Machine.execFspecLog2 a b c s
  | .fspecSin a b c => Sys2Proof.Machine.execFspecSin a b c s
  | .fspecCos a b c => Sys2Proof.Machine.execFspecCos a b c s
  | .fspecTanh a b c => Sys2Proof.Machine.execFspecTanh a b c s
  | .fspecDiv a b c d => Sys2Proof.Machine.execFspecDiv a b c d s
  | .daluAdd a b c d => Sys2Proof.Machine.execDaluAdd a b c d s
  | .daluSub a b c d => Sys2Proof.Machine.execDaluSub a b c d s
  | .daluMul a b c d => Sys2Proof.Machine.execDaluMul a b c d s
  | .daluMin a b c d => Sys2Proof.Machine.execDaluMin a b c d s
  | .daluMax a b c d => Sys2Proof.Machine.execDaluMax a b c d s
  | .daluDiv a b c d => Sys2Proof.Machine.execDaluDiv a b c d s
  | .daluSqrt a b c => Sys2Proof.Machine.execDaluSqrt a b c s
  | .daluAddFtz a b c d => Sys2Proof.Machine.execDaluAddFtz a b c d s
  | .daluSubFtz a b c d => Sys2Proof.Machine.execDaluSubFtz a b c d s
  | .daluMulFtz a b c d => Sys2Proof.Machine.execDaluMulFtz a b c d s
  | .daluMinFtz a b c d => Sys2Proof.Machine.execDaluMinFtz a b c d s
  | .daluMaxFtz a b c d => Sys2Proof.Machine.execDaluMaxFtz a b c d s
  | .daluDivFtz a b c d => Sys2Proof.Machine.execDaluDivFtz a b c d s
  | .daluSqrtFtz a b c => Sys2Proof.Machine.execDaluSqrtFtz a b c s
  | .dfmaFma a b c d => Sys2Proof.Machine.execDfmaFma a b c d s
  | .dfmaFms a b c d => Sys2Proof.Machine.execDfmaFms a b c d s
  | .dfmaFnma a b c d => Sys2Proof.Machine.execDfmaFnma a b c d s
  | .dfmaFnms a b c d => Sys2Proof.Machine.execDfmaFnms a b c d s
  | .dfmaFmaFtz a b c d => Sys2Proof.Machine.execDfmaFmaFtz a b c d s
  | .dfmaFmsFtz a b c d => Sys2Proof.Machine.execDfmaFmsFtz a b c d s
  | .dfmaFnmaFtz a b c d => Sys2Proof.Machine.execDfmaFnmaFtz a b c d s
  | .dfmaFnmsFtz a b c d => Sys2Proof.Machine.execDfmaFnmsFtz a b c d s
  | .fcvtF32F64 a b c d => Sys2Proof.Machine.execFcvtF32F64 a b c d s
  | .fcvtF64F32 a b c => Sys2Proof.Machine.execFcvtF64F32 a b c s
  | .fcvtF16F32 a b c d => Sys2Proof.Machine.execFcvtF16F32 a b c d s
  | .fcvtF32F16 a b c => Sys2Proof.Machine.execFcvtF32F16 a b c s
  | .fcvtBf16F32 a b c d => Sys2Proof.Machine.execFcvtBf16F32 a b c d s
  | .fcvtF32Bf16 a b c => Sys2Proof.Machine.execFcvtF32Bf16 a b c s
  | .fcvtS32F32 a b c d => Sys2Proof.Machine.execFcvtS32F32 a b c d s
  | .fcvtN32F32 a b c d => Sys2Proof.Machine.execFcvtN32F32 a b c d s
  | .fcvtF32S32 a b c d => Sys2Proof.Machine.execFcvtF32S32 a b c d s
  | .fcvtF32N32 a b c d => Sys2Proof.Machine.execFcvtF32N32 a b c d s
  | .fcvtS64F64 a b c d => Sys2Proof.Machine.execFcvtS64F64 a b c d s
  | .fcvtF64S64 a b c d => Sys2Proof.Machine.execFcvtF64S64 a b c d s
  | .fcvtS32F64 a b c d => Sys2Proof.Machine.execFcvtS32F64 a b c d s
  | .fcvtF64S32 a b c => Sys2Proof.Machine.execFcvtF64S32 a b c s
  | .fcvtN64F64 a b c d => Sys2Proof.Machine.execFcvtN64F64 a b c d s
  | .fcvtF64N64 a b c d => Sys2Proof.Machine.execFcvtF64N64 a b c d s
  | .frndRnd a b c d => Sys2Proof.Machine.execFrndRnd a b c d s
  | .frndCls a b c => Sys2Proof.Machine.execFrndCls a b c s
  | .frndFrexpm a b c => Sys2Proof.Machine.execFrndFrexpm a b c s
  | .frndFrexpe a b c => Sys2Proof.Machine.execFrndFrexpe a b c s
  | .frndLdexp a b c d => Sys2Proof.Machine.execFrndLdexp a b c d s
  | .frndRndF64 a b c d => Sys2Proof.Machine.execFrndRndF64 a b c d s
  | .frndClsF64 a b c => Sys2Proof.Machine.execFrndClsF64 a b c s
  | .frndFrexpmF64 a b c => Sys2Proof.Machine.execFrndFrexpmF64 a b c s
  | .frndFrexpeF64 a b c => Sys2Proof.Machine.execFrndFrexpeF64 a b c s
  | .frndLdexpF64 a b c d => Sys2Proof.Machine.execFrndLdexpF64 a b c d s
  | .halu2Bf16Add a b c d => Sys2Proof.Machine.execHalu2Bf16Add a b c d s
  | .halu2Bf16Sub a b c d => Sys2Proof.Machine.execHalu2Bf16Sub a b c d s
  | .halu2Bf16Mul a b c d => Sys2Proof.Machine.execHalu2Bf16Mul a b c d s
  | .halu2Bf16Fma a b c d => Sys2Proof.Machine.execHalu2Bf16Fma a b c d s
  | .halu2Bf16Min a b c d => Sys2Proof.Machine.execHalu2Bf16Min a b c d s
  | .halu2Bf16Max a b c d => Sys2Proof.Machine.execHalu2Bf16Max a b c d s
  | .halu2Bf16Pack a b c d => Sys2Proof.Machine.execHalu2Bf16Pack a b c d s
  | .halu2F16Add a b c d => Sys2Proof.Machine.execHalu2F16Add a b c d s
  | .halu2F16Sub a b c d => Sys2Proof.Machine.execHalu2F16Sub a b c d s
  | .halu2F16Mul a b c d => Sys2Proof.Machine.execHalu2F16Mul a b c d s
  | .halu2F16Fma a b c d => Sys2Proof.Machine.execHalu2F16Fma a b c d s
  | .halu2F16Min a b c d => Sys2Proof.Machine.execHalu2F16Min a b c d s
  | .halu2F16Max a b c d => Sys2Proof.Machine.execHalu2F16Max a b c d s
  | .halu2F16Pack a b c d => Sys2Proof.Machine.execHalu2F16Pack a b c d s
  | .qcvtE4m3n a b c d e f => Sys2Proof.Machine.execQcvtE4m3n a b c d e f s
  | .qcvtE5m2n a b c d e f => Sys2Proof.Machine.execQcvtE5m2n a b c d e f s
  | .qcvtDm8 a b c d e f => Sys2Proof.Machine.execQcvtDm8 a b c d e f s
  | .qdecE4m3nF32 a b c d => Sys2Proof.Machine.execQdecE4m3nF32 a b c d s
  | .qdecE5m2nF32 a b c d => Sys2Proof.Machine.execQdecE5m2nF32 a b c d s
  | .qdecDm8F32 a b c d => Sys2Proof.Machine.execQdecDm8F32 a b c d s
  | .qdecE4m3nBf16 a b c d => Sys2Proof.Machine.execQdecE4m3nBf16 a b c d s
  | .qdecE5m2nBf16 a b c d => Sys2Proof.Machine.execQdecE5m2nBf16 a b c d s
  | .qdecDm8Bf16 a b c d => Sys2Proof.Machine.execQdecDm8Bf16 a b c d s
  | .qdecE4m3nF16 a b c d => Sys2Proof.Machine.execQdecE4m3nF16 a b c d s
  | .qdecE5m2nF16 a b c d => Sys2Proof.Machine.execQdecE5m2nF16 a b c d s
  | .qdecDm8F16 a b c d => Sys2Proof.Machine.execQdecDm8F16 a b c d s
  | .cmprComp16 a b c d => Sys2Proof.Machine.execCmprComp16 a b c d s
  | .cmprComp8 a b c => Sys2Proof.Machine.execCmprComp8 a b c s
  | .cmprExp16 a b c d => Sys2Proof.Machine.execCmprExp16 a b c d s
  | .cmprExp8 a b c d => Sys2Proof.Machine.execCmprExp8 a b c d s
  | .cmprMeta16 a b c d => Sys2Proof.Machine.execCmprMeta16 a b c d s
  | .cmprMeta8 a b c => Sys2Proof.Machine.execCmprMeta8 a b c s
  | .geoOrient2 a b c d e f => Sys2Proof.Machine.execGeoOrient2 a b c d e f s
  | .geoOrient3 a b c d e f => Sys2Proof.Machine.execGeoOrient3 a b c d e f s
  | .geoIncircle a b c d e f => Sys2Proof.Machine.execGeoIncircle a b c d e f s
  | .geoInsphere a b c d e f => Sys2Proof.Machine.execGeoInsphere a b c d e f s
  | .geoSegx a b c d => Sys2Proof.Machine.execGeoSegx a b c d s
  | .ld a b c d e => Sys2Proof.Machine.execLd a b c d e s
  | .st a b c d e => Sys2Proof.Machine.execSt a b c d e s
  | .ldo32 a b c => Sys2Proof.Machine.execLdo32 a b c s
  | .ldo64 a b c => Sys2Proof.Machine.execLdo64 a b c s
  | .sto32 a b c => Sys2Proof.Machine.execSto32 a b c s
  | .sto64 a b c => Sys2Proof.Machine.execSto64 a b c s
  | .ldaq a b c d e => Sys2Proof.Machine.execLdaq a b c d e s
  | .strl a b c d e => Sys2Proof.Machine.execStrl a b c d e s
  | .amo32Add a b c d => Sys2Proof.Machine.execAmo32Add a b c d s
  | .amo32And a b c d => Sys2Proof.Machine.execAmo32And a b c d s
  | .amo32Or a b c d => Sys2Proof.Machine.execAmo32Or a b c d s
  | .amo32Xor a b c d => Sys2Proof.Machine.execAmo32Xor a b c d s
  | .amo32Min a b c d => Sys2Proof.Machine.execAmo32Min a b c d s
  | .amo32Max a b c d => Sys2Proof.Machine.execAmo32Max a b c d s
  | .amo32Minn a b c d => Sys2Proof.Machine.execAmo32Minn a b c d s
  | .amo32Maxn a b c d => Sys2Proof.Machine.execAmo32Maxn a b c d s
  | .amoxXchg a b c d => Sys2Proof.Machine.execAmoxXchg a b c d s
  | .amoxXchg64 a b c d => Sys2Proof.Machine.execAmoxXchg64 a b c d s
  | .amoxCas a b c d => Sys2Proof.Machine.execAmoxCas a b c d s
  | .amoxCas64 a b c d => Sys2Proof.Machine.execAmoxCas64 a b c d s
  | .amoxFadd a b c d => Sys2Proof.Machine.execAmoxFadd a b c d s
  | .amoxAdd64 a b c d => Sys2Proof.Machine.execAmoxAdd64 a b c d s
  | .lst a b c => Sys2Proof.Machine.execLst a b c s
  | .lld a b c => Sys2Proof.Machine.execLld a b c s
  | .lpoll a b c => Sys2Proof.Machine.execLpoll a b c s
  | .fence a => Sys2Proof.Machine.execFence a s
  | .cwb a b c => Sys2Proof.Machine.execCwb a b c s
  | .cinv a b => Sys2Proof.Machine.execCinv a b s
  | .discard a b => Sys2Proof.Machine.execDiscard a b s
  | .zline a b => Sys2Proof.Machine.execZline a b s
  | .pin a b c d => Sys2Proof.Machine.execPin a b c d s
  | .unpin a b c => Sys2Proof.Machine.execUnpin a b c s
  | .dist a b c => Sys2Proof.Machine.execDist a b c s
  | .touch a b c d => Sys2Proof.Machine.execTouch a b c d s
  | .demote a b => Sys2Proof.Machine.execDemote a b s
  | .evict a b => Sys2Proof.Machine.execEvict a b s
  | .rhset a b c => Sys2Proof.Machine.execRhset a b c s
  | .spadLd32 a b c => Sys2Proof.Machine.execSpadLd32 a b c s
  | .spadLd64 a b c => Sys2Proof.Machine.execSpadLd64 a b c s
  | .spadLd128 a b c => Sys2Proof.Machine.execSpadLd128 a b c s
  | .spadSt32 a b c => Sys2Proof.Machine.execSpadSt32 a b c s
  | .spadSt64 a b c => Sys2Proof.Machine.execSpadSt64 a b c s
  | .spadSt128 a b c => Sys2Proof.Machine.execSpadSt128 a b c s
  | .cpyG2b a b c d e f => Sys2Proof.Machine.execCpyG2b a b c d e f s
  | .cpyG2s a b c d e => Sys2Proof.Machine.execCpyG2s a b c d e s
  | .cpyS2g a b c d e => Sys2Proof.Machine.execCpyS2g a b c d e s
  | .cpyG2g a b c d e => Sys2Proof.Machine.execCpyG2g a b c d e s
  | .cpyS2b a b c d e f => Sys2Proof.Machine.execCpyS2b a b c d e f s
  | .cpyS2s a b c d e => Sys2Proof.Machine.execCpyS2s a b c d e s
  | .seal a => Sys2Proof.Machine.execSeal a s
  | .waitn a => Sys2Proof.Machine.execWaitn a s
  | .tdset a b => Sys2Proof.Machine.execTdset a b s
  | .tdget a b c => Sys2Proof.Machine.execTdget a b c s
  | .mma a b c d e f g => Sys2Proof.Machine.execMma a b c d e f g s
  | .mmaz a b c d e f g => Sys2Proof.Machine.execMmaz a b c d e f g s
  | .acq a => Sys2Proof.Machine.execAcq a s
  | .rel a => Sys2Proof.Machine.execRel a s
  | .amov a b => Sys2Proof.Machine.execAmov a b s
  | .azero a => Sys2Proof.Machine.execAzero a s
  | .ast a b => Sys2Proof.Machine.execAst a b s
  | .capPass => Sys2Proof.Machine.execCapPass s
  | .tskSub a b c => Sys2Proof.Machine.execTskSub a b c s
  | .tskWait a => Sys2Proof.Machine.execTskWait a s
  | .tskBstat a => Sys2Proof.Machine.execTskBstat a s
  | .tskBclr a => Sys2Proof.Machine.execTskBclr a s
  | .kvKvg a b c d e f => Sys2Proof.Machine.execKvKvg a b c d e f s
  | .kvKvgs a b c d e => Sys2Proof.Machine.execKvKvgs a b c d e s
  | .kvKvs a b c d e => Sys2Proof.Machine.execKvKvs a b c d e s
  | .kvKvinv a => Sys2Proof.Machine.execKvKvinv a s
  | .colSum a b c d e => Sys2Proof.Machine.execColSum a b c d e s
  | .colMax a b c d e => Sys2Proof.Machine.execColMax a b c d e s
  | .colMin a b c d e => Sys2Proof.Machine.execColMin a b c d e s
  | .colTri a b c d e => Sys2Proof.Machine.execColTri a b c d e s
  | .colBcast a b c d e => Sys2Proof.Machine.execColBcast a b c d e s
  | .colGath a b c d e => Sys2Proof.Machine.execColGath a b c d e s
  | .colBar a b c d => Sys2Proof.Machine.execColBar a b c d s
  | .tret a => Sys2Proof.Machine.execTret a s
  | .syscall a b => Sys2Proof.Machine.execSyscall a b s
  | .csrr a b c => Sys2Proof.Machine.execCsrr a b c s
  | .csrw a b c => Sys2Proof.Machine.execCsrw a b c s
  | .csrs a b c => Sys2Proof.Machine.execCsrs a b c s
  | .csrc a b c => Sys2Proof.Machine.execCsrc a b c s
  | .egyRd a => Sys2Proof.Machine.execEgyRd a s
  | .egyReq a b => Sys2Proof.Machine.execEgyReq a b s
  | .pwrGate a b => Sys2Proof.Machine.execPwrGate a b s
  | .rsend a => Sys2Proof.Machine.execRsend a s
  | .rrecv a b => Sys2Proof.Machine.execRrecv a b s
  | .lnch a b c => Sys2Proof.Machine.execLnch a b c s
  | .evtSig a b c => Sys2Proof.Machine.execEvtSig a b c s
  | .evtWait a b c => Sys2Proof.Machine.execEvtWait a b c s
  | .barCrew => Sys2Proof.Machine.execBarCrew s
  | .barGang => Sys2Proof.Machine.execBarGang s
  | .qenq a b => Sys2Proof.Machine.execQenq a b s
  | .qdeq a b c => Sys2Proof.Machine.execQdeq a b c s
  | .pcrd a b c => Sys2Proof.Machine.execPcrd a b c s
  | .pcwr a b => Sys2Proof.Machine.execPcwr a b s
  | .cvbrd a b c => Sys2Proof.Machine.execCvbrd a b c s
  | .cvbwr a b c => Sys2Proof.Machine.execCvbwr a b c s
  | .cvbTimeout a b => Sys2Proof.Machine.execCvbTimeout a b s
  | .lldTimeout a b => Sys2Proof.Machine.execLldTimeout a b s
  | .watchdog a b => Sys2Proof.Machine.execWatchdog a b s
  | .trapEntry a => Sys2Proof.Machine.execTrapEntry a s
  | .nestedTrapEntry a => Sys2Proof.Machine.execNestedTrapEntry a s
  | .taskStart a b => Sys2Proof.Machine.execTaskStart a b s
  | .taskComplete a b => Sys2Proof.Machine.execTaskComplete a b s
  | .rangeOpComplete a b => Sys2Proof.Machine.execRangeOpComplete a b s
  | .demoteEvictStatus a b => Sys2Proof.Machine.execDemoteEvictStatus a b s
  | .latticeRound a => Sys2Proof.Machine.execLatticeRound a s
  | .lxschedWrite a b => Sys2Proof.Machine.execLxschedWrite a b s
  | .smapMap a b => Sys2Proof.Machine.execSmapMap a b s
  | .smapUnmap a b => Sys2Proof.Machine.execSmapUnmap a b s
  | .smapWritebackDone a b => Sys2Proof.Machine.execSmapWritebackDone a b s
  | .shdwReserveRing8 a => Sys2Proof.Machine.execShdwReserveRing8 a s
  | .shdwReserveRings78 a => Sys2Proof.Machine.execShdwReserveRings78 a s
  | .shdwRelease a => Sys2Proof.Machine.execShdwRelease a s
  | .spiralUncorrectableError a => Sys2Proof.Machine.execSpiralUncorrectableError a s
  | .powerAlarm => Sys2Proof.Machine.execPowerAlarm s
  | .energyWindow a => Sys2Proof.Machine.execEnergyWindow a s
  | .budgetWrite a b => Sys2Proof.Machine.execBudgetWrite a b s
  | .qctlWrite a b c => Sys2Proof.Machine.execQctlWrite a b c s
  | .qtailWrite a b c => Sys2Proof.Machine.execQtailWrite a b c s
  | .qownWrite a b c => Sys2Proof.Machine.execQownWrite a b c s
  | .eventCounterWrite a b c => Sys2Proof.Machine.execEventCounterWrite a b c s
  | .launchBegin a b => Sys2Proof.Machine.execLaunchBegin a b s
  | .gangDispatch a b => Sys2Proof.Machine.execGangDispatch a b s
  | .gangSteal a b => Sys2Proof.Machine.execGangSteal a b s
  | .crewFinish a => Sys2Proof.Machine.execCrewFinish a s
  | .launchCompletion a => Sys2Proof.Machine.execLaunchCompletion a s
  | .pcmdVacate a b => Sys2Proof.Machine.execPcmdVacate a b s
  | .pcmdReturn a b => Sys2Proof.Machine.execPcmdReturn a b s
  | .heldStop a => Sys2Proof.Machine.execHeldStop a s
  | .preemptSaveEntry a => Sys2Proof.Machine.execPreemptSaveEntry a s
  | .phlimExpiry a => Sys2Proof.Machine.execPhlimExpiry a s
  | .preemptRestoreEntry a b => Sys2Proof.Machine.execPreemptRestoreEntry a b s
  | .tinvcPage a => Sys2Proof.Machine.execTinvcPage a s
  | .tinvcAll a => Sys2Proof.Machine.execTinvcAll a s
  | .tinvcComplete a => Sys2Proof.Machine.execTinvcComplete a s
  | .flctlWrite a b => Sys2Proof.Machine.execFlctlWrite a b s
  | .coreGateOff a => Sys2Proof.Machine.execCoreGateOff a s
  | .corePowerRestored a => Sys2Proof.Machine.execCorePowerRestored a s
  | .routerPowerDown a => Sys2Proof.Machine.execRouterPowerDown a s
  | .routerWakeSignal a => Sys2Proof.Machine.execRouterWakeSignal a s
  | .routerPowerRestored a => Sys2Proof.Machine.execRouterPowerRestored a s
  | .groupRecordWrite a b c d => Sys2Proof.Machine.execGroupRecordWrite a b c d s
  | .jalefLinkChange a b c => Sys2Proof.Machine.execJalefLinkChange a b c s
  | .hostPortLinkChange a b => Sys2Proof.Machine.execHostPortLinkChange a b s
  | .hostAccess a b c d e f => Sys2Proof.Machine.execHostAccess a b c d e f s
  | .peerAccess a b c d e f g => Sys2Proof.Machine.execPeerAccess a b c d e f g s
  | .poolAdmit a b c => Sys2Proof.Machine.execPoolAdmit a b c s
  | .poolGrow a b c => Sys2Proof.Machine.execPoolGrow a b c s
  | .poolRet a b c => Sys2Proof.Machine.execPoolRet a b c s
  | .guarWrite a b c => Sys2Proof.Machine.execGuarWrite a b c s
  | .migWrite a b c => Sys2Proof.Machine.execMigWrite a b c s
  | .vfbindWrite a b => Sys2Proof.Machine.execVfbindWrite a b s
  | .vfportWrite a b => Sys2Proof.Machine.execVfportWrite a b s
  | .reset => Sys2Proof.Machine.execReset s
  | .bootctlGo => Sys2Proof.Machine.execBootctlGo s
  | .firmwareCheckDone a => Sys2Proof.Machine.execFirmwareCheckDone a s
  | .raiseFullService a => Sys2Proof.Machine.execRaiseFullService a s
  | .partitionCreate a b c d => Sys2Proof.Machine.execPartitionCreate a b c d s
  | .pbootGo a b => Sys2Proof.Machine.execPbootGo a b s
  | .stackFence a => Sys2Proof.Machine.execStackFence a s
  | .securityAlarm a b => Sys2Proof.Machine.execSecurityAlarm a b s
  | .registerWrite a b c d e f => Sys2Proof.Machine.execRegisterWrite a b c d e f s
  | .reservedInstructionWord a b c => Sys2Proof.Machine.execReservedInstructionWord a b c s
  | .writebackAccepted a => Sys2Proof.Machine.execWritebackAccepted a s
  | .onlyCopyUncorrectableError a b => Sys2Proof.Machine.execOnlyCopyUncorrectableError a b s
  | .partitionDestroy a => Sys2Proof.Machine.execPartitionDestroy a s
  | .powerAlarmEnd => Sys2Proof.Machine.execPowerAlarmEnd s
  | .peerCollectiveMessage a b c d => Sys2Proof.Machine.execPeerCollectiveMessage a b c d s

end Sys2Proof.Machine
end

