-- ==== Sys2Proof/Machine/Step.lean ====
section
/-! DEFINITION. One step of the package: what `State.plan` names is executed, and the issue is brought to its end. -/
namespace Sys2Proof.Machine

/-- What a step adds after an instruction or an event (R28, R30). -/
def settle (o : Host.Outcome State Fault Refusal) : Host.Outcome State Fault Refusal :=
  match o with
  | .next s => .next s.finish
  | .fault r => .fault r
  | .refused r => .refused r

/-- A plan carried out: the guard first (R139), then the instruction. -/
def Plan.run (p : Plan) : Host.Outcome State Fault Refusal :=
  match p.guard, p.instr with
  | _, none => .next p.state
  | none, some i => exec i p.state
  | some g, some i =>
    match exec g p.state with
    | .next s => exec i s
    | o => o

/-- One step: an event, or one PC group's part of an issue (R24). -/
noncomputable def step (s : State) : Host.Outcome State Fault Refusal := settle s.plan.run

/-- The state with an instruction placed where the next step fetches it. -/
def State.withFetchWord (s : State) (nbits w : Nat) : State := s.placeWord nbits w

end Sys2Proof.Machine
end

