-- ==== Sys2Proof/Safety.lean ====
section
/-! DEFINITION. The terms in which statements speak of the machine: a step that goes on, the issue that is executed, the
conditions under which an instruction has its effect, what its operands deliver, and what each shape of instruction
leaves unchanged. -/
namespace Sys2Proof.Machine

/-- A step that neither faults nor is refused. -/
def Safe (s : State) : Prop := ∃ t, step s = .next t

/-! ## The issue -/

/-- The issue `c` of warp `w` is being executed. -/
def Issuing (s : State) (c : Cur) (w : Warp) : Prop := s.cur = some c ∧ s.warp c.warp = some w

/-- What every instruction asks before its effect: the registers it names are declared (R172), no scalar register it reads
or writes is pending (R251), a thread takes part (R139), and no scalar register it reads holds a completion code with a
release that the threads have yet to acquire (R117; what such a read adds is stated among the issue checks). -/
def Clear (c : Cur) (w : Warp) (u : Uses) : Prop :=
  u.declared w = true ∧ u.pendingRead w = none ∧ u.pendingWrite w = none ∧ c.taking ≠ 0 ∧ ∀ n ∈ u.s, wget w.seals n = 0

/-- No taking-part thread reads an invalid latch through a 32-bit source (R31). -/
def Readable (s : State) (c : Cur) (w : Warp) (codes : List (BitVec 7)) : Prop :=
  ∀ t < 32, inMask c.taking t = true → ∀ a ∈ codes, ((s.plain c w).src t (w.thread t) a).isSome = true
/-- The same for 64-bit sources; `fp` marks FP64 operands (R137). -/
def Readable64 (s : State) (c : Cur) (w : Warp) (fp : Bool) (codes : List (BitVec 7)) : Prop :=
  ∀ t < 32, inMask c.taking t = true → ∀ a ∈ codes, ((s.plain c w).src64 fp t (w.thread t) a).isSome = true

/-- What a source delivers to a thread (R134, R135). -/
def State.val (s : State) (c : Cur) (w : Warp) (t : Nat) (a : BitVec 7) : Word :=
  ((s.plain c w).src t (w.thread t) a).getD 0
def State.val64 (s : State) (c : Cur) (w : Warp) (fp : Bool) (t : Nat) (a : BitVec 7) : Dword :=
  ((s.plain c w).src64 fp t (w.thread t) a).getD 0
/-- What a source of a uniform form delivers (R134). -/
def State.uval (s : State) (c : Cur) (w : Warp) (a : BitVec 7) : Word := (s.plain c w).usrc a
def State.uval64 (s : State) (c : Cur) (w : Warp) (a : BitVec 7) : Dword := (s.plain c w).usrc64 a

/-- The stack of a warp runs at full service, so that FP64, FP16 and 8-bit forms execute (R389). -/
def FullService (s : State) (w : Warp) : Prop := (s.stack (coreStack (s.coreOf w))).lvl ≠ 1

/-! ## Forms by their operands -/

abbrev Form2 : Type := BitVec 7 → BitVec 7 → BitVec 1 → BitVec 6 → Instr
abbrev Form1 : Type := BitVec 7 → BitVec 1 → BitVec 6 → Instr
abbrev Uniform2 : Type := BitVec 7 → BitVec 7 → BitVec 6 → Instr
abbrev Uniform1 : Type := BitVec 7 → BitVec 6 → Instr
abbrev Compare : Type := BitVec 7 → BitVec 7 → BitVec 3 → Instr
abbrev Short : Type := BitVec 5 → BitVec 6 → Instr

/-- The registers that such a form names, for operands of `k` registers and a result of `n` (R172). -/
def uses2 (b a : BitVec 7) (d : BitVec 6) (k n : Nat) : Uses := (useSrc a k).and ((useSrc b k).and (useV d.toNat n))
def uses1 (a : BitVec 7) (d : BitVec 6) (k n : Nat) : Uses := (useSrc a k).and (useV d.toNat n)

/-- The same for a uniform form. -/
def uniUses2 (b a : BitVec 7) (d : BitVec 6) (k n : Nat) : Uses := (useUni a k).and ((useUni b k).and (useD d.toNat n))
def uniUses1 (a : BitVec 7) (d : BitVec 6) (k n : Nat) : Uses := (useUni a k).and (useD d.toNat n)

/-- The registers that a GEO form of `n` coordinates names (R217, R221). -/
def geoUses (sym : BitVec 1) (b : BitVec 7) (x : BitVec 1) (a d : BitVec 6) (n : Nat) : Uses :=
  let uses := (useV a.toNat (n * (1 + bitNat (x == 1)))).and (useV d.toNat 1)
  if sym = 1 then uses.and (useSrc b 1) else uses
/-- The format of its coordinates, their values, and its points. -/
def geoFormat (x : BitVec 1) : Fmt := if x = 1 then fp64 else fp32
def coordinates (th : Thread) (x : BitVec 1) (a : BitVec 6) (n : Nat) : List (Option Int) :=
  (pointWords th (x == 1) a.toNat n).map (geoFormat x).coordinate
def points (th : Thread) (x : BitVec 1) (a : BitVec 6) (n dim : Nat) : List (List Int) :=
  pointsOf dim n ((coordinates th x a (n * dim)).map fun v => v.getD 0)
/-- Every coordinate of every taking-part thread is finite (R222). -/
def FiniteCoordinates (c : Cur) (w : Warp) (x : BitVec 1) (a : BitVec 6) (n : Nat) : Prop :=
  ∀ t < 32, inMask c.taking t = true → ∀ v ∈ coordinates (w.thread t) x a n, v.isSome = true

/-! ## What instructions leave -/

/-- A lane instruction done in every taking-part thread: the thread as `f` gives it, with the next PC; the others of the
group pass by; the flags of all accrue (R139, R171, R50). -/
def laneDone (s : State) (c : Cur) (w : Warp) (f : Nat → Thread → Thread × Raised) : State :=
  s.setWarp c.warp ((w.mapThreads fun t th =>
    if inMask c.taking t then { (f t th).1 with pc := c.next }
    else if inMask c.group t then { th with pc := c.next } else th).accrue
      ((threadsOf c.taking).foldl (fun r t => r.or (f t (w.thread t)).2) Raised.none))

/-- A result of one thread: its words enter the latches and, unless NW is set, the registers from D on (R29, R196). -/
def wrote (nw : BitVec 1) (d : BitVec 6) (th : Thread) (xs : List Word) : Thread × Raised :=
  (th.result (nw == 1) d.toNat xs, Raised.none)
/-- A floating-point result of one register, or of a pair, with its flags. -/
def wrote32 (nw : BitVec 1) (d : BitVec 6) (th : Thread) (r : Rounded) : Thread × Raised :=
  (th.result (nw == 1) d.toNat [BitVec.ofNat 32 r.1], r.2)
def wrote64 (nw : BitVec 1) (d : BitVec 6) (th : Thread) (r : Rounded) : Thread × Raised :=
  (th.result (nw == 1) d.toNat [BitVec.ofNat 32 r.1, BitVec.ofNat 32 (r.1 / 2 ^ 32)], r.2)

/-- A uniform instruction done once for its issue: the warp `w'`, with the group at the next PC (R23). -/
def uniformDone (s : State) (c : Cur) (w' : Warp) : State :=
  s.setWarp c.warp (w'.onThreads c.group fun th => { th with pc := c.next })

/-- Everything but the record of one warp is as before. -/
def OnlyWarp (s t : State) (k : Nat) : Prop :=
  t = { s with warps := t.warps } ∧ ∀ j, j ≠ k → t.warp j = s.warp j

/-- A thread is as before but for its PC, its vector registers, its predicates and its latches. -/
def OnlyRegisters (th th' : Thread) : Prop :=
  th' = { th with pc := th'.pc, v := th'.v, p := th'.p, l0 := th'.l0, l1 := th'.l1, l2 := th'.l2, l3 := th'.l3 }

/-! ## Accesses thread by thread (R224) -/

/-- The taking-part threads act in ascending order, each in the state that those before it leave; none when one of them
cannot. -/
def turns (c : Cur) (f : State → Warp → Nat → Option State) : List Nat → State → Option State
  | [], s => some s
  | t :: r, s => (s.warp c.warp).bind fun w => (f s w t).bind fun s1 => turns c f r s1

/-- The state in which the turns of an issue begin: the threads that do not take part have passed by (R139). -/
def State.passed (s : State) (c : Cur) : State := s.advance c (c.group &&& ~~~c.taking)

/-- What an attempt gives, if it succeeds. -/
def Answer.result {α : Type} (x : Answer α) : Option α := match x with | .ok a => some a | _ => none

/-- An access of thread `t`, if it succeeds: the state that it leaves, and the thread's registers as `f` gives them; the
thread goes on. -/
def turn {α : Type} (c : Cur) (t : Nat) (x : Answer α) (after : α → State) (f : α → Thread → Thread) : Option State :=
  x.result.map fun r => (after r).wrote c t (f r)

/-- What operands of an instruction that can wait deliver (R134): those that it read when it was issued. -/
def State.arg (s : State) (c : Cur) (w : Warp) (t : Nat) (a : BitVec 7) : Word := ((s.ctxOf c w t).src t (w.reader t) a).getD 0
def State.uarg (s : State) (c : Cur) (w : Warp) (a : BitVec 7) : Word := (s.ctx c w).usrc a
def State.uarg64 (s : State) (c : Cur) (w : Warp) (a : BitVec 7) : Dword := (s.ctx c w).usrc64 a
/-- Loads and stores of `n` bytes at an address and an offset (R227 to R229), of a kind with a mask (R104): what is loaded enters
the registers from D and the latches; what is stored comes from the registers from D. -/
def loadTurn (c : Cur) (rq : Nat) (k : Kind) (o : BitVec 5) (a : BitVec 7) (d : BitVec 6) (n : Nat) (off : Dword) (s : State)
    (w : Warp) (t : Nat) : Option State :=
  turn c t (s.threadLoad ((s.whoIs c w t).as k o) rq (s.addressOf c w t a + off) n) (fun r => r.1) fun r th =>
    { th.result false d.toNat (registersOf r.2.2) with view := r.2.1 }
def storeTurn (c : Cur) (rq : Nat) (k : Kind) (o : BitVec 5) (a : BitVec 7) (d : BitVec 6) (n : Nat) (off : Dword) (s : State)
    (w : Warp) (t : Nat) : Option State :=
  turn c t (s.threadStore ((s.whoIs c w t).as k o) rq (s.addressOf c w t a + off) ((w.thread t).groupBytes d.toNat n)) (fun r => r.1)
    fun r th => { th with view := r.2 }
/-- An atomic of `n` bytes (R230): the old value enters the registers from D; `f` gives the new one. -/
def atomicTurn (c : Cur) (o : BitVec 5) (q : BitVec 3) (a : BitVec 7) (d : BitVec 6) (n : Nat) (f : Thread → Dword → Option Dword) (s : State)
    (w : Warp) (t : Nat) : Option State :=
  turn c t (s.threadAtomic ((s.whoIs c w t).as (kindOf o .release) o) q.toNat (s.addressOf c w t a) n (f (w.thread t))) (fun r => r.1) fun r th =>
    { th.result false d.toNat (registersOf (natBytes n r.2.2.toNat)) with view := r.2.1 }
/-- Lattice forms (R234, R235). A cell that is delivered enters D, and the predicate that the control word names becomes
the given bit. -/
def joinTurn (c : Cur) (b a : BitVec 7) (d : BitVec 6) (s : State) (w : Warp) (t : Nat) : Option State :=
  let o := BitVec.ofNat 5 (s.arg c w t b).toNat
  turn c t (s.threadJoin ((s.whoIs c w t).as (kindOf o .release) o) (s.addressOf c w t a) ((w.thread t).vpair d.toNat)) (fun r => r.1)
    fun r th => { th with view := r.2 }
def pollTurn (c : Cur) (b a : BitVec 7) (d : BitVec 6) (waits : Bool) (s : State) (w : Warp) (t : Nat) : Option State :=
  let k := bits (s.arg c w t b).toNat 5 3
  let who := s.whoIs c w t
  (s.threadCell who (s.addressOf c w t a) ((w.thread t).vpair d.toNat)).result.bind fun (s1, p, pa, ca, cell, sat) =>
    if !waits then some (s1.deliverCell c t p who.stack pa ca cell d k sat)
    else if sat then some (s1.deliverCell c t p who.stack pa ca cell d k false)
    else if (w.thread t).timeout ≠ 0 ∧ (w.thread t).timeout < s.cycle then
      some (s1.deliverCell c t p who.stack pa ca cell d k true)
    else none
/-- The scratchpad (R239, R240): the offset is the sum of the two sources. -/
def padLoadTurn (c : Cur) (b a : BitVec 7) (d : BitVec 6) (n : Nat) (s : State) (w : Warp) (t : Nat) : Option State :=
  ((s.ctxOf c w t).src t (w.reader t) a).bind fun x => ((s.ctxOf c w t).src t (w.reader t) b).bind fun y =>
    (s.crewOf w).bind fun k =>
      turn c t (s.padLoad k (w.thread t).view (x + y).toNat n) (fun r => r.1) fun r th =>
        { th.result false d.toNat (registersOf r.2.2) with view := r.2.1 }
def padStoreTurn (c : Cur) (b a : BitVec 7) (d : BitVec 6) (n : Nat) (s : State) (w : Warp) (t : Nat) : Option State :=
  ((s.ctxOf c w t).src t (w.reader t) a).bind fun x => ((s.ctxOf c w t).src t (w.reader t) b).bind fun y =>
    (s.crewOf w).bind fun k =>
      turn c t (s.padStore k (w.thread t).view (x + y).toNat ((w.thread t).groupBytes d.toNat n)) (fun r => r.1) fun r th =>
        { th with view := r.2 }
/-- The spiral forms on a tile (R242): `f` gives the state and the status or word for D, of the handle when there is one. -/
def tileTurn (c : Cur) (a : BitVec 7) (nw : BitVec 1) (d : BitVec 6) (handle : Option (BitVec 7))
    (f : State → Warp → TileSite → Nat → State × Word) (s : State) (w : Warp) (t : Nat) : Option State :=
  (match handle with | none => some 0 | some b => (s.ctxOf c w t).src t (w.reader t) b).bind fun (h : Word) =>
    (s.tileSite (s.whoIs c w t) (s.addressOf c w t a)).result.map fun (r : TileSite) =>
      let q := f r.state w r h.toNat
      q.1.wrote c t fun th => th.result (nw == 1) d.toNat [q.2]
/-- A range form in one thread (R236, R237): nothing to do, or its lines in ascending order, after which the thread waits
for the completion. -/
def rangeTurn (c : Cur) (w : Warp) (b a : BitVec 7)
    (f : State → Who → Dword → Nat → State × List Nat × Option (Trap ⊕ Wait)) (s : State) (t : Nat) : Option State :=
  ((s.ctxOf c w t).src t (w.reader t) b).bind fun n =>
    if n = 0 then some (s.onThread c.warp t fun th => { th with pc := c.next, held := none })
    else if canonical (s.addressOf c w t a) || isSupervisorCore (s.coreOf w) then
      match f s (s.whoIs c w t) (s.addressOf c w t a) n.toNat with
      | (s1, ids, none) => some (s1.block c (setBit 0 t true) (.range ids c.next))
      | _ => none
    else none

/-! ## System instructions -/

/-- The threads of the group run a pre-emption handler, as the forms of R283 with sub-cause 12 ask. -/
def Saving (c : Cur) (w : Warp) : Prop := w.handlerIn c.group = .preempt ∨ w.handlerIn c.group = .nestedPreempt
/-- The threads of the group run in supervisor mode (R147). -/
def Privileged (c : Cur) (w : Warp) : Prop := w.supIn c.group = true

/-- `qenq` in one thread (R299): the entry is read as words at the address and stands last in the stage's queue, which is
open and has room. -/
def enqTurn (c : Cur) (b a : BitVec 7) (s : State) (w : Warp) (t : Nat) : Option State :=
  (s.launchOf w).bind fun l => (l.2.stage (s.placeOf w).stg).bind fun st =>
    if l.2.stages.isEmpty = false ∧ (s.ctxOf c w t).src t (w.reader t) b = some (BitVec.ofNat 32 (s.placeOf w).stg) ∧
        (s.placeOf w).stg < 2 ^ 32 ∧ st.size ≠ 0 ∧ s.closed l.1 l.2 (s.placeOf w).stg = false ∧
        st.entries.length < st.capacity ∧ ((s.ctxOf c w t).src64 false t (w.reader t) a).isSome = true then
      turn c t (s.readUnits (s.whoIs c w t) (s.addressOf c w t a) (st.size / 4))
        (fun r => (r.1.releasedBy c.warp (setBit 0 t true)).onLaunch l.1 fun l => l.onStage (s.placeOf w).stg fun st => { st with entries := st.entries ++ [(r.2.2, r.2.1)] })
        fun r th => { th with view := r.2.1 }
    else none
/-- A thread waits in `qenq` (R299): the queue of its own stage is open and full. -/
def enqWaits (c : Cur) (b a : BitVec 7) (s : State) (w : Warp) (t : Nat) : Bool :=
  (s.launchOf w).any fun l => (l.2.stage (s.placeOf w).stg).any fun st =>
    !l.2.stages.isEmpty && (s.ctxOf c w t).src t (w.reader t) b == some (BitVec.ofNat 32 (s.placeOf w).stg) &&
      decide ((s.placeOf w).stg < 2 ^ 32) && st.size != 0 && !s.closed l.1 l.2 (s.placeOf w).stg &&
      decide (st.capacity ≤ st.entries.length) && ((s.ctxOf c w t).src64 false t (w.reader t) a).isSome
/-- A thread waits in `qdeq` (R299): the queue of the stage before is open and empty. -/
def deqWaits (c : Cur) (b a : BitVec 7) (s : State) (w : Warp) (t : Nat) : Bool :=
  (s.launchOf w).any fun l => (l.2.stage ((s.placeOf w).stg - 1)).any fun st =>
    !l.2.stages.isEmpty && (s.placeOf w).stg != 0 && decide ((s.placeOf w).stg < 2 ^ 32) &&
      (s.ctxOf c w t).src t (w.reader t) b == some (BitVec.ofNat 32 ((s.placeOf w).stg - 1)) && st.entries.isEmpty &&
      !s.closed l.1 l.2 ((s.placeOf w).stg - 1) && ((s.ctxOf c w t).src64 false t (w.reader t) a).isSome
/-- `qdeq` in one thread (R299): the first entry of the stage before is written as words to the address, with predicate
true; predicate false when that queue is empty and closed. -/
def deqTurn (c : Cur) (b a : BitVec 7) (k : BitVec 3) (s : State) (w : Warp) (t : Nat) : Option State :=
  (s.launchOf w).bind fun l => (l.2.stage ((s.placeOf w).stg - 1)).bind fun st =>
    if l.2.stages.isEmpty = false ∧ (s.placeOf w).stg ≠ 0 ∧ (s.placeOf w).stg < 2 ^ 32 ∧
        (s.ctxOf c w t).src t (w.reader t) b = some (BitVec.ofNat 32 ((s.placeOf w).stg - 1)) ∧
        ((s.ctxOf c w t).src64 false t (w.reader t) a).isSome = true then
      match st.entries with
      | e :: rest =>
        turn c t (s.writeUnits (s.whoIs c w t) (s.addressOf c w t a) (registersOf e.1))
          (fun r => r.1.onLaunch l.1 fun l => l.onStage ((s.placeOf w).stg - 1) fun st => { st with entries := rest })
          fun r th => { th.setP k.toNat true with view := laterOf r.2 e.2 }
      | [] =>
        if s.closed l.1 l.2 ((s.placeOf w).stg - 1) then some (s.wrote c t fun th => th.setP k.toNat false) else none
    else none

/-! ## Frames -/

/-- A warp after a lane instruction with a result of `n` registers from D: nothing but its threads and its flags has
changed; flags only accrue; a thread that does not take part keeps everything but its PC, and one that does keeps every
register but those of the result, its predicates, its mode and its status. -/
def LaneKept (c : Cur) (w w' : Warp) (d n : Nat) : Prop :=
  w' = { w with threads := w'.threads, fflags := w'.fflags } ∧ w'.fflags ||| w.fflags = w'.fflags ∧
  ∀ t < 32, let th := w.thread t; let th' := w'.thread t
    (inMask c.taking t = false → th' = { th with pc := th'.pc }) ∧
    th' = { th with pc := th'.pc, v := th'.v, l0 := th'.l0, l1 := th'.l1, l2 := th'.l2, l3 := th'.l3 } ∧
    ∀ k, k < d ∨ d + n ≤ k → th'.vreg k = th.vreg k

end Sys2Proof.Machine
end

