-- ==== Sys2Proof/Certificates/Slice0/Obligations.lean ====
section
/-! DEFINITION. The statements for the provers, family by family: what each instruction and event leaves when it has its
effect, what it leaves unchanged, when a form traps or waits, and what holds at reset and after every step. -/
open Sys2Proof Sys2Proof.Machine

/-! ## Lane and uniform instructions on registers -/

/-- R174: SALU and VALU compute their function of the two sources and write it to D: VALU in every taking-part thread,
SALU once for the issue. -/
def Obligations.IntegerAluResults : Prop :=
  (∀ e ∈ ([(.valuAdd, fun x y => x + y), (.valuSub, fun x y => x - y), (.valuAnd, fun x y => x &&& y),
       (.valuOr, fun x y => x ||| y), (.valuXor, fun x y => x ^^^ y),
       (.valuShl, fun x y => x <<< (y.toNat % 32)), (.valuShr, fun x y => x >>> (y.toNat % 32)),
       (.valuSra, fun x y => x.sshiftRight (y.toNat % 32)),
       (.valuMin, fun x y => if x.toInt ≤ y.toInt then x else y), (.valuMax, fun x y => if x.toInt ≤ y.toInt then y else x),
       (.valuMinn, fun x y => if x.toNat ≤ y.toNat then x else y), (.valuMaxn, fun x y => if x.toNat ≤ y.toNat then y else x),
       (.valuMul, fun x y => x * y), (.valuMulh, fun x y => BitVec.ofInt 32 (x.toInt * y.toInt / 2 ^ 32)),
       (.valuDiv, fun x y => if y = 0 then 0xFFFFFFFF else x.sdiv y), (.valuRem, fun x y => if y = 0 then x else x.srem y)] : List (Form2 × (Word → Word → Word))),
     ∀ s c w b a nw d, Issuing s c w → Clear c w (uses2 b a d 1 1) → Readable s c w [a, b] →
       exec (e.1 b a nw d) s = .next (laneDone s c w fun t th => wrote nw d th [e.2 (s.val c w t a) (s.val c w t b)])) ∧
  ∀ e ∈ ([(.saluAdd, fun x y => x + y), (.saluSub, fun x y => x - y), (.saluAnd, fun x y => x &&& y),
      (.saluOr, fun x y => x ||| y), (.saluXor, fun x y => x ^^^ y),
      (.saluShl, fun x y => x <<< (y.toNat % 32)), (.saluShr, fun x y => x >>> (y.toNat % 32)),
      (.saluSra, fun x y => x.sshiftRight (y.toNat % 32)),
      (.saluMin, fun x y => if x.toInt ≤ y.toInt then x else y), (.saluMax, fun x y => if x.toInt ≤ y.toInt then y else x),
      (.saluMinn, fun x y => if x.toNat ≤ y.toNat then x else y), (.saluMaxn, fun x y => if x.toNat ≤ y.toNat then y else x),
      (.saluMul, fun x y => x * y), (.saluMulh, fun x y => BitVec.ofInt 32 (x.toInt * y.toInt / 2 ^ 32)),
      (.saluDiv, fun x y => if y = 0 then 0xFFFFFFFF else x.sdiv y), (.saluRem, fun x y => if y = 0 then x else x.srem y)] :
        List (Uniform2 × (Word → Word → Word))),
    ∀ s c w b a d, Issuing s c w → Clear c w (uniUses2 b a d 1 1) →
      exec (e.1 b a d) s = .next (uniformDone s c (w.setS d.toNat (e.2 (s.uval c w a) (s.uval c w b))))

/-- R175: SADDI and VADDI add the immediate, sign-extended from 11 bits, to the source modulo 2^32. -/
def Obligations.AddImmediateResults : Prop :=
  (∀ s c w i a nw d, Issuing s c w → Clear c w (uses1 a d 1 1) → Readable s c w [a] →
     exec (.vaddi i a nw d) s = .next (laneDone s c w fun t th => wrote nw d th [s.val c w t a + i.signExtend 32])) ∧
  ∀ s c w i a d, Issuing s c w → Clear c w (uniUses1 a d 1 1) →
    exec (.saddi i a d) s = .next (uniformDone s c (w.setS d.toNat (s.uval c w a + i.signExtend 32)))

/-- R176 to R178, R198: the two-operand VMISC forms on 32 bits, the unary ones, `falu.abs` and `falu.neg`; VLOGI, which
combines D with its immediate, zero-extended from 14 bits; and VLIH, which places its immediate at bit 14. -/
def Obligations.MiscLaneResults : Prop :=
  (∀ e ∈ ([(.vmiscDivn, fun x y => if y = 0 then 0xFFFFFFFF else x / y), (.vmiscRemn, fun x y => if y = 0 then x else x % y),
       (.vmiscMulhn, fun x y => BitVec.ofNat 32 (x.toNat * y.toNat / 2 ^ 32)),
       (.vmiscRot, fun x y => x.rotateLeft (y.toNat % 32))] : List (Form2 × (Word → Word → Word))),
     ∀ s c w b a nw d, Issuing s c w → Clear c w (uses2 b a d 1 1) → Readable s c w [a, b] →
       exec (e.1 b a nw d) s = .next (laneDone s c w fun t th => wrote nw d th [e.2 (s.val c w t a) (s.val c w t b)])) ∧
  (∀ e ∈ ([(.vmiscClz, aluClz), (.vmiscCtz, aluCtz), (.vmiscPopc, aluPopc), (.vmiscBrev, aluBrev),
       (.vmiscSext8, fun x => (x.setWidth 8).signExtend 32), (.vmiscSext16, fun x => (x.setWidth 16).signExtend 32),
       (.faluAbs, fun x => x &&& 0x7FFFFFFF), (.faluNeg, fun x => x ^^^ 0x80000000)] : List (Form1 × (Word → Word))),
     ∀ s c w a nw d, Issuing s c w → Clear c w (uses1 a d 1 1) → Readable s c w [a] →
       exec (e.1 a nw d) s = .next (laneDone s c w fun t th => wrote nw d th [e.2 (s.val c w t a)])) ∧
  (∀ e ∈ ([(.vlogiAnd, fun x y => x &&& y), (.vlogiOr, fun x y => x ||| y), (.vlogiXor, fun x y => x ^^^ y),
      (.vlogiShl, fun x y => x <<< (y.toNat % 32)), (.vlogiShr, fun x y => x >>> (y.toNat % 32)),
      (.vlogiSra, fun x y => x.sshiftRight (y.toNat % 32)), (.vlogiClr, fun x y => x &&& ~~~y)] :
        List ((BitVec 14 → BitVec 1 → BitVec 6 → Instr) × (Word → Word → Word))),
    ∀ s c w i nw d, Issuing s c w → Clear c w (useV d.toNat 1) →
      exec (e.1 i nw d) s = .next (laneDone s c w fun _ th => wrote nw d th [e.2 (th.vreg d.toNat) (i.setWidth 32)])) ∧
  ∀ s c w i nw d, Issuing s c w → Clear c w (useV d.toNat 1) →
    exec (.vlih i nw d) s = .next (laneDone s c w fun _ th => wrote nw d th [i.setWidth 32 <<< 14])

/-- R179: the 64-bit additions, and the multiply-adds that read D. A pair result enters the latches with its low word
first. -/
def Obligations.WideLaneResults : Prop :=
  (∀ e ∈ ([(.vmiscAdd64, fun x y => x + y), (.vmiscSub64, fun x y => x - y)] : List (Form2 × (Dword → Dword → Dword))),
    ∀ s c w b a nw d, Issuing s c w → Clear c w (uses2 b a d 2 2) → Readable64 s c w false [a, b] →
      exec (e.1 b a nw d) s = .next (laneDone s c w fun t th =>
        let r := e.2 (s.val64 c w false t a) (s.val64 c w false t b)
        wrote nw d th [lowWord r, highWord r])) ∧
  (∀ s c w b a nw d, Issuing s c w → Clear c w (uses2 b a d 1 1) → Readable s c w [a, b] →
    exec (.vmiscMad b a nw d) s = .next (laneDone s c w fun t th =>
      wrote nw d th [th.vreg d.toNat + s.val c w t a * s.val c w t b])) ∧
  ∀ s c w b a nw d, Issuing s c w → Clear c w (uses2 b a d 1 2) → Readable s c w [a, b] →
    exec (.vmiscMad64 b a nw d) s = .next (laneDone s c w fun t th =>
      let r := th.vpair d.toNat + BitVec.ofNat 64 ((s.val c w t a).toNat * (s.val c w t b).toNat)
      wrote nw d th [lowWord r, highWord r])

/-- R131: a 16-bit form is its 32-bit form with D as first source. -/
def Obligations.ShortFormResults : Prop :=
  (∀ e ∈ ([(.iadd, fun x y => x + y), (.isub, fun x y => x - y), (.iand, fun x y => x &&& y), (.ior, fun x y => x ||| y),
      (.ixor, fun x y => x ^^^ y), (.ishl, fun x y => x <<< (y.toNat % 32)), (.ishr, fun x y => x >>> (y.toNat % 32)),
      (.imin, fun x y => if x.toInt ≤ y.toInt then x else y), (.imax, fun x y => if x.toInt ≤ y.toInt then y else x)] :
        List (Short × (Word → Word → Word))),
    ∀ s c w a d, Issuing s c w → Clear c w (uses2 (shortCode a) (d.setWidth 7) d 1 1) → Readable s c w [shortCode a] →
      exec (e.1 a d) s = .next (laneDone s c w fun t th =>
        wrote 0 d th [e.2 (th.vreg d.toNat) (s.val c w t (shortCode a))])) ∧
  (∀ s c w a d, Issuing s c w → Clear c w (uses2 0x64 (shortCode a) d 1 1) → Readable s c w [shortCode a] →
    exec (.mov a d) s = .next (laneDone s c w fun t th => wrote 0 d th [s.val c w t (shortCode a)])) ∧
  (∀ e ∈ ([(.fadd, fp32.add false), (.fsub, fp32.sub false), (.fmul, fp32.mul false), (.fmax, fp32.max false),
      (.fmin, fp32.min false)] : List (Short × (Mode → Nat → Nat → Rounded))),
    ∀ s c w a d, Issuing s c w → Clear c w (uses2 (shortCode a) (d.setWidth 7) d 1 1) → Readable s c w [shortCode a] →
      exec (e.1 a d) s = .next (laneDone s c w fun t th =>
        wrote32 0 d th (e.2 (Mode.of w.frm.toNat) (th.vreg d.toNat).toNat (s.val c w t (shortCode a)).toNat))) ∧
  ∀ s c w a d, Issuing s c w → Clear c w (uses2 0x60 (shortCode a) d 1 1) → Readable s c w [shortCode a, 0x60] →
    exec (.fmac a d) s = .next (laneDone s c w fun t th =>
      wrote32 0 d th (fp32.fma false false false (Mode.of w.frm.toNat) (s.val c w t (shortCode a)).toNat
        (s.val c w t 0x60).toNat (th.vreg d.toNat).toNat))

/-- R180, R201: VCMP and FCMP write the relation of their sources into the predicate, in every taking-part thread; FCMP
raises NV where its relation does. -/
def Obligations.CompareResults : Prop :=
  (∀ e ∈ ([(.vcmpEq, fun x y => decide (x = y)), (.vcmpNe, fun x y => decide (x ≠ y)),
      (.vcmpLt, fun x y => decide (x.toInt < y.toInt)), (.vcmpLe, fun x y => decide (x.toInt ≤ y.toInt)),
      (.vcmpLtn, fun x y => decide (x.toNat < y.toNat)), (.vcmpLen, fun x y => decide (x.toNat ≤ y.toNat))] :
        List (Compare × (Word → Word → Bool))),
    ∀ s c w b a p, Issuing s c w → Clear c w ((useSrc a 1).and (useSrc b 1)) → Readable s c w [a, b] →
      exec (e.1 b a p) s = .next (laneDone s c w fun t th =>
        (th.setP p.toNat (e.2 (s.val c w t a) (s.val c w t b)), Raised.none))) ∧
  (∀ e ∈ ([(.vcmpEq64, fun x y => decide (x = y)), (.vcmpLt64, fun x y => decide (x.toInt < y.toInt)),
      (.vcmpLtn64, fun x y => decide (x.toNat < y.toNat))] : List (Compare × (Dword → Dword → Bool))),
    ∀ s c w b a p, Issuing s c w → Clear c w ((useSrc a 2).and (useSrc b 2)) → Readable64 s c w false [a, b] →
      exec (e.1 b a p) s = .next (laneDone s c w fun t th =>
        (th.setP p.toNat (e.2 (s.val64 c w false t a) (s.val64 c w false t b)), Raised.none))) ∧
  (∀ e ∈ ([(.fcmpEq, fp32.eq), (.fcmpNe, fp32.ne), (.fcmpLt, fp32.lt), (.fcmpLe, fp32.le), (.fcmpUn, fp32.un)] :
        List (Compare × (Nat → Nat → Bool × Bool))),
    ∀ s c w b a p, Issuing s c w → Clear c w ((useSrc a 1).and (useSrc b 1)) → Readable s c w [a, b] →
      exec (e.1 b a p) s = .next (laneDone s c w fun t th =>
        let r := e.2 (s.val c w t a).toNat (s.val c w t b).toNat
        (th.setP p.toNat r.1, { Raised.none with nv := r.2 }))) ∧
  ∀ e ∈ ([(.fcmpDeq, fp64.eq), (.fcmpDne, fp64.ne), (.fcmpDlt, fp64.lt), (.fcmpDle, fp64.le), (.fcmpDun, fp64.un)] :
        List (Compare × (Nat → Nat → Bool × Bool))),
    ∀ s c w b a p, Issuing s c w → Clear c w ((useSrc a 2).and (useSrc b 2)) → Readable64 s c w true [a, b] →
      FullService s w →
      exec (e.1 b a p) s = .next (laneDone s c w fun t th =>
        let r := e.2 (s.val64 c w true t a).toNat (s.val64 c w true t b).toNat
        (th.setP p.toNat r.1, { Raised.none with nv := r.2 }))

/-! ## Floating point -/

/-- R198, R199, R203, R208, R209: FALU, FFMA, `fspec.div`, `frnd.ldexp` and HALU2, rounded in the mode of `frm` (R49). The
fused forms add the product of the sources to the old D with one rounding. -/
def Obligations.FloatLaneResults : Prop :=
  ((∀ e ∈ ([(.faluAdd, fp32.add false), (.faluSub, fp32.sub false), (.faluMul, fp32.mul false), (.faluMin, fp32.min false),
       (.faluMax, fp32.max false), (.faluAddFtz, fp32.add true), (.faluSubFtz, fp32.sub true), (.faluMulFtz, fp32.mul true),
       (.faluMinFtz, fp32.min true), (.faluMaxFtz, fp32.max true), (.fspecDiv, fp32.div false), (.frndLdexp, fp32.ldexp),
       (.halu2Bf16Add, packed2 (bf16.add false)), (.halu2Bf16Sub, packed2 (bf16.sub false)),
       (.halu2Bf16Mul, packed2 (bf16.mul false)), (.halu2Bf16Min, packed2 (bf16.min false)),
       (.halu2Bf16Max, packed2 (bf16.max false)), (.halu2Bf16Pack, packPair bf16)] :
         List (Form2 × (Mode → Nat → Nat → Rounded))),
     ∀ s c w b a nw d, Issuing s c w → Clear c w (uses2 b a d 1 1) → Readable s c w [a, b] →
       exec (e.1 b a nw d) s = .next (laneDone s c w fun t th =>
         wrote32 nw d th (e.2 (Mode.of w.frm.toNat) (s.val c w t a).toNat (s.val c w t b).toNat))) ∧
   (∀ e ∈ ([(.halu2F16Add, packed2 (fp16.add false)), (.halu2F16Sub, packed2 (fp16.sub false)),
       (.halu2F16Mul, packed2 (fp16.mul false)), (.halu2F16Min, packed2 (fp16.min false)),
       (.halu2F16Max, packed2 (fp16.max false)), (.halu2F16Pack, packPair fp16)] :
         List (Form2 × (Mode → Nat → Nat → Rounded))),
     ∀ s c w b a nw d, Issuing s c w → Clear c w (uses2 b a d 1 1) → Readable s c w [a, b] → FullService s w →
       exec (e.1 b a nw d) s = .next (laneDone s c w fun t th =>
         wrote32 nw d th (e.2 (Mode.of w.frm.toNat) (s.val c w t a).toNat (s.val c w t b).toNat))) ∧
   ∀ s c w b a nw d, Issuing s c w → Clear c w (uses2 b a d 1 1) → Readable s c w [a, b] →
     exec (.faluCpys b a nw d) s = .next (laneDone s c w fun t th =>
       wrote nw d th [(s.val c w t a &&& 0x7FFFFFFF) ||| (s.val c w t b &&& 0x80000000)])) ∧
  (∀ e ∈ ([(.ffmaFma, fp32.fma false false false), (.ffmaFms, fp32.fma false false true),
      (.ffmaFnma, fp32.fma false true false), (.ffmaFnms, fp32.fma false true true),
      (.ffmaFmaFtz, fp32.fma true false false), (.ffmaFmsFtz, fp32.fma true false true),
      (.ffmaFnmaFtz, fp32.fma true true false), (.ffmaFnmsFtz, fp32.fma true true true),
      (.halu2Bf16Fma, packed3 (bf16.fma false false false))] : List (Form2 × (Mode → Nat → Nat → Nat → Rounded))),
    ∀ s c w b a nw d, Issuing s c w → Clear c w (uses2 b a d 1 1) → Readable s c w [a, b] →
      exec (e.1 b a nw d) s = .next (laneDone s c w fun t th =>
        wrote32 nw d th (e.2 (Mode.of w.frm.toNat) (s.val c w t a).toNat (s.val c w t b).toNat (th.vreg d.toNat).toNat))) ∧
  (∀ s c w b a nw d, Issuing s c w → Clear c w (uses2 b a d 1 1) → Readable s c w [a, b] → FullService s w →
    exec (.halu2F16Fma b a nw d) s = .next (laneDone s c w fun t th =>
      wrote32 nw d th (packed3 (fp16.fma false false false) (Mode.of w.frm.toNat) (s.val c w t a).toNat
        (s.val c w t b).toNat (th.vreg d.toNat).toNat)))

/-- R199, R200, R208: DFMA, DALU and the FP64 `ldexp` on pairs, where the stack runs at full service (R389). -/
def Obligations.DoubleLaneResults : Prop :=
  ((∀ e ∈ ([(.daluAdd, fp64.add false), (.daluSub, fp64.sub false), (.daluMul, fp64.mul false), (.daluMin, fp64.min false),
       (.daluMax, fp64.max false), (.daluDiv, fp64.div false), (.daluAddFtz, fp64.add true), (.daluSubFtz, fp64.sub true),
       (.daluMulFtz, fp64.mul true), (.daluMinFtz, fp64.min true), (.daluMaxFtz, fp64.max true),
       (.daluDivFtz, fp64.div true)] : List (Form2 × (Mode → Nat → Nat → Rounded))),
     ∀ s c w b a nw d, Issuing s c w → Clear c w (uses2 b a d 2 2) → Readable64 s c w true [a, b] → FullService s w →
       exec (e.1 b a nw d) s = .next (laneDone s c w fun t th =>
         wrote64 nw d th (e.2 (Mode.of w.frm.toNat) (s.val64 c w true t a).toNat (s.val64 c w true t b).toNat))) ∧
   (∀ e ∈ ([(.daluSqrt, fp64.sqrt false), (.daluSqrtFtz, fp64.sqrt true)] : List (Form1 × (Mode → Nat → Rounded))),
     ∀ s c w a nw d, Issuing s c w → Clear c w (uses1 a d 2 2) → Readable64 s c w true [a] → FullService s w →
       exec (e.1 a nw d) s = .next (laneDone s c w fun t th =>
         wrote64 nw d th (e.2 (Mode.of w.frm.toNat) (s.val64 c w true t a).toNat))) ∧
   ∀ s c w b a nw d, Issuing s c w → Clear c w ((useSrc a 2).and ((useSrc b 1).and (useV d.toNat 2))) →
     Readable64 s c w true [a] → Readable s c w [b] → FullService s w →
     exec (.frndLdexpF64 b a nw d) s = .next (laneDone s c w fun t th =>
       wrote64 nw d th (fp64.ldexp (Mode.of w.frm.toNat) (s.val64 c w true t a).toNat (s.val c w t b).toNat))) ∧
  ∀ e ∈ ([(.dfmaFma, fp64.fma false false false), (.dfmaFms, fp64.fma false false true),
      (.dfmaFnma, fp64.fma false true false), (.dfmaFnms, fp64.fma false true true),
      (.dfmaFmaFtz, fp64.fma true false false), (.dfmaFmsFtz, fp64.fma true false true),
      (.dfmaFnmaFtz, fp64.fma true true false), (.dfmaFnmsFtz, fp64.fma true true true)] :
        List (Form2 × (Mode → Nat → Nat → Nat → Rounded))),
    ∀ s c w b a nw d, Issuing s c w → Clear c w (uses2 b a d 2 2) → Readable64 s c w true [a, b] → FullService s w →
      exec (e.1 b a nw d) s = .next (laneDone s c w fun t th =>
        wrote64 nw d th (e.2 (Mode.of w.frm.toNat) (s.val64 c w true t a).toNat (s.val64 c w true t b).toNat
          (th.vpair d.toNat).toNat))

/-- R202, R203: FSPEC. `rcp` is the quotient of 1 and the source, and `sqrt` is rounded in the mode of `frm`; `rsqrt`, `exp2` and
`log2` are correctly rounded. `sin`, `cos` and `tanh` are faithful: of the two neighbours of the exact value a free function of
the operand picks one (log 7; log 32, DEDUCED). -/
def Obligations.SpecialFunctionResults : Prop :=
  ∀ e ∈ ([(.fspecRcp, fun m x => fp32.div false m 0x3F800000 x), (.fspecSqrt, fp32.sqrt false),
      (.fspecRsqrt, fun _ x => rsqrt32 x), (.fspecExp2, fun _ x => exp2of32 x), (.fspecLog2, fun _ x => log2of32 x),
      (.fspecSin, fun _ x => sinOf32 5 0 x), (.fspecCos, fun _ x => sinOf32 6 1 x), (.fspecTanh, fun _ x => tanh32 x)] :
        List (Form1 × (Mode → Nat → Rounded))),
    ∀ s c w a nw d, Issuing s c w → Clear c w (uses1 a d 1 1) → Readable s c w [a] →
      exec (e.1 a nw d) s = .next (laneDone s c w fun t th =>
        wrote32 nw d th (e.2 (Mode.of w.frm.toNat) (s.val c w t a).toNat))

/-- R204, R206 to R208: conversions and FRND forms with one source. The four lists are those of one register giving one, one
giving two, two giving one, and two giving two; the bit says whether the form needs full service (R389). -/
def Obligations.ConversionResults : Prop :=
  (∀ e ∈ ([(fun _ => .fcvtF32F16, true, fun _ x => convert fp16 fp32 .rne (x % 65536)),
      (.fcvtF16F32, true, fun m x => convert fp32 fp16 m x), (.fcvtBf16F32, false, fun m x => convert fp32 bf16 m x),
      (fun _ => .fcvtF32Bf16, false, fun _ x => convert bf16 fp32 .rne (x % 65536)),
      (.fcvtS32F32, false, fun m x => fp32.toInteger true 32 m x), (.fcvtN32F32, false, fun m x => fp32.toInteger false 32 m x),
      (.fcvtF32S32, false, fun m x => fp32.ofInteger true 32 m x), (.fcvtF32N32, false, fun m x => fp32.ofInteger false 32 m x),
      (.frndRnd, false, fun m x => fp32.integral m x), (fun _ => .frndCls, false, fun _ x => exactly (fp32.classOf x)),
      (fun _ => .frndFrexpm, false, fun _ x => fp32.frexpm x), (fun _ => .frndFrexpe, false, fun _ x => fp32.frexpe x)] :
        List ((BitVec 2 → Form1) × Bool × (Mode → Nat → Rounded))),
    ∀ s c w r a nw d, Issuing s c w → Clear c w (uses1 a d 1 1) → Readable s c w [a] → (e.2.1 = true → FullService s w) →
      exec (e.1 r a nw d) s = .next (laneDone s c w fun t th =>
        wrote32 nw d th (e.2.2 (Mode.of r.toNat) (s.val c w t a).toNat))) ∧
  (∀ e ∈ ([(.fcvtF64F32, fun x => convert fp32 fp64 .rne x), (.fcvtF64S32, fun x => fp64.ofInteger true 32 .rne x)] :
        List (Form1 × (Nat → Rounded))),
    ∀ s c w a nw d, Issuing s c w → Clear c w (uses1 a d 1 2) → Readable s c w [a] → FullService s w →
      exec (e.1 a nw d) s = .next (laneDone s c w fun t th => wrote64 nw d th (e.2 (s.val c w t a).toNat))) ∧
  (∀ e ∈ ([(.fcvtF32F64, fun m x => convert fp64 fp32 m x), (.fcvtS32F64, fun m x => fp64.toInteger true 32 m x),
      (fun _ => .frndClsF64, fun _ x => exactly (fp64.classOf x)), (fun _ => .frndFrexpeF64, fun _ x => fp64.frexpe x)] :
        List ((BitVec 2 → Form1) × (Mode → Nat → Rounded))),
    ∀ s c w r a nw d, Issuing s c w → Clear c w (uses1 a d 2 1) → Readable64 s c w true [a] → FullService s w →
      exec (e.1 r a nw d) s = .next (laneDone s c w fun t th =>
        wrote32 nw d th (e.2 (Mode.of r.toNat) (s.val64 c w true t a).toNat))) ∧
  ∀ e ∈ ([(.fcvtS64F64, true, fun m x => fp64.toInteger true 64 m x), (.fcvtN64F64, true, fun m x => fp64.toInteger false 64 m x),
      (.fcvtF64S64, false, fun m x => fp64.ofInteger true 64 m x), (.fcvtF64N64, false, fun m x => fp64.ofInteger false 64 m x),
      (.frndRndF64, true, fun m x => fp64.integral m x), (fun _ => .frndFrexpmF64, true, fun _ x => fp64.frexpm x)] :
        List ((BitVec 2 → Form1) × Bool × (Mode → Nat → Rounded))),
    ∀ s c w r a nw d, Issuing s c w → Clear c w (uses1 a d 2 2) → Readable64 s c w e.2.1 [a] → FullService s w →
      exec (e.1 r a nw d) s = .next (laneDone s c w fun t th =>
        wrote64 nw d th (e.2.2 (Mode.of r.toNat) (s.val64 c w e.2.1 t a).toNat))

/-- R210 to R212: QCVT packs four quantised registers of its group into D; QDEC gives four FP32 registers, or two registers
of packed 16-bit elements. The flags of all four elements accrue. -/
def Obligations.NarrowFormatResults : Prop :=
  (∀ e ∈ ([(.qcvtE4m3n, .e4m3n), (.qcvtE5m2n, .e5m2n), (.qcvtDm8, .dm8)] :
        List ((BitVec 1 → BitVec 7 → BitVec 4 → BitVec 2 → BitVec 1 → BitVec 6 → Instr) × Narrow)),
    ∀ s c w sat b g r nw d, Issuing s c w → Clear c w ((useSrc b 1).and ((useV (4 * g.toNat) 4).and (useV d.toNat 1))) →
      Readable s c w [b] → FullService s w →
      exec (e.1 sat b g r nw d) s = .next (laneDone s c w fun t th =>
        let q := fun i => e.2.quantise (Mode.of r.toNat) (sat == 1) (th.vreg (4 * g.toNat + i)).toNat (s.val c w t b).toNat
        (th.result (nw == 1) d.toNat [BitVec.ofNat 32 (packElements 8 [(q 0).1, (q 1).1, (q 2).1, (q 3).1])],
          ((((Raised.none.or (q 0).2).or (q 1).2).or (q 2).2).or (q 3).2)))) ∧
  (∀ e ∈ ([(.qdecE4m3nF32, .e4m3n), (.qdecE5m2nF32, .e5m2n), (.qdecDm8F32, .dm8)] : List (Form2 × Narrow)),
    ∀ s c w b a nw d, Issuing s c w → Clear c w (uses2 b a d 1 4) → Readable s c w [a, b] → FullService s w →
      exec (e.1 b a nw d) s = .next (laneDone s c w fun t th =>
        let q := fun i => e.2.decode fp32 (elementOf 8 (s.val c w t a).toNat i) (s.val c w t b).toNat
        (th.result (nw == 1) d.toNat [BitVec.ofNat 32 (q 0).1, BitVec.ofNat 32 (q 1).1, BitVec.ofNat 32 (q 2).1,
          BitVec.ofNat 32 (q 3).1], ((((Raised.none.or (q 0).2).or (q 1).2).or (q 2).2).or (q 3).2)))) ∧
  ∀ e ∈ ([(.qdecE4m3nBf16, .e4m3n, bf16), (.qdecE5m2nBf16, .e5m2n, bf16), (.qdecDm8Bf16, .dm8, bf16),
      (.qdecE4m3nF16, .e4m3n, fp16), (.qdecE5m2nF16, .e5m2n, fp16), (.qdecDm8F16, .dm8, fp16)] :
        List (Form2 × Narrow × Fmt)),
    ∀ s c w b a nw d, Issuing s c w → Clear c w (uses2 b a d 1 2) → Readable s c w [a, b] → FullService s w →
      exec (e.1 b a nw d) s = .next (laneDone s c w fun t th =>
        let q := fun i => e.2.1.decode e.2.2 (elementOf 8 (s.val c w t a).toNat i) (s.val c w t b).toNat
        (th.result (nw == 1) d.toNat [BitVec.ofNat 32 (packElements 16 [(q 0).1, (q 1).1]),
          BitVec.ofNat 32 (packElements 16 [(q 2).1, (q 3).1])], ((((Raised.none.or (q 0).2).or (q 1).2).or (q 2).2).or (q 3).2)))

/-- R213 to R216: CMPR keeps the two elements of highest rank of each four, records which, and rebuilds groups. It raises no
flag. That `cmpr.exp16` needs no full service is the model's reading of R389 (log 36, DEDUCED). -/
def Obligations.TwoOfFourResults : Prop :=
  (∀ s c w (f : BitVec 1) a nw d, Issuing s c w → Clear c w (uses1 a d 2 1) → Readable64 s c w false [a] →
    (f = 1 → FullService s w) →
    exec (.cmprComp16 f a nw d) s = .next (laneDone s c w fun t th => wrote nw d th
      [BitVec.ofNat 32 (keptElements 16 (rank16 (halfFormat f)) (group16 (s.val64 c w false t a)))]) ∧
    exec (.cmprMeta16 f a nw d) s = .next (laneDone s c w fun t th => wrote nw d th
      [BitVec.ofNat 32 ((th.vreg d.toNat).toNat / 2 ^ 4 +
        2 ^ 28 * nibbleOf (keptPair (rank16 (halfFormat f)) (group16 (s.val64 c w false t a))))])) ∧
  (∀ s c w a nw d, Issuing s c w → Clear c w (uses1 a d 2 1) → Readable64 s c w false [a] → FullService s w →
    exec (.cmprComp8 a nw d) s = .next (laneDone s c w fun t th => wrote nw d th
      [BitVec.ofNat 32 (keptElements 8 rank8 (group8 (lowWord (s.val64 c w false t a))) +
        2 ^ 16 * keptElements 8 rank8 (group8 (highWord (s.val64 c w false t a))))]) ∧
    exec (.cmprMeta8 a nw d) s = .next (laneDone s c w fun t th => wrote nw d th
      [BitVec.ofNat 32 ((th.vreg d.toNat).toNat / 2 ^ 8 +
        2 ^ 28 * nibbleOf (keptPair rank8 (group8 (highWord (s.val64 c w false t a)))) +
        2 ^ 24 * nibbleOf (keptPair rank8 (group8 (lowWord (s.val64 c w false t a)))))])) ∧
  (∀ s c w b a nw d, Issuing s c w → Clear c w (uses2 b a d 1 2) → Readable s c w [a, b] →
    exec (.cmprExp16 b a nw d) s = .next (laneDone s c w fun t th =>
      let x := (s.val c w t a).toNat
      let g := expandGroup ((s.val c w t b).toNat % 16) (elementOf 16 x 0) (elementOf 16 x 1)
      wrote nw d th [BitVec.ofNat 32 (packElements 16 (g.take 2)), BitVec.ofNat 32 (packElements 16 (g.drop 2))])) ∧
  ∀ s c w b a nw d, Issuing s c w → Clear c w (uses2 b a d 1 2) → Readable s c w [a, b] → FullService s w →
    exec (.cmprExp8 b a nw d) s = .next (laneDone s c w fun t th =>
      let x := (s.val c w t a).toNat
      let y := (s.val c w t b).toNat
      wrote nw d th [BitVec.ofNat 32 (packElements 8 (expandGroup (y % 16) (elementOf 8 x 0) (elementOf 8 x 1))),
        BitVec.ofNat 32 (packElements 8 (expandGroup (y / 16 % 16) (elementOf 8 x 2) (elementOf 8 x 3)))])

/-- R217 to R222: a GEO form whose coordinates are all finite writes the sign of its exact determinant, perturbed by the
keys of a `.sym` form; `segx` writes whether two segments cross. -/
def Obligations.GeometricResults : Prop :=
  (∀ e ∈ ([(.geoOrient2, 3, 2, false), (.geoOrient3, 4, 3, false), (.geoIncircle, 4, 2, true), (.geoInsphere, 5, 3, true)] :
        List ((BitVec 1 → BitVec 7 → BitVec 1 → BitVec 6 → BitVec 1 → BitVec 6 → Instr) × Nat × Nat × Bool)),
    ∀ s c w sym b x a nw d, Issuing s c w → Clear c w (geoUses sym b x a d (e.2.1 * e.2.2.1)) →
      (sym = 1 → Readable s c w [b]) → (x = 1 → FullService s w) → FiniteCoordinates c w x a (e.2.1 * e.2.2.1) →
      exec (e.1 sym b x a nw d) s = .next (laneDone s c w fun t th =>
        wrote nw d th [BitVec.ofInt 32 (geoSign e.2.2.2 (points th x a e.2.1 e.2.2.1)
          (if sym = 1 then some ((List.range e.2.1).map (elementOf 4 (s.val c w t b).toNat)) else none))])) ∧
  ∀ s c w x a nw d, Issuing s c w → Clear c w (geoUses 0 0 x a d 8) → (x = 1 → FullService s w) → FiniteCoordinates c w x a 8 →
    exec (.geoSegx x a nw d) s = .next (laneDone s c w fun _ th =>
      wrote nw d th [BitVec.ofInt 32 (geoCross (points th x a 4 2))])

/-! ## Votes, exchanges and uniform instructions -/

/-- R181 to R183: the predicate forms and the votes over the taking-part threads. A shuffle delivers the value of the
source thread, when it takes part, else the thread's own; `bcast` delivers that of the lowest thread that takes part. -/
def Obligations.VoteAndExchangeResults : Prop :=
  ((∀ e ∈ ([(.predAnd, fun x y => x && y), (.predOr, fun x y => x || y), (.predXor, fun x y => x != y),
       (.predAndn, fun x y => x && !y)] : List ((BitVec 4 → BitVec 4 → BitVec 3 → Instr) × (Bool → Bool → Bool))),
     ∀ s c w b a p, Issuing s c w → Clear c w Uses.none →
       exec (e.1 b a p) s = .next (laneDone s c w fun _ th =>
         (th.setP p.toNat (e.2 (th.selector a) (th.selector b)), Raised.none))) ∧
   (∀ e ∈ ([(.predAny, fun l => l.any id), (.predAll, fun l => l.all id), (.predUni, fun l => l.all id || l.all not)] :
         List ((BitVec 4 → BitVec 3 → Instr) × (List Bool → Bool))),
     ∀ s c w a p, Issuing s c w → Clear c w Uses.none →
       exec (e.1 a p) s = .next (laneDone s c w fun _ th =>
         (th.setP p.toNat (e.2 ((threadsOf c.taking).map fun t => (w.thread t).selector a)), Raised.none))) ∧
   (∀ s c w a nw d, Issuing s c w → Clear c w (useV d.toNat 1) →
     exec (.predBallot a nw d) s = .next (laneDone s c w fun _ th =>
       wrote nw d th [maskOf fun t => inMask c.taking t && (w.thread t).selector a])) ∧
   (∀ s c w nw d, Issuing s c w → Clear c w (useV d.toNat 1) →
     exec (.predTov nw d) s = .next (laneDone s c w fun _ th => wrote nw d th [th.p.setWidth 32])) ∧
   ∀ s c w a, Issuing s c w → Clear c w (useSrc a 1) → Readable s c w [a] →
     exec (.predFromv a) s = .next (laneDone s c w fun t th =>
       ({ th with p := (s.val c w t a).setWidth 8 }, Raised.none))) ∧
  (∀ e ∈ ([(.xchShfl, fun _ n => some n), (.xchShup, fun t n => if n ≤ t then some (t - n) else none),
      (.xchShdn, fun t n => some (t + n)), (.xchShxor, fun t n => some (t ^^^ n))] :
        List (Form2 × (Nat → Nat → Option Nat))),
    ∀ s c w b a nw d, Issuing s c w → Clear c w (uses2 b a d 1 1) → Readable s c w [a, b] →
      exec (e.1 b a nw d) s = .next (laneDone s c w fun t th => wrote nw d th
        [match e.2 t ((s.val c w t b).toNat % 32) with
          | some k => if inMask c.taking k then s.val c w k a else s.val c w t a
          | none => s.val c w t a])) ∧
  ∀ s c w a nw d, Issuing s c w → Clear c w (uses1 a d 1 1) → Readable s c w [a] →
    exec (.xchBcast a nw d) s = .next (laneDone s c w fun _ th =>
      wrote nw d th [((lowestOf c.taking).map fun k => s.val c w k a).getD 0])

/-- R68, R184: a reduction gives every taking-part thread the value of the butterfly over the threads that take part; of a
floating-point one, a NaN is canonical. -/
def Obligations.ReductionResults : Prop :=
  (∀ e ∈ ([(.xchRadd, fun x y => x + y), (.xchRmin, fun x y => if x.toInt ≤ y.toInt then x else y),
      (.xchRmax, fun x y => if x.toInt ≤ y.toInt then y else x), (.xchRminn, fun x y => if x.toNat ≤ y.toNat then x else y),
      (.xchRmaxn, fun x y => if x.toNat ≤ y.toNat then y else x), (.xchRand, fun x y => x &&& y),
      (.xchRior, fun x y => x ||| y), (.xchRxor, fun x y => x ^^^ y)] : List (Form1 × (Word → Word → Word))),
    ∀ s c w a nw d, Issuing s c w → Clear c w (uses1 a d 1 1) → Readable s c w [a] →
      exec (e.1 a nw d) s = .next (laneDone s c w fun t th => wrote nw d th
        [(butterfly e.2 ((List.range 32).map fun k => if inMask c.taking k then some (s.val c w k a) else none)).getD
          (s.val c w t a)])) ∧
  ∀ e ∈ ([(.xchRfadd, fp32.add false .rne), (.xchRfmin, fp32.min false .rne), (.xchRfmax, fp32.max false .rne)] :
        List (Form1 × (Nat → Nat → Rounded))),
    ∀ s c w a nw d, Issuing s c w → Clear c w (uses1 a d 1 1) → Readable s c w [a] →
      exec (e.1 a nw d) s = .next (laneDone s c w fun t th =>
        let r := (butterfly (fun p q =>
            let x := e.2 p.1.toNat q.1.toNat
            (BitVec.ofNat 32 x.1, (p.2.or q.2).or x.2))
          ((List.range 32).map fun k => if inMask c.taking k then some (s.val c w k a, Raised.none) else none)).getD
            (s.val c w t a, Raised.none)
        (th.result (nw == 1) d.toNat [if (fp32.value r.1.toNat).isNan then 0x7FC00000 else r.1], r.2))

/-- R176 to R180, R194: SMISC, SCMP, SLOGI, SLIH and `ctrl.clk` write s(D), or its pair, once for the issue. A relation
gives 1 or 0; `ctrl.clk` gives the cycle counter as the issue sampled it. -/
def Obligations.UniformResults : Prop :=
  ((∀ e ∈ ([(.smiscDivn, fun x y => if y = 0 then 0xFFFFFFFF else x / y), (.smiscRemn, fun x y => if y = 0 then x else x % y),
       (.smiscMulhn, fun x y => BitVec.ofNat 32 (x.toNat * y.toNat / 2 ^ 32)),
       (.smiscRot, fun x y => x.rotateLeft (y.toNat % 32)),
       (.scmpEq, fun x y => if x = y then 1 else 0), (.scmpNe, fun x y => if x ≠ y then 1 else 0),
       (.scmpLt, fun x y => if x.toInt < y.toInt then 1 else 0), (.scmpLe, fun x y => if x.toInt ≤ y.toInt then 1 else 0),
       (.scmpLtn, fun x y => if x.toNat < y.toNat then 1 else 0), (.scmpLen, fun x y => if x.toNat ≤ y.toNat then 1 else 0)] :
         List (Uniform2 × (Word → Word → Word))),
     ∀ s c w b a d, Issuing s c w → Clear c w (uniUses2 b a d 1 1) →
       exec (e.1 b a d) s = .next (uniformDone s c (w.setS d.toNat (e.2 (s.uval c w a) (s.uval c w b))))) ∧
   (∀ e ∈ ([(.smiscClz, aluClz), (.smiscCtz, aluCtz), (.smiscPopc, aluPopc), (.smiscBrev, aluBrev),
       (.smiscSext8, fun x => (x.setWidth 8).signExtend 32), (.smiscSext16, fun x => (x.setWidth 16).signExtend 32)] :
         List (Uniform1 × (Word → Word))),
     ∀ s c w a d, Issuing s c w → Clear c w (uniUses1 a d 1 1) →
       exec (e.1 a d) s = .next (uniformDone s c (w.setS d.toNat (e.2 (s.uval c w a)))))) ∧
  (∀ e ∈ ([(.slogiAnd, fun x y => x &&& y), (.slogiOr, fun x y => x ||| y), (.slogiXor, fun x y => x ^^^ y),
      (.slogiShl, fun x y => x <<< (y.toNat % 32)), (.slogiShr, fun x y => x >>> (y.toNat % 32)),
      (.slogiSra, fun x y => x.sshiftRight (y.toNat % 32)), (.slogiClr, fun x y => x &&& ~~~y)] :
        List ((BitVec 14 → BitVec 6 → Instr) × (Word → Word → Word))),
    ∀ s c w i d, Issuing s c w → Clear c w ((useS d.toNat 1).and (useD d.toNat 1)) →
      exec (e.1 i d) s = .next (uniformDone s c (w.setS d.toNat (e.2 (w.sreg d.toNat) (i.setWidth 32))))) ∧
  (∀ s c w i d, Issuing s c w → Clear c w (useD d.toNat 1) →
    exec (.slih i d) s = .next (uniformDone s c (w.setS d.toNat (i.setWidth 32 <<< 14)))) ∧
  (∀ e ∈ ([(.smiscAdd64, fun x y => x + y), (.smiscSub64, fun x y => x - y)] : List (Uniform2 × (Dword → Dword → Dword))),
    ∀ s c w b a d, Issuing s c w → Clear c w (uniUses2 b a d 2 2) →
      exec (e.1 b a d) s = .next (uniformDone s c (w.setSPair d.toNat (e.2 (s.uval64 c w a) (s.uval64 c w b))))) ∧
  (∀ s c w b a d, Issuing s c w →
    Clear c w ((useUni a 1).and ((useUni b 1).and ((useS d.toNat 1).and (useD d.toNat 1)))) →
    exec (.smiscMad b a d) s =
      .next (uniformDone s c (w.setS d.toNat (w.sreg d.toNat + s.uval c w a * s.uval c w b)))) ∧
  (∀ s c w b a d, Issuing s c w →
    Clear c w ((useUni a 1).and ((useUni b 1).and ((useS d.toNat 2).and (useD d.toNat 2)))) →
    exec (.smiscMad64 b a d) s = .next (uniformDone s c (w.setSPair d.toNat
      (w.spair d.toNat + BitVec.ofNat 64 ((s.uval c w a).toNat * (s.uval c w b).toNat))))) ∧
  ∀ s c w d, Issuing s c w → Clear c w (useD d.toNat 2) →
    exec (.ctrlClk d) s = .next (uniformDone s c (w.setSPair d.toNat c.clk))

/-! ## Control -/

/-- R129, R186 to R188: `br` sends each thread of the group to its target or on; `call` puts the next PC into v62:v63 and
sends every thread to its target; a jump goes to the even target in its source pair, `jcall` with the next PC in its
destination pair. A thread whose target is odd takes cause 0x04, sub-cause 2, with the target as its address, and is left as
it was while the others jump. A branch that a thread takes, a call, and a jump that a thread makes are switch points (R28). -/
def Obligations.BranchResults : Prop :=
  ((∀ s c w i n p, Issuing s c w →
     exec (.br i n p) s =
       let takes := fun (th : Thread) => (p = 7 && n = 1) || (th.pred p.toNat != (n == 1))
       let t := s.setWarp c.warp (w.onThreads c.group fun th =>
         { th with pc := if takes th then c.pc + 2 * i.signExtend 64 else c.next })
       .next { t with switch := s.switch || (threadsOf c.group).any fun k => takes (w.thread k) }) ∧
   ∀ s c w i, Issuing s c w → Clear c w (useV 62 2) →
     exec (.call i) s = .next (s.switched.setWarp c.warp (w.onThreads c.group fun th =>
       { th.setVs 62 [lowWord c.next, highWord c.next] with pc := c.pc + 2 * i.signExtend 64 }))) ∧
  ∀ s c w a link i, (link = none ∧ (i = .jrJmp a ∨ i = .jrRet a)) ∨ (∃ d, link = some d ∧ i = .jrJcall a d) →
    Issuing s c w → Clear c w (linkUses a link) → c.held = none →
    let target := fun t => s.val64 c w false t a
    let bad := (threadsOf c.taking).filter fun t => (target t).getLsbD 0
    let linked := fun (th : Thread) => match link with
      | some d => th.setVs d.toNat [lowWord c.next, highWord c.next]
      | none => th
    let jumped := s.setWarp c.warp (w.mapThreads fun t th =>
      if inMask c.taking t then (if (target t).getLsbD 0 then th else { linked th with pc := target t })
      else if inMask c.group t then { th with pc := c.next } else th)
    (bad = [] → exec i s = .next jumped.switched) ∧
    (bad ≠ [] → exec i s = .next (({ jumped with
      switch := s.switch || (threadsOf c.taking).any fun t => !(target t).getLsbD 0 }).raise c
        (bad.map fun t => (t, trapAt 4 2 (target t)))))

/-- R32, R33, R139, R189 to R192: `nop`, `yield` and `exit`, the guard, which leaves in the taking-part set the threads of
the group whose predicate holds, and the convergence barriers: `cvb.arm` adds the taking-part threads to M, `cvb.drop` takes
them out of the barriers of its mask, and `cvb.wait` lets threads outside M pass with predicate false and adds the others
to Z, each with a timeout when the limit is not 0; each ends with the check of R32: a barrier all of whose members have arrived,
or that has none, becomes free, and its arrived threads go on with predicate false. What a drop leaves of every barrier and of
the threads that wait there; and what `exit` leaves: threads finished and out of every barrier, and a launch whose release
covers what they have seen. -/
def Obligations.ControlResults : Prop :=
  ((∀ s c w, Issuing s c w → Clear c w Uses.none →
     exec .ctrlNop s = .next (s.advance c c.group) ∧
     exec .ctrlYield s = .next ((s.switched.onLane w fun l => { l with gave := true }).advance c c.group) ∧
     exec .ctrlExit s = .next ((s.switched.advance c (c.group &&& ~~~c.taking)).finishThreads c.warp c.taking)) ∧
   ∀ s c w n p, Issuing s c w →
     exec (.guard n p) s =
       .next { s with cur := some { c with taking := c.group &&& w.where_ fun th => th.pred p.toNat != (n == 1) } }) ∧
  (∀ s c w n, Issuing s c w → Clear c w Uses.none →
    exec (.cvbArm n) s = .next ((s.setWarp c.warp ((w.setBar n.toNat
      { w.bar n.toNat with m := (w.bar n.toNat).m ||| c.taking }).settleBar n.toNat)).advance c c.group)) ∧
  (∀ s c w h l m, Issuing s c w → Clear c w Uses.none →
    exec (.cvbDrop h l m) s =
      .next ((s.setWarp c.warp (w.dropBars c.taking (m ++ h ++ l))).advance c c.group)) ∧
  (∀ (w : Warp) (n : Nat), let b := w.bar n
    let u := w.settleBar n
    (b.m &&& ~~~b.z ≠ 0 → u = w) ∧
    (b.m &&& ~~~b.z = 0 → u.bar n = Barrier.init ∧ (∀ j, j ≠ n → u.bar j = w.bar j) ∧
      ∀ i < 32, (inMask b.z i = false → u.thread i = w.thread i) ∧ ∀ k next, inMask b.z i = true →
        (w.thread i).status = .converge n k next → u.thread i = { (w.thread i).setP k false with status := .ready, pc := next })) ∧
  (∀ (w : Warp) (ts : Word) (mask : BitVec 16),
    let left := fun (n : Nat) => ({ m := (w.bar n).m &&& ~~~ts, z := (w.bar n).z &&& ~~~ts,
                                    expiry := (w.bar n).expiry.filter fun e => !inMask ts e.1 } : Barrier)
    let ends := fun (n : Nat) => n < 16 ∧ mask.getLsbD n = true ∧ (left n).m &&& ~~~(left n).z = 0
    let u := w.dropBars ts mask
    (∀ n < 16, (ends n → u.bar n = Barrier.init) ∧ (¬ ends n → u.bar n = if mask.getLsbD n then left n else w.bar n)) ∧
    ∀ i < 32, (∀ n k next, (w.thread i).status = .converge n k next → ends n → inMask (left n).z i = true →
        u.thread i = { (w.thread i).setP k false with status := .ready, pc := next }) ∧
      ((∀ n k next, (w.thread i).status = .converge n k next → ¬ (ends n ∧ inMask (left n).z i = true)) →
        u.thread i = w.thread i)) ∧
  (∀ (s : State) (wk : Nat) (w : Warp) (m : Word), s.warp wk = some w → ∃ u, (s.finishThreads wk m).warp wk = some u ∧
    (∀ n < 16, u.bar n = (w.dropBars m 0xFFFF).bar n) ∧
    (∀ i < 32, inMask m i = true → u.thread i = { w.thread i with status := .finished, timeout := 0, held := none }) ∧
    ∀ lk l, s.launchOf w = some (lk, l) → ∃ v, (s.finishThreads wk m).launch lk = some { l with stamp := v } ∧
      ∀ i < 32, inMask m i = true → (w.thread i).view.toNat ≤ v.toNat) ∧
  ∀ s c w b n k, Issuing s c w → Clear c w (useUni b 1) → c.held = none →
    exec (.cvbWait b n k) s =
      let t := s.switched.advance c (c.group &&& ~~~c.taking)
      let limit := (s.uval c w b).toNat
      .next (t.onWarp c.warp fun w =>
        let x := w.bar n.toNat
        let waits := c.taking &&& x.m
        let w1 := (w.onThreads (c.taking &&& ~~~x.m) fun th => { th.setP k.toNat false with pc := c.next }).onThreads waits
          fun th => { th with status := .converge n.toNat k.toNat c.next, since := s.cycle }
        let expiry := if limit = 0 then x.expiry
          else (threadsOf waits).foldl (fun e t => tput e t (s.cycle + limit)) x.expiry
        (w1.setBar n.toNat { x with z := x.z ||| waits, expiry := expiry }).settleBar n.toNat)

/-- R193, R285, R329, R330, R333, R334: `brk`, `trap` and `syscall` outside handlers. When the trap settings of the kernel
enable the cause (a `syscall` always is), the taking-part threads park as one sub-warp that records the code and the next
PC; otherwise they go on. -/
def Obligations.TrapFormResults : Prop :=
  ∀ e ∈ ([(.ctrlBrk, 0xF, 0), (.ctrlTrap, 0x10, 0), (.syscall, 0x10, 0x10000)] :
      List ((BitVec 7 → BitVec 7 → Instr) × Nat × Nat)),
    ∀ s c w h l k x i, Issuing s c w → Clear c w Uses.none → s.launchOf w = some (k, x) → c.taking &&& ~~~c.group = 0 →
      lowestOf c.taking = some i → (w.thread i).handler = .none → x.aborted = false →
      exec (e.1 h l) s =
        let code := e.2.2 + h.toNat * 128 + l.toNat
        let t := s.advance c (c.group &&& ~~~c.taking)
        .next (if (s.kernelOf w x).enables { cause := e.2.1, sub := code, addr := 0, detail := 0 } then
          let park := fun (th : Thread) => { th with status := .parked, pc := c.next, timeout := 0, held := none }
          t.onWarp c.warp fun w => { w.onThreads c.taking park with
            subs := w.subs ++ [{ mask := c.taking, cause := e.2.1, sub := code, addr := 0, word := c.word, pc := c.next,
                                 origin := c.pc, detail := 0, nested := false, framed := false }] }
        else t.onWarp c.warp fun w => w.onThreads c.taking fun th => { th with pc := c.next })

/-! ## Memory -/

/-- R104, R140, R224, R227 to R229: loads act thread by thread, each in the state that those before it left; what a thread loads
enters its registers from D and its latches. `ld` is strong when it has observers, `ldaq` acquires, and the O forms are weak.
A load is a switch point (R28). The threads of one instruction go in ascending order, which is the model's choice: R224 gives
their accesses no order (log 66). -/
def Obligations.LoadResults : Prop :=
  ∀ s c w a d t, Issuing s c w → Clear c w (useSrc a 2) →
    (∀ z o q, Clear c w (useV d.toNat (groupSize (2 ^ z.toNat))) →
      turns c (loadTurn c q.toNat (if o = 0 then .weak else .strong) o a d (2 ^ z.toNat) 0) (threadsOf c.taking)
        (s.switched.passed c) = some t →
      exec (.ld z o q a d) s = .next t) ∧
    (∀ z o q, Clear c w (useV d.toNat (groupSize (2 ^ z.toNat))) →
      turns c (loadTurn c q.toNat .acquire o a d (2 ^ z.toNat) 0) (threadsOf c.taking) (s.switched.passed c) = some t →
      exec (.ldaq z o q a d) s = .next t) ∧
    (∀ f, Clear c w (useV d.toNat 1) →
      turns c (loadTurn c 0 .weak 0 a d 4 (4 * f.signExtend 64)) (threadsOf c.taking) (s.switched.passed c) = some t →
      exec (.ldo32 f a d) s = .next t) ∧
    ∀ f, Clear c w (useV d.toNat 2) →
      turns c (loadTurn c 0 .weak 0 a d 8 (8 * f.signExtend 64)) (threadsOf c.taking) (s.switched.passed c) = some t →
      exec (.ldo64 f a d) s = .next t

/-- R104, R224, R227 to R229: stores act thread by thread; the bytes come from the registers from D. `st` is strong when it has
observers, `strl` releases, and the O forms are weak. The threads of one instruction go in ascending order, so that of several
stores to one location the highest thread's stays: the model's choice, for R224 says that this order is not architectural
(log 66). -/
def Obligations.StoreResults : Prop :=
  ∀ s c w a d t, Issuing s c w → Clear c w (useSrc a 2) →
    (∀ z o q, Clear c w (useV d.toNat (groupSize (2 ^ z.toNat))) →
      turns c (storeTurn c q.toNat (if o = 0 then .weak else .strong) o a d (2 ^ z.toNat) 0) (threadsOf c.taking)
        (s.passed c) = some t →
      exec (.st z o q a d) s = .next t) ∧
    (∀ z o q, Clear c w (useV d.toNat (groupSize (2 ^ z.toNat))) →
      turns c (storeTurn c q.toNat .release o a d (2 ^ z.toNat) 0) (threadsOf c.taking) (s.passed c) = some t →
      exec (.strl z o q a d) s = .next t) ∧
    (∀ f, Clear c w (useV d.toNat 1) →
      turns c (storeTurn c 0 .weak 0 a d 4 (4 * f.signExtend 64)) (threadsOf c.taking) (s.passed c) = some t →
      exec (.sto32 f a d) s = .next t) ∧
    ∀ f, Clear c w (useV d.toNat 2) →
      turns c (storeTurn c 0 .weak 0 a d 8 (8 * f.signExtend 64)) (threadsOf c.taking) (s.passed c) = some t →
      exec (.sto64 f a d) s = .next t

/-- R230, R231: atomics act thread by thread; the old value enters the registers from D, and the word at the address takes the
new one. `cas` writes only where the old value is the expected one. The threads of one instruction go in ascending order, which
is the model's choice: R230 and R232 allow any order over thread index (log 66). -/
def Obligations.AtomicResults : Prop :=
  (∀ e ∈ ([(.amo32Add, fun x y => x + y), (.amo32And, fun x y => x &&& y), (.amo32Or, fun x y => x ||| y),
      (.amo32Xor, fun x y => x ^^^ y), (.amo32Min, fun x y => if x.toInt ≤ y.toInt then x else y),
      (.amo32Max, fun x y => if x.toInt ≤ y.toInt then y else x), (.amo32Minn, fun x y => if x.toNat ≤ y.toNat then x else y),
      (.amo32Maxn, fun x y => if x.toNat ≤ y.toNat then y else x)] :
        List ((BitVec 5 → BitVec 3 → BitVec 7 → BitVec 6 → Instr) × (Word → Word → Word))),
    ∀ s c w o q a d t, Issuing s c w → Clear c w ((useSrc a 2).and (useV d.toNat 1)) →
      turns c (atomicTurn c o q a d 4 fun th old => some ((e.2 (lowWord old) (th.vreg d.toNat)).setWidth 64))
        (threadsOf c.taking) (s.switched.passed c) = some t → exec (e.1 o q a d) s = .next t) ∧
  ∀ e ∈ ([(.amoxXchg, 4, 1, fun d th _ => some ((th.vreg d).setWidth 64)),
      (.amoxXchg64, 8, 2, fun d th _ => some (th.vpair d)),
      (.amoxCas, 4, 2, fun d th old => if lowWord old = th.vreg d then some ((th.vreg (d + 1)).setWidth 64) else none),
      (.amoxCas64, 8, 4, fun d th old => if old = th.vpair d then some (th.vpair (d + 2)) else none),
      (.amoxFadd, 4, 1, fun d th old =>
        some (BitVec.ofNat 64 (fp32.add false .rne (lowWord old).toNat (th.vreg d).toNat).1)),
      (.amoxAdd64, 8, 2, fun d th old => some (old + th.vpair d))] :
        List ((BitVec 5 → BitVec 3 → BitVec 7 → BitVec 6 → Instr) × Nat × Nat × (Nat → Thread → Dword → Option Dword))),
    ∀ s c w o q a d t, Issuing s c w → Clear c w ((useSrc a 2).and (useV d.toNat e.2.2.1)) →
      turns c (atomicTurn c o q a d e.2.1 (e.2.2.2 d.toNat)) (threadsOf c.taking) (s.switched.passed c) = some t →
      exec (e.1 o q a d) s = .next t

/-- R72, R127, R233 to R235: `lst` joins D into the cell, `lpoll` delivers the cell and whether it satisfies the threshold in D,
and `lld` delivers it once it does, or once its timeout has expired. What the join is for each type code; that a join writes
the cell of the stack's replica and no other; that a cell satisfies a threshold whose join with it is the cell; and what a
delivery leaves in its thread. A page that is no lattice page takes cause 0x06, sub-cause 8, a lost cell cause 0x0B, and a poison
one cause 0x0A (log 100, DESIGN CHOICE). The threads of one instruction go in ascending order, which is the model's choice
(log 66). -/
def Obligations.LatticeFormResults : Prop :=
  (∀ s c w b a d t, Issuing s c w → Clear c w ((useSrc a 2).and ((useSrc b 1).and (useV d.toNat 2))) →
    (turns c (joinTurn c b a d) (threadsOf c.taking) (s.passed c) = some t → exec (.lst b a d) s = .next t) ∧
    (turns c (pollTurn c b a d false) (threadsOf c.taking) (s.switched.passed c) = some t →
      exec (.lpoll b a d) s = .next t) ∧
    (turns c (pollTurn c b a d true) (threadsOf c.taking) (s.switched.passed c) = some t → exec (.lld b a d) s = .next t)) ∧
  (∀ x y : Dword, (join 0 x y).toNat = max x.toNat y.toNat ∧ (join 1 x y).toInt = max x.toInt y.toInt ∧
    (join 2 x y).toNat = min x.toNat y.toNat ∧ join 3 x y = x ||| y ∧ (join 5 x y).toNat = max x.toNat y.toNat ∧
    highWord (join 4 x y) = 0 ∧
    floatRank (lowWord (join 4 x y)) = max (floatRank (lowWord x)) (floatRank (lowWord y)) ∧
    (floatRank (lowWord (join 4 x y)) = 2 ^ 32 → lowWord (join 4 x y) = 0x7FC00000)) ∧
  (∀ (s s1 : State) (w : Who) (va x : Dword) (q : Site) p pa a lt,
    (s.site w va 8 needBoth = .ok (s1, q, .cells p pa a lt) →
      (s1.repDead p a w.stack = true → s.threadJoin w va x = .trap (trapAt 0xB 0 va)) ∧
      (s1.repDead p a w.stack = false → s1.repMarked a w.stack 8 = true → s.threadJoin w va x = .trap (trapAt 0xA 0 va)) ∧
      (s1.repDead p a w.stack = false → s1.repMarked a w.stack 8 = false → ∃ r, s.threadJoin w va x = .ok r ∧
        r.1.replica a w.stack = join lt (s1.replica a w.stack) x ∧ r.1.mem = s1.mem ∧
        ∀ k, k ≠ repKey a w.stack → wget r.1.reps k = wget s1.reps k)) ∧
    (s.site w va 8 needRead = .ok (s1, q, .cells p pa a lt) → s1.repDead p a w.stack = false → s1.repMarked a w.stack 8 = false →
      s.threadCell w va x = .ok (s1, p, pa, a, s1.replica a w.stack, join lt (s1.replica a w.stack) x == s1.replica a w.stack)) ∧
    ∀ r, q.lat = none → (s.site w va 8 needRead = .ok (s1, q, r) → s.threadCell w va x = .trap (trapAt 6 8 va)) ∧
      (s.site w va 8 needBoth = .ok (s1, q, r) → s.threadJoin w va x = .trap (trapAt 6 8 va))) ∧
  ∀ (s : State) (c : Cur) (w : Warp) (t stack pa a k : Nat) (p : Partition) (cell : Dword) (d : BitVec 6) (b : Bool),
    s.warp c.warp = some w → t < 32 →
    ((s.deliverCell c t p stack pa a cell d k b).warp c.warp).map (fun w => w.thread t) =
      some { ((w.thread t).result false d.toNat [lowWord cell, highWord cell]).setP k b with
        view := s.cellTime stack a 8 (w.thread t).view, timeout := 0, pc := c.next, status := .ready, held := none }

/-- R105, R118 to R121, R236 to R238: a fence without observers goes on; one with observers is kept by the threads, and one that
names c acquires the write times that their strong reads have met, and keeps leases granted before it from serving them. A
range form cleans, drops or discards its lines, and each thread with a line waits for the completion; `zline` writes. What
they do to a line: `cwb` sends the words that the core owns home; `cinv` leaves the core no copy and no word of it; after
`discard` each byte is what DRAM holds and the line is no core's and in no queued write-back; `zline` writes 128 zero bytes,
and the line is lost no more. Bytes of other lines stay. -/
def Obligations.MaintenanceResults : Prop :=
  (∀ s c w m, Issuing s c w → Clear c w Uses.none → exec (.fence m) s = .next (if m = 0 then s.advance c c.group else
    (({ s with draws := s.draws + 1 }).onWarp c.warp fun w => w.onThreads c.taking fun th =>
      if m.getLsbD 0 then { th with fences := th.fences ||| m, view := laterOf th.view th.met, fenced := s.draws }
      else { th with fences := th.fences ||| m }).advance c c.group)) ∧
  (∀ e ∈ ([(fun _ b a => .cinv b a, fun _ => State.cinvRange), (fun _ b a => .discard b a, fun _ => State.discardRange),
      (fun m b a => .cwb b a m, State.cwbRange)] : List ((BitVec 5 → BitVec 7 → BitVec 7 → Instr) ×
        (BitVec 5 → State → Who → Dword → Nat → State × List Nat × Option (Trap ⊕ Wait)))),
    ∀ s c w b a m t, Issuing s c w → Clear c w ((useSrc a 2).and (useSrc b 1)) →
      (threadsOf c.taking).foldlM (rangeTurn c w b a (e.2 m)) (s.passed c) = some t →
      exec (e.1 m b a) s = .next t) ∧
  (∀ s c w a m t, Issuing s c w → Clear c w (useSrc a 2) →
    turns c (fun s w t => turn c t (s.threadZero ((s.whoIs c w t).as (if m = 0 then .weak else .strong) m) (s.addressOf c w t a))
      (fun r => r.1) fun r th => { th with view := r.2 }) (threadsOf c.taking) (s.passed c) = some t →
    exec (.zline a m) s = .next t) ∧
  (∀ (s s1 : State) (w : Who) (va : Dword) (q : Site) p pa a, s.site w va 128 needWrite = .ok (s1, q, .dram p pa a) →
    s1.deadHome (.dram p pa a) = false → ∃ r, s.threadZero w va = .ok r ∧ memBytes r.1.mem a 128 = List.replicate 128 0 ∧
      tfind r.1.lost (a / 128) = none ∧ ∀ b, b < a ∨ a + 128 ≤ b → wget r.1.mem b = wget s1.mem b) ∧
  (∀ (s s1 : State) (m : BitVec 5) (w : Who) (va : Dword) (n : Nat) (q : Site) p pa a, lineCount va n = 1 → w.core < 4096 →
    s.lineSite w needRead (firstLine va) = .ok (s1, q, .dram p pa a) →
    (∃ t ids, s.cwbRange m w va n = (t, ids, none) ∧ t.mem = s1.mem ∧ ∀ k ∈ wordsOf a 128, t.owns w.core k = false) ∧
    ∃ t, s.cinvRange w va n = (t, [], none) ∧ t.mem = s1.mem ∧ ∀ k ∈ wordsOf a 128, t.owns w.core k = false ∧
      tfind t.copies (4096 * k + w.core) = none ∧ tfind t.shared (4096 * k + w.core) = none) ∧
  ∀ (s s1 s2 : State) (w : Who) (va : Dword) (q : Site) p pa a, va.toNat % 128 = 0 →
    s.site w va 1 needWrite = .ok (s1, q, .dram p pa a) → s1.site w va 1 needWrite = .ok (s2, q, .dram p pa a) →
    s1.lostTarget (.dram p pa a) = false → ∃ t, s.discardRange w va 128 = (t, [], none) ∧
      (∀ b x, b / 128 = a / 128 → s1.under.filter (fun e => e.1 == b) = [(b, x)] → wget t.mem b = x) ∧
      (∀ b, b / 128 ≠ a / 128 ∨ tfind s1.under b = none → wget t.mem b = wget s1.mem b) ∧
      (∀ b, b / 128 = a / 128 → tfind t.under b = none ∧ tfind t.owned (b / 4) = none) ∧
      ∀ e ∈ t.wbq, ∀ x ∈ e.2, ∀ y ∈ x.bytes, y.1 / 128 ≠ a / 128

/-- R239, R240: the scratchpad forms act thread by thread on the allocation of the crew, in ascending order, which is the model's
choice: the rules give the threads of one instruction no order (log 66). An offset that is not a
multiple of the size, or beyond the crew's scratchpad, traps; poison traps; a load delivers the bytes at the offset, and a
store leaves its bytes there, those poison no more, and every other byte as it was. Where no mapping entry covers them,
nothing else changes. -/
def Obligations.ScratchpadResults : Prop :=
  (∀ e ∈ ([(.spadLd32, 4), (.spadLd64, 8), (.spadLd128, 16)] : List (Uniform2 × Nat)),
    ∀ s c w b a d t, Issuing s c w → Clear c w (uses2 b a d 1 (e.2 / 4)) →
      turns c (padLoadTurn c b a d e.2) (threadsOf c.taking) (s.switched.passed c) = some t →
      exec (e.1 b a d) s = .next t) ∧
  (∀ e ∈ ([(.spadSt32, 4), (.spadSt64, 8), (.spadSt128, 16)] : List (Uniform2 × Nat)),
    ∀ s c w b a d t, Issuing s c w → Clear c w (uses2 b a d 1 (e.2 / 4)) →
      turns c (padStoreTurn c b a d e.2) (threadsOf c.taking) (s.passed c) = some t →
      exec (e.1 b a d) s = .next t) ∧
  (∀ (s : State) (c : Crew) (v : Dword) (o n : Nat),
    (o % n ≠ 0 → s.padLoad c v o n = .trap (trapAt 4 n (BitVec.ofNat 64 o))) ∧
    (o % n = 0 → c.size < o + n → s.padLoad c v o n = .trap (trapAt 0xE 1 (BitVec.ofNat 64 o))) ∧
    (o % n = 0 → o + n ≤ c.size → s.padLost (c.padAt o) n = false →
      (marked s.spadPoison (c.padAt o) n = true → s.padLoad c v o n = .trap (trapAt 0xA 0 (BitVec.ofNat 64 o))) ∧
      (marked s.spadPoison (c.padAt o) n = false → ∃ t v', s.padLoad c v o n = .ok (t, v', memBytes s.spad (c.padAt o) n) ∧
        t.spad = s.spad ∧ t.mem = s.mem ∧ (s.padClocks (c.padAt o) n = [] → t = s ∧ v' = v)))) ∧
  ∀ (s : State) (c : Crew) (v : Dword) (o : Nat) (bs : List Byte),
    (o % bs.length ≠ 0 → s.padStore c v o bs = .trap (trapAt 4 bs.length (BitVec.ofNat 64 o))) ∧
    (o % bs.length = 0 → c.size < o + bs.length → s.padStore c v o bs = .trap (trapAt 0xE 1 (BitVec.ofNat 64 o))) ∧
    (o % bs.length = 0 → o + bs.length ≤ c.size → s.padLost (c.padAt o) bs.length = false →
      ∃ t v', s.padStore c v o bs = .ok (t, v') ∧ memBytes t.spad (c.padAt o) bs.length = bs ∧
        (∀ a, a < c.padAt o ∨ c.padAt o + bs.length ≤ a → wget t.spad a = wget s.spad a) ∧ t.mem = s.mem ∧
        marked t.spadPoison (c.padAt o) bs.length = false ∧
        (s.padClocks (c.padAt o) bs.length = [] → v' = v ∧ t = { s with spad := t.spad, spadPoison := t.spadPoison }))

/-- R78, R81, R82, R242: the spiral forms on the tile of an address, thread by thread. Statuses of `pin`: 4 for a handle
above 255, 3 for an address that has no home tile, 1 with no effect for a pinned tile, 2 with no effect when fewer than 1,024
positions would be left, else 0, the tile pinned where it stands, or at the lowest position that is not pinned when it was
absent; of `unpin`: 1 without a home tile or for a tile that is not pinned, else 0, and a tile that stands once is less recent than those at lower
positions and more recent than the others. A touch changes nothing of a pinned tile and no other band, and brings any other
tile to the lowest position that is not pinned. The word of `dist` is that of R82. -/
def Obligations.SpiralFormResults : Prop :=
  (∀ s c w b a nw d t, Issuing s c w → Clear c w ((useSrc b 1).and ((useSrc a 2).and (useV d.toNat 1))) →
    (turns c (tileTurn c a nw d (some b) fun s w r h =>
        if 255 < h then (s, 4) else match r.home with
          | none => (s, 3)
          | some (k, p, band, tile) =>
            let q := s.pinTile k p band tile h ((s.launchOf w).bind fun l => l.2.vf)
            (q.1, BitVec.ofNat 32 q.2))
      (threadsOf c.taking) (s.passed c) = some t → exec (.pin b a nw d) s = .next t) ∧
    (turns c (tileTurn c a nw d (some b) fun s _ r h =>
        if 255 < h then (s, 4) else match r.home with
          | none => (s, 3)
          | some (_, p, band, tile) => (s.touch p band tile h, 0))
      (threadsOf c.taking) (s.passed c) = some t → exec (.touch b a nw d) s = .next t)) ∧
  (∀ s c w a nw d t, Issuing s c w → Clear c w ((useSrc a 2).and (useV d.toNat 1)) →
    (turns c (tileTurn c a nw d none fun s _ r _ => match r.home with
          | none => (s, 1)
          | some (_, p, band, tile) => ((s.unpinTile p band tile).1, BitVec.ofNat 32 (s.unpinTile p band tile).2))
      (threadsOf c.taking) (s.passed c) = some t → exec (.unpin a nw d) s = .next t) ∧
    (turns c (tileTurn c a nw d none fun s _ r _ => match r.home with
          | none => (s, if r.mapped then 0xA0000000 else 0x80000000)
          | some (_, _, band, tile) => (s, (Spiral.of s band).distWord tile))
      (threadsOf c.taking) (s.passed c) = some t → exec (.dist a nw d) s = .next t)) ∧
  (∀ (s : State) (k : Nat) (p : Partition) (band tile h : Nat) (vf : Option Nat),
    (∀ i, (Spiral.of s band).position tile = some (i, true) → s.pinTile k p band tile h vf = (s, 1)) ∧
    ((∀ i, (Spiral.of s band).position tile ≠ some (i, true)) →
      ((Spiral.of s band).room < 1025 → s.pinTile k p band tile h vf = (s, 2)) ∧
      (1025 ≤ (Spiral.of s band).room → 1 ≤ s.freeOf p 0 → 
        (s.pinTile k p band tile h none).2 = 0 ∧
        (Spiral.of (s.pinTile k p band tile h none).1 band).position tile =
          some ((((Spiral.of s band).position tile).map Prod.fst).getD (nthFree ((Spiral.of s band).pinned.map Prod.fst) 0), true)))) ∧
  (∀ (s : State) (p : Partition) (band tile : Nat),
    ((∀ i, (Spiral.of s band).position tile ≠ some (i, true)) → s.unpinTile p band tile = (s, 1)) ∧
    ∀ i, (Spiral.of s band).position tile = some (i, true) → (∀ u ∈ (Spiral.of s band).order, u.tile ≠ tile) →
      (∀ e ∈ (Spiral.of s band).pinned, e.2.tile = tile → e.1 = i) → (s.unpinTile p band tile).2 = 0 ∧
        ∃ k u, u.tile = tile ∧ u.owner = none ∧
          (Spiral.of (s.unpinTile p band tile).1 band).order = (Spiral.of s band).order.take k ++ u :: (Spiral.of s band).order.drop k ∧
          (∀ e ∈ (Spiral.of (s.unpinTile p band tile).1 band).pinned, e.2.tile ≠ tile) ∧
          ∀ j, j < (Spiral.of s band).order.length → (j < k ↔ nthFree ((Spiral.of s band).pinned.map Prod.fst) j < i)) ∧
  (∀ (s : State) (p : Partition) (band tile h : Nat),
    (∀ i, (Spiral.of s band).position tile = some (i, true) → (Spiral.of (s.touch p band tile h) band) = Spiral.of s band) ∧
    ((∀ i, (Spiral.of s band).position tile ≠ some (i, true)) → 0 < (Spiral.of s band).room →
      (Spiral.of (s.touch p band tile h) band).position tile = some (nthFree ((Spiral.of s band).pinned.map Prod.fst) 0, false)) ∧
    ∀ b, b ≠ band → Spiral.of (s.touch p band tile h) b = Spiral.of s b) ∧
  ∀ (sp : Spiral) (tile : Nat), (sp.position tile = none → sp.distWord tile = 0x80000000) ∧
    ∀ i pin, sp.position tile = some (i, pin) → i < 65536 → (sp.distWord tile).extractLsb' 0 16 = BitVec.ofNat 16 i ∧
      (sp.distWord tile).extractLsb' 16 4 = BitVec.ofNat 4 (ringOf i) ∧ (sp.distWord tile).getLsbD 30 = pin ∧
      (sp.distWord tile).extractLsb' 20 10 = 0 ∧ (sp.distWord tile).getLsbD 31 = false

/-- R85 to R87, R243: `demote`, `evict` and `rhset` for a handle. Handle 0 gives status 1 and one above 255 status 4, at
once; else every band of the partition acts, and D is pending until the write-backs that this started are done. A demote makes
the unpinned tiles of the handle the least recent of each band, in their order, and leaves the pinned ones and every other
band. `rhset` gives a priority above 15 status 5; a handle above 255 is found first (log 109, DESIGN CHOICE). At reduced service
no tile leaves a band (R389, log 86). Pinned tiles are written back before the others, which leave as they were touched, the
least recent first: the model's choice (log 83). -/
def Obligations.HandleFormResults : Prop :=
  ∀ s c w a d k p, Issuing s c w → s.partOfCore (s.coreOf w) = some (k, p) →
    (Clear c w (uniUses1 a d 1 1) →
      let h := (s.uarg c w a).toNat
      let refused := fun (i : BitVec 7 → BitVec 6 → Instr) =>
        (255 < h → exec (i a d) s = .next ((s.setWarp c.warp (w.setS d.toNat 4)).advance c c.group)) ∧
        (h = 0 → exec (i a d) s = .next ((s.setWarp c.warp (w.setS d.toNat 1)).advance c c.group))
      let pends := fun (r : State × List Nat) =>
        (r.1.onWarp c.warp fun w => { w with pend := tput w.pend d.toNat (.spiral r.2) }).advance c c.group
      refused .demote ∧ refused .evict ∧
      (0 < h ∧ h ≤ 255 → ∃ t, exec (.demote a d) s = .next (pends (t, [])) ∧ t = { s with spirals := t.spirals } ∧
        ∀ b, Spiral.of t b = if b ∈ p.bandList then { Spiral.of s b with
          order := (Spiral.of s b).order.filter (fun t => t.handle != h) ++ (Spiral.of s b).order.filter fun t => t.handle == h }
        else Spiral.of s b) ∧
      (0 < h ∧ h ≤ 255 → exec (.evict a d) s = .next (pends (s.eachBand p fun s b =>
        if s.atReduced b then (s, []) else
        let sp := Spiral.of s b
        let pins := (sp.pinned.map Prod.snd).filter fun t => t.handle == h
        let others := sp.order.filter fun t => t.handle == h
        (pins.foldl (fun s t => s.unpinned p t.owner) (s.setSpiral b { sp with
          order := sp.order.filter fun t => t.handle != h, pinned := sp.pinned.filter fun e => e.2.handle != h })).leave p b
            (pins ++ others.reverse))))) ∧
    ∀ b, Clear c w (uniUses2 b a d 1 1) →
      let h := (s.uarg c w a).toNat
      let x := (s.uarg c w b).toNat
      exec (.rhset b a d) s = .next ((if 255 < h then s.setWarp c.warp (w.setS d.toNat 4)
        else if 15 < x then s.setWarp c.warp (w.setS d.toNat 5)
        else (s.onPart k fun p => { p with priority := tput p.priority h x }).setWarp c.warp (w.setS d.toNat 0)).advance
          c c.group)

/-! ## Engines -/

/-- R246 to R250: what a submission leaves, when a task-table entry is free: the entry that it takes (any free one, log 7)
holds the task, in submission order, its sequence number advances, and the token register, if the form has one, gets the
token that names the entry and the number. A command with ACQ whose mask has x, and one behind a fence that names x, starts
from what its threads have seen (R116). -/
def Obligations.SubmissionResults : Prop :=
  ∀ (s : State) (c : Cur) (w : Warp) (tk : Option Nat) (batched acq rel : Bool) (cmd : Command),
    (s.core (s.coreOf w)).freeEntries ≠ [] → s.warp c.warp = some w →
    let k := s.core (s.coreOf w)
    let ent := s.pickEntry k
    ent ∈ k.freeEntries ∧ ∃ t task, s.submit c w tk batched acq rel cmd = .done t ∧
      (t.core (s.coreOf w)).entry ent = { k.entry ent with seq := (k.entry ent).seq + 1, task := some task } ∧
      task.cmd = cmd ∧ task.order = k.submitted ∧ task.started = false ∧ task.warp = c.warp ∧ task.crew = w.crew ∧
      task.acq = acq ∧ task.rel = rel ∧
      (cmd.queue ≠ 1 → (acq = true ∧ cmd.obs.testBit 1 = true ∨
        ∃ i < 32, inMask c.taking i = true ∧ (w.thread i).fences.getLsbD 1 = true) →
        ∀ i < 32, inMask c.taking i = true → (w.thread i).view.toNat ≤ task.stamp.toNat) ∧ (t.core (s.coreOf w)).submitted = k.submitted + 1 ∧
      (∀ e, e ≠ ent → (t.core (s.coreOf w)).entry e = k.entry e) ∧
      (∀ n, tk = some n → n < 32 → (t.warp c.warp).map (fun w => w.sreg n) = some (tokenOf ((k.entry ent).seq + 1) ent)) ∧
      ∀ n, tk ≠ some n → (t.warp c.warp).map (fun w => w.sreg n) = some (w.sreg n)

/-- R247, R255 to R260, R274, R275: a copy, or a KV gather or scatter, whose descriptors are VALID and whose checks pass is
submitted, batched, with its token. -/
def Obligations.TransferForms : Prop :=
  (∀ e ∈ ([(fun r q t x c k => .cpyG2b r q t x c k, 0), (fun r q t _ c k => .cpyG2s r q t c k, 1),
       (fun r q t _ c k => .cpyS2g r q t c k, 2), (fun r q t _ c k => .cpyG2g r q t c k, 3),
       (fun r q t x c k => .cpyS2b r q t x c k, 4), (fun r q t _ c k => .cpyS2s r q t c k, 5)] :
         List ((BitVec 1 → BitVec 1 → BitVec 6 → BitVec 4 → BitVec 5 → BitVec 5 → Instr) × Nat)),
     ∀ s cur w crew r q t (x : BitVec 4) c k td td2, Issuing s cur w → s.crewOf w = some crew →
       Clear cur w ((useS c.toNat (if e.2 = 0 ∨ e.2 = 4 then 1 else 2)).and (useD k.toNat 1)) →
       crew.desc t.toNat = .ok td → crew.secondDesc (e.2 == 3) t.toNat = .ok td2 →
       let n := if e.2 = 0 ∨ e.2 = 4 then x.toNat else 0
       let c1 := if e.2 = 0 ∨ e.2 = 4 then 0 else w.sreg (c.toNat + 1)
       s.copyCheck (s.coreOf w) crew e.2 t.toNat n td td2 (w.sreg c.toNat) c1 = none →
       (s.core (s.coreOf w)).freeEntries ≠ [] →
       ∃ u, s.submit cur w (some k.toNat) true (q == 1) (r == 1)
           (.copy e.2 n td td2 (w.sreg c.toNat) c1) = .done u ∧
         exec (e.1 r q t x c k) s = .next (u.advance cur cur.group)) ∧
  ∀ e ∈ ([(fun r q t x c k => .kvKvg r q t x c k, 0), (fun r q t _ c k => .kvKvgs r q t c k, 1),
      (fun r q t _ c k => .kvKvs r q t c k, 2)] :
        List ((BitVec 1 → BitVec 1 → BitVec 6 → BitVec 4 → BitVec 5 → BitVec 5 → Instr) × Nat)),
    ∀ s cur w crew r q t (x : BitVec 4) c k td, Issuing s cur w → s.crewOf w = some crew →
      Clear cur w ((useS c.toNat 4).and (useD k.toNat 1)) → crew.desc t.toNat = .ok td →
      let n := if e.2 = 0 then x.toNat else 0
      s.kvCheck (s.coreOf w) crew e.2 c.toNat t.toNat n td (w.sreg (c.toNat + 2)) (w.sreg (c.toNat + 3)) = none →
      (s.core (s.coreOf w)).freeEntries ≠ [] →
      ∃ u, s.submit cur w (some k.toNat) true (q == 1) (r == 1)
          (.kv e.2 n td (w.sreg c.toNat) (w.sreg (c.toNat + 1)) (w.sreg (c.toNat + 2)) (w.sreg (c.toNat + 3))) = .done u ∧
        exec (e.1 r q t x c k) s = .next (u.advance cur cur.group)

/-- R263 to R267, R389: an `mma` or `mmaz` whose checks pass is submitted, batched, with no token. -/
def Obligations.MatrixForms : Prop :=
  ∀ e ∈ ([(.mma, false), (.mmaz, true)] :
      List ((BitVec 1 → BitVec 1 → BitVec 5 → BitVec 5 → BitVec 1 → BitVec 1 → BitVec 3 → Instr) × Bool)),
    ∀ s cur w crew p t b a y x acc, Issuing s cur w → s.crewOf w = some crew → Clear cur w (mmaUses b a y x) →
      FullService s w →
      s.mmaCheck (s.coreOf w) crew (p == 1) (t == 1) e.2 a.toNat b.toNat (w.padOperand x a) (w.padOperand y b) acc.toNat = none →
      (s.core (s.coreOf w)).freeEntries ≠ [] →
      ∃ u, s.submit cur w none false true false (.mma (p == 1) (t == 1) e.2 a.toNat b.toNat (w.padOperand x a)
          (w.padOperand y b) acc.toNat) = .done u ∧
        exec (e.1 p t b a y x acc) s = .next (u.advance cur cur.group)

/-- R277, R378, R380: a collective is submitted, batched, with its token, and joins its instance; `bar` names no
descriptor, and `gath` the next one as well. -/
def Obligations.CollectiveForms : Prop :=
  ∀ e ∈ ([(.colSum, 0), (.colMax, 1), (.colMin, 2), (.colTri, 3), (.colBcast, 4), (.colGath, 5),
      (fun r q _ c k => .colBar r q c k, 6)] :
        List ((BitVec 1 → BitVec 1 → BitVec 6 → BitVec 5 → BitVec 5 → Instr) × Nat)),
    ∀ s cur w crew r q t c k td td2, Issuing s cur w → s.crewOf w = some crew →
      Clear cur w ((useS c.toNat 1).and (useD k.toNat 1)) →
      crew.firstDesc e.2 (if e.2 = 6 then 0 else t.toNat) = .ok td →
      crew.secondDesc (e.2 == 5) (if e.2 = 6 then 0 else t.toNat) = .ok td2 → (s.core (s.coreOf w)).freeEntries ≠ [] →
      ∃ u, s.submit cur w (some k.toNat) true (q == 1) (r == 1)
          (.col e.2 td td2 (w.sreg c.toNat)) = .done u ∧
        exec (e.1 r q t c k) s = .next ((u.joinCollective (s.coreOf w) (s.pickEntry (s.core (s.coreOf w)))
          (((s.launchOf w).map Prod.fst).getD 0) (w.sreg c.toNat)).advance cur cur.group)

/-- R268 to R272: the accumulator forms. `acq` by the warp that holds the mitt goes on, and is served at once when none
holds it, none waits, and no earlier unfinished task targets the accumulator; `rel` hands the mitt to the first that waits;
`amov`, `azero` and `ast` act on the accumulator of a holder; `cap.pass` marks the warp. -/
def Obligations.AccumulatorForms : Prop :=
  ∀ s cur w crew (acc : BitVec 3), Issuing s cur w → s.crewOf w = some crew →
    let core := s.coreOf w
    let k := s.core core
    let x := k.acc acc.toNat
    let goes := fun (t : State) => Host.Outcome.next (t.advance cur cur.group)
    (Clear cur w Uses.none → x.mitt = some cur.warp → exec (.acq acc) s = goes s.switched) ∧
    (Clear cur w Uses.none → x.mitt = none → x.waiting = [] → k.targeted acc.toNat k.submitted = false →
      exec (.acq acc) s = goes (s.switched.setCore core (k.setAcc acc.toNat { x with mitt := some cur.warp }))) ∧
    (Clear cur w Uses.none → x.mitt = some cur.warp →
      exec (.rel acc) s = goes (s.setCore core ((k.setAcc acc.toNat { x with mitt := none }).grant acc.toNat))) ∧
    (Clear cur w Uses.none → x.mitt = none → exec (.rel acc) s = goes s) ∧
    (Clear cur w Uses.none → x.mitt = some cur.warp → exec (.azero acc) s =
      goes (s.setCore core (k.setAcc acc.toNat { x with el := [], defined := true, poison := false }))) ∧
    (∀ a, Clear cur w (useUni a 1) → x.mitt = some cur.warp → crew.padTrap (s.uarg cur w a).toNat 128 4096 = none →
      s.padLost (crew.padAt (s.uarg cur w a).toNat) 4096 = false →
      let o := crew.padAt (s.uarg cur w a).toNat
      (∃ t, exec (.amov a acc) s = goes t ∧
        let y := (t.core core).acc acc.toNat
        y.defined = true ∧ y.poison = marked s.spadPoison o 4096 ∧ y.mitt = some cur.warp ∧
        ∀ i < 1024, wget y.el i = BitVec.ofNat 32 (bytesNat (memBytes s.spad (o + 4 * i) 4))) ∧
      ∃ t, exec (.ast a acc) s = goes t ∧ t.core core = k ∧
        (∀ i < 1024, bytesNat (memBytes t.spad (o + 4 * i) 4) = (wget x.el i).toNat) ∧
        ∀ b, b < o ∨ o + 4096 ≤ b → wget t.spad b = wget s.spad b) ∧
    (Clear cur w Uses.none → exec .capPass s =
      goes (if capGroup crew.warps.length w.wix = crew.cap then
        (s.setCrew w.crew { crew with marks := setBit crew.marks w.wix true }).settleCap w.crew else s))

/-- R250 to R256, R273: `tsk.sub` submits a hold of a FULL buffer, `tsk.wait` goes on once its task has finished, `tsk.bstat`
and `tsk.bclr` read and clear buffer state; `seal` gives 1 for an empty batch, closes any other and makes D pending, and waits
while 16 sealed batches are unfinished; `waitn` goes on when few enough sealed batches are left; what either wait ends with is
acquired (R117); `tdset` reads a valid record, `tdget` gives one of its words. -/
def Obligations.TaskForms : Prop :=
  ∀ s cur w crew, Issuing s cur w → s.crewOf w = some crew →
    let core := s.coreOf w
    let k := s.core core
    let goes := fun (t : State) => Host.Outcome.next (t.advance cur cur.group)
    let sees := fun (v : Dword) => if v = 0 then s.switched else s.switched.setWarp cur.warp
      (w.onThreads cur.taking fun th => { th with view := laterOf th.view v })
    let others := fun (t : State) => t.advance cur (cur.group &&& ~~~cur.taking)
    (∀ x c tk, Clear cur w ((useS c.toNat 1).and (useD tk.toNat 1)) →
      let n := (w.sreg c.toNat).toNat
      1 ≤ n ∧ n ≤ 16 → (k.logical x.toNat).full = true → k.freeEntries ≠ [] →
      ∃ u, s.submit cur w (some tk.toNat) false false false (.hold x.toNat n) = .done u ∧ exec (.tskSub x c tk) s = goes u) ∧
    (∀ tk, Clear cur w (useS tk.toNat 1) →
      let tok := ((cur.sees w).sreg tk.toNat).toNat
      (k.finished (tok / 64) (tok % 64) = true → exec (.tskWait tk) s = goes (sees (k.entry (tok % 64)).stamp)) ∧
      (k.finished (tok / 64) (tok % 64) = false → exec (.tskWait tk) s =
        .next ((others s.switched).block cur cur.taking (.task (tok % 64) (tok / 64))))) ∧
    (∀ d, Clear cur w (useD d.toNat 1) → exec (.tskBstat d) s = goes (s.setWarp cur.warp (w.setS d.toNat (maskOf fun t =>
      if t < 16 then (k.buf t).full else if t < 24 then (k.acc (t - 16)).defined else (k.acc (t - 24)).mitt == some cur.warp)))) ∧
    (∀ x, Clear cur w Uses.none → (∀ t ∈ k.tasks, x.toNat ∉ t.cmd.names) →
      exec (.tskBclr x) s = goes (s.setCore core (k.setBuf x.toNat Buf.init))) ∧
    (∀ d, Clear cur w (useD d.toNat 1) →
      (w.openBatch = none → exec (.seal d) s = goes (s.setWarp cur.warp (w.setS d.toNat 1))) ∧
      ∀ b, w.openBatch = some b →
        (w.sealedCount < 16 → exec (.seal d) s = goes (s.setWarp cur.warp
          (Warp.finishBatch { w.closeBatch (some d.toNat) with pend := tput w.pend d.toNat (.batch b.id) } b.id))) ∧
        (16 ≤ w.sealedCount → exec (.seal d) s = .next ((others s).stall cur cur.taking .sealLimit))) ∧
    (∀ a, Clear cur w Uses.none →
      (w.sealedCount ≤ a.toNat → exec (.waitn a) s = goes (sees w.ended)) ∧
      (a.toNat < w.sealedCount → exec (.waitn a) s =
        .next ((others s.switched).block cur cur.taking (.batches a.toNat)))) ∧
    (∀ a d r, Clear cur w (useUni a 2) →
      s.threadLoad { core := core, sup := w.supIn cur.taking, view := w.viewIn cur.taking } 0 (s.uarg64 cur w a) 64 = .ok r →
      Desc.valid (registersOf r.2.2) = true → ∃ t, exec (.tdset a d) s = goes t ∧
        (r.1.crew w.crew = some crew → (t.crew w.crew).bind (fun k => tfind k.td d.toNat) = some (registersOf r.2.2))) ∧
    ∀ x a d, Clear cur w (useD d.toNat 1) → exec (.tdget x a d) s =
      goes (s.setWarp cur.warp (w.setS d.toNat (Desc.word ((tfind crew.td a.toNat).getD []) x.toNat)))

/-! ## System instructions -/

/-- R286 to R288, R147: `csrr` gives the value of a CSR; `csrw`, `csrs` and `csrc` write one, and only go on where its fields
are read-only. CSR 0x020 needs a pre-emption handler, the guarded ones supervisor mode, a value no reserved field, and `shdw`
a supervisor core of the band's stack (log 8, log 84). The value of every CSR; what writing `fflags`, `frm`, the barrier's
arrivals, `trapvec`, `savebase`, an invalid `smap` entry and `lxsched` does; and the trap of a write that an `smap` entry
refuses (R91), whose sub-cause the spec does not state. -/
def Obligations.CsrResults : Prop :=
  ∀ (s : State) (c : Cur) (w : Warp) (h : BitVec 5) (l : BitVec 7), Issuing s c w →
    let n := csrNumber h l
    let core := s.coreOf w
    (∀ d, Clear c w (useD d.toNat 1) → (n = 0x020 → Saving c w) → (csrHidden n = true → Privileged c w) →
      exec (.csrr h l d) s = .next ((s.setWarp c.warp (w.setS d.toNat (s.csrRead w core n))).advance c c.group)) ∧
    (s.csrRead w core 1 = w.fflags.setWidth 32 ∧ s.csrRead w core 2 = w.frm.setWidth 32 ∧
      s.csrRead w core 0x011 = BitVec.ofNat 32 (16 - (s.core (lowerCore core)).fifo.length) ∧
      (∀ k, s.crew w.crew = some k → s.csrRead w core 0x020 = k.arrived) ∧
      (∀ i < 16, let e := s.smapOf (coreCluster core) i
        s.csrRead w core (0x7C0 + 2 * i) =
          BitVec.ofNat 32 (bitNat e.v * 2 ^ 31 + bitNat e.wb * 2 ^ 30 + e.nt * 2 ^ 20 + e.soff * 2 ^ 10) ∧
        s.csrRead w core (0x7C1 + 2 * i) = BitVec.ofNat 32 e.gtn) ∧
      s.csrRead w core 0x7E0 = BitVec.ofNat 32 (s.shdwSt * 2 ^ 29 + s.shdwBand * 2 ^ 8 + (Spiral.of s s.shdwBand).res) ∧
      s.csrRead w core 0xFC0 = BitVec.ofNat 32 (0x86000001 + (if Config.fabSecond (coreStack core) then 2 else 1) * 2 ^ 16 +
        Config.stepping.toNat * 2 ^ 8) ∧
      s.csrRead w core 0xFC1 = BitVec.ofNat 32 (s.stack (coreStack core)).lvl) ∧
    (∀ k p, s.partOfCore core = some (k, p) →
      s.csrRead w core 0x008 = (if s.alarm = true ∨ p.rem < 0 ∧ ∀ e ∈ s.crewsOn core, e.2.cover = 0 then 1 else 0) ∧
      s.csrRead w core 0x010 = BitVec.ofNat 32 (wrapInt 32 p.rem) ∧
      s.csrRead w core 0x700 = lowWord p.trapvec ∧ s.csrRead w core 0x701 = highWord p.trapvec ∧
      s.csrRead w core 0x702 = lowWord p.savebase ∧ s.csrRead w core 0x703 = highWord p.savebase ∧
      s.csrRead w core 0x7E8 = BitVec.ofNat 32 (p.rnd.toNat % 65536 * 65536 + p.nextPer)) ∧
    (∀ e ∈ ([(.csrw, fun _ x => x), (.csrs, fun o x => o ||| x), (.csrc, fun o x => o &&& ~~~x)] :
        List ((BitVec 7 → BitVec 7 → BitVec 5 → Instr) × (Word → Word → Word))),
      ∀ b, Clear c w (useUni b 1) →
        let x := e.2 (s.csrRead w core n) (s.uarg c w b)
        (n = 0x020 → Saving c w) → csrReserved n x = false → (csrGuarded n = true → Privileged c w) →
        (n = 0x7E0 → shdwCore core x = true) →
        (csrReadOnly n = true → exec (e.1 b l h) s = .next (s.advance c c.group)) ∧
        (∀ t, csrReadOnly n = false → s.csrWrite c.warp w core n x = some t →
          exec (e.1 b l h) s = .next (t.advance c c.group)) ∧
        (csrReadOnly n = false → s.csrWrite c.warp w core n x = none → ∃ sub, exec (e.1 b l h) s =
          .next ((s.drawn.advance c (c.group &&& ~~~c.taking)).raiseAll c c.taking (trapAt 0xE sub 0)))) ∧
    ∀ x k p, s.partOfCore core = some (k, p) → s.part k = some p →
      s.csrWrite c.warp w core 1 x = some (s.setWarp c.warp { w with fflags := x.setWidth 5 }) ∧
      s.csrWrite c.warp w core 2 x = some (s.setWarp c.warp { w with frm := x.setWidth 2 }) ∧
      (∀ q, s.crew w.crew = some q → s.csrWrite c.warp w core 0x020 x = some (s.setCrew w.crew { q with arrived := x })) ∧
      s.csrWrite c.warp w core 0x700 x = some (s.setPart k { p with trapvec := pairOf (x &&& 0xFFFFFFFE) (highWord p.trapvec) }) ∧
      s.csrWrite c.warp w core 0x701 x = some (s.setPart k { p with trapvec := pairOf (lowWord p.trapvec) x }) ∧
      s.csrWrite c.warp w core 0x702 x = some (s.setPart k { p with savebase := pairOf (x &&& 0xFFFFFF00) (highWord p.savebase) }) ∧
      s.csrWrite c.warp w core 0x7E8 x = some (s.setPart k { p with nextPer := x.toNat % 512 }) ∧
      (∀ i < 16, let e := s.smapOf (coreCluster core) i
        (e.v = true → s.csrWrite c.warp w core (0x7C1 + 2 * i) x = none) ∧
        (e.v = false → s.csrWrite c.warp w core (0x7C1 + 2 * i) x =
          some (s.setSmap (coreCluster core) i { e with gtn := x.toNat })) ∧
        (e.v = false → x.getLsbD 31 = false → s.csrWrite c.warp w core (0x7C0 + 2 * i) x =
          some (s.setSmap (coreCluster core) i { e with nt := bits x.toNat 20 10, soff := bits x.toNat 10 10 }))) ∧
      s.csrWrite c.warp w core 0x703 x = some (s.setPart k { p with savebase := pairOf (lowWord p.savebase) x })

/-- R289, R290, R291, R292, R326: `egy.rd` gives REM and the windows; `egy.req` is granted whole or refused; `pwr.gate` of a
core of the partition, whose queue holds no request for the same register, moves the gate by the table of R326 and gives
its token, at once or later; one that names no such core gives code 3. -/
def Obligations.EnergyResults : Prop :=
  ∀ (s : State) (c : Cur) (w : Warp) (k : Nat) (p : Partition), Issuing s c w → s.partOfCore (s.coreOf w) = some (k, p) →
    s.part k = some p →
    (∀ d, Clear c w (useD d.toNat 2) → exec (.egyRd d) s = .next ((s.setWarp c.warp
      (w.setSPair d.toNat (pairOf (BitVec.ofNat 32 (wrapInt 32 p.rem)) p.windows))).advance c c.group)) ∧
    ∀ a d, Clear c w (uniUses1 a d 1 1) →
      let r := s.uarg c w a
      (exec (.egyReq a d) s =
        if r ≠ 0 ∧ (r.toNat : Int) ≤ p.rem then
          .next ((((s.setPart k { p with rem := p.rem - r.toNat }).onCrew w.crew
            fun k => { k with cover := k.cover + r.toNat }).setWarp c.warp (w.setS d.toNat r)).advance c c.group)
        else .next ((s.setWarp c.warp (w.setS d.toNat 0)).advance c c.group)) ∧
      (Privileged c w →
        let x := r.toNat
        let core := 32 * bits x 8 6 + 4 * (4 + bits x 4 2) + bits x 0 2
        let good := bits x 14 17 = 0 ∧ bits x 6 2 = 0 ∧ bits x 2 2 = 0 ∧ p.holds (bits x 8 6) = true
        let asked := s.setWarp c.warp { w with pend := tput w.pend d.toNat (.gate core) }
        (¬ good → exec (.pwrGate a d) s =
          .next ((asked.giveToken core { warp := c.warp, reg := d.toNat, code := 3 } 3).advance c c.group)) ∧
        (good → exec (.pwrGate a d) s = .next ((asked.gateAsk core c.warp d.toNat (x.testBit 31)).advance c c.group) ∧
          ((asked.gateAsk core c.warp d.toNat (x.testBit 31)).core core).gate =
            match (s.core core).gate, x.testBit 31 with
            | .on, false => if (s.core core).vacate = .vacated ∨ s.crewsOn core = [] then .off else .drain
            | .on, true => .on
            | .drain, false => .drain
            | .drain, true => .on
            | .off, false => .off
            | .off, true => .wake
            | .wake, false => .off
            | .wake, true => .wake))

/-- R293 to R295: `rsend` on a lower core whose upper core is powered adds an entry to the riser FIFO while it has fewer than
16, and waits while it has them; `rrecv` on an upper core takes the first entry of its launch, and has then seen what the
sender had. Both are switch points. -/
def Obligations.RiserResults : Prop :=
  ∀ (s : State) (c : Cur) (w : Warp), Issuing s c w →
    let core := s.coreOf w
    let others := s.switched.advance c (c.group &&& ~~~c.taking)
    (∀ a, Clear c w (useSrc a 1) → isUpperCore core = false → (s.core (upperCore core)).gate ≠ .off →
      (s.core (upperCore core)).gate ≠ .wake →
      (∀ t < 32, inMask c.taking t = true → ((s.ctxOf c w t).src t (w.reader t) a).isSome = true) →
      (16 ≤ (s.core core).fifo.length → exec (.rsend a) s = .next (others.block c c.taking .riserFree)) ∧
      ((s.core core).fifo.length < 16 →
      exec (.rsend a) s = .next ((others.setCore core { s.core core with fifo := (s.core core).fifo ++
        [(((s.launchOf w).map Prod.fst).getD 0, (List.range 32).map fun t => if inMask c.taking t then s.arg c w t a else 0,
          w.viewIn c.taking)] }).advance c c.taking))) ∧
    ∀ nw d launch words stamp rest, Clear c w (useV d.toNat 1) → isUpperCore core = true →
      (s.core (lowerCore core)).fifo = (launch, words, stamp) :: rest → (s.launchOf w).map Prod.fst = some launch →
      exec (.rrecv nw d) s = .next ((s.switched.setWarp c.warp (w.mapThreads fun t th =>
        if inMask c.taking t then
          { th.result (nw == 1) d.toNat [words.getD t 0] with view := laterOf th.view stamp, pc := c.next, held := none }
        else if inMask c.group t then { th with pc := c.next } else th)).setCore (lowerCore core)
          { s.core (lowerCore core) with fifo := rest })

/-- R296, R297, R313: `lnch` reads a record and writes the status of the queue to D: 2 for a queue number above 63, 3 for a
queue that is not device-fed, not enabled or another VF's, and for a record that R310 refuses; 1 for a full ring; and 0 once the
record stands in the slot at the tail, which advances. An accepted launch is a release of the threads' writes. `evt.sig` adds
to its counter, which saturates, as a release, and `evt.wait` goes on once the counter has reached its threshold. An event
number of 4,096 or above takes cause 0x06, sub-cause 7, with the number as its address. -/
def Obligations.LaunchAndEventResults : Prop :=
  ∀ (s : State) (c : Cur) (w : Warp) (k : Nat) (p : Partition), Issuing s c w → s.partOfCore (s.coreOf w) = some (k, p) →
    s.part k = some p →
    (∀ b a d r q, Clear c w ((useUni a 2).and ((useUni b 1).and (useD d.toNat 1))) →
      s.threadLoad { core := s.coreOf w, sup := w.supIn c.taking, view := w.viewIn c.taking } 0 (s.uarg64 c w a) 64 = .ok r →
      r.1.offer (s.coreOf w) k p r.2.1 ((s.launchOf w).bind fun l => l.2.vf) (s.uarg c w b).toNat r.2.2 = .ok q →
      exec (.lnch b a d) s = .next (((if q.2 = 0 then q.1.releasedBy c.warp c.taking else q.1).onWarp c.warp fun w =>
        (w.setS d.toNat (BitVec.ofNat 32 q.2)).onThreads c.taking
          fun th => { th with view := laterOf th.view r.2.1 }).advance c c.group)) ∧
    (∀ core view vf q bs, (63 < q → s.offer core k p view vf q bs = .ok (s, 2)) ∧
      (q ≤ 63 → (p.queue q).en = false ∨ (p.queue q).src = false ∨ ((p.queue q).owned = true ∧ vf ≠ some (p.queue q).owner) →
        s.offer core k p view vf q bs = .ok (s, 3)) ∧
      (q ≤ 63 → (p.queue q).en = true → (p.queue q).src = true → (p.queue q).owned = false ∨ vf = some (p.queue q).owner →
        let x := p.queue q
        (∀ s1, s.examine core (LaunchRec.ofBytes bs) = .ok (s1, none) → s.offer core k p view vf q bs = .ok (s1, 3)) ∧
        ∀ s1 h p2 pa i, s.examine core (LaunchRec.ofBytes bs) = .ok (s1, some h) → s1.part k = some p → bs.length = 64 →
          s1.reach p 0 (x.base.toNat + 64 * (x.tail.toNat % 2 ^ x.logn)) = .dram p2 pa i →
          s1.lostTarget (.dram p2 pa i) = false →
          ((x.tail - x.head).toNat = 2 ^ x.logn → s.offer core k p view vf q bs = .ok (s1, 1)) ∧
          ((x.tail - x.head).toNat ≠ 2 ^ x.logn → ∃ t, s.offer core k p view vf q bs = .ok (t, 0) ∧
            memBytes t.mem i 64 = bs ∧ t.part k = some (p.setQueue q { x with tail := x.tail + 1 })))) ∧
    ∀ b a m, Clear c w ((useUni a 1).and (useUni b 1)) →
      let n := (s.uarg c w a).toNat
      let x := (s.uarg c w b).toNat
      (n < 4096 → exec (.evtSig b a m) s = .next (((if m = 0 then s else s.releasedBy c.warp c.taking).onPart k
        fun p => { p with
          events := wput p.events n (BitVec.ofNat 32 (min 0xFFFFFFFF ((wget p.events n).toNat + x))),
          eventRel := (List.range 5).foldl (fun t o => if m.getLsbD o then
            wput t (8 * n + o) (laterOf (wget t (8 * n + o)) (w.viewIn c.taking)) else t) p.eventRel }).advance c c.group)) ∧
      (n < 4096 → x ≤ (wget p.events n).toNat → exec (.evtWait b a m) s = .next ((s.switched.setWarp c.warp
        (w.onThreads c.taking fun th => { th with view := laterOf th.view (p.eventStamp n m) })).advance c c.group)) ∧
      (n < 4096 → (wget p.events n).toNat < x → exec (.evtWait b a m) s = .next ((s.switched.advance c
        (c.group &&& ~~~c.taking)).block c c.taking (.event n (s.uarg c w b)))) ∧
      (4096 ≤ n →
        exec (.evtSig b a m) s = .next ((s.advance c (c.group &&& ~~~c.taking)).raiseAll c c.taking
          (trapAt 6 7 ((s.uarg c w a).setWidth 64))) ∧
        exec (.evtWait b a m) s = .next ((s.switched.advance c (c.group &&& ~~~c.taking)).raiseAll c c.taking
          (trapAt 6 7 ((s.uarg c w a).setWidth 64))))

/-- R36, R298: the taking-part threads of a barrier form block, and the barrier of their crew or gang is checked. A crew
barrier at which every unfinished warp of the crew has arrived releases its threads, which have then seen what every
thread of the crew had. A gang barrier at which every unfinished crew of the gang stands does so for the gang, and one that a
crew has yet to reach keeps the arrivals; a thread that is released goes on behind its barrier form. -/
def Obligations.BarrierResults : Prop :=
  (∀ (s : State) (c : Cur) (w : Warp) (k : Crew), Issuing s c w → Clear c w Uses.none → s.crewOf w = some k →
    let arrives := fun (st : Dword → Status) => (s.switched.advance c (c.group &&& ~~~c.taking)).onWarp c.warp fun w =>
      w.onThreads c.taking fun th => { th with status := st c.next, pc := c.pc, since := s.cycle }
    exec .barCrew s = .next ((arrives .crewBarrier).settleCrew w.crew) ∧
    exec .barGang s = .next ((arrives .gangBarrier).settleGang k.gang)) ∧
  (∀ (s : State) (ck : Nat) (k : Crew), s.crew ck = some k → (s.warpsOf k).filter (fun e => e.2.unfinished != 0) ≠ [] →
    (∀ e ∈ s.warpsOf k, e.2.unfinished ≠ 0 → e.2.allIn Status.inCrew = true ∧ e.2.wix < 32) →
    s.settleCrew ck = (s.setCrew ck { k with arrived := 0 }).passCrew k Status.inCrew (viewOf (s.warpsOf k))) ∧
  (∀ (s : State) (gk : Nat) (g : Gang), s.gang gk = some g →
    let crews := g.crews.filterMap fun k => s.crew k
    let live := crews.filter fun c => c.state != .finished && (s.warpsOf c).any fun e => e.2.unfinished != 0
    let here := fun (c : Crew) =>
      s.crewHere c = true ∧ ∀ e ∈ s.warpsOf c, e.2.unfinished ≠ 0 → e.2.allIn Status.inGang = true
    (∀ c ∈ live, c.cix < 32) →
    (live ≠ [] → (∀ c ∈ live, here c) → s.settleGang gk = crews.foldl (fun t c =>
      t.passCrew c Status.inGang (viewOf (crews.flatMap s.warpsOf))) (s.setGang gk { g with arrived := 0 })) ∧
    ∀ c ∈ live, g.arrived.getLsbD c.cix = false → (∀ d ∈ live, d.cix = c.cix → ¬ here d) →
      ∃ m, s.settleGang gk = s.setGang gk { g with arrived := m } ∧ ∀ d ∈ live, here d → m.getLsbD d.cix = true) ∧
  ∀ (s : State) (c : Crew) (wk : Nat) (w : Warp) (v : Dword) (i : Nat), wk ∈ c.warps → s.warp wk = some w → i < 32 →
    let th := w.thread i
    let after := fun (f : Status → Bool) => ((s.passCrew c f v).warp wk).map fun w => w.thread i
    (∀ next, (th.status = .gangBarrier next →
        after Status.inGang = some { th with status := .ready, pc := next, view := laterOf th.view v }) ∧
      (th.status = .crewBarrier next →
        after Status.inCrew = some { th with status := .ready, pc := next, view := laterOf th.view v })) ∧
    ∀ f, f th.status = false → after f = some th

/-- R41, R299, R300: `qenq` and `qdeq` act one thread at a time, ascending; `qenq` is for the queue of the thread's own stage,
`qdeq` for that of the stage before. Both are switch points. At the first thread that finds its queue open and full, or open and
empty, the thread and those after it wait. -/
def Obligations.StageQueueResults : Prop :=
  ∀ s c w b a k t, Issuing s c w → Clear c w ((useSrc a 2).and (useSrc b 1)) →
    (turns c (enqTurn c b a) (threadsOf c.taking) (s.switched.passed c) = some t → exec (.qenq b a) s = .next t) ∧
    (turns c (deqTurn c b a k) (threadsOf c.taking) (s.switched.passed c) = some t → exec (.qdeq b a k) s = .next t) ∧
    ∀ done i rest w1, threadsOf c.taking = done ++ i :: rest → t.warp c.warp = some w1 →
      let waits := fun (x : Wait) => Host.Outcome.next ((i :: rest).foldl (fun s j => s.block c (setBit 0 j true) x) t)
      (turns c (enqTurn c b a) done (s.switched.passed c) = some t → enqWaits c b a t w1 i = true →
        exec (.qenq b a) s = waits (.enqueue (t.placeOf w1).stg)) ∧
      (turns c (deqTurn c b a k) done (s.switched.passed c) = some t → deqWaits c b a t w1 i = true →
        exec (.qdeq b a k) s = waits (.dequeue ((t.placeOf w1).stg - 1)))

/-- R276, R283, R302, R303: `pcrd` and `pcwr` read and write an item of each thread's resume record, `cvbrd` and `cvbwr` a
word of a convergence barrier, in a pre-emption handler; elsewhere they take cause 0x02, sub-cause 12. Selector 0 is M, 1 is Z,
2 to 33 are the cycles left to a thread's timeout, 0 for none; a higher one reads 0 and writes nothing. `kv.kvinv`, in
supervisor mode, drops the entries it selects from every table of the partition. -/
def Obligations.SaveRestoreResults : Prop :=
  ∀ (s : State) (c : Cur) (w : Warp), Issuing s c w →
    (∀ b nw d, Saving c w → Clear c w ((useSrc b 1).and (useV d.toNat 2)) → Readable s c w [b] →
      exec (.pcrd b nw d) s = .next (laneDone s c w fun t th =>
        let y := if s.val c w t b = 0 then th.resume else if s.val c w t b = 1 then BitVec.ofNat 64 th.left else 0
        wrote nw d th [lowWord y, highWord y])) ∧
    (∀ b a, Saving c w → Clear c w ((useSrc b 1).and (useSrc a 2)) → Readable s c w [b] → Readable64 s c w false [a] →
      exec (.pcwr b a) s = .next (laneDone s c w fun t th =>
        let y := s.val64 c w false t a
        (if s.val c w t b = 0 then { th with resume := y &&& 0xC1FFFFFFFFFFFFFE }
          else if s.val c w t b = 1 then { th with left := y.toNat } else th, Raised.none))) ∧
    (∀ b n d, Saving c w → Clear c w (uniUses1 b d 1 1) → exec (.cvbrd b n d) s =
      .next ((s.setWarp c.warp (w.setS d.toNat (w.barItem n.toNat (s.uarg c w b).toNat))).advance c c.group)) ∧
    (∀ b n d, Saving c w → Clear c w ((useUni b 1).and (useS d.toNat 1)) → exec (.cvbwr b n d) s =
      .next ((s.setWarp c.warp (w.setBarItem n.toNat (s.uarg c w b).toNat (w.sreg d.toNat))).advance c c.group)) ∧
    (∀ n, w.barItem n 0 = (w.bar n).m ∧ w.barItem n 1 = (w.bar n).z ∧
      (∀ t < 32, (tfind (w.bar n).expiry t = none → w.barItem n (2 + t) = 0) ∧ ∀ e, tfind (w.bar n).expiry t = some e →
        w.barItem n (2 + t) = BitVec.ofNat 32 (max 1 (e - w.pausedAt.getD 0))) ∧
      (∀ sel, 34 ≤ sel → w.barItem n sel = 0 ∧ ∀ x, w.setBarItem n sel x = w) ∧
      ∀ x, (w.setBarItem n 0 x).bar n = { w.bar n with m := x } ∧ (w.setBarItem n 1 x).bar n = { w.bar n with z := x } ∧
        (∀ t < 32, let b := (w.setBarItem n (2 + t) x).bar n
          b.m = (w.bar n).m ∧ b.z = (w.bar n).z ∧
          tfind b.expiry t = (if x = 0 then none else some (w.pausedAt.getD 0 + x.toNat)) ∧
          ∀ u, u ≠ t → tfind b.expiry u = tfind (w.bar n).expiry u) ∧
        ∀ sel, (∀ j, j ≠ n → (w.setBarItem n sel x).bar j = w.bar j) ∧
          w.setBarItem n sel x = { w with bars := (w.setBarItem n sel x).bars }) ∧
    (¬ Saving c w → let outside := Host.Outcome.next (s.raiseAll c c.group (trapAt 2 12 0))
      (∀ b nw d, ((useSrc b 1).and (useV d.toNat 2)).declared w = true → exec (.pcrd b nw d) s = outside) ∧
      (∀ b a, ((useSrc b 1).and (useSrc a 2)).declared w = true → exec (.pcwr b a) s = outside) ∧
      (∀ b n d, (uniUses1 b d 1 1).declared w = true → exec (.cvbrd b n d) s = outside) ∧
      ∀ b n d, ((useUni b 1).and (useS d.toNat 1)).declared w = true → exec (.cvbwr b n d) s = outside) ∧
    ∀ k p n, Privileged c w → Clear c w (useS n.toNat 1) → s.partOfCore (s.coreOf w) = some (k, p) →
      kvinvValid (w.sreg n.toNat) = true →
      let kept := s.cores.map fun e =>
        if p.holdsCore e.1 then (e.1, { e.2 with ktb := e.2.ktb.filter fun b => !kvinvDrops (w.sreg n.toNat) b }) else e
      exec (.kvKvinv n) s = .next ({ s with cores := kept }.advance c c.group)

/-- R284, R304, R332, R340: `tret` reads the frame at the aligned offset that it names, once a nested handler is done. For a
cause other than 0x11 the taking-part threads that the frame names leave their handler, to its even PC, with s31 restored;
for a save frame the warp leaves its core, once its commands are done; for a restore frame every thread resumes from its
record. Outside a handler it takes cause 0x02, sub-cause 13. A warp that has left keeps no register, and its crew the spill
pointer; with the last of its warps a crew is suspended, without descriptors, cap and arrivals, and with the last crew the
core's engine state is reset and the core vacated. A record of STATE 0 makes its thread go on at its PC, STATE 2 leaves it
finished, STATE 3 parked with the frame at +0, and STATE 1 blocked in the barrier at its PC, where it has arrived or arrives
now; in a barrier of which it is no member it goes on. `tret` writes s31, so it waits while s31 is pending (R251), and a frame that
cannot be read names the frame's address (R223). -/
def Obligations.ReturnResults : Prop :=
  (∀ (s : State) (wk : Nat) (w : Warp) (spill : Dword) (c : Crew), s.warp wk = some w → s.crew w.crew = some c →
    (s.core c.core).vacate ≠ .inService →
    let t := s.leaveWarp wk w spill
    let others := ∀ e ∈ s.warpsOf c, e.1 ≠ wk → e.2.run = .left ∨ e.2.unfinished = 0
    (∃ u, t.warp wk = some u ∧ u.run = .left ∧ u.s = [] ∧ u.frm = 0 ∧ u.fflags = 0 ∧ u.bars = [] ∧ u.pend = [] ∧ u.subs = [] ∧
      ∀ i < 32, (u.thread i).v = [] ∧ (u.thread i).p = 0 ∧ (u.thread i).resume = 0 ∧ (u.thread i).l0 = none ∧
        (u.thread i).l1 = none ∧ (u.thread i).l2 = none ∧ (u.thread i).l3 = none) ∧
    (¬ others → t.crew w.crew = some { c with spill := tput c.spill w.wix spill }) ∧
    (others → t.crew w.crew = some { c with spill := tput c.spill w.wix spill, state := .suspended, td := [], cap := 0,
                                            marks := 0, arrived := 0 } ∧
      (t.crewsOn c.core = [] → (t.core c.core).bufs = [] ∧ (t.core c.core).accs = [] ∧ (t.core c.core).tasks = [] ∧
        ((s.core c.core).vacate = .leaving → (t.core c.core).vacate = .vacated)))) ∧
  (∀ (s : State) (wk : Nat) (w : Warp) (x : Word) (f : Option Frame), s.warp wk = some w →
    (∀ i < 32, resumeState (w.thread i).resume ≠ 1) →
    (∀ i < 32, resumeState (w.thread i).resume = 3 → ∃ g, f = some g ∧ inMask g.mask i = true) →
    ∃ u, (s.resumeAll wk x f).warp wk = some u ∧ u.run = .resident ∧ u.pausedAt = none ∧ u.sreg 31 = x ∧ ∀ i < 32,
      let th := w.thread i
      let r := u.thread i
      r.v = th.v ∧ r.p = th.p ∧ r.pc = resumePc th.resume ∧ r.handler = .none ∧ r.sup = s.baseMode w ∧ r.l0 = none ∧
        r.l1 = none ∧ r.l2 = none ∧ r.l3 = none ∧ (resumeState th.resume = 0 → r.status = .ready) ∧
        (resumeState th.resume = 2 → r.status = .finished) ∧ (resumeState th.resume = 3 → r.status = .parked)) ∧
  (∀ (s : State) (wk t : Nat) (w : Warp) (pc next : Dword) (x : Nat), s.warp wk = some w → t < 32 →
    s.peekWord (s.coreOf w) (s.baseMode w) pc = some (x, next) →
    let u := ((s.rejoin wk t pc).warp wk).map fun w => w.thread t
    let n := fieldNat x 14 4
    let k := fieldNat x 7 3
    (isCvbWait x = true → (inMask (w.bar n).z t = true ∨ inMask (w.bar n).m t = true →
        u = some { w.thread t with status := .converge n k next, since := s.cycle }) ∧
      (inMask (w.bar n).z t = false → inMask (w.bar n).m t = false →
        u = some { (w.thread t).setP k false with pc := next })) ∧
    (isCvbWait x = false →
      (isBarCrew x = true → u = some { w.thread t with status := .crewBarrier next, since := s.cycle }) ∧
      (isBarCrew x = false → isBarGang x = true →
        u = some { w.thread t with status := .gangBarrier next, since := s.cycle }))) ∧
  ∀ (s : State) (c : Cur) (w : Warp) (a : BitVec 7) (k : Nat) (p : Partition) r, Issuing s c w → Clear c w (useUni a 1) →
    (w.handlerIn c.group = .none → exec (.tret a) s = .next (s.switched.raiseAll c c.group (trapAt 2 13 0))) ∧
    (w.handlerIn c.group ≠ .none → s.partOfCore (s.coreOf w) = some (k, p) → (tfind w.pend 31).isSome = true →
      exec (.tret a) s = .next ((s.switched.advance c (c.group &&& ~~~c.taking)).stall c c.taking (.scalar 31))) ∧
    (w.handlerIn c.group ≠ .none → s.partOfCore (s.coreOf w) = some (k, p) → tfind w.pend 31 = none →
      (w.handlerIn c.taking = .trap ∨ w.handlerIn c.taking = .preempt → w.nesting = false) → (s.uarg c w a).toNat % 64 = 0 →
      ∀ y, let va := p.savebase + (s.uarg c w a).setWidth 64
      s.switched.slotRead (s.coreOf w) (w.viewIn c.taking) va 8 = .trap y →
      exec (.tret a) s = .next ((s.switched.advance c (c.group &&& ~~~c.taking)).raiseAll c c.taking { y with addr := va })) ∧
    (w.handlerIn c.group ≠ .none → s.partOfCore (s.coreOf w) = some (k, p) → tfind w.pend 31 = none →
      (w.handlerIn c.taking = .trap ∨ w.handlerIn c.taking = .preempt → w.nesting = false) → (s.uarg c w a).toNat % 64 = 0 →
      s.switched.slotRead (s.coreOf w) (w.viewIn c.taking) (p.savebase + (s.uarg c w a).setWidth 64) 8 = .ok r →
      let f := Frame.ofBytes r.2.2
      (f.cause ≠ 0x11 → f.pc.getLsbD 0 = false → exec (.tret a) s =
        .next (r.1.setWarp c.warp ((w.setS 31 f.s31).mapThreads fun t th =>
          if inMask c.taking t then
            if inMask f.mask t then (Thread.leaveHandler (r.1.baseMode w) f.pc (laterOf f.view r.2.1) th)
            else { th with pc := c.next, view := laterOf th.view r.2.1, held := none }
          else if inMask c.group t then { th with pc := c.next } else th))) ∧
      (f.cause = 0x11 → f.sub = 1 → (∀ t ∈ (r.1.core (s.coreOf w)).tasks, t.crew ≠ w.crew) → w.pend = [] →
        ∀ q, r.1.slotRead (s.coreOf w) r.2.1 (p.savebase + BitVec.ofNat 64 (r.1.slotOf w + 128)) 1 = .ok q →
          exec (.tret a) s = .next (q.1.leaveWarp c.warp w (BitVec.ofNat 64 (bytesNat q.2.2)))) ∧
      (f.cause = 0x11 → f.sub ≠ 1 →
        ((∀ th ∈ w.threads, resumeState th.resume ≠ 3) → exec (.tret a) s = .next (r.1.resumeAll c.warp f.s31 none)) ∧
        ((∃ th ∈ w.threads, resumeState th.resume = 3) →
          ∀ q, r.1.slotRead (s.coreOf w) r.2.1 (p.savebase + BitVec.ofNat 64 (r.1.slotOf w)) 8 = .ok q →
            exec (.tret a) s = .next (q.1.resumeAll c.warp f.s31 (some (Frame.ofBytes q.2.2))))))

/-- R144 to R146, R329, R330, R333 to R335, R349: a word that does not decode traps in every thread of the PC group, whatever its
guard. Where the kernel enables the cause, the group parks as one sub-warp that records cause, sub-cause, word and PC;
where it does not, the launch is aborted with a fault record: it starts no further gang, every thread of its crews is finished,
its suspended crews are finished, and its completion release still covers what its threads have seen. -/
def Obligations.DecodingTraps : Prop :=
  (∀ (s : State) (k : Nat) (l : Launch), s.launch k = some l →
    (∀ core x, s.abortFor k core x = (s.logFault l.part
      { va := x.addr, cause := x.cause, sub := x.sub, core := core, source := 5, queue := l.queueNo }).abort k) ∧
    (∃ m, (s.abort k).launch k = some m ∧ m.aborted = true ∧ m.redo = [] ∧ l.gangs ≤ m.next ∧ m.part = l.part ∧
      l.stamp.toNat ≤ m.stamp.toNat) ∧
    (∀ e ∈ s.crews, e.2.launch = k → ∀ wk ∈ e.2.warps, ∀ u, (s.abort k).warp wk = some u → u.unfinished = 0) ∧
    ∀ ck c, s.crew ck = some c → c.launch = k → c.state = .suspended →
      ∃ d, (s.abort k).crew ck = some d ∧ d.state = .finished) ∧
  ∀ (s : State) (c : Cur) (w : Warp) (cause sub : Nat) (word : BitVec 32) k l i, Issuing s c w → s.launchOf w = some (k, l) →
    lowestOf c.group = some i → (w.thread i).handler = .none → l.aborted = false → cause = 1 ∨ cause = 2 →
    exec (.reservedInstructionWord cause sub word) s =
      if (s.kernelOf w l).enables (trapAt cause sub 0) then
        .next (s.setWarp c.warp { w.onThreads c.group (fun th =>
            { th with status := .parked, pc := c.pc, timeout := 0, held := none }) with
          subs := w.subs ++ [{ mask := c.group, cause := cause, sub := sub, addr := 0, word := word, pc := c.pc, origin := c.pc,
                               detail := 0, nested := false, framed := false }] })
      else .next (s.abortFor k (s.coreOf w) (trapAt cause sub 0))

/-- R31, R117, R147, R172, R222, R251, R389: what comes before the effect of an instruction. Of VALU and SALU forms: one that
names a register the kernel does not declare traps with cause 0x02, sub-cause 11, in every thread of the group (D counts as
named with NW set: log 37); one that reads or writes a pending scalar register waits for it, the read of a seal register, and
of a token of `pwr.gate`, being a switch point whatever the guards, that of a register which a demote or an evict fills none (log 58,
DEDUCED); one that reads the
completion code of a command that released has then seen what it released; threads that have read their operands before they
blocked read no pending register again, and go on (R233); a thread that reads an invalid latch takes cause
0x0C while the others go on. A GEO thread with a coordinate that is not finite takes cause 0x09. In user mode the
supervisor-only forms take cause 0x03, with the CSR number, or 0xFFFF, as sub-cause. At reduced service the forms on FP64, FP16
and 8-bit formats take cause 0x02, sub-cause 14, GEO forms on FP64 coordinates among them (log 36, DEDUCED). -/
def Obligations.IssueChecks : Prop :=
  ∀ (s : State) (c : Cur) (w : Warp), Issuing s c w →
    (∀ i ∈ ([.valuAdd, .valuSub, .valuXor, .valuDiv] : List Form2), ∀ b a nw d, (uses2 b a d 1 1).declared w = false →
      exec (i b a nw d) s = .next (s.raiseAll c c.group (trapAt 2 11 0))) ∧
    (∀ i ∈ ([.saluAdd, .saluSub, .saluXor, .saluDiv] : List Uniform2), ∀ b a d,
      (uniUses2 b a d 1 1).declared w = false → exec (i b a d) s = .next (s.raiseAll c c.group (trapAt 2 11 0))) ∧
    (∀ i ∈ ([.saluAdd, .saluSub, .saluXor, .saluDiv] : List Uniform2), ∀ b a d n,
      (uniUses2 b a d 1 1).declared w = true → c.taking ≠ 0 → (uniUses2 b a d 1 1).pendingRead w = some n →
      (∀ j < 32, inMask c.taking j = true → (w.thread j).held = none) →
      exec (i b a d) s = .next (((if (uniUses2 b a d 1 1).s.any w.sealPending then s.switched else s).advance c
        (c.group &&& ~~~c.taking)).stall c c.taking (.scalar n))) ∧
    (∀ i ∈ ([(.saluAdd, fun x y => x + y), (.saluSub, fun x y => x - y), (.saluXor, fun x y => x ^^^ y)] :
        List (Uniform2 × (Word → Word → Word))),
      ∀ b a d n, let u := uniUses2 b a d 1 1
      let fresh := c.taking &&& w.where_ fun th => th.held.isNone
      let late := c.taking &&& ~~~fresh
      let t := ((if u.s.any w.sealPending then s.switched else s).advance c (c.group &&& ~~~c.taking)).stall c fresh (.scalar n)
      u.declared w = true → late ≠ 0 → u.pendingRead w = some n →
      (∀ m, u.pendingWrite w = some m → exec (i.1 b a d) s = .next (t.stall c late (.scalar m))) ∧
      ∀ w1, u.pendingWrite w = none → t.warp c.warp = some w1 → exec (i.1 b a d) s = .next (t.setWarp c.warp
        ((w1.setS d.toNat (i.2 (t.uval c w1 a) (t.uval c w1 b))).onThreads late fun th => { th with pc := c.next }))) ∧
    (∀ i ∈ ([.saluAdd, .saluSub, .saluXor, .saluDiv] : List Uniform2), ∀ b a d,
      (uniUses2 b a d 1 1).declared w = true → c.taking = 0 → exec (i b a d) s =
        .next ((if (uniUses2 b a d 1 1).s.any w.sealPending then s.switched else s).advance c c.group)) ∧
    (∀ n, w.sealPending n = true ↔ (∃ b, tfind w.pend n = some (.batch b)) ∨ ∃ k, tfind w.pend n = some (.gate k)) ∧
    (∀ i ∈ ([.saluAdd, .saluSub, .saluXor, .saluDiv] : List Uniform2), ∀ b a d n,
      (uniUses2 b a d 1 1).declared w = true → c.taking ≠ 0 → (uniUses2 b a d 1 1).pendingRead w = none →
      (uniUses2 b a d 1 1).pendingWrite w = some n →
      exec (i b a d) s = .next ((s.advance c (c.group &&& ~~~c.taking)).stall c c.taking (.scalar n))) ∧
    (∀ i ∈ ([(.saluAdd, fun x y => x + y), (.saluSub, fun x y => x - y), (.saluXor, fun x y => x ^^^ y)] :
        List (Uniform2 × (Word → Word → Word))),
      ∀ b a d, let u := uniUses2 b a d 1 1
      u.declared w = true → c.taking ≠ 0 → u.pendingRead w = none → u.pendingWrite w = none →
      let v := u.s.foldl (fun v n => laterOf v (wget w.seals n)) 0
      let t := uniformDone s c (w.setS d.toNat (i.2 (s.uval c w a) (s.uval c w b)))
      exec (i.1 b a d) s = .next (if v = 0 then t else t.onWarp c.warp fun w =>
        w.onThreads c.taking fun th => { th with view := laterOf th.view v })) ∧
    (∀ i ∈ ([(.valuAdd, fun x y => x + y), (.valuSub, fun x y => x - y), (.valuXor, fun x y => x ^^^ y)] :
        List (Form2 × (Word → Word → Word))),
      ∀ b a nw d, Clear c w (uses2 b a d 1 1) →
      let stale := fun t => ((s.plain c w).src t (w.thread t) a).isNone || ((s.plain c w).src t (w.thread t) b).isNone
      (threadsOf c.taking).filter stale ≠ [] →
      exec (i.1 b a nw d) s = .next ((s.setWarp c.warp (w.mapThreads fun t th =>
        if inMask c.taking t then
          if stale t then th
          else { th.result (nw == 1) d.toNat [i.2 (s.val c w t a) (s.val c w t b)] with pc := c.next }
        else if inMask c.group t then { th with pc := c.next } else th)).raise c
          (((threadsOf c.taking).filter stale).map fun t => (t, trapAt 0xC 0 0)))) ∧
    (∀ e ∈ ([(.geoOrient2, 3, 2, false), (.geoOrient3, 4, 3, false), (.geoIncircle, 4, 2, true), (.geoInsphere, 5, 3, true)] :
        List ((BitVec 1 → BitVec 7 → BitVec 1 → BitVec 6 → BitVec 1 → BitVec 6 → Instr) × Nat × Nat × Bool)),
      ∀ sym b x a nw d, Clear c w (geoUses sym b x a d (e.2.1 * e.2.2.1)) →
      (sym = 1 → Readable s c w [b]) → (x = 1 → FullService s w) →
      let block := fun t => coordinates (w.thread t) x a (e.2.1 * e.2.2.1)
      let odd := fun t => (block t).any Option.isNone
      (threadsOf c.taking).filter odd ≠ [] →
      exec (e.1 sym b x a nw d) s = .next ((s.setWarp c.warp (w.mapThreads fun t th =>
        if inMask c.taking t then
          if odd t then th
          else { th.result (nw == 1) d.toNat [BitVec.ofInt 32 (geoSign e.2.2.2 (points th x a e.2.1 e.2.2.1)
            (if sym = 1 then some ((List.range e.2.1).map (elementOf 4 (s.val c w t b).toNat)) else none))] with pc := c.next }
        else if inMask c.group t then { th with pc := c.next } else th)).raise c
          (((threadsOf c.taking).filter odd).map fun t =>
            (t, trapAt 9 ((block t).findIdx Option.isNone * if x = 1 then 2 else 1) 0)))) ∧
    (∀ x a nw d, Clear c w (geoUses 0 0 x a d 8) → (x = 1 → FullService s w) →
      let block := fun t => coordinates (w.thread t) x a 8
      (∀ t < 32, inMask c.taking t = true → (block t).any Option.isNone = true) →
      exec (.geoSegx x a nw d) s = .next ((s.advance c (c.group &&& ~~~c.taking)).raise c
        ((threadsOf c.taking).map fun t => (t, trapAt 9 ((block t).findIdx Option.isNone * if x = 1 then 2 else 1) 0)))) ∧
    (w.supIn c.group = false → let refused := fun (n : Nat) => Host.Outcome.next (s.raiseAll c c.group (trapAt 3 n 0))
      (∀ a d, (uniUses1 a d 1 1).declared w = true → exec (.pwrGate a d) s = refused 0xFFFF) ∧
      (∀ n, (useS n.toNat 1).declared w = true → exec (.kvKvinv n) s = refused 0xFFFF) ∧
      ∀ h l, let n := csrNumber h l
        (∀ d, (useD d.toNat 1).declared w = true → csrHidden n = true → exec (.csrr h l d) s = refused n) ∧
        ∀ e ∈ ([(.csrw, fun _ x => x), (.csrs, fun o x => o ||| x), (.csrc, fun o x => o &&& ~~~x)] :
            List ((BitVec 7 → BitVec 7 → BitVec 5 → Instr) × (Word → Word → Word))),
          ∀ b, (useUni b 1).declared w = true → csrGuarded n = true →
            csrReserved n (e.2 (s.csrRead w (s.coreOf w) n) (s.uarg c w b)) = false → exec (e.1 b l h) s = refused n) ∧
    ((s.stack (coreStack (s.coreOf w))).lvl = 1 →
      let refused := Host.Outcome.next (s.raiseAll c c.group (trapAt 2 14 0))
      (∀ e ∈ ([(.daluAdd, 2, 2), (.daluSub, 2, 2), (.daluMul, 2, 2), (.daluMin, 2, 2), (.daluMax, 2, 2), (.daluDiv, 2, 2),
          (.daluAddFtz, 2, 2), (.daluSubFtz, 2, 2), (.daluMulFtz, 2, 2), (.daluMinFtz, 2, 2), (.daluMaxFtz, 2, 2),
          (.daluDivFtz, 2, 2), (.dfmaFma, 2, 2), (.dfmaFms, 2, 2), (.dfmaFnma, 2, 2), (.dfmaFnms, 2, 2), (.dfmaFmaFtz, 2, 2),
          (.dfmaFmsFtz, 2, 2), (.dfmaFnmaFtz, 2, 2), (.dfmaFnmsFtz, 2, 2), (.halu2F16Add, 1, 1), (.halu2F16Sub, 1, 1),
          (.halu2F16Mul, 1, 1), (.halu2F16Min, 1, 1), (.halu2F16Max, 1, 1), (.halu2F16Pack, 1, 1), (.halu2F16Fma, 1, 1),
          (.qdecE4m3nF32, 1, 4), (.qdecE5m2nF32, 1, 4), (.qdecDm8F32, 1, 4), (.qdecE4m3nBf16, 1, 2), (.qdecE5m2nBf16, 1, 2),
          (.qdecDm8Bf16, 1, 2), (.qdecE4m3nF16, 1, 2), (.qdecE5m2nF16, 1, 2), (.qdecDm8F16, 1, 2), (.cmprExp8, 1, 2)] :
            List (Form2 × Nat × Nat)), ∀ b a nw d, (uses2 b a d e.2.1 e.2.2).declared w = true → exec (e.1 b a nw d) s = refused) ∧
      (∀ e ∈ ([(fun _ => .daluSqrt, 2, 2), (fun _ => .daluSqrtFtz, 2, 2), (fun _ => .fcvtF32F16, 1, 1), (.fcvtF16F32, 1, 1),
          (fun _ => .fcvtF64F32, 1, 2), (fun _ => .fcvtF64S32, 1, 2), (.fcvtF32F64, 2, 1), (.fcvtS32F64, 2, 1),
          (.fcvtS64F64, 2, 2), (.fcvtN64F64, 2, 2), (.fcvtF64S64, 2, 2), (.fcvtF64N64, 2, 2), (.frndRndF64, 2, 2),
          (fun _ => .frndClsF64, 2, 1), (fun _ => .frndFrexpmF64, 2, 2), (fun _ => .frndFrexpeF64, 2, 1),
          (fun _ => .cmprComp16 1, 2, 1), (fun _ => .cmprMeta16 1, 2, 1), (fun _ => .cmprComp8, 2, 1), (fun _ => .cmprMeta8, 2, 1)] :
            List ((BitVec 2 → Form1) × Nat × Nat)),
        ∀ r a nw d, (uses1 a d e.2.1 e.2.2).declared w = true → exec (e.1 r a nw d) s = refused) ∧
      (∀ i ∈ ([.fcmpDeq, .fcmpDne, .fcmpDlt, .fcmpDle, .fcmpDun] : List Compare),
        ∀ b a p, ((useSrc a 2).and (useSrc b 2)).declared w = true → exec (i b a p) s = refused) ∧
      (∀ b a nw d, ((useSrc a 2).and ((useSrc b 1).and (useV d.toNat 2))).declared w = true →
        exec (.frndLdexpF64 b a nw d) s = refused) ∧
      (∀ i ∈ ([.qcvtE4m3n, .qcvtE5m2n, .qcvtDm8] :
          List (BitVec 1 → BitVec 7 → BitVec 4 → BitVec 2 → BitVec 1 → BitVec 6 → Instr)), ∀ sat b g r nw d,
        ((useSrc b 1).and ((useV (4 * g.toNat) 4).and (useV d.toNat 1))).declared w = true → exec (i sat b g r nw d) s = refused) ∧
      (∀ e ∈ ([(.geoOrient2, 6), (.geoOrient3, 12), (.geoIncircle, 8), (.geoInsphere, 15), (fun _ _ => .geoSegx, 8)] :
          List ((BitVec 1 → BitVec 7 → BitVec 1 → BitVec 6 → BitVec 1 → BitVec 6 → Instr) × Nat)), ∀ sym b a nw d,
        (geoUses sym b 1 a d e.2).declared w = true → exec (e.1 sym b 1 a nw d) s = refused) ∧
      ∀ p t b a y x acc, (mmaUses b a y x).declared w = true →
        (s.core (s.coreOf w)).narrowOperands (p == 1) a.toNat b.toNat (w.padOperand x a) (w.padOperand y b) = true →
        exec (.mma p t b a y x acc) s = refused ∧ exec (.mmaz p t b a y x acc) s = refused)

/-! ## Events -/

/-- R33, R127, R237, R243, R336: a thread whose `cvb.wait` timeout has passed goes on with predicate true and leaves Z; one
whose `lld` timeout has passed issues it again; one whose range form is done goes on; a register whose write-backs are done
gets status 0; and threads blocked too long take cause 0x14, those of one PC together, which is the model's choice: R336 does not
say which threads trap as one sub-warp (log 42, DEDUCED). -/
def Obligations.WakingEvents : Prop :=
  ∀ (s : State) (wk : Nat) (w : Warp) (t : Nat), s.warp wk = some w → s.runs w = true →
    (∀ n k next e, (w.thread t).status = .converge n k next → tfind (w.bar n).expiry t = some e → e < s.cycle →
      exec (.cvbTimeout wk t) s = .next (s.setWarp wk ((w.mapThreads fun i th =>
        if i = t then { th.setP k true with status := .ready, pc := next } else th).setBar n
          { w.bar n with z := setBit (w.bar n).z t false, expiry := tdel (w.bar n).expiry t }))) ∧
    (∀ a st lt x, (w.thread t).status = .waiting (.lattice a st lt x) → (w.thread t).timeout ≠ 0 →
      (w.thread t).timeout < s.cycle →
      exec (.lldTimeout wk t) s = .next (s.setWarp wk (w.mapThreads fun i th =>
        if i = t then { th with status := .ready } else th))) ∧
    (∀ ids next, (w.thread t).status = .waiting (.range ids next) → s.settled ids = true →
      exec (.rangeOpComplete wk t) s = .next (s.setWarp wk (w.mapThreads fun i th =>
        if i = t then { th with status := .ready, pc := next, held := none } else th))) ∧
    (∀ d ids, tfind w.pend d = some (.spiral ids) → s.settled ids = true →
      exec (.demoteEvictStatus wk d) s = .next (s.setWarp wk { w.setS d 0 with pend := tdel w.pend d })) ∧
    (s.dogDue wk w t = true → ∃ c x, exec (.watchdog wk t) s =
        .next ((s.withdraw wk w x).drawn.raiseAll c x (trapAt 0x14 0 0)) ∧ c.warp = wk ∧ c.pc = (w.thread t).pc ∧
      ∀ i < 32, inMask x i = ((w.thread i).pc == (w.thread t).pc && s.dogDue wk w i))

/-- R328 to R332: a parked sub-warp of a warp that can issue nothing else enters its handler: a frame is written at its slot,
192 bytes further for a nested one, s31 names it, every latch is invalid, its threads run at `trapvec` in supervisor
mode, after the write of the frame in their program order, and the lane chooses anew where it was the warp's: one that another
warp keeps stays that one's (R28). -/
def Obligations.HandlerEntry : Prop :=
  ∀ (s : State) (wk : Nat) (w : Warp) (x : Sub) (k : Nat) (l : Launch) (p : Partition) (t : State × Dword), s.warp wk = some w →
    s.launchOf w = some (k, l) → s.part l.part = some p → x.framed = false →
    let enters := fun (i : Instr) (nested : Bool) (h : Thread → Handler) =>
      let off := s.slotOf w + (if nested then 192 else 0)
      let v := (threadsOf x.mask).foldl (fun v t => laterOf v (w.thread t).view) 0
      let frame : Frame := { cause := x.cause, sub := x.sub, addr := x.addr, mask := x.mask, word := x.word, pc := x.pc, view := v,
                             detail := x.detail, s31 := w.sreg 31 }
      (s.setWarp wk { w with subs := dropSub nested w.subs, stuck := none }).slotWrite (s.coreOf w) wk v
          (p.savebase + BitVec.ofNat 64 off) (dwordsOf frame.bytes) = .ok t →
      exec i s = .next ((t.1.freeLane wk).onWarp wk fun w =>
        { (w.setS 31 (BitVec.ofNat 32 off)).mapThreads (fun i th =>
            let th := th.clearLatches
            if inMask x.mask i then
              { th with status := .ready, handler := h th, sup := true, pc := p.trapvec, timeout := 0, held := none,
                        view := laterOf th.view t.2 }
            else th) with stuck := none })
    (s.nextSub wk w = some x → enters (.trapEntry wk) false fun _ => .trap) ∧
    (s.nextNested wk w = some x → enters (.nestedTrapEntry wk) true fun th =>
      if th.handler = .preempt then .nestedPreempt else .nestedTrap) ∧
    s.freeLane wk = s.onLane w fun l => if l.keeps = some wk then { l with keeps := none } else l

/-- R66, R246, R247, R251, R258 to R262, R266, R267, R275, R349, R355, R377 to R384: a task that may start starts; one that is
cancelled completes with code 4 and a fault record; a started `hold` completes with code 1, a copy with what its run came to,
and the collectives of an instance together. Completion frees the entry. What the engines write: `s2s` moves 2,048 bytes of the
scratchpad, `s2b` fills a buffer with a tile and zeros, a read of DRAM delivers its bytes and a write puts them, a matrix step
replaces every element by the sum of its groups, a gather of one token reads where the block table places it, a KV command that
R355 refuses ends with code 4, and a reduction of one or two ranks combines them element by element, with every NaN canonical.
That a command reads and writes whole when it completes is the model's choice (log 11, DESIGN CHOICE), and so is code 4 for a KV
command of a launch that acts for no VF (log 33, DEDUCED). -/
def Obligations.EngineEvents : Prop :=
  (∀ (s : State) (core ent : Nat) (t : Task), ((s.core core).entry ent).task = some t →
    (s.eligible core t = true → (∀ f x td a b c d, t.cmd = .kv f x td a b c d → (s.launch t.launch).bind Launch.vf = none) →
      exec (.taskStart core ent) s = .next (s.setCore core ((s.core core).setEntry ent
        { (s.core core).entry ent with task := some { t with started := true } }))) ∧
    (∀ f x td a b c d v, s.eligible core t = true → t.cmd = .kv f x td a b c d → (s.launch t.launch).bind Launch.vf = some v →
      (s.vf v).sten = false ∨ 2 ^ (s.vf v).stlogn ≤ b.toNat % 65536 →
      exec (.taskStart core ent) s = .next (s.setCore core ((s.core core).setEntry ent
        { (s.core core).entry ent with task := some { t with started := true, refused := true, quar := (s.vf v).quar } }))) ∧
    (∀ f x td a b c d v, s.eligible core t = true → t.cmd = .kv f x td a b c d → (s.launch t.launch).bind Launch.vf = some v →
      (s.vf v).sten = true → b.toNat % 65536 < 2 ^ (s.vf v).stlogn →
      let home := (s.vf v).stbase + BitVec.ofNat 64 (64 * (b.toNat % 65536))
      let q := (s.runOf core t).units home 3
      ∃ u, exec (.taskStart core ent) s = .next u ∧ ((u.core core).entry ent).task =
        some { t with started := true, quar := (s.vf v).quar, seqRecord := foundBytes q.2, seen := q.1.seen, refused := unitsRefuse q.2,
                      stalled := if unitsRefuse q.2 then none else q.1.down, genTime := (s.runOf core t).writtenAt (home + 16) }) ∧
    (t.cancelled = true → exec (.taskComplete core ent) s =
      .next ((s.engineFault core 4 t.launch cancelledTrap).complete core ent 4 0)) ∧
    (∀ code v, (((s.complete core ent code v).core core).entry ent).task = none) ∧
    ∀ crew, t.cancelled = false → t.started = true → s.crew t.crew = some crew →
      (∀ x n, t.cmd = .hold x n → exec (.taskComplete core ent) s = .next (s.complete core ent 1 0)) ∧
      (∀ f x td td2 a b, t.cmd = .copy f x td td2 a b → exec (.taskComplete core ent) s =
        .next (s.endTask core ent t ((s.runOf core t).copy core f x crew td td2 a b))) ∧
      (∀ x td td2 a b, t.cmd = .copy 5 x td td2 a b →
        let from_ := crew.padAt a.toNat
        let to_ := crew.padAt b.toNat
        s.padClocks from_ 2048 = [] → s.padClocks to_ 2048 = [] → marked s.spadPoison from_ 2048 = false →
        ∃ u, exec (.taskComplete core ent) s = .next u ∧ u.mem = s.mem ∧
          (∀ o < 2048, wget u.spad (to_ + o) = wget s.spad (from_ + o)) ∧
          ∀ k, k < to_ ∨ to_ + 2048 ≤ k → wget u.spad k = wget s.spad k) ∧
      (∀ x td td2 a b, t.cmd = .copy 4 x td td2 a b → Desc.valid td = true →
        let from_ := crew.padAt a.toNat
        s.padClocks from_ 2048 = [] → marked s.spadPoison from_ 2048 = false →
        ∃ u, exec (.taskComplete core ent) s = .next u ∧ u.mem = s.mem ∧ u.spad = s.spad ∧
          let y := (u.core core).buf x
          y.full = true ∧ y.use = 1 ∧ y.fmt = Desc.fmt td ∧ y.sfmt = 0 ∧ y.poison = false ∧ y.side = [] ∧
          ∀ i < 32, ∀ o < 64, wget y.data (64 * i + o) =
            if i < Desc.rows td ∧ o < Desc.esize td * Desc.cols td then wget s.spad (from_ + 64 * i + o) else 0) ∧
      (∀ sparse turned overwrite a b sa sb acc, t.cmd = .mma sparse turned overwrite a b sa sb acc →
        let x : Operand := { spad := s.spad, core := s.core core, crew := crew, buf := a, pad := sa }
        let y : Operand := { spad := s.spad, core := s.core core, crew := crew, buf := b, pad := sb }
        let old := (s.core core).acc acc
        ∃ u, exec (.taskComplete core ent) s = .next u ∧ (((u.core core).entry ent).task = none) ∧
          let new := (u.core core).acc acc
          new.defined = true ∧
          (sa = none → sb = none → new.poison =
            (((Command.uses t.cmd).any fun k => ((s.core core).buf k).poison) || (!overwrite && old.poison))) ∧
          ∀ i < 32, ∀ j < 32, wget new.el (32 * i + j) =
            stepElement sparse turned overwrite x y i j (wget old.el (32 * i + j))) ∧
      (∀ f x td a b c d l, t.cmd = .kv f x td a b c d → s.launch t.launch = some l → (Desc.base td).toNat % Desc.esize td = 0 →
        l.vf = none ∨ t.refused = true ∨ (∃ r, t.seqRecord = some r ∧ (SeqRecord.of r).state ≠ 1) →
        exec (.taskComplete core ent) s = .next ((s.engineFault core 3 t.launch kvRefused).complete core ent 4 t.stamp)) ∧
      (∀ f g td td2, t.cmd = .col f g td td2 → exec (.taskComplete core ent) s = .next (s.endInstance core t)) ∧
      (∀ td td2 g k p n i, t.cmd = .col 6 td td2 g → s.instanceOf core t = some (k, p, n, i) → s.part k = some p →
        (s.members i).length = (p.group n).participants →
        (∀ m ∈ s.members i, m.task.started = true ∧ m.cmd = (6, [], [])) →
        exec (.taskComplete core ent) s = .next (((s.members i).foldl (fun s m => s.complete m.core m.ent 1
            ((s.members i).foldl (fun v m => laterOf v m.task.stamp) 0)) s.drawn).setPart k
          (p.setGroup n { p.group n with gseq := (p.group n).gseq + 1,
                                         insts := (p.group n).insts.filter fun j => j.k != i.k })))) ∧
  (∀ (r : Run) va s1 x p pa a, r.stop = none → r.down = none →
    (∀ n, r.state.site r.who va 1 needRead = .ok (s1, x, .dram p pa a) → s1.lostTarget (.dram p pa a) = false →
      s1.poisonAt (.dram p pa a) n = false → ∃ r', r.read va n = (r', .bytes (s1.plainBytes p.keyId a n)) ∧ r'.state.mem = s1.mem ∧
        r'.stop = none ∧ r'.poison = r.poison) ∧
    ∀ bs, r.state.site r.who va 1 needWrite = .ok (s1, x, .dram p pa a) →
      memBytes (r.write va bs.length (.bytes bs)).state.mem a bs.length = bs ∧
      ∀ b, b < a ∨ a + bs.length ≤ b → wget (r.write va bs.length (.bytes bs)).state.mem b = wget s1.mem b) ∧
  (∀ (overwrite : Bool) (a b : Operand) (i j : Nat) (old : Word), formatSize (a.fmt false) = 2 →
    let group := fun q => groupSum ((List.range 8).map fun k => (a.element false i (8 * q + k), b.element false (8 * q + k) j))
      (scaleProduct (a.scale false (2 * i + q / 2)) (b.scale false (2 * j + q / 2)))
      (elementUnit (a.fmt false) * elementUnit (b.fmt false))
    let add := fun x y => (fp32.add false .rne x y).1
    i < 32 → j < 32 → stepElement false false overwrite a b i j old =
      BitVec.ofNat 32 (add (add (add (if overwrite then group 0 else add old.toNat (group 0)) (group 1)) (group 2)) (group 3))) ∧
  (∀ (r r1 : Run) core x v crew td (a b c w : Word) quar bytes time, r.stop = none → (Desc.base td).toNat % Desc.esize td = 0 →
    let record := SeqRecord.of bytes
    let size := Desc.esize td
    let col := b.toNat / 65536
    let at_ := fun (j : Nat) => Desc.base td + BitVec.ofNat 64 (size * (col + j + a.toNat % 16 * Desc.str td 1 +
      w.toNat % 2 ^ 31 * Desc.str td 2))
    record.state = 1 → a.toNat < record.len → ({ r with handle := Desc.handle td } : Run).block core v (b.toNat % 65536) record time (a.toNat / 16) = (r1, some w) →
    r1.stop = none → r1.poison = false → r1.down = none → w.getLsbD 31 = true → w.toNat % 2 ^ 31 < Desc.ext td 2 →
    quarNames quar (w.toNat % 2 ^ 31) = false →
    let q := Run.collect (fun r (p : Nat × Nat) =>
      if p.1 = 0 ∧ p.2 < Desc.cols td ∧ col + p.2 < Desc.ext td 0 then ((r.read (at_ p.2) size).1, (p, (r.read (at_ p.2) size).2))
      else (r, (p, .bytes (List.replicate size 0)))) r1 (imageElements size)
    (∀ e ∈ q.2, e.2 ≠ .poison) →
    r.kv core 0 x v crew td a b c 1 false quar (some (bytes, time)) =
      ({ q.1 with state := q.1.state.fillBuf core x (imageTab size q.2) [] }, [])) ∧
  ∀ (d : Desc) (x y : Rows),
    (∀ fn, fn < 3 → ∀ i, i < Desc.flatRows d → ∀ j, j < Desc.ext d 0 →
      let e := fun (z : Rows) => (z.getD i []).getD j (0, false)
      ((collectiveResult fn d [x, y]).getD i []).getD j (0, false) =
        ((reduceFmt (Desc.fmt d)).canonical (reduceStep fn (reduceFmt (Desc.fmt d)) (e x).1 (e y).1), (e x).2 || (e y).2)) ∧
    (∀ fn, fn < 3 → ∀ i, i < Desc.flatRows d → ∀ j, j < Desc.ext d 0 → ((collectiveResult fn d [x]).getD i []).getD j (0, false) =
      ((reduceFmt (Desc.fmt d)).canonical ((x.getD i []).getD j (0, false)).1, ((x.getD i []).getD j (0, false)).2)) ∧
    (∀ i, i < Desc.flatRows d → (collectiveResult 3 d [x, y]).getD i [] = triNormalise (triCombine (x.getD i []) (y.getD i []))) ∧
    collectiveResult 4 d [x, y] = x ∧ collectiveResult 5 d [x, y] = x ++ y

/-- R79, R87, R89 to R95, R121, R122, R125, R126, R128, R348: a queued write-back reaches DRAM in turn; an error poisons a
resident 16-byte word, or loses a replica's line, or a word that a core alone holds; a round joins the replicas that it pairs,
repairs a lost line from the partner's, and advances its counters; a scratchpad range is mapped, unmapped and written back;
rings are reserved, or the status says why not; and an invalidation sets GO, drops the translations of the pages named from the
TLBs, and clears GO. The model's choices among these, which no rule states: that an invalidation leaves no word owned by a core of
the partition (log 16, DESIGN CHOICE: R393 asks only that writes through an older translation have reached their home slices); that
an error leaves the words that a core owns as they are, and that the replica it strikes is any one (log 54, DEDUCED); that a round
also exchanges in a partition that is stopped (log 20, DEDUCED); ST 2 at reduced service (log 86); one BAND and ST pair for the
package (log 84); a queued byte that never replaces a newer one (log 55); and what an exchange does with poison (log 100). -/
def Obligations.MemoryEvents : Prop :=
  ∀ (s : State) (n m : Nat),
    (∀ b rest, (tfind s.wbq n).getD [] = b :: rest → ∃ t, exec (.writebackAccepted n) s = .next t ∧
      (tfind t.wbq n).getD [] = rest ∧
      ∀ x, (∀ k p, s.partOfBand (x / Config.bandBytes) = some (k, p) → s.mapped p (p.fromPackage x) = none) →
        wget t.mem x = wget s.mem x ∧
        (b.bytes.filter (fun c => c.1 == x) = [] → tfind t.under x = tfind s.under x) ∧
        ∀ v, b.bytes.filter (fun c => c.1 == x) = [(x, v)] →
          (tfind t.under x).getD (wget t.mem x) = if (tfind s.under x).isSome then v else wget s.mem x) ∧
    (∀ p band tile, s.tileOf n = some (p, band, tile) →
      (tfind s.latPages (n / 4096) = none →
        (s.resident band tile = false → exec (.spiralUncorrectableError n) s = .next s) ∧
        (s.resident band tile = true → ∃ t, exec (.spiralUncorrectableError n) s = .next t ∧ t = { s with poison := t.poison } ∧
          (∀ i < 16, tfind t.poison (n / 16 * 16 + i) = if (tfind s.owned ((n / 16 * 16 + i) / 4)).isSome
            then tfind s.poison (n / 16 * 16 + i) else some ()) ∧
          ∀ x, x < n / 16 * 16 ∨ n / 16 * 16 + 16 ≤ x → tfind t.poison x = tfind s.poison x)) ∧
      ((tfind s.latPages (n / 4096)).isSome = true → p.stackList ≠ [] → ∃ st ∈ p.stackList, exec (.spiralUncorrectableError n) s =
        .next { s.drawn with repLost := tput s.repLost (8 * (n / 128) + st) () })) ∧
    (∀ o, tfind s.owned (n / 4) = some o → exec (.onlyCopyUncorrectableError m n) s = .next (if o.core = m then
      { s with owned := tdel s.owned (n / 4), homes := tdel s.homes (n / 4), lost := tput s.lost (n / 4 / 32) () } else s)) ∧
    (∀ p, s.part n = some p → ∃ t, exec (.latticeRound n) s = .next t ∧
      (t.part n).map (fun q => (q.round, q.rnd, q.per)) = some (p.round + 1, p.rnd + 1, p.nextPer) ∧
      (∀ c, tfind s.latPages (c / 512) = none → ∀ st < 8, wget t.reps (8 * c + st) = wget s.reps (8 * c + st)) ∧
      ((s.latPages.map Prod.fst).Nodup → ceilLog2 p.stackList.length ≠ 0 → ∀ page lt, (page, lt) ∈ s.latPages →
        p.ownsCells page = true → ∀ i k, i < k → k = i ^^^ 2 ^ (p.round % ceilLog2 p.stackList.length) → k < p.stackList.length →
        let a := p.stackList.getD i 0
        let b := p.stackList.getD k 0
        (s.stack a).fenced = false → (s.stack b).fenced = false → ∀ c, c / 512 = page →
        let x := wget s.reps (8 * c + a)
        let y := wget s.reps (8 * c + b)
        let u := wget t.reps (8 * c + a)
        let v := wget t.reps (8 * c + b)
        let dead := fun (s : State) st => (tfind s.repLost (8 * (c / 16) + st)).isSome
        (dead s a = false → dead s b = false → u = join lt x y ∧ v = join lt x y) ∧
        (dead s a = true → dead s b = false → u = y ∧ v = y ∧ dead t a = false) ∧
        (dead s a = false → dead s b = true → u = x ∧ v = x ∧ dead t b = false) ∧
        (dead s a = true → dead s b = true → dead t a = true ∧ dead t b = true))) ∧
    (∀ x p, s.part n = some p → exec (.lxschedWrite n x) s =
      .next (if x.toNat % 512 = 0 ∨ 256 < x.toNat % 512 then s else s.setPart n { p with nextPer := x.toNat % 512 })) ∧
    (∀ k p, s.partOfBand (n / 8) = some (k, p) → m < 16 →
      let e := s.smapOf n m
      let inside := fun (a : Nat) => e.gtn ≤ a / 2048 ∧ a / 2048 ≤ e.gtn + e.nt
      (e.v = false → s.smapBad p n m e = false →
        ∃ t, exec (.smapMap n m) s = .next t ∧ t.smapOf n m = { e with v := true, wb := false } ∧ t.mem = s.mem ∧ t.spad = s.spad ∧
          (∀ b ∈ p.bandList, s.atReduced b = false → ∀ x, inside (2048 * x) → t.resident b x = false) ∧
          ∀ a, s.mapped p a = none → inside a →
            t.mapped p a = some (2097152 * n + 2048 * (e.soff + (a / 2048 - e.gtn)) + a % 2048)) ∧
      (e.v = true ∨ s.smapBad p n m e = true → exec (.smapMap n m) s = .next s) ∧
      (e.wb = true → 2048 * (e.gtn + e.nt + 1) ≤ Config.bandBytes * p.bandList.length →
        ∃ t, exec (.smapWritebackDone n m) s = .next t ∧ t.smapOf n m = { e with v := false, wb := false } ∧ t.spad = s.spad ∧
          (∀ o, o < 2048 * (e.nt + 1) →
            let x := 2097152 * n + 2048 * e.soff + o
            let y := p.toPackage (2048 * e.gtn + o)
            (s.spad.filter (fun c => c.1 == x) = [] → wget t.mem y = 0) ∧
            ∀ v, s.spad.filter (fun c => c.1 == x) = [(x, v)] → wget t.mem y = v) ∧
          ∀ a, e.covers p a = false → wget t.mem a = wget s.mem a)) ∧
    (exec (.smapUnmap n m) s = .next (if (s.smapOf n m).v then s.setSmap n m { s.smapOf n m with wb := true } else s)) ∧
    (∀ i ∈ ([(.shdwReserveRing8 n, 1, 32768), (.shdwReserveRings78 n, 2, 16384), (.shdwRelease n, 0, 65536)] :
        List (Instr × Nat × Nat)),
      let b := n % 64
      let sp := Spiral.of s b
      let lim := i.2.2
      ∃ t, exec i.1 s = .next t ∧ t.shdwBand = b ∧ t.mem = s.mem ∧
        if s.atReduced b = true ∧ i.2.1 ≠ 0 then t.shdwSt = 2 ∧ t.spirals = s.spirals
        else if lim < sp.limit ∧ ∃ e ∈ sp.pinned, lim ≤ e.1 then t.shdwSt = 1 ∧ Spiral.of t b = sp
        else if lim < sp.limit ∧ lim - sp.pinned.length < 1024 then t.shdwSt = 2 ∧ Spiral.of t b = sp
        else t.shdwSt = 0 ∧ Spiral.of t b = { sp with res := i.2.1, order := sp.order.take (lim - sp.pinned.length) }) ∧
    ∀ p, s.part n = some p →
      exec (.tinvcPage n) s = .next (s.setPart n
        { p with tinvc := 0x80000000, tinvDue := p.tinvDue ++ [some p.tinva] }) ∧
      exec (.tinvcAll n) s = .next (s.setPart n { p with tinvc := 0xC0000000, tinvDue := p.tinvDue ++ [none] }) ∧
      ∃ t, exec (.tinvcComplete n) s = .next t ∧
        (t.part n).map (fun q => (q.tinvc, q.tinvDue)) = some (p.tinvc &&& 0x40000000, []) ∧
        (∀ c, c ∈ t.tlb → c ∈ s.tlb) ∧ t.mem = s.mem ∧
        (p.tinvDue ≠ [] → ∀ e ∈ t.owned, p.holdsCore e.2.core = false) ∧
        (none ∈ p.tinvDue → ∀ c, c ∈ t.tlb → c.part ≠ n) ∧
        ∀ v, some v ∈ p.tinvDue → ∀ c, c ∈ t.tlb → c.part = n → v.toNat < c.base ∨ c.base + c.size ≤ v.toNat

/-- R20, R43, R253, R310, R314 to R316, R320 to R324, R326, R390: a record that R310 accepts and that is ready begins a launch
with its fields, and one that it refuses a launch without gangs; the launch that gains a band's resources gets its next gang
there, for its charge; an unstarted gang may move to another band; a crew that is done is finished, its warps gone, and what
it leaves is offered to its launch; a finished launch gets its STATUS, signals, and leaves its queue; PBOOT makes the boot
gang's launch, and keeps its outcome; a window refills REM, with debt carried on; and the gate of an idle core goes off and
that of a waking one on. An access of the device that waits for a port stays outstanding (R16). The model's choices among these,
which no rule states: a launch that still runs when its queue is enabled again stands in the ring no more, so that the record at
its index begins, one with SER only after it has finished, and it is forgotten when it has finished (log 119, DESIGN CHOICE, for
R312 only clears the indices); STATUS goes to its slot of the ring as QBASE and LOGN then give it (log 106, DESIGN CHOICE); a
header that PBOOT cannot read gives STATUS 4 (log 45, DEDUCED); and of the gang indices that of a gang to be dispatched again comes
first, then they ascend (log 46, DESIGN CHOICE). -/
def Obligations.SchedulerEvents : Prop :=
  let mk := fun (part : Nat) (queue : Option Nat) (idx : Word) (vf : Option Nat) (r : LaunchRec)
      (h : Option (Header × List Stage)) (stamp : Dword) =>
    ({ part := part, queue := queue, idx := idx, vf := vf, hdr := r.hdr, header := (h.map Prod.fst).getD Header.none_,
       gangs := if h.isSome then r.gangs else 0, args := r.args, qstore := r.qstore, dev := r.dev, dinc := r.dinc,
       wev := r.wev, wth := r.wth, dobs := BitVec.ofNat 5 r.dobs, wobs := BitVec.ofNat 5 r.wobs,
       ser := decide (r.flags % 2 = 1), refused := h.isNone, begun := true, next := 0, redo := [], done := 0,
       stages := (h.map Prod.snd).getD [], band := none, aborted := false, reissued := false, finished := false,
       stamp := stamp, detached := false, stuck := none } : Launch)
  ∀ (s : State) (n m : Nat),
    (∀ p, s.part n = some p →
      let x := p.queue m
      let mine := s.queueLaunches n m
      (x.en = false ∨ x.disp = x.tail ∨ p.stopped = true ∨ (∃ e ∈ mine, e.2.idx = x.disp ∧ e.2.detached = false) →
        exec (.launchBegin n m) s = .next s) ∧
      (x.en = true → x.disp ≠ x.tail → p.stopped = false → (∀ e ∈ mine, e.2.idx = x.disp → e.2.detached = true) →
        let waits := fun (w : Wait) => Host.Outcome.next (if tfind p.stuck m = some w then s
          else s.onPart n fun q => { q with stuck := tput q.stuck m w })
        let begun := fun (s : State) (l : Launch) =>
          let s := s.onPart n fun q => { q with stuck := tdel q.stuck m }
          let t := { s with fresh := s.fresh + 1 }.setLaunch s.fresh l
          if l.gangs = 0 then t.onPart n fun q =>
            if (q.queue m).disp = x.disp then q.setQueue m { q.queue m with disp := (q.queue m).disp + 1 } else q
          else t
        let vf := if x.owned then some x.owner else none
        (∀ w, s.readSlot p (x.slot x.disp) = .wait w → exec (.launchBegin n m) s = waits w) ∧
        (∀ s1, s.readSlot p (x.slot x.disp) = .ok (s1, none) →
          exec (.launchBegin n m) s = .next (begun s1 (mk n (some m) x.disp vf (LaunchRec.ofBytes []) none 0))) ∧
        ∀ s1 bs v, s.readSlot p (x.slot x.disp) = .ok (s1, some (bs, v)) →
          let r := LaunchRec.ofBytes bs
          (∀ w, s1.examine p.anyCore r = .wait w → exec (.launchBegin n m) s = waits w) ∧
          (∀ s2, s1.examine p.anyCore r = .ok (s2, none) →
            exec (.launchBegin n m) s = .next (begun s2 (mk n (some m) x.disp vf r none 0))) ∧
          ∀ s2 h, s1.examine p.anyCore r = .ok (s2, some h) →
            let ready := (r.wev = 0xFFFFFFFF ∨ r.wth.toNat ≤ (wget p.events r.wev.toNat).toNat) ∧
              (r.flags % 2 = 0 ∨ ∀ e ∈ mine, e.2.finished = true)
            (¬ ready → exec (.launchBegin n m) s = .next s) ∧
            (ready → exec (.launchBegin n m) s = .next (begun s2 (mk n (some m) x.disp vf r (some h) (laterOf v
              (if r.wev = 0xFFFFFFFF then 0 else p.eventStamp r.wev.toNat (BitVec.ofNat 5 r.wobs)))))))) ∧
    (∀ l p t, s.launch n = some l → s.part l.part = some p → s.offerBand l.part m = some (n, t) →
      exec (.gangDispatch n m) s = .next t ∧ ∃ g, t.gang s.fresh = some g ∧ g.launch = n ∧ g.band = m ∧ g.state = .assigned ∧
        g.arrived = 0 ∧ (l.stages = [] →
          g.stage = 0 ∧ g.crews.length = l.header.crews ∧ (4 * l.header.energy * l.header.crews : Nat) ≤ p.rem ∧
          (t.part l.part).map Partition.rem = some (p.rem - (4 * l.header.energy * l.header.crews : Nat)) ∧
          (∀ i r, l.redo = i :: r → g.index = BitVec.ofNat 64 i ∧ t.launch n = some { l with redo := r }) ∧
          (l.redo = [] → l.next < l.gangs ∧ g.index = BitVec.ofNat 64 l.next ∧ t.launch n = some { l with next := l.next + 1 }))) ∧
    (∀ t, s.steal n m = some t → exec (.gangSteal n m) s = .next t ∧ ∃ g l g', s.gang n = some g ∧ g.state = .assigned ∧
      s.launch g.launch = some l ∧ l.stages = [] ∧ l.aborted = false ∧ t.gang s.fresh = some g' ∧ g'.launch = g.launch ∧
      g'.index = g.index ∧ g'.band = m ∧ g'.stage = 0 ∧ g'.state = .assigned ∧ g'.crews.length = l.header.crews ∧
      (n ≠ s.fresh → t.gang n = none) ∧ ((∀ c, (s.core c).vacate ≠ .leaving) → t.parts = s.parts) ∧
      (∀ k, k ≠ g.launch → t.launch k = s.launch k) ∧
      ∃ v, t.launch g.launch = some { l with stamp := v } ∧ l.stamp.toNat ≤ v.toNat) ∧
    (s.steal n m = none → exec (.gangSteal n m) s = .next s) ∧
    (∀ c, s.crew n = some c → c.state = .resident → (∀ e ∈ s.warpsOf c, e.2.unfinished = 0) →
      (∀ t ∈ (s.core c.core).tasks, t.crew ≠ n) → ∃ t : State, exec (.crewFinish n) s = .next (t.offerFreed c.launch (coreBand c.core)) ∧
        t.crew n = some { c with state := .finished, td := [] } ∧ ∀ k ∈ c.warps, t.warp k = none) ∧
    (∀ l w, s.launch n = some l → s.launchDone n l = true → s.statusWait l = some w →
      exec (.launchCompletion n) s = .next (s.setLaunch n { l with stuck := some w })) ∧
    ((s.forget n).launch n = none ∧ (∀ k, k ≠ n → (s.forget n).launch k = s.launch k) ∧ ∀ e ∈ (s.forget n).gangs, e.2.launch ≠ n) ∧
    (∀ l p, s.launch n = some l → s.launchDone n l = true → s.part l.part = some p → s.statusWait l = none →
      let status := if l.refused then 4 else if l.aborted then 3 else if l.reissued then 2 else 1
      let s0 := s.setLaunch n { l with finished := true }
      let s1 := if l.dobs = 0 then s0
        else s0.sendHome (writtenByWarps ((s.crews.filter fun e => e.2.launch == n).flatMap fun e => e.2.warps))
      (∀ q w, l.queue = some q →
        s1.deviceWrite p l.stamp ((p.queue q).base.toNat + 64 * (l.idx.toNat % 2 ^ (p.queue q).logn) + 52) (natBytes 4 status) = .ok w →
        let done := if l.refused = true ∨ l.dev = 0xFFFFFFFF then w.1 else w.1.signal l.part l.dev.toNat l.dinc l.dobs w.2
        exec (.launchCompletion n) s =
          .next (if l.detached = true then done.forget n else State.retire l.part q (s.launches.length + 1) done)) ∧
      (l.queue = none → ∃ t, exec (.launchCompletion n) s = .next t ∧ t.launch n = none ∧
        t.part l.part = some { p with pboot := (p.pboot &&& 0xFFFFFFFFFFFFFFC0) ||| BitVec.ofNat 64 (2 * status) } ∧
        ∀ e ∈ t.gangs, e.2.launch ≠ n)) ∧
    (∀ p k, s.part n = some p →
      ((∀ e ∈ s.queueLaunches n m, ¬ (e.2.idx = (p.queue m).head ∧ e.2.finished = true ∧ e.2.detached = false)) →
        State.retire n m (k + 1) s = s) ∧
      (∀ e, s.queueLaunches n m = [e] → e.2.idx = (p.queue m).head → e.2.finished = true → e.2.detached = false →
        (State.retire n m (k + 2) s).launch e.1 = none ∧
        ((State.retire n m (k + 2) s).part n).map (fun q => (q.queue m).head) = some ((p.queue m).head + 1))) ∧
    (∀ p x, s.part n = some p → (∀ e ∈ s.launches, ¬ (e.2.part = n ∧ e.2.queue = none)) →
      (x.getLsbD 0 = false → exec (.pbootGo n x) s =
        .next (s.setPart n { p with pboot := (x &&& 0xFFFFFFFFFFFFFFC0) ||| (p.pboot &&& 0xE) })) ∧
      (x.getLsbD 0 = true →
        let s1 := s.setPart n { p with pboot := x &&& 0xFFFFFFFFFFFFFFC1, stuck := tdel p.stuck 64 }
        let refused := fun (s : State) => Host.Outcome.next
          (s.onPart n fun p => { p with pboot := (x &&& 0xFFFFFFFFFFFFFFC0) ||| 8 })
        let hdr := s1.readHeader p.anyCore (x &&& 0xFFFFFFFFFFFFFFC0)
        (∀ w, hdr = .wait w → exec (.pbootGo n x) s = .next (s1.onPart n fun q => { q with stuck := tput q.stuck 64 w })) ∧
        (∀ y, hdr = .trap y → exec (.pbootGo n x) s = refused s1) ∧
        (∀ s2, hdr = .ok (s2, none) → exec (.pbootGo n x) s = refused s2) ∧
        ∀ s2 h, hdr = .ok (s2, some h) →
          (h.staged = true ∨ h.fitsEmptyBand = false → exec (.pbootGo n x) s = refused s2) ∧
          (h.staged = false → h.fitsEmptyBand = true → ∃ l, exec (.pbootGo n x) s =
            .next ({ s2 with fresh := s2.fresh + 1 }.setLaunch s2.fresh l) ∧ l = mk n none 0 none
              { hdr := x &&& 0xFFFFFFFFFFFFFFC0, gangs := 1, args := 0, qstore := 0, dev := 0xFFFFFFFF, dinc := 0,
                wev := 0xFFFFFFFF, wth := 0, dobs := 0, wobs := 0, flags := 0, rest := 0 } (some (h, [])) 0))) ∧
    (∀ p, s.part n = some p → ∃ t, exec (.energyWindow n) s = .next t ∧
      t.part n = some { p with budgetNow := p.budget, rem := p.budget.toNat + min p.rem 0, windows := p.windows + 1 } ∧
      ∀ k c, t.crew k = some c → p.holdsCore c.core = true → c.cover = 0) ∧
    (exec .powerAlarm s = .next { s with alarm := true } ∧ exec .powerAlarmEnd s = .next { s with alarm := false }) ∧
    ((s.core n).gate = .drain → s.gateIdle n = true → ∃ t : State, exec (.coreGateOff n) s = .next (t.dropSenders (lowerCore n)) ∧
      (t.core n).gate = .off ∧ (t.core n).gateRequests = [] ∧ (t.core (lowerCore n)).fifo = []) ∧
    ((s.core n).gate = .wake → ∃ t, exec (.corePowerRestored n) s = .next t ∧ (t.core n).gate = .on ∧
      (t.core n).gateRequests = [])

/-- R301, R328, R337 to R342, R351: PCMD serves a vacate or a return when nothing stands before it, with result 1 for a core that is
not the partition's and 2 in a state that does not suit; held mode records and stops every unfinished warp of the core, which
then goes on by its records; handler mode records them and enters save frames; a limit that has passed turns it into held mode;
and a warp of a suspended crew re-enters through a restore frame, with every register 0. A return waits, with GO set, while the
storage that comes back has no room or would take what a stage reserves (log 90). A started collective that waits for another
participant is queued again by held mode. A requeued gang keeps what its admission took from REM, and its launch's release still
covers what its threads have seen; that it is charged anew when it is admitted again is the model's choice (log 40, DEDUCED). That
a resumed warp has seen the latest write of the whole package is log 13 (DEDUCED): R351 asks for the crew's own accesses and its
engine commands. -/
def Obligations.PreemptionEvents : Prop :=
  ∀ (s : State) (n core : Nat),
    (∀ p, s.part n = some p → p.pstat.getLsbD 31 = false → p.pcmdQueue = [] → core < 2048 →
      let q := fun (ret : Bool) (st : Word) => { p with pcmd := BitVec.ofNat 32 (bitNat ret * 2 ^ 30 + core), pcmdQueue := [], pstat := st }
      let asked : Word := BitVec.ofNat 32 (2 ^ 31 + 2 ^ 30 + core)
      let stands := s.setPart n { p with pcmd := asked, pcmdQueue := [asked] }
      let ready := stands.mayReturn asked = true
      (¬ ready → exec (.pcmdReturn n core) s = .next stands) ∧
      (p.holdsCore core = false → exec (.pcmdVacate n core) s = .next (s.setPart n (q false 0x20000000)) ∧
        (ready → exec (.pcmdReturn n core) s = .next (s.setPart n (q true 0x20000000)))) ∧
      (p.holdsCore core = true →
        ((s.core core).vacate ≠ .inService → exec (.pcmdVacate n core) s = .next (s.setPart n (q false 0x40000000))) ∧
        ((s.core core).vacate = .inService → ready → exec (.pcmdReturn n core) s = .next (s.setPart n (q true 0x40000000))) ∧
        ((s.core core).vacate = .inService → s.crewsOn core = [] → ∃ t, exec (.pcmdVacate n core) s = .next t ∧
          t.part n = some (q false 0) ∧ t.core core = { s.core core with vacate := .vacated } ∧ t.warps = s.warps) ∧
        ((s.core core).vacate = .inService → s.crewsOn core ≠ [] →
          (∀ e ∈ s.gangs, e.2.state = .assigned → ∀ c ∈ s.crewsOn core, c.2.gang ≠ e.1) → ∃ t, exec (.pcmdVacate n core) s = .next t ∧
          t.part n = some (q false 0x80000000) ∧ t.warps = s.warps ∧
          t.core core = { s.core core with vacate := .asked (s.handlerMode core), askedAt := s.cycle }) ∧
        ((s.core core).vacate ≠ .inService → s.crewsOn core = [] → ready → ∃ t, exec (.pcmdReturn n core) s = .next t ∧
          t.part n = some (q true 0) ∧ t.core core = { s.core core with vacate := .inService }))) ∧
    (∀ g l p, s.gang n = some g → s.launch g.launch = some l → s.part l.part = some p → g.stage = 0 → l.stages = [] →
      l.aborted = false → let t := s.requeueGang n
      t.gang n = none ∧ (∃ v, t.launch g.launch = some { l with redo := l.redo ++ [g.index.toNat], stamp := v } ∧
        l.stamp.toNat ≤ v.toNat ∧ ∀ ck ∈ g.crews, ∀ c, s.crew ck = some c → ∀ wk ∈ c.warps, ∀ w, s.warp wk = some w →
          ∀ th ∈ w.threads, th.view.toNat ≤ v.toNat) ∧
      (t.part l.part).map Partition.rem = some p.rem) ∧
    (s.heldDue core = true → ∀ k p, s.partOfCore core = some (k, p) → s.part k = some p → ∃ t, exec (.heldStop core) s = .next t ∧
      t.core core = { s.core core with vacate := .vacated, entries := (t.core core).entries } ∧
      (∀ ent task, ((t.core core).entry ent).task = some task → task.started = false ∧
        ∃ b, ((s.core core).entry ent).task = some { task with started := b }) ∧ t.part k = some { p with pstat := 0 } ∧
      ∀ wk ∈ s.warpKeysOn core, ∀ w, s.warp wk = some w → w.run = .resident → w.unfinished ≠ 0 → w.saving = false →
        ∃ u, t.warp wk = some u ∧ u = { w with threads := u.threads, run := .held, pausedAt := some (w.pausedAt.getD s.cycle), stuck := none } ∧
          ∀ i < 32, let th := w.thread i
            let left := if th.timeout = 0 then 0 else max 1 (th.timeout - s.cycle)
            u.thread i = { th.clearLatches with
              resume := match th.status with
                | .finished => resumeWord th.pc 2
                | .converge _ _ _ => resumeWord th.pc 1
                | .crewBarrier _ => resumeWord th.pc 1
                | .gangBarrier _ => resumeWord th.pc 1
                | .parked => resumeWord ((((w.subs.filter fun x => !x.nested).find? fun x => inMask x.mask i).map Sub.origin).getD th.pc) 3
                | _ => resumeWord th.pc 0,
              left := match th.status with | .ready => left | .waiting _ => left | _ => 0 }) ∧
    (∀ wk w, s.warp wk = some w → w.run = .held → w.saving = false → ∃ u, s.resumeHeld wk = s.setWarp wk u ∧ u.run = .resident ∧
      u.pausedAt = none ∧ u.s = w.s ∧ ∀ i < 32,
        (∀ x, (w.thread i).status = .waiting x → (u.thread i).status = .ready ∧ (u.thread i).pc = (w.thread i).pc ∧
          (u.thread i).held = none ∧ (u.thread i).timeout = if (w.thread i).left = 0 then 0 else s.cycle + (w.thread i).left) ∧
        ((w.thread i).status = .ready ∨ (w.thread i).status = .finished → (u.thread i).status = (w.thread i).status)) ∧
    ((s.core core).vacate = .asked true → exec (.preemptSaveEntry core) s =
      let t := s.setCore core { s.core core with vacate := .leaving }
      .next (((t.warpKeysOn core).foldl State.enterSave t).leftCore core)) ∧
    (∀ wk w k p, s.warp wk = some w → w.run = .resident → w.unfinished ≠ 0 → s.partOfCore (s.coreOf w) = some (k, p) →
      let v := w.viewIn 0xFFFFFFFF
      let off := s.slotOf w + 64
      let w1 := { w.record s.cycle with subs := [], pausedAt := some s.cycle }
      let frame := fun (spill : Dword) =>
        ({ cause := 0x11, sub := 1, addr := 0, mask := 0xFFFFFFFF, word := 0, pc := 0, view := v, detail := spill,
           s31 := w.sreg 31 } : Frame)
      ∀ q r t lk l, (s.setWarp wk w1).slotWrite (s.coreOf w) wk v (p.savebase + BitVec.ofNat 64 off) (dwordsOf (frame 0).bytes) = .ok q →
        (s.setWarp wk w1).slotRead (s.coreOf w) v (p.savebase + BitVec.ofNat 64 (off + 64)) 1 = .ok r →
        r.1.warp wk = some w1 → r.1.crews = s.crews → r.1.launchOf w1 = some (lk, l) → r.1.part l.part = some p →
        r.1.slotWrite (s.coreOf w) wk v (p.savebase + BitVec.ofNat 64 off)
          (dwordsOf (frame (BitVec.ofNat 64 (bytesNat r.2.2))).bytes) = .ok t →
        s.enterSave wk = (t.1.freeLane wk).onWarp wk fun w =>
          { (w.setS 31 (BitVec.ofNat 32 off)).mapThreads (fun _ th =>
            { th.clearLatches with status := .ready, handler := .preempt, sup := true, pc := p.trapvec, timeout := 0, held := none,
                                   view := laterOf th.view t.2 }) with
            stuck := none }) ∧
    (s.phlimDue core = true → exec (.phlimExpiry core) s =
      .next (s.setCore core { s.core core with vacate := .asked false })) ∧
    (∀ t, s.resumeCrew n core = some t → exec (.preemptRestoreEntry n core) s = .next t) ∧
    (∀ c, s.crew n = some c → c.state = .resident → c.core = core →
      exec (.preemptRestoreEntry n core) s = .next ((s.restoreLate c).foldl State.enterRestore s)) ∧
    ∀ wk w c lk l p, s.warp wk = some w → s.crew w.crew = some c → s.launchOf w = some (lk, l) → s.part l.part = some p →
      let spill := (tfind c.spill w.wix).getD 0
      let seen := laterOf (viewOf (s.warpsOf c)) s.latest
      let w1 := { w.emptied.mapThreads (fun _ th =>
        { th with resume := resumeWord 0 2, status := .ready, view := seen, fenced := s.draws }) with
        run := .resident, pausedAt := some s.cycle }
      let off := s.slotOf w + 64
      let frame : Frame := { cause := 0x11, sub := 2, addr := 0, mask := 0xFFFFFFFF, word := 0, pc := 0, view := seen,
                             detail := spill, s31 := 0 }
      let entered := fun (t : State × Dword) => (t.1.freeLane wk).onWarp wk fun w =>
          { (w.setS 31 (BitVec.ofNat 32 off)).mapThreads (fun _ th =>
            { th.clearLatches with status := .ready, handler := .preempt, sup := true, pc := p.trapvec, timeout := 0, held := none,
                                   view := laterOf th.view t.2 }) with
            stuck := none }
      (w1.s = [] ∧ w1.frm = 0 ∧ w1.fflags = 0 ∧ w1.bars = [] ∧ w1.pend = [] ∧ w1.batches = [] ∧
        ∀ i < 32, (w1.thread i).v = [] ∧ (w1.thread i).p = 0 ∧ (w1.thread i).resume = resumeWord 0 2 ∧ (w1.thread i).view = seen) ∧
      ∀ t u, (s.setWarp wk w1).slotWrite c.core wk seen (p.savebase + BitVec.ofNat 64 off) (dwordsOf frame.bytes) = .ok t →
        t.1.warp wk = some w1 → t.1.crews = s.crews →
        (entered t).slotWrite c.core wk seen (p.savebase + BitVec.ofNat 64 (off + 64)) [spill] = .ok u →
        s.enterRestore wk = u.1.acquire wk 0xFFFFFFFF u.2

/-- R2, R312, R313, R317, R322, R349, R359, R377, R385, R386, R397: what a register write leaves: BUDGET; QCTL, which clears
the indices when it enables the queue; QTAIL, within the ring; QOWN, of a queue that is disabled, for a VF bound here; an
event counter; FLCTL, whose size stands while the log is enabled; a group record, whose instances end; GUAR, within CAP, which
releases holds when it falls; the migration block; VFBIND and VFPORT, ignored whole where a VF owns a queue or is bound
elsewhere, a VF that becomes bound starting with the reset values of its page and no claim or hold of an earlier binding; and a write by number of any page, by Burdy, and by the host through a port that is up (a decoder by the layout of
log 92). That an access of another size or alignment has no effect is the model's choice (log 22, DESIGN CHOICE), and so is that
a write of an event counter keeps the timestamps of its signals (log 62). -/
def Obligations.RegisterWriteEvents : Prop :=
  ∀ (s : State) (n m : Nat) (p : Partition), s.part n = some p →
    let q := p.queue m
    let owns := fun (v : Nat) => ∃ e ∈ s.parts, ∃ x ∈ e.2.queues, x.2.owned = true ∧ x.2.owner = v
    let bound := fun (v : Nat) => ∃ e ∈ s.parts, e.1 ≠ n ∧ e.2.vfbind.getLsbD v = true
    (∀ x, exec (.budgetWrite n x) s = .next (s.setPart n { p with budget := x })) ∧
    (m < 64 → ∀ x,
      let logn := bits x.toNat 0 5
      let set := fun (r : Queue) => (.next (s.setPart n (p.setQueue m r)) : Host.Outcome State Fault Refusal)
      let off := (x - q.head).toNat
      (16 < logn ∨ (q.en = true ∧ (x.getLsbD 30 ≠ q.src ∨ logn ≠ q.logn)) → exec (.qctlWrite n m x) s = set { q with err := true }) ∧
      (logn ≤ 16 → (q.en = true → x.getLsbD 30 = q.src ∧ logn = q.logn) → ∃ r t, exec (.qctlWrite n m x) s = .next t ∧
        t.part n = some (p.setQueue m r) ∧ (x.getLsbD 31 = false ∨ q.en = true → .next t = set r) ∧
        (x.getLsbD 31 = true → q.en = false → ∀ e, e ∈ t.launches ↔ ∃ o ∈ s.launches, o.1 = e.1 ∧
          (o.2.part = n ∧ o.2.queue = some m → o.2.finished = false ∧ e.2 = { o.2 with detached := true }) ∧
          (¬ (o.2.part = n ∧ o.2.queue = some m) → e.2 = o.2)) ∧
        r = { q with en := x.getLsbD 31, src := x.getLsbD 30, pri := bits x.toNat 16 2, logn := logn,
                     err := q.err && !x.getLsbD 29, tail := r.tail, head := r.head, disp := r.disp } ∧
        (r.tail, r.head, r.disp) = if x.getLsbD 31 = true ∧ q.en = false then (0, 0, 0) else (q.tail, q.head, q.disp)) ∧
      (q.src = false → (q.tail - q.head).toNat ≤ off → off ≤ 2 ^ q.logn → exec (.qtailWrite n m x) s = set { q with tail := x }) ∧
      (q.src = true ∨ off < (q.tail - q.head).toNat ∨ 2 ^ q.logn < off → exec (.qtailWrite n m x) s = set { q with err := true }) ∧
      exec (.qownWrite n m x) s = set
        (if q.en = true ∨ (x.getLsbD 31 = true ∧ p.vfbind.getLsbD (bits x.toNat 0 6) = false) then { q with err := true }
         else { q with owned := x.getLsbD 31, owner := bits x.toNat 0 6 })) ∧
    (m < 4096 → ∀ x, exec (.eventCounterWrite n m x) s = .next (s.setPart n { p with events := wput p.events m x })) ∧
    (∀ x, exec (.flctlWrite n x) s = .next (s.setPart n
      (if 16 < bits x.toNat 0 5 ∨ (p.flen = true ∧ bits x.toNat 0 5 ≠ p.fllogn) then p
       else { p with flen := x.getLsbD 31, fllogn := bits x.toNat 0 5, flovf := p.flovf && !x.getLsbD 30 }))) ∧
    (m < 64 → ∀ word x, word < 4 → ∃ t r, exec (.groupRecordWrite n m word x) s = .next t ∧ t.part n = some r ∧
      (r.group m).gseq = 0 ∧ (r.group m).insts = [] ∧ (r.group m).counts = [] ∧
      (word = 0 → (r.group m).gctl = x &&& 0xC00000FF)) ∧
    (∀ v tier x, v < 64 → tier < 3 →
      let u := (s.vf v).tier tier
      let set := s.setVf v ((s.vf v).setTier tier { u with guar := x })
      (s.boundTo v = none → exec (.guarWrite v tier x) s = .next set) ∧
      ∀ k r, s.boundTo v = some (k, r) →
        let others := ((r.vfList.filter (· != v)).map fun y => ((s.vf y).tier tier).guar.toNat).sum
        ((wget r.cap tier).toNat < others + x.toNat → exec (.guarWrite v tier x) s = .next s) ∧
        (others + x.toNat ≤ (wget r.cap tier).toNat → u.guar.toNat ≤ x.toNat → exec (.guarWrite v tier x) s = .next set) ∧
        (others + x.toNat ≤ (wget r.cap tier).toNat → x.toNat < u.guar.toNat → exec (.guarWrite v tier x) s =
          .next { set with claims := set.claims.filterMap fun c =>
            let c := if c.tier = tier ∧ c.vf = v then { c with held := 0 } else c
            if 0 < c.owed + c.held then some c else none })) ∧
    (∀ v x, v < 64 → exec (.migWrite v 16 x) s = .next (s.setVf v { s.vf v with qcnt := x }) ∧
      (∀ off, off % 4 ≠ 0 → exec (.migWrite v off x) s = .next s) ∧
      ∀ tier < 3, let u := (s.vf v).tier tier
        exec (.migWrite v (4 * tier) x) s = .next (s.setVf v ((s.vf v).setTier tier { u with used := x })) ∧
        exec (.migWrite v (20 + 4 * tier) x) s = .next (s.setVf v ((s.vf v).setTier tier { u with recl := x }))) ∧
    (∀ x,
      let changed := fun (v : Nat) => x.getLsbD v ≠ p.vfbind.getLsbD v
      ((∃ v < 64, (changed v ∧ owns v) ∨ (x.getLsbD v = true ∧ bound v)) → exec (.vfbindWrite n x) s = .next s) ∧
      ((∀ v < 64, ¬ (changed v ∧ owns v) ∧ ¬ (x.getLsbD v = true ∧ bound v)) → ∃ t, exec (.vfbindWrite n x) s = .next t ∧
        t.part n = some { p with vfbind := x } ∧
        (∀ c, c ∈ t.claims ↔ c ∈ s.claims ∧ ¬ (x.getLsbD c.vf = true ∧ p.vfbind.getLsbD c.vf = false)) ∧
        ∀ v < 64, t.vf v = if x.getLsbD v = true ∧ p.vfbind.getLsbD v = false then VfPage.init else s.vf v)) ∧
    (∀ x,
      let barred := fun (v : Nat) => (x.getLsbD v ≠ p.vfport.getLsbD v ∧ owns v) ∨
        (x.getLsbD v = true ∧ p.vfport.getLsbD v = false ∧ bound v)
      ((∃ v < 64, barred v) → exec (.vfportWrite n x) s = .next s) ∧
      ((∀ v < 64, ¬ barred v) → exec (.vfportWrite n x) s = .next (s.setPart n { p with vfport := x }))) ∧
    (∀ off x, off % 4 = 0 → exec (.registerWrite 1 0 n off 4 x) s = .next (s.controlWrite n none off (lowWord x))) ∧
    (∀ off size x, off % size ≠ 0 ∨ (size ≠ 4 ∧ size ≠ 8) → exec (.registerWrite 1 0 n off size x) s = .next s) ∧
    (∀ x, exec (.registerWrite 1 0 n 0x30 8 x) s = exec (.vfbindWrite n x) s ∧
      exec (.registerWrite 1 0 n 0x38 8 x) s = exec (.vfportWrite n x) s) ∧
    (∀ v off x, v < 64 → off < 64 → off % 4 = 0 →
      exec (.registerWrite 1 1 v (0x300 + off) 4 x) s = exec (.migWrite v off (lowWord x)) s) ∧
    (∀ size x, let lo := lowWord x
      exec (.registerWrite 1 2 n 0x700 size x) s =
        .next (s.setPart n { p with trapvec := pairOf (lo &&& 0xFFFFFFFE) (highWord p.trapvec) }) ∧
      exec (.registerWrite 1 2 n 0x701 size x) s = .next (s.setPart n { p with trapvec := pairOf (lowWord p.trapvec) lo }) ∧
      exec (.registerWrite 1 2 n 0x702 size x) s =
        .next (s.setPart n { p with savebase := pairOf (lo &&& 0xFFFFFF00) (highWord p.savebase) }) ∧
      exec (.registerWrite 1 2 n 0x703 size x) s = .next (s.setPart n { p with savebase := pairOf (lowWord p.savebase) lo })) ∧
    (m < 2 → ∀ x, let d := s.decoder m
      let set := fun (d : Decoder) => (.next { s with decoders := tput s.decoders m d } : Host.Outcome State Fault Refusal)
      exec (.registerWrite 1 3 m 0 8 x) s = set { d with on := x.getLsbD 63, part := bits x.toNat 0 6 } ∧
      exec (.registerWrite 1 3 m 8 8 x) s = set { d with base := x.toNat } ∧
      exec (.registerWrite 1 3 m 16 8 x) s = set { d with size := x.toNat }) ∧
    ∀ v k r off x, s.boundTo v = some (k, r) → off % 4 = 0 →
      (s.proto (bitNat (r.vfport.getLsbD v)) = 0 → ∀ region size, exec (.registerWrite 0 region v off size x) s = .next s) ∧
      (s.proto (bitNat (r.vfport.getLsbD v)) ≠ 0 →
        (off < 0x1000 → off ≠ 0x150 → exec (.registerWrite 0 0 v off 4 x) s = .next s) ∧
        (s.part k = some r → exec (.registerWrite 0 0 v 0x150 4 x) s = .next (s.setPart k { r with flhead := lowWord x })) ∧
        (s.part k = some r → m < 64 → exec (.registerWrite 0 0 v (0x1008 + 32 * m) 4 x) s =
          if (r.queue m).owned = true ∧ (r.queue m).owner = v then exec (.qctlWrite k m (lowWord x)) s else .next s) ∧
        exec (.registerWrite 0 1 v 0xC 4 x) s = .next (s.setVf v { s.vf v with evtn := lowWord x }))

/-- What an access from outside leaves at a target in memory whose first byte has package address `a`, under a key: a write of a
line that is not lost puts its bytes there and leaves every other byte; a lost line keeps what it is; a read delivers the bytes
that memory holds under the key, and changes none. -/
def OutsideDone (s t : State) (x : Target) (key a size : Nat) (wr : BitVec 1) (val : Dword) : Prop :=
  (wr = 1 → s.lostTarget x = true → t.mem = s.mem ∧ t.lost = s.lost ∧ t.poison = s.poison ∧ (s.deadHome x = true → t = s)) ∧
  (wr = 1 → s.lostTarget x = false → memBytes t.mem a size = natBytes size val.toNat ∧
    ∀ b, b < a ∨ a + size ≤ b → wget t.mem b = wget s.mem b) ∧
  (wr = 0 → t.mem = s.mem ∧ (s.lostTarget x = false → s.poisonAt x size = false →
    (∀ b, a ≤ b → b < a + size → s.standsUnder b = none ∨ s.standsUnder b = some key) →
    t.delivered = BitVec.ofNat 64 (bytesNat (memBytes s.mem a size))))

/-- R115, R359, R360, R374, R385 to R388, R391, R396: a pool operation of a bound VF takes pages or says why not, and delivers its
pair; the host reads and writes VF pages and control pages through a port that is up, the DRAM that the decoder of a CXL port
exposes, its own memory, BOOTCTL, which PF1 only reads, and the staging window; and a peer device reaches the memory that an
export entry names for it, by an access of the kind that it had there: one for which no entry stands raises an alarm. That a write
to a lost line is dropped (log 51, DEDUCED), and that register accesses of another size or alignment have no effect (logs 22
and 51), are the model's choices. -/
def Obligations.OutsideEvents : Prop :=
  ∀ (s : State) (v k : Nat) (p : Partition), s.boundTo v = some (k, p) →
    (∀ e ∈ ([(.poolAdmit, 0), (.poolGrow, 1), (.poolRet, 2)] : List ((Nat → Nat → Nat → Instr) × Nat)), ∀ tier n,
      tier = 1 ∨ tier = 2 → 1 ≤ n → n ≤ 64 →
      let r := s.pool k p v tier e.2 n
      let q := (s.vf v).tier tier
      let slack : Int := (q.guar.toNat : Int) + q.blim.toNat - q.used.toNat
      let may := q.recl = 0 ∧ e.2 ≠ 2 ∧ (n : Int) ≤ slack ∧ (e.2 = 0 → (q.rsv.toNat : Int) ≤ slack - n)
      exec (e.1 v tier n) s = .next { r.1 with delivered := BitVec.ofNat 64 (r.2 + 2 ^ 32 * wrapInt 32
        ((((r.1.vf v).tier tier).guar.toNat : Int) + ((r.1.vf v).tier tier).blim.toNat - ((r.1.vf v).tier tier).used.toNat)) } ∧
      (q.recl ≠ 0 → e.2 ≠ 2 → r = (s, 3)) ∧ (e.2 = 2 → q.used.toNat < n → r = (s, 2)) ∧
      (e.2 = 2 → n ≤ q.used.toNat → r.2 = 0 ∧ (r.1.vf v).tier tier =
        { q with used := q.used - BitVec.ofNat 32 n, recl := q.recl - BitVec.ofNat 32 (min n q.recl.toNat) }) ∧
      (q.recl = 0 → e.2 ≠ 2 → slack < n → r = (s, 2)) ∧
      (q.recl = 0 → e.2 = 0 → (n : Int) ≤ slack → slack - n < q.rsv.toNat → r = (s, 1)) ∧
      (may → q.used.toNat + n ≤ q.guar.toNat → (n : Int) ≤ s.freeOf p tier + s.holdOf tier v →
        r.2 = 0 ∧ (r.1.vf v).tier tier = { q with used := q.used + BitVec.ofNat 32 n }) ∧
      (may → q.used.toNat + n ≤ q.guar.toNat → s.freeOf p tier + s.holdOf tier v < (n : Int) → r.2 = 4) ∧
      (may → q.guar.toNat < q.used.toNat + n → (n : Int) ≤ s.freeOf p tier →
        r.2 = 0 ∧ (r.1.vf v).tier tier = { q with used := q.used + BitVec.ofNat 32 n }) ∧
      (may → q.guar.toNat < q.used.toNat + n → s.freeOf p tier < (n : Int) → r = (s, 2))) ∧
    (s.proto (bitNat (p.vfport.getLsbD v)) = 0 → ∀ region < 2, ∀ addr size wr val,
      exec (.hostAccess v region addr size wr val) s = .next s) ∧
    (s.proto (bitNat (p.vfport.getLsbD v)) ≠ 0 → ∀ x,
      exec (.hostAccess v 0 0xC 4 1 x) s = .next (s.setVf v { s.vf v with evtn := lowWord x }) ∧
      exec (.hostAccess v 0 0xC 4 0 x) s = .next { s with delivered := pairOf (s.vf v).evtn 0 } ∧
      (∀ off, 0x80 ≤ off → off < 0x340 → off % 4 = 0 → exec (.hostAccess v 0 off 4 1 x) s = .next s) ∧
      (∀ off, off % 4 = 0 → exec (.hostAccess v 1 off 4 1 x) s = exec (.registerWrite 0 0 v off 4 x) s) ∧
      ∀ region < 2, ∀ off size, off % size ≠ 0 ∨ (size ≠ 4 ∧ size ≠ 8) →
        exec (.hostAccess v region off size 1 x) s = .next s ∧
        exec (.hostAccess v region off size 0 x) s = .next { s with delivered := 0 }) ∧
    (∀ port addr size wr val r q pa a, let d := s.decoder port
      outsideSize addr size = true → s.proto port = 2 → d.on = true → addr + size ≤ d.size → s.part d.part = some r →
      s.reach r 0 (d.base + addr) = .dram q pa a → ∃ t, exec (.hostAccess port 2 addr size wr val) s = .next t ∧
        OutsideDone s t (.dram q pa a) q.keyId a size wr val) ∧
    (∀ port addr size wr val, let d := s.decoder port
      s.proto port ≠ 2 ∨ d.on = false ∨ d.size < addr + size → exec (.hostAccess port 2 addr size wr val) s = .next s) ∧
    (∀ addr size wr val, outsideSize addr size = true → addr < Config.hostBase → ∃ t,
      exec (.hostAccess v 5 addr size wr val) s = .next t ∧
        OutsideDone s t (.host (Config.hostBase + addr) 0 true 0) 0 (Config.hostBase + addr) size wr val) ∧
    (∀ port < 2, ∀ x, let region := 3 + 3 * port
      (s.proto port = 0 → ∀ addr size wr, exec (.hostAccess v region addr size wr x) s = .next s) ∧
      (s.proto port ≠ 0 → exec (.hostAccess v region 0 4 0 x) s = .next { s with delivered := pairOf s.bootctl 0 } ∧
        exec (.hostAccess v region 0 4 1 x) s =
          if port = 0 ∧ x.getLsbD 31 = true then exec .bootctlGo s else .next s)) ∧
    (∀ addr size x, s.proto 0 ≠ 0 → outsideSize addr size = true → addr + size ≤ 67108864 →
      exec (.hostAccess v 4 addr size 1 x) s = .next { s with staging := memPut s.staging addr (natBytes size x.toNat) } ∧
      exec (.hostAccess v 4 addr size 0 x) s =
        .next { s with delivered := BitVec.ofNat 64 (bytesNat (memBytes s.staging addr size)) }) ∧
    ∀ (peer : BitVec 8) off size kind wr val, s.part k = some p → outsideSize off size = true → kind ≤ 3 →
      (kind = 2 → wr = 0) → (kind = 3 → wr = 1) →
      (∃ j < 16, (s.jalefPort j).up = true ∧ (s.jalefPort j).peer = peer.toNat) →
      (∀ j w, j < 16 → p.export j = w → w.ctl.getLsbD 31 = true → bits w.ctl.toNat 16 8 = peer.toNat →
        off < 1073741824 * w.size.toNat →
        (∀ i < j, ¬ ((p.export i).ctl.getLsbD 31 = true ∧ bits (p.export i).ctl.toNat 16 8 = peer.toNat ∧
          off < 1073741824 * (p.export i).size.toNat)) →
        match s.reach p 0 (w.base.toNat + off) with
        | .dram q pa a => ∃ t, exec (.peerAccess k peer off size kind wr val) s = .next t ∧
            OutsideDone s t (.dram q pa a) q.keyId a size wr val
        | .pad x => exec (.peerAccess k peer off size kind wr val) s = .next (s.outside (.pad x) size (wr == 1) val)
        | _ => exec (.peerAccess k peer off size kind wr val) s = .next (s.alarmAt k 2 0xFFFF 0xFFFFFFFF)) ∧
      ((∀ i < 16, ¬ ((p.export i).ctl.getLsbD 31 = true ∧ bits (p.export i).ctl.toNat 16 8 = peer.toNat ∧
          off < 1073741824 * (p.export i).size.toNat)) →
        exec (.peerAccess k peer off size kind wr val) s = .next (s.alarmAt k 2 0xFFFF 0xFFFFFFFF))

/-- R10, R318, R319, R349, R362, R370, R371, R374, R378, R381, R387 to R390, R394 to R396: reset; a check of the image, which lets a
stack run at reduced service or fences it; raising to full service; making and destroying a partition, whose bytes stay under
a key that is gone; the fence of a stack, which loses the words that its cores alone hold, its spirals and what is queued in its
bands, ends its gangs, whose indices are dispatched again, aborts the staged launches there, and makes the groups of its partitions
invalid; an alarm of each class at every partition that it affects, with its record and the policy of its
class; the states of routers and links; and a rank of another device that joins, or cancels. A destroyed partition's tiles stay
where they are at reduced service (R389), and every byte of its DRAM under the key that is gone, whose bytes no other key
reads: what that encryption yields is free (log 49). The model's choices among these, which no rule states: that raising keeps shadow
reservations, and destroying ends them (log 85, DESIGN CHOICE); that what was queued is written when a partition is destroyed
(log 86); the layout, length and room that an image needs beyond R388's list (log 50, DEDUCED), and the byte order and the
constants of its signature (log 91, PRESUMED); that memory below the host's reads 0 after reset (log 1, DESIGN CHOICE); level 1 of
a stack that refuses its image (log 4, DESIGN CHOICE); and that a fence ends the tasks of the stack's cores, and holds whatever a
check of the image comes to (log 49, DEDUCED). -/
def Obligations.DeviceEvents : Prop :=
  ∀ (s : State) (n : Nat),
    (∃ t, exec .reset s = .next t ∧ t = { State.reset with mem := t.mem, ciphered := t.ciphered, agenda := s.agenda, draws := s.draws,
                                                            fresh := max s.fresh 1 } ∧
      ∀ a, wget t.mem a = (if Config.hostBase ≤ a then wget s.mem a else 0) ∧
        tfind t.ciphered a = if Config.hostBase ≤ a then tfind s.ciphered a else none) ∧
    (s.bootGo = false → s.bootAcpt = 0 → ∃ t, exec .bootctlGo s = .next t ∧ t.bootGo = true ∧ t.bootDone = 0 ∧
      ∀ k < 8, (t.stack k).boot = .checking) ∧
    (s.bootGo = true ∨ s.bootAcpt ≠ 0 → exec .bootctlGo s = .next s) ∧
    (n < 8 → (s.stack n).boot = .checking → ∃ t, exec (.firmwareCheckDone n) s = .next t ∧ t.stack n =
      let struck := (s.stack n).struck
      if s.imageGood n then { boot := .running, lvl := 1, fenced := struck, struck := struck }
      else { boot := .refused, lvl := 1, fenced := true, struck := struck }) ∧
    (let word := fun (o : Nat) => bytesNat (memBytes s.staging o 4)
     let len := word 8
     let k := word 12
     let key := memBytes s.staging (16 + 2 * k) 96
     s.imageGood n = true ↔ word 0 = 0x46584657 ∧ len % 4 = 0 ∧ len ≤ 67108864 ∧ 1 ≤ k ∧ k ≤ 64 ∧ 16 + 2 * k + 96 + 96 ≤ len ∧
       sha384 key = Config.fuseDigest n ∧ Config.fusedVersion n ≤ word 4 ∧
       ecdsaVerifies key (memBytes s.staging 0 (len - 96)) (memBytes s.staging (len - 96) 96) = true ∧
       ∃ i < k, wget s.staging (16 + 2 * i) = BitVec.ofNat 8 (if Config.fabSecond n then 2 else 1) ∧
         wget s.staging (17 + 2 * i) = Config.stepping) ∧
    ((s.stack n).boot = .running → (s.stack n).lvl = 1 → s.stackInUse n = false → ∃ t, exec (.raiseFullService n) s = .next t ∧
      t.stack n = { s.stack n with lvl := 0 } ∧ (∀ b, b / 8 = n → Spiral.of t b = { emptySpiral with res := (Spiral.of s b).res }) ∧
      ∀ e ∈ t.under, e.1 / Config.bandBytes / 8 ≠ n) ∧
    (∀ t b l r, let p := { Partition.make t b l r with keyId := s.fresh }
      exec (.partitionCreate t b l r) s =
        if s.mayCreate p then .next ({ s with fresh := s.fresh + 1 }.setPart (cornerBand t l) p) else .next s) ∧
    (∀ p, s.part n = some p → ∃ t, exec (.partitionDestroy n) s = .next t ∧ t.part n = none ∧
      (∀ e ∈ t.launches, e.2.part ≠ n) ∧ t.mem = s.mem ∧
      (∀ b, p.holds b = true → Spiral.of t b = if s.atReduced b then Spiral.of s b else emptySpiral) ∧
      (∀ b, p.holds b = true → tfind t.wbq b = none) ∧
      (∀ a, a < Config.bandBytes * Config.bandCount → p.holds (a / Config.bandBytes) = true →
        let tile := p.fromPackage a / 2048
        ¬ (s.atReduced (a / Config.bandBytes) = true ∧ s.resident (p.home tile) tile = true) → tfind t.under a = none) ∧
      ∀ a, a < Config.bandBytes * Config.bandCount → p.holds (a / Config.bandBytes) = true → (t.standsUnder a).isSome = true ∧
        (s.standsUnder a = none → t.standsUnder a = some p.keyId)) ∧
    (n < 8 → (s.stack n).fenced = true → exec (.stackFence n) s = .next (s.setStack n { s.stack n with struck := true })) ∧
    (n < 8 → (s.stack n).fenced = false → ∃ t, exec (.stackFence n) s = .next t ∧
      t.stack n = { s.stack n with fenced := true, struck := true } ∧ t.fencedMask.getLsbD n = true ∧
      (∀ k, k ≠ n → t.stack k = s.stack k) ∧
      (∀ e ∈ t.owned, coreStack e.2.core ≠ n) ∧
      (∀ e ∈ s.owned, coreStack e.2.core = n → (tfind t.lost (e.1 / 32)).isSome = true) ∧
      (∀ b, b / 8 = n → Spiral.of t b = { emptySpiral with res := (Spiral.of s b).res } ∧ tfind t.wbq b = none) ∧
      (∀ e ∈ t.gangs, e.2.band / 8 = n → e.2.state = .finished) ∧
      (∀ c ent e, coreStack c = n → tfind (t.core c).entries ent = some e → e.task = none) ∧
      (∀ k l b, s.launch k = some l → l.stages ≠ [] → l.finished = false → l.band = some b → b / 8 = n →
        ∃ m, t.launch k = some m ∧ m.aborted = true) ∧
      (∀ k g l, (s.launches.map Prod.fst).Nodup → s.gang k = some g → g.band / 8 = n → g.state ≠ .finished → g.stage = 0 →
        s.launch g.launch = some l → l.stages = [] → l.aborted = false →
        (∀ c ∈ s.crews, c.2.gang = k → c.2.launch = g.launch) →
        ∃ m, t.launch g.launch = some m ∧ g.index.toNat ∈ m.redo ∧ m.reissued = true) ∧
      ∀ k p, s.part k = some p → n ∈ p.stackList →
        ∃ q, t.part k = some q ∧ ∀ g, (q.group g).gctl.getLsbD 31 = false) ∧
    (∀ cls, exec (.securityAlarm cls n) s = .next ((s.alarmed cls n).foldl (fun s k => s.alarmAt k cls 0xFFFF 0xFFFFFFFF) s) ∧
      ∀ k, k ∈ s.alarmed cls n ↔ ∃ p, (k, p) ∈ s.parts ∧
        (cls = 0 ∨ cls = 3 ∨ (cls = 1 ∧ n ∈ p.stackList) ∨ (cls = 2 ∧ k = n))) ∧
    (∀ k cls core queue p, s.part k = some p →
      let record : FaultRec := { va := 0, cause := 0, sub := cls, core := core, source := 6, queue := queue }
      let policy := bits p.secpol.toNat (2 * cls) 2
      let logged := s.logFault k record
      (policy ≠ 1 → policy ≠ 2 → s.alarmAt k cls core queue = logged) ∧
      (policy = 1 → s.alarmAt k cls core queue = logged.fencePart k p) ∧
      (policy = 2 → s.alarmAt k cls core queue = logged.eraseKeys k p) ∧
      (p.flen = false → logged = s) ∧
      (p.flen = true → (p.fltail - p.flhead).toNat = 2 ^ p.fllogn → logged = s.setPart k { p with flovf := true }) ∧
      (p.flen = true → (p.fltail - p.flhead).toNat ≠ 2 ^ p.fllogn → ∀ w r,
        s.deviceWrite p 0 (p.flbase.toNat + 32 * (p.fltail.toNat % 2 ^ p.fllogn)) record.bytes = .ok w → w.1.part k = some r →
        logged = w.1.setPart k { r with fltail := r.fltail + 1 })) ∧
    (∀ p, s.part n = some p → (∀ b, p.holds b = true → (Spiral.of (s.fencePart n p) b).tiles = []) ∧
      (∃ q, (s.fencePart n p).part n = some q ∧ q.stopped = true) ∧
      ∃ q, (s.eraseKeys n p).part n = some q ∧ q.stopped = true ∧ q.key = false) ∧
    (edgePort n = false → n < 104 →
      (s.router n = .idle → (∃ t, exec (.routerPowerDown n) s = .next t ∧ t.router n = .down) ∧
        ∃ t, exec (.routerWakeSignal n) s = .next t ∧ t.router n = .active) ∧
      (s.router n ≠ .idle → exec (.routerPowerDown n) s = .next s) ∧
      (s.router n = .down → ∃ t, exec (.routerWakeSignal n) s = .next t ∧ t.router n = .waking) ∧
      (s.router n = .waking → exec (.routerWakeSignal n) s = .next s ∧
        ∃ t, exec (.routerPowerRestored n) s = .next t ∧ t.router n = .active)) ∧
    (∀ lanes peer, n < 16 → lanes = 0 ∨ lanes = 2 ∨ lanes = 4 ∨ lanes = 7 → ∃ t, exec (.jalefLinkChange n lanes peer) s = .next t ∧
      t.jalefPort n = { up := decide (lanes ≠ 0), lanes := lanes, peer := peer.toNat }) ∧
    (∀ x, n < 2 → x.toNat ≤ 2 → x = 0 ∨ s.proto n = 0 → ∃ t, exec (.hostPortLinkChange n x) s = .next t ∧
      t.proto n = x.toNat) ∧
    ∀ p g rank, s.part n = some p → g < 64 → (p.group g).gctl.getLsbD 31 = true → (p.group g).gctl.getLsbD 30 = true →
      let first := bits (p.group g).gloc.toNat 16 8
      (rank < first ∨ first + bits (p.group g).gloc.toNat 0 8 < rank → rank < (p.group g).participants →
        exec (.peerCollectiveMessage n g rank 0) s =
          .next (s.setPart n (p.setGroup g ((p.group g).join { rank := rank, core := 65535, ent := 0 }).1))) ∧
      ∃ t, exec (.peerCollectiveMessage n g rank 1) s = .next t ∧ t.part n = some (p.setGroup g { p.group g with
          gseq := (p.group g).gseq + BitVec.ofNat 32 (p.group g).insts.length, insts := [] }) ∧
        ∀ c ent e td x y z w, tfind (s.core c).entries ent = some e → p.holdsCore c = true → e.task = some td →
          td.cmd = .col x y z w → td.inst.isSome = true → w.toNat % 64 = g →
          ∃ e', tfind (t.core c).entries ent = some e' ∧ e'.task = some { td with cancelled := true }

/-! ## What accesses and instructions leave -/

/-- R89, R122, R223, R227, R230, R344 to R346: an access of a thread to DRAM that is on no lattice page, once translated. A
load delivers the bytes at the address, unless a lease may serve it, and leaves memory as it was; a store puts its bytes there
and leaves every other byte; an atomic delivers the old value and writes the new one. A lost line takes cause 0x0B, poison
0x0A (a copy in the core's own cache, which is never one of poison, serves all the same), an address that is not canonical
cause 0x05, one that is not aligned cause 0x04. Where no TLB holds what memory no longer gives, the translation is that of the
walk: its trap, its wait, its permissions, its address, A and D set in the leaf by an OR, and no write when they stand; where no
atomic can be performed on the leaf, cause 0x06, sub-cause 6 (log 99, DEDUCED). -/
def Obligations.MemoryAccessResults : Prop :=
  ∀ (s s1 : State) (w : Who) (rq : Nat) (va : Dword) (x : Site) (p : Partition) (pa a : Nat),
    let t := Target.dram p pa a
    let readable := fun (n : Nat) => ∀ b, a ≤ b → b < a + n → s1.standsUnder b = none ∨ s1.standsUnder b = some p.keyId
    (∀ n, s.site w va n needRead = .ok (s1, x, t) →
      (s1.lostTarget t = true → s.threadLoad w rq va n = .trap (trapAt 0xB 0 va)) ∧
      (s1.lostTarget t = false → s1.poisonAt t n = true →
        (∀ k ∈ wordsOf a n, tfind s1.copies (4096 * k + w.core) = none ∧ tfind s1.shared (4096 * k + w.core) = none) →
        s.threadLoad w rq va n = .trap (trapAt 0xA 0 va)) ∧
      (s1.lostTarget t = false → rq ≤ 1 → (∀ k ∈ wordsOf a n, (tfind s1.shared (4096 * k + w.core)).isSome = true) →
        ∃ r, s.threadLoad w rq va n = .ok r ∧ r.1.mem = s1.mem) ∧
      (s1.lostTarget t = false → s1.poisonAt t n = false → ∃ r, s.threadLoad w rq va n = .ok r ∧ r.1.mem = s1.mem ∧
        (rq ≤ 1 ∨ rq = 3 ∨ w.acquires = true ∨ (∃ k ∈ wordsOf a n, tfind s1.copies (4096 * k + w.core) = none) →
          readable n → r.2.2 = memBytes s1.mem a n))) ∧
    (∀ bs, s.site w va bs.length needWrite = .ok (s1, x, t) →
      (s1.lostTarget t = true → s.threadStore w rq va bs = .trap (trapAt 0xB 0 va)) ∧
      (s1.lostTarget t = false → ∃ r, s.threadStore w rq va bs = .ok r ∧ memBytes r.1.mem a bs.length = bs ∧
        ∀ b, b < a ∨ a + bs.length ≤ b → wget r.1.mem b = wget s1.mem b)) ∧
    (∀ n f, s.site w va n needBoth = .ok (s1, x, t) →
      (s1.lostTarget t = true → s.threadAtomic w rq va n f = .trap (trapAt 0xB 0 va)) ∧
      (s1.lostTarget t = false → s1.poisonAt t n = true → s.threadAtomic w rq va n f = .trap (trapAt 0xA 0 va)) ∧
      (s1.lostTarget t = false → s1.poisonAt t n = false → ∃ r, s.threadAtomic w rq va n f = .ok r ∧
        (readable n → r.2.2 = BitVec.ofNat 64 (bytesNat (memBytes s1.mem a n))) ∧
        match f r.2.2 with
        | none => r.1.mem = s1.mem
        | some y => memBytes r.1.mem a n = natBytes n y.toNat ∧ ∀ b, b < a ∨ a + n ≤ b → wget r.1.mem b = wget s1.mem b)) ∧
    ∀ n need, isSupervisorCore w.core = false →
      (canonical va = false → s.site w va n need = .trap (trapAt 5 1 va)) ∧
      (canonical va = true → va.toNat % n ≠ 0 → s.site w va n need = .trap (trapAt 4 n va)) ∧
      (canonical va = true → s.staleLeaves p w.core va (s.walk p w.core va 4 p.troot.toNat) = [] →
        match s.walk p w.core va 4 p.troot.toNat with
        | .trap y => s.translate p w.core w.sup need va = .trap y
        | .wait y => s.translate p w.core w.sup need va = .wait y
        | .ok l =>
          match leafFault l.whole w.sup need with
          | some k => s.translate p w.core w.sup need va = .trap (trapAt 6 k va)
          | none =>
            let sets := l.entry.testBit 6 = false ∨ (need.write = true ∧ l.entry.testBit 7 = false)
            let barred := (∃ b port key, l.place = .host b port false key) ∨ ∃ dev port off, l.place = .peer dev port off
            (sets → barred → s.translate p w.core w.sup need va = .trap (trapAt 6 6 va)) ∧
            (¬ (sets ∧ barred) → ∃ r, s.translate p w.core w.sup need va = .ok (r, siteOf l.whole l.size va) ∧
              (l.entry.testBit 6 = true → (need.write = true → l.entry.testBit 7 = true) → r.mem = s.mem) ∧
              ∀ q qa b, l.place = .dram q qa b → sets →
                memBytes r.mem b 8 = natBytes 8 (l.entry ||| 64 ||| if need.write then 128 else 0) ∧
                ∀ c, c < b ∨ b + 8 ≤ c → wget r.mem c = wget s.mem c))

/-- R29, R50, R171, R196: what lane and uniform instructions leave. A lane instruction changes its warp alone: of it, flags
accrue, and each taking-part thread changes its PC, its latches and the registers of the result, none with NW. A uniform
instruction changes the scalar registers of its result and the PCs of the group. -/
def Obligations.RegisterFrames : Prop :=
  (∀ i ∈ ([.valuAdd, .valuSub, .valuAnd, .valuOr, .valuXor, .valuShl, .valuShr, .valuSra, .valuMin, .valuMax, .valuMinn,
      .valuMaxn, .valuMul, .valuMulh, .valuDiv, .valuRem, .vmiscDivn, .vmiscRemn, .vmiscMulhn, .vmiscRot, .vmiscMad, .faluAdd,
      .faluSub, .faluMul, .faluMin, .faluMax, .faluCpys, .ffmaFma, .ffmaFms, .ffmaFnma, .ffmaFnms, .halu2Bf16Add, .halu2Bf16Fma,
      .xchShfl, .xchShup, .xchShdn, .xchShxor] : List Form2),
    ∀ s c w b a nw d, Issuing s c w → Clear c w (uses2 b a d 1 1) → Readable s c w [a, b] →
      ∃ t w', exec (i b a nw d) s = .next t ∧ OnlyWarp s t c.warp ∧ t.warp c.warp = some w' ∧
        LaneKept c w w' d.toNat (if nw = 1 then 0 else 1)) ∧
  (∀ i ∈ ([.daluAdd, .daluSub, .daluMul, .daluDiv, .dfmaFma, .dfmaFms] : List Form2),
    ∀ s c w b a nw d, Issuing s c w → Clear c w (uses2 b a d 2 2) → Readable64 s c w true [a, b] → FullService s w →
      ∃ t w', exec (i b a nw d) s = .next t ∧ OnlyWarp s t c.warp ∧ t.warp c.warp = some w' ∧
        LaneKept c w w' d.toNat (if nw = 1 then 0 else 2)) ∧
  ∀ i ∈ ([.saluAdd, .saluSub, .saluAnd, .saluOr, .saluXor, .saluShl, .saluShr, .saluSra, .saluMin, .saluMax, .saluMinn,
      .saluMaxn, .saluMul, .saluMulh, .saluDiv, .saluRem, .smiscDivn, .smiscRemn, .smiscMulhn, .smiscRot, .scmpEq, .scmpNe,
      .scmpLt, .scmpLe, .scmpLtn, .scmpLen] : List Uniform2),
    ∀ s c w b a d, Issuing s c w → Clear c w (uniUses2 b a d 1 1) →
      ∃ t w', exec (i b a d) s = .next t ∧ OnlyWarp s t c.warp ∧ t.warp c.warp = some w' ∧
        w' = { w with s := w'.s, threads := w'.threads } ∧ (∀ k, k ≠ d.toNat → w'.sreg k = w.sreg k) ∧
        ∀ k < 32, w'.thread k = { w.thread k with pc := if inMask c.group k then c.next else (w.thread k).pc }

/-! ## Steps, words and invariants -/

/-- R24, R28, R129, R139: a step in which a warp with one PC group issues, the warp that its lane serves, executes the
instruction that the group's word decodes to, with its guard before it if it has one, and then brings the issue to its end. A
lane serves the warp that keeps it until a switch point (log 93), and a warp that its lane does not serve issues nothing. -/
def Obligations.StepRunsDecoded : Prop :=
  (∀ (s : State) (wk : Nat) (w : Warp) (rest : List Turn), s.rest = none → s.agenda = .issue wk :: rest →
    let s0 := { s with rest := none, cur := none, agenda := rest }
    s0.warp wk = some w → s0.laneChoice (s0.laneOf w) ≠ some wk → step s = .next { s0 with switch := false }) ∧
  (∀ (s : State) (wk : Nat) (w : Warp), s.warp wk = some w → s.runs w = true → w.unfinished ≠ 0 →
    (s.lane (s.laneOf w)).keeps = some wk → s.laneChoice (s.laneOf w) = some wk) ∧
  ∀ (s : State) (wk : Nat) (w : Warp) (g : Group1) (rest : List Turn) f i, s.rest = none → s.agenda = .issue wk :: rest →
    let s0 := { s with rest := none, cur := none, agenda := rest }
    s0.warp wk = some w → s0.runs w = true → s0.laneChoice (s0.laneOf w) = some wk → w.select (s0.readyMask wk w) = [g] →
    let s1 := s0.beginIssue wk w (s0.readyMask wk w) g.mask none
    let sup := w.supIn g.mask
    let issue := fun (next : Dword) (word : Nat) =>
      ({ warp := wk, group := g.mask, taking := g.mask, pc := g.pc, next := next, word := BitVec.ofNat 32 word,
         clk := BitVec.ofNat 64 s.cycle, held := ((lowestOf g.mask).map fun t => w.thread t).bind Thread.held } : Cur)
    s1.fetchWord (s.coreOf w) sup g.pc = .ok f →
      (¬ (f.2.2 = 4 ∧ isGuard f.2.1 = true) → decodeFetched false f.2.1 f.2.2 = .ok i →
        step s = settle (exec i { f.1 with cur := some (issue (g.pc + BitVec.ofNat 64 f.2.2) f.2.1) })) ∧
      ∀ n p h t, decodeFetched false f.2.1 4 = .ok (.guard n p) → f.2.2 = 4 → isGuard f.2.1 = true →
        f.1.fetchWord (s.coreOf w) sup (g.pc + 4) = .ok h → decodeFetched true h.2.1 h.2.2 = .ok i →
        exec (.guard n p) { h.1 with cur := some (issue (g.pc + 4 + BitVec.ofNat 64 h.2.2) h.2.1) } = .next t →
        step s = settle (exec i t)

/-- R131 to R142: words that the spec writes out, and the instructions that they stand for. -/
def Obligations.DecodesWords : Prop :=
  decodeTableWord 32 0x10A10191 = some (.valuSub 5 4 0 3) ∧ decodeTableWord 32 0x0C800083 = some (.saddi 100 0 1) ∧
  decodeTableWord 32 0x2880809B = some (.vcmpLt 0x44 2 1) ∧ decodeTableWord 32 0x10011F25 = some (.jrJcall 4 62) ∧
  decodeTableWord 32 0x00C14233 = some (.ffmaFma 6 5 0 4) ∧ decodeTableWord 32 0x6010824D = some (.ld 3 0 0 0x42 4) ∧
  decodeTableWord 32 0x08C08261 = some (.lst 0x46 2 4) ∧ decodeTableWord 32 0x00000029 = some .ctrlNop ∧
  decodeTableWord 16 0 = none

/-- R131 to R143: decoding the bytes of a well-formed instruction of any word form gives that instruction; a form that a guard
may stand before is the same after one (R139). -/
def Obligations.DecodeOfEncode : Prop :=
  ∀ i : Instr, encodedLength i ≠ 0 → WellFormed i = true →
    decodeBytes false (encodeBytes i) = (encodedLength i, encode i, .ok i) ∧
    (guardable (encode i) = true → decodeBytes true (encodeBytes i) = (encodedLength i, encode i, .ok i))

/-- R22, R24: the machine always goes on: no state makes a step fault or refuse. Traps are taken, and what waits waits. -/
def Obligations.EveryStepGoesOn : Prop := ∀ s : State, Safe s

/-- R24, R27, R28, R30: every step ends between two groups of one issue, or between issues: no instruction is left half done,
an issue that stays begun has a group left, and no switch point is pending outside an issue. -/
def Obligations.StepsEndAtBoundaries : Prop :=
  ∀ s t : State, step s = .next t →
    t.cur = none ∧ (∀ r, t.rest = some r → r.groupB.isSome = true) ∧ (t.rest = none → t.switch = false)

/-- R359, R387, R388, R394: what reset leaves: no partition, warp or launch; every stack in its ROM; memory of which nothing
is listed (log 1), in its canonical form; event numbers 0xFFFFFFFF in every VF page; no issue begun. -/
def Obligations.ResetState : Prop :=
  let s := State.reset
  s.parts = [] ∧ s.launches = [] ∧ s.warps = [] ∧ s.alarm = false ∧ s.bootGo = false ∧ s.bootAcpt = 0 ∧
  (∀ k, (s.stack k).boot = .rom ∧ (s.stack k).fenced = false) ∧ (∀ v, (s.vf v).evtn = 0xFFFFFFFF ∧ (s.vf v).stbase = 0) ∧
  (∀ k, Spiral.of s k = emptySpiral) ∧ s.mem = [] ∧ Memory.wf s.mem = true ∧
  s.cur = none ∧ (∀ r, s.rest = some r → r.groupB.isSome = true) ∧ (s.rest = none → s.switch = false)
end

