-- ==== Sys2Proof/Laws/Table.lean ====
section
/-! SUPPORT. Laws of the sparse tables: what a read gives after a write, and that writes keep the canonical form. -/
namespace Sys2Proof.Machine

theorem tfind_tput_same {α : Type} (t : Tab α) (k : Nat) (a : α) : tfind (tput t k a) k = some a := by
  induction t with
  | nil => simp [tput, tfind]
  | cons e r ih =>
    obtain ⟨j, b⟩ := e
    simp only [tput]
    split
    · have : j ≠ k := by omega
      simp [tfind, this, ih]
    · split <;> simp [tfind]

theorem tfind_tput_other {α : Type} (t : Tab α) {k j : Nat} (a : α) (h : j ≠ k) : tfind (tput t k a) j = tfind t j := by
  induction t with
  | nil => simp [tput, tfind, Ne.symm h]
  | cons e r ih =>
    obtain ⟨i, b⟩ := e
    simp only [tput]
    split
    · simp only [tfind, ih]
    · split
      · rename_i _ h2; subst h2; simp [tfind, Ne.symm h]
      · simp [tfind, Ne.symm h]

theorem tput_tput {α : Type} (t : Tab α) (k : Nat) (a b : α) : tput (tput t k a) k b = tput t k b := by
  induction t with
  | nil => simp [tput]
  | cons e r ih =>
    obtain ⟨j, x⟩ := e
    simp only [tput]
    split
    · next h => simp [tput, h, ih]
    · split <;> simp [tput]

theorem tfind_tdel_same {α : Type} (t : Tab α) (k : Nat) : tfind (tdel t k) k = none := by
  induction t with
  | nil => rfl
  | cons e r ih =>
    obtain ⟨i, b⟩ := e
    simp only [tdel, List.filter] at ih ⊢
    by_cases h : i = k
    · simp [h, ih]
    · have : (i != k) = true := by simp [h]
      simp [this, tfind, h, ih]

theorem tfind_tdel_other {α : Type} (t : Tab α) {k j : Nat} (h : j ≠ k) : tfind (tdel t k) j = tfind t j := by
  induction t with
  | nil => rfl
  | cons e r ih =>
    obtain ⟨i, b⟩ := e
    simp only [tdel, List.filter] at ih ⊢
    by_cases hi : i = k
    · subst hi; simp [tfind, Ne.symm h, ih]
    · have : (i != k) = true := by simp [hi]
      simp only [this, tfind, ih]

theorem wget_wput_same {n : Nat} (t : Tab (BitVec n)) (k : Nat) (x : BitVec n) : wget (wput t k x) k = x := by
  unfold wget wput
  split
  · next h => simp [tfind_tdel_same, h]
  · simp [tfind_tput_same]

theorem wget_wput_other {n : Nat} (t : Tab (BitVec n)) {k j : Nat} (x : BitVec n) (h : j ≠ k) :
    wget (wput t k x) j = wget t j := by
  unfold wget wput
  split
  · rw [tfind_tdel_other _ h]
  · rw [tfind_tput_other _ _ h]

/-! ## The canonical form -/

theorem rising_cons {a : Nat} {l : List Nat} : rising (a :: l) = true ↔ (∀ b ∈ l, a < b) ∧ rising l = true := by
  induction l generalizing a with
  | nil => simp [rising]
  | cons b r ih =>
    simp only [rising, Bool.and_eq_true, decide_eq_true_eq, List.mem_cons]
    constructor
    · rintro ⟨h, h2⟩
      refine ⟨?_, h2⟩
      rintro c (rfl | hc)
      · exact h
      · exact Nat.lt_trans h ((ih.1 h2).1 c hc)
    · rintro ⟨h, h2⟩
      exact ⟨h b (.inl rfl), h2⟩

theorem rising_sublist {l m : List Nat} (h : l.Sublist m) (hm : rising m = true) : rising l = true := by
  induction h with
  | slnil => rfl
  | cons a _ ih => exact ih (rising_cons.1 hm).2
  | cons_cons a hs ih =>
    rw [rising_cons] at hm ⊢
    exact ⟨fun b hb => hm.1 b (hs.subset hb), ih hm.2⟩

/-- Filtering keeps the canonical form. -/
theorem wf_filter {m : Memory} (f : Host.Cell → Bool) (h : Memory.wf m = true) : Memory.wf (m.filter f) = true := by
  simp only [Memory.wf, Bool.and_eq_true, List.all_eq_true] at h ⊢
  refine ⟨rising_sublist (List.filter_sublist.map _) h.1, fun e he => h.2 e (List.mem_filter.1 he).1⟩

theorem mem_keys_tput {α : Type} {t : Tab α} {k j : Nat} {a : α} (h : j ∈ (tput t k a).map Prod.fst) :
    j = k ∨ j ∈ t.map Prod.fst := by
  induction t with
  | nil => simp [tput] at h; exact .inl h
  | cons e r ih =>
    obtain ⟨i, b⟩ := e
    simp only [tput] at h
    split at h
    · simp only [List.map_cons, List.mem_cons] at h ⊢
      rcases h with h | h
      · exact .inr (.inl h)
      · rcases ih h with h | h
        · exact .inl h
        · exact .inr (.inr h)
    · split at h
      · next h2 => simp only [List.map_cons, List.mem_cons] at h ⊢; rcases h with h | h; exact .inl h; exact .inr (.inr h)
      · simp only [List.map_cons, List.mem_cons] at h ⊢; exact h

theorem rising_tput {α : Type} {t : Tab α} (k : Nat) (a : α) (h : rising (t.map Prod.fst) = true) :
    rising ((tput t k a).map Prod.fst) = true := by
  induction t with
  | nil => rfl
  | cons e r ih =>
    obtain ⟨i, b⟩ := e
    simp only [List.map_cons] at h
    have hr := rising_cons.1 h
    simp only [tput]
    split
    · next hik =>
      simp only [List.map_cons, rising_cons]
      refine ⟨fun c hc => ?_, ih hr.2⟩
      rcases mem_keys_tput hc with rfl | hc
      · exact hik
      · exact hr.1 c hc
    · split
      · next h2 => subst h2; exact h
      · simp only [List.map_cons]
        refine rising_cons.2 ⟨fun c hc => ?_, h⟩
        rcases List.mem_cons.1 hc with rfl | hc
        · omega
        · have := hr.1 c hc; omega

theorem mem_tput {α : Type} {t : Tab α} {k : Nat} {a : α} {e : Nat × α} (h : e ∈ tput t k a) : e = (k, a) ∨ e ∈ t := by
  induction t with
  | nil => simp [tput] at h; exact .inl h
  | cons f r ih =>
    obtain ⟨i, b⟩ := f
    simp only [tput] at h
    split at h
    · rcases List.mem_cons.1 h with h | h
      · exact .inr (by simp [h])
      · rcases ih h with h | h
        · exact .inl h
        · exact .inr (by simp [h])
    · split at h
      · rcases List.mem_cons.1 h with h | h
        · exact .inl h
        · exact .inr (by simp [h])
      · rcases List.mem_cons.1 h with h | h
        · exact .inl h
        · exact .inr h

/-- Writing one byte keeps the canonical form. -/
theorem wf_wput {m : Memory} (k : Nat) (x : Byte) (h : Memory.wf m = true) : Memory.wf (wput m k x) = true := by
  unfold wput
  split
  · exact wf_filter _ h
  · next hx =>
    simp only [Memory.wf, Bool.and_eq_true, List.all_eq_true] at h ⊢
    refine ⟨rising_tput k x h.1, fun e he => ?_⟩
    rcases mem_tput he with rfl | he
    · simpa using hx
    · exact h.2 e he

/-- Writing bytes keeps the canonical form. -/
theorem wf_memPut {m : Memory} (a : Nat) (bs : List Byte) (h : Memory.wf m = true) : Memory.wf (memPut m a bs) = true := by
  induction bs generalizing m a with
  | nil => exact h
  | cons b r ih => exact ih (a + 1) (wf_wput a b h)

/-- A byte outside a run of written bytes reads as before. -/
theorem wget_memPut_outside (m : Memory) (a : Nat) (bs : List Byte) {k : Nat} (h : k < a ∨ a + bs.length ≤ k) :
    wget (memPut m a bs) k = wget m k := by
  induction bs generalizing m a with
  | nil => rfl
  | cons b r ih =>
    simp only [List.length_cons] at h
    rw [memPut, ih (wput m a b) (a + 1) (by omega), wget_wput_other _ _ (by omega)]

/-- Reading the bytes written gives them. -/
theorem memBytes_memPut (m : Memory) (a : Nat) (bs : List Byte) : memBytes (memPut m a bs) a bs.length = bs := by
  induction bs generalizing m a with
  | nil => rfl
  | cons b r ih =>
    simp only [memPut, List.length_cons, memBytes]
    rw [wget_memPut_outside _ _ _ (.inl (by omega)), wget_wput_same, ih]

end Sys2Proof.Machine
end

