-- ==== Sys2Proof/Laws/Shapes.lean ====
section
/-! SUPPORT. The shapes of meanings: what `gated`, `laneOp`, `uniformOp`, `unitOp` and `eachOp` come to when an instruction
has its effect. -/
namespace Sys2Proof.Machine

variable {s : State} {c : Cur} {w : Warp} {u : Uses}

@[simp] theorem switchIf_false (s : State) : s.switchIf false = s := by simp [State.switchIf]
@[simp] theorem switchIf_true (s : State) : s.switchIf true = s.switched := by simp [State.switchIf, State.switched]

theorem onIssue_issuing {f : Cur → Warp → State} (h : Issuing s c w) : onIssue s f = .next (f c w) := by
  unfold onIssue; rw [h.1]; simp only; rw [h.2]

/-- Registers with nothing to acquire acquire nothing. -/
theorem acquires_zero {l : List Nat} (h : ∀ n ∈ l, wget w.seals n = 0) :
    l.foldl (fun v n => laterOf v (wget w.seals n)) 0 = 0 := by
  induction l with
  | nil => rfl
  | cons a r ih =>
    rw [List.foldl_cons, h a (by simp), show laterOf 0 0 = 0 from by decide]
    exact ih fun n hn => h n (by simp [hn])

theorem gated_clear {sw : Bool} {f : Cur → Warp → State → State} (h : Clear c w u) :
    gated s c w u none sw f = f c w (s.switchIf sw) := by
  obtain ⟨h1, h2, h3, h4, h5⟩ := h
  have h6 : u.acquires w = 0 := acquires_zero h5
  unfold gated
  simp only [h1, h2, h3, h6]
  rw [if_neg (by simp), if_neg h4]
  simp [State.acquire]

/-- The threads of a warp after a change of each. -/
theorem thread_mapThreads (w : Warp) (f : Nat → Thread → Thread) {t : Nat} (h : t < 32) :
    (w.mapThreads f).thread t = f t (w.thread t) := by
  simp [Warp.mapThreads, Warp.thread, h]

theorem mapThreads_congr {f g : Nat → Thread → Thread} (h : ∀ t < 32, f t (w.thread t) = g t (w.thread t)) :
    w.mapThreads f = w.mapThreads g := by
  unfold Warp.mapThreads
  congr 1
  exact List.map_congr_left fun t ht => h t (List.mem_range.1 ht)

theorem mem_threadsOf {m : Word} {t : Nat} : t ∈ threadsOf m ↔ t < 32 ∧ inMask m t = true := by
  simp [threadsOf]

theorem foldl_congr_mem {α β : Type} {f g : β → α → β} {l : List α} (h : ∀ a ∈ l, ∀ b, f b a = g b a) (b : β) :
    l.foldl f b = l.foldl g b := by
  induction l generalizing b with
  | nil => rfl
  | cons a r ih =>
    simp only [List.foldl_cons]
    rw [h a (by simp) b]
    exact ih (fun x hx => h x (by simp [hx])) _

/-- A lane instruction none of whose threads traps. -/
theorem laneOn_done {f : Nat → Thread → LaneResult} {g : Nat → Thread → Thread × Raised}
    (h : ∀ t < 32, inMask c.taking t = true → f t (w.thread t) = .ok (g t (w.thread t))) :
    laneOn s c w f = laneDone s c w g := by
  have hb : (threadsOf c.taking).filterMap (fun t => LaneResult.trap (f t (w.thread t)) t) = [] := by
    rw [List.filterMap_eq_nil_iff]
    intro t ht
    obtain ⟨h1, h2⟩ := mem_threadsOf.1 ht
    rw [h t h1 h2]; rfl
  have hm : w.mapThreads (fun t th =>
      if inMask c.taking t then LaneResult.thread (f t (w.thread t)) c.next th
      else if inMask c.group t then { th with pc := c.next } else th) = w.mapThreads (fun t th =>
      if inMask c.taking t then { (g t th).1 with pc := c.next }
      else if inMask c.group t then { th with pc := c.next } else th) := by
    refine mapThreads_congr fun t ht => ?_
    split
    · next hm => rw [h t ht hm]; rfl
    · rfl
  have hf : (threadsOf c.taking).foldl (fun r t => r.or (LaneResult.flags (f t (w.thread t)))) Raised.none =
      (threadsOf c.taking).foldl (fun r t => r.or (g t (w.thread t)).2) Raised.none := by
    refine foldl_congr_mem (fun t ht b => ?_) _
    obtain ⟨h1, h2⟩ := mem_threadsOf.1 ht
    rw [h t h1 h2]; rfl
  unfold laneOn
  rw [hb, if_pos (by rfl), hm, hf]
  rfl

theorem laneOp_done {f : Ctx → Nat → Thread → LaneResult} {g : Nat → Thread → Thread × Raised} (hi : Issuing s c w)
    (hc : Clear c w u)
    (h : ∀ t < 32, inMask c.taking t = true → f (s.plain c w) t (w.thread t) = .ok (g t (w.thread t))) :
    laneOp s u none f = .next (laneDone s c w g) := by
  unfold laneOp
  rw [onIssue_issuing hi, gated_clear hc, switchIf_false, laneOn_done h]

theorem uniformOp_done {f : Ctx → Warp} (hi : Issuing s c w) (hc : Clear c w u) :
    uniformOp s u none f = .next (uniformDone s c (f (s.plain c w))) := by
  unfold uniformOp
  rw [onIssue_issuing hi, gated_clear hc, switchIf_false]
  rfl

/-- An instruction of the warp as a whole that has its effect. -/
theorem unitOp_done {sw : Bool} {f : State → Cur → Warp → Act} {t : State} (hi : Issuing s c w) (hc : Clear c w u)
    (h : f (s.switchIf sw) c w = .done t) : unitOp s u none sw f = .next (t.advance c c.group) := by
  unfold unitOp
  rw [onIssue_issuing hi, gated_clear hc]
  simp only [h]

theorem unitOp_trap {sw : Bool} {f : State → Cur → Warp → Act} {t : Trap} (hi : Issuing s c w) (hc : Clear c w u)
    (h : f (s.switchIf sw) c w = .trap t) :
    unitOp s u none sw f = .next (((s.switchIf sw).advance c (c.group &&& ~~~c.taking)).raiseAll c c.taking t) := by
  unfold unitOp
  rw [onIssue_issuing hi, gated_clear hc]
  simp only [h]

/-- Actions of threads, none of which traps or waits. -/
theorem actEach_done {f : State → Warp → Nat → Act} {g : State → Warp → Nat → Option State}
    (h : ∀ s w t t', g s w t = some t' → f s w t = .done t') {l : List Nat} {s t : State} (ht : turns c g l s = some t) :
    actEach c f l s = (t, []) := by
  induction l generalizing s with
  | nil => simp only [turns, Option.some.injEq] at ht; simp [actEach, ht]
  | cons a r ih =>
    simp only [turns, Option.bind_eq_some_iff] at ht
    obtain ⟨w, hw, s1, hs, hr⟩ := ht
    simp only [actEach, hw, h _ _ _ _ hs]
    exact ih hr

/-- The same for actions that are taken in turn, and those of which one waits. -/
theorem actInTurn_done {f : State → Warp → Nat → Act} {g : State → Warp → Nat → Option State}
    (h : ∀ s w t t', g s w t = some t' → f s w t = .done t') {l r : List Nat} {s t : State} (ht : turns c g l s = some t) :
    actInTurn c f (l ++ r) s = actInTurn c f r t := by
  induction l generalizing s with
  | nil => simp only [turns, Option.some.injEq] at ht; simp [ht]
  | cons a l ih =>
    simp only [turns, Option.bind_eq_some_iff] at ht
    obtain ⟨w, hw, s1, hs, hr⟩ := ht
    simp only [List.cons_append, actInTurn, hw, h _ _ _ _ hs]
    exact ih hr

theorem inTurnOp_done {sw : Bool} {f : State → Cur → Warp → Nat → Act} {g : State → Warp → Nat → Option State} {t : State}
    (hi : Issuing s c w) (hc : Clear c w u) (h : ∀ s w t t', g s w t = some t' → f s c w t = .done t')
    (ht : turns c g (threadsOf c.taking) ((s.switchIf sw).passed c) = some t) : inTurnOp s u none sw f = .next t := by
  unfold inTurnOp
  rw [onIssue_issuing hi, gated_clear hc]
  have := actInTurn_done (c := c) (f := fun s w t => f s c w t) (r := []) h (by rw [State.passed] at ht; exact ht)
  rw [List.append_nil] at this
  simp only [this, actInTurn, List.isEmpty_nil, if_true]

/-- The threads before one that waits are done, and that one and those after it wait for the same (R299). -/
theorem inTurnOp_waits {sw : Bool} {f : State → Cur → Warp → Nat → Act} {g : State → Warp → Nat → Option State} {t : State}
    {w1 : Warp} {i : Nat} {done rest : List Nat} {x : Wait} (hi : Issuing s c w) (hc : Clear c w u)
    (h : ∀ s w t t', g s w t = some t' → f s c w t = .done t') (hl : threadsOf c.taking = done ++ i :: rest)
    (ht : turns c g done ((s.switchIf sw).passed c) = some t) (hw : t.warp c.warp = some w1) (hx : f t c w1 i = .wait t x) :
    inTurnOp s u none sw f = .next ((i :: rest).foldl (fun s k => s.block c (setBit 0 k true) x) t) := by
  unfold inTurnOp
  rw [onIssue_issuing hi, gated_clear hc]
  have := actInTurn_done (c := c) (f := fun s w t => f s c w t) (r := i :: rest) h (by rw [State.passed] at ht; exact ht)
  simp only [hl, this, actInTurn, hw, hx, List.isEmpty_nil, if_true]

theorem eachOp_done {sw : Bool} {f : State → Cur → Warp → Nat → Act} {g : State → Warp → Nat → Option State} {t : State}
    (hi : Issuing s c w) (hc : Clear c w u) (h : ∀ s w t t', g s w t = some t' → f s c w t = .done t')
    (ht : turns c g (threadsOf c.taking) ((s.switchIf sw).passed c) = some t) : eachOp s u none sw f = .next t := by
  unfold eachOp
  rw [onIssue_issuing hi, gated_clear hc]
  have := actEach_done (f := fun s w t => f s c w t) h (by rw [State.passed] at ht; exact ht)
  simp only [this, List.isEmpty_nil, if_true]

end Sys2Proof.Machine
end

