-- ==== Sys2Proof/Laws/Lane.lean ====
section
/-! SUPPORT. What each shape of lane and uniform instruction leaves when its operands can be read. -/
namespace Sys2Proof.Machine

variable {s : State} {c : Cur} {w : Warp} {b a : BitVec 7} {nw : BitVec 1} {d : BitVec 6} {p : BitVec 3}

/-! ## Operands -/

theorem readable_src {codes : List (BitVec 7)} (h : Readable s c w codes) {t : Nat} (ht : t < 32)
    (hm : inMask c.taking t = true) (ha : a ∈ codes) : (s.plain c w).src t (w.thread t) a = some (s.val c w t a) := by
  have := h t ht hm a ha
  unfold State.val
  cases hx : (s.plain c w).src t (w.thread t) a with
  | none => simp [hx] at this
  | some x => rfl

theorem readable_src64 {codes : List (BitVec 7)} {fp : Bool} (h : Readable64 s c w fp codes) {t : Nat} (ht : t < 32)
    (hm : inMask c.taking t = true) (ha : a ∈ codes) :
    (s.plain c w).src64 fp t (w.thread t) a = some (s.val64 c w fp t a) := by
  have := h t ht hm a ha
  unfold State.val64
  cases hx : (s.plain c w).src64 fp t (w.thread t) a with
  | none => simp [hx] at this
  | some x => rfl

theorem reduced_none (hi : Issuing s c w) (h : FullService s w) : s.reduced = none := by
  unfold State.reduced
  rw [hi.1]
  simp only [Option.bind_some]
  rw [hi.2]
  exact if_neg h

/-! ## Integer shapes -/

theorem lane2_done {f : Word → Word → Word} (hi : Issuing s c w) (hc : Clear c w (uses2 b a d 1 1))
    (hr : Readable s c w [a, b]) :
    lane2 s b a nw d f = .next (laneDone s c w fun t th => wrote nw d th [f (s.val c w t a) (s.val c w t b)]) := by
  refine laneOp_done hi hc fun t ht hm => ?_
  rw [readable_src hr ht hm (by simp), readable_src hr ht hm (by simp)]; rfl

theorem lane1_done {f : Word → Word} (hi : Issuing s c w) (hc : Clear c w (uses1 a d 1 1)) (hr : Readable s c w [a]) :
    lane1 s a nw d f = .next (laneDone s c w fun t th => wrote nw d th [f (s.val c w t a)]) := by
  refine laneOp_done hi hc fun t ht hm => ?_
  rw [readable_src hr ht hm (by simp)]; rfl

theorem laneD_done {f : Word → Word} (hi : Issuing s c w) (hc : Clear c w (useV d.toNat 1)) :
    laneD s nw d f = .next (laneDone s c w fun _ th => wrote nw d th [f (th.vreg d.toNat)]) :=
  laneOp_done hi hc fun _ _ _ => rfl

theorem lane64_done {f : Dword → Dword → Dword} (hi : Issuing s c w) (hc : Clear c w (uses2 b a d 2 2))
    (hr : Readable64 s c w false [a, b]) :
    lane64 s b a nw d f = .next (laneDone s c w fun t th =>
      wrote nw d th [lowWord (f (s.val64 c w false t a) (s.val64 c w false t b)),
        highWord (f (s.val64 c w false t a) (s.val64 c w false t b))]) := by
  refine laneOp_done hi hc fun t ht hm => ?_
  rw [readable_src64 hr ht hm (by simp), readable_src64 hr ht hm (by simp)]; rfl

theorem vcmp2_done {r : Word → Word → Bool} (hi : Issuing s c w) (hc : Clear c w ((useSrc a 1).and (useSrc b 1)))
    (hr : Readable s c w [a, b]) :
    vcmp2 s b a p r = .next (laneDone s c w fun t th =>
      (th.setP p.toNat (r (s.val c w t a) (s.val c w t b)), Raised.none)) := by
  refine laneOp_done hi hc fun t ht hm => ?_
  rw [readable_src hr ht hm (by simp), readable_src hr ht hm (by simp)]

theorem vcmp64_done {r : Dword → Dword → Bool} (hi : Issuing s c w) (hc : Clear c w ((useSrc a 2).and (useSrc b 2)))
    (hr : Readable64 s c w false [a, b]) :
    vcmp64 s b a p r = .next (laneDone s c w fun t th =>
      (th.setP p.toNat (r (s.val64 c w false t a) (s.val64 c w false t b)), Raised.none)) := by
  refine laneOp_done hi hc fun t ht hm => ?_
  rw [readable_src64 hr ht hm (by simp), readable_src64 hr ht hm (by simp)]

/-! ## Floating-point shapes -/

theorem fp2_done {f : Mode → Nat → Nat → Rounded} (hi : Issuing s c w) (hc : Clear c w (uses2 b a d 1 1))
    (hr : Readable s c w [a, b]) :
    fp2 s none b a nw d f = .next (laneDone s c w fun t th =>
      wrote32 nw d th (f (Mode.of w.frm.toNat) (s.val c w t a).toNat (s.val c w t b).toNat)) := by
  refine laneOp_done hi hc fun t ht hm => ?_
  rw [readable_src hr ht hm (by simp), readable_src hr ht hm (by simp)]; rfl

theorem fp3_done {f : Mode → Nat → Nat → Nat → Rounded} (hi : Issuing s c w) (hc : Clear c w (uses2 b a d 1 1))
    (hr : Readable s c w [a, b]) :
    fp3 s none b a nw d f = .next (laneDone s c w fun t th =>
      wrote32 nw d th (f (Mode.of w.frm.toNat) (s.val c w t a).toNat (s.val c w t b).toNat (th.vreg d.toNat).toNat)) := by
  refine laneOp_done hi hc fun t ht hm => ?_
  rw [readable_src hr ht hm (by simp), readable_src hr ht hm (by simp)]; rfl

theorem fp1_done {f : Mode → Nat → Rounded} (hi : Issuing s c w) (hc : Clear c w (uses1 a d 1 1))
    (hr : Readable s c w [a]) :
    fp1 s a nw d f = .next (laneDone s c w fun t th =>
      wrote32 nw d th (f (Mode.of w.frm.toNat) (s.val c w t a).toNat)) := by
  refine laneOp_done hi hc fun t ht hm => ?_
  rw [readable_src hr ht hm (by simp)]; rfl

theorem dp2_done {f : Mode → Nat → Nat → Rounded} (hi : Issuing s c w) (hc : Clear c w (uses2 b a d 2 2))
    (hr : Readable64 s c w true [a, b]) (hf : FullService s w) :
    dp2 s b a nw d f = .next (laneDone s c w fun t th =>
      wrote64 nw d th (f (Mode.of w.frm.toNat) (s.val64 c w true t a).toNat (s.val64 c w true t b).toNat)) := by
  unfold dp2
  rw [reduced_none hi hf]
  refine laneOp_done hi hc fun t ht hm => ?_
  rw [readable_src64 hr ht hm (by simp), readable_src64 hr ht hm (by simp)]; rfl

theorem dp3_done {f : Mode → Nat → Nat → Nat → Rounded} (hi : Issuing s c w) (hc : Clear c w (uses2 b a d 2 2))
    (hr : Readable64 s c w true [a, b]) (hf : FullService s w) :
    dp3 s b a nw d f = .next (laneDone s c w fun t th =>
      wrote64 nw d th (f (Mode.of w.frm.toNat) (s.val64 c w true t a).toNat (s.val64 c w true t b).toNat
        (th.vpair d.toNat).toNat)) := by
  unfold dp3
  rw [reduced_none hi hf]
  refine laneOp_done hi hc fun t ht hm => ?_
  rw [readable_src64 hr ht hm (by simp), readable_src64 hr ht hm (by simp)]; rfl

theorem from32_done {f : Mode → Nat → Rounded} (hi : Issuing s c w) (hc : Clear c w (uses1 a d 1 1))
    (hr : Readable s c w [a]) :
    from32 s none a nw d false f = .next (laneDone s c w fun t th =>
      wrote32 nw d th (f (Mode.of w.frm.toNat) (s.val c w t a).toNat)) := by
  refine laneOp_done hi hc fun t ht hm => ?_
  rw [readable_src hr ht hm (by simp)]; rfl

theorem from32_wide {f : Mode → Nat → Rounded} (hi : Issuing s c w) (hc : Clear c w (uses1 a d 1 2))
    (hr : Readable s c w [a]) :
    from32 s none a nw d true f = .next (laneDone s c w fun t th =>
      wrote64 nw d th (f (Mode.of w.frm.toNat) (s.val c w t a).toNat)) := by
  refine laneOp_done hi hc fun t ht hm => ?_
  rw [readable_src hr ht hm (by simp)]; rfl

theorem from64_done {fp : Bool} {f : Mode → Nat → Rounded} (hi : Issuing s c w) (hc : Clear c w (uses1 a d 2 1))
    (hr : Readable64 s c w fp [a]) (hf : FullService s w) :
    from64 s fp a nw d false f = .next (laneDone s c w fun t th =>
      wrote32 nw d th (f (Mode.of w.frm.toNat) (s.val64 c w fp t a).toNat)) := by
  unfold from64
  rw [reduced_none hi hf]
  refine laneOp_done hi hc fun t ht hm => ?_
  rw [readable_src64 hr ht hm (by simp)]; rfl

theorem from64_wide {fp : Bool} {f : Mode → Nat → Rounded} (hi : Issuing s c w) (hc : Clear c w (uses1 a d 2 2))
    (hr : Readable64 s c w fp [a]) (hf : FullService s w) :
    from64 s fp a nw d true f = .next (laneDone s c w fun t th =>
      wrote64 nw d th (f (Mode.of w.frm.toNat) (s.val64 c w fp t a).toNat)) := by
  unfold from64
  rw [reduced_none hi hf]
  refine laneOp_done hi hc fun t ht hm => ?_
  rw [readable_src64 hr ht hm (by simp)]; rfl

theorem fcmp2_done {f : Nat → Nat → Bool × Bool} (hi : Issuing s c w) (hc : Clear c w ((useSrc a 1).and (useSrc b 1)))
    (hr : Readable s c w [a, b]) :
    fcmp2 s b a p f = .next (laneDone s c w fun t th =>
      (th.setP p.toNat (f (s.val c w t a).toNat (s.val c w t b).toNat).1,
        { Raised.none with nv := (f (s.val c w t a).toNat (s.val c w t b).toNat).2 })) := by
  refine laneOp_done hi hc fun t ht hm => ?_
  rw [readable_src hr ht hm (by simp), readable_src hr ht hm (by simp)]

theorem fcmp64_done {f : Nat → Nat → Bool × Bool} (hi : Issuing s c w) (hc : Clear c w ((useSrc a 2).and (useSrc b 2)))
    (hr : Readable64 s c w true [a, b]) (hf : FullService s w) :
    fcmp64 s b a p f = .next (laneDone s c w fun t th =>
      (th.setP p.toNat (f (s.val64 c w true t a).toNat (s.val64 c w true t b).toNat).1,
        { Raised.none with nv := (f (s.val64 c w true t a).toNat (s.val64 c w true t b).toNat).2 })) := by
  unfold fcmp64
  rw [reduced_none hi hf]
  refine laneOp_done hi hc fun t ht hm => ?_
  rw [readable_src64 hr ht hm (by simp), readable_src64 hr ht hm (by simp)]

/-! ## Narrow formats, choices of two of four, geometry -/

theorem qcvt4_done {f : Narrow} {sat : BitVec 1} {g : BitVec 4} {r : BitVec 2} (hi : Issuing s c w)
    (hc : Clear c w ((useSrc b 1).and ((useV (4 * g.toNat) 4).and (useV d.toNat 1)))) (hr : Readable s c w [b])
    (hf : FullService s w) :
    qcvt4 s f sat b g r nw d = .next (laneDone s c w fun t th =>
      let q := (List.range 4).map fun i =>
        f.quantise (Mode.of r.toNat) (sat == 1) (th.vreg (4 * g.toNat + i)).toNat (s.val c w t b).toNat
      wrote32 nw d th (packElements 8 (q.map Prod.fst), q.foldl (fun a y => a.or y.2) Raised.none)) := by
  unfold qcvt4
  rw [reduced_none hi hf]
  refine laneOp_done hi hc fun t ht hm => ?_
  rw [readable_src hr ht hm (by simp)]; rfl

theorem qdec4_done {f : Narrow} {dst : Fmt} (hi : Issuing s c w)
    (hc : Clear c w (uses2 b a d 1 (if dst = fp32 then 4 else 2))) (hr : Readable s c w [a, b]) (hf : FullService s w) :
    qdec4 s f dst b a nw d = .next (laneDone s c w fun t th =>
      let q := (List.range 4).map fun i => f.decode dst (elementOf 8 (s.val c w t a).toNat i) (s.val c w t b).toNat
      let ws := if dst = fp32 then q.map Prod.fst
        else [packElements 16 [(q.getD 0 (0, Raised.none)).1, (q.getD 1 (0, Raised.none)).1],
              packElements 16 [(q.getD 2 (0, Raised.none)).1, (q.getD 3 (0, Raised.none)).1]]
      (th.result (nw == 1) d.toNat (ws.map (BitVec.ofNat 32)), q.foldl (fun z y => z.or y.2) Raised.none)) := by
  unfold qdec4
  rw [reduced_none hi hf]
  refine laneOp_done hi hc fun t ht hm => ?_
  rw [readable_src hr ht hm (by simp), readable_src hr ht hm (by simp)]

theorem cmprPair_done {f : Dword → Word → Nat} (hi : Issuing s c w) (hc : Clear c w (uses1 a d 2 1))
    (hr : Readable64 s c w false [a]) :
    cmprPair s none a nw d f = .next (laneDone s c w fun t th =>
      wrote nw d th [BitVec.ofNat 32 (f (s.val64 c w false t a) (th.vreg d.toNat))]) := by
  refine laneOp_done hi hc fun t ht hm => ?_
  rw [readable_src64 hr ht hm (by simp)]; rfl

theorem cmprExpand_done {f : Nat → Nat → List Nat} (hi : Issuing s c w) (hc : Clear c w (uses2 b a d 1 2))
    (hr : Readable s c w [a, b]) :
    cmprExpand s none b a nw d f = .next (laneDone s c w fun t th =>
      wrote nw d th ((f (s.val c w t a).toNat (s.val c w t b).toNat).map (BitVec.ofNat 32))) := by
  refine laneOp_done hi hc fun t ht hm => ?_
  rw [readable_src hr ht hm (by simp), readable_src hr ht hm (by simp)]; rfl

/-! ## Predicates and exchanges -/

theorem pred2_done {x y : BitVec 4} {f : Bool → Bool → Bool} (hi : Issuing s c w) (hc : Clear c w Uses.none) :
    pred2 s y x p f = .next (laneDone s c w fun _ th =>
      (th.setP p.toNat (f (th.selector x) (th.selector y)), Raised.none)) :=
  laneOp_done hi hc fun _ _ _ => rfl

/-- An exchange in which every taking-part thread reads its operands as `x` gives them. -/
theorem exchangeOp_done {α : Type} {u : Uses} {read : Ctx → Nat → Thread → Option α}
    {f : (Nat → Option α) → Nat → Thread → α → Thread × Raised} (x : Nat → α) (hi : Issuing s c w) (hc : Clear c w u)
    (h : ∀ t < 32, inMask c.taking t = true → read (s.plain c w) t (w.thread t) = some (x t)) :
    exchangeOp s u read f = .next (laneDone s c w fun t th =>
      f (fun k => if inMask c.taking k then some (x k) else none) t th (x t)) := by
  unfold exchangeOp
  rw [onIssue_issuing hi, gated_clear hc, switchIf_false]
  have hall : (fun t => if inMask c.taking t = true then read (s.plain c w) t (w.thread t) else none) =
      fun k => if inMask c.taking k then some (x k) else none := by
    funext k
    split
    · next hk =>
      refine h k ?_ hk
      have := hk
      unfold inMask at this
      exact BitVec.lt_of_getLsbD this
    · rfl
  simp only [hall]
  rw [laneOn_done]
  intro t ht hm
  rw [h t ht hm]

/-- The values of those that count, when the taking-part threads do. -/
theorem counted_taking {α : Type} (m : Word) (x : Nat → α) :
    counted (fun k => if inMask m k then some (x k) else none) = (threadsOf m).map x := by
  unfold counted threadsOf
  induction List.range 32 with
  | nil => rfl
  | cons a r ih =>
    simp only [List.filterMap_cons, List.filter_cons]
    split
    · next h => split at h <;> simp_all
    · next h => split at h <;> simp_all

/-- A set of threads that is not empty has a lowest thread. -/
theorem lowest_taking (h : c.taking ≠ 0) : ∃ t, lowestOf c.taking = some t ∧ t ∈ threadsOf c.taking := by
  cases h' : threadsOf c.taking with
  | cons x r => exact ⟨x, by simp [lowestOf, h'], by simp⟩
  | nil =>
    refine absurd (BitVec.eq_of_getLsbD_eq fun i hi => ?_) h
    have : i ∉ threadsOf c.taking := by simp [h']
    rw [mem_threadsOf] at this
    simp only [hi, inMask, true_and] at this
    simpa using this

theorem shuffle_done {f : Nat → Nat → Option Nat} (hi : Issuing s c w) (hc : Clear c w (uses2 b a d 1 1))
    (hr : Readable s c w [a, b]) :
    shuffle s b a nw d f = .next (laneDone s c w fun t th => wrote nw d th
        [match f t ((s.val c w t b).toNat % 32) with
          | some k => if inMask c.taking k then s.val c w k a else s.val c w t a
          | none => s.val c w t a]) := by
  refine (exchangeOp_done (fun t => (s.val c w t a, s.val c w t b)) hi hc (fun t ht hm => by
    rw [readable_src hr ht hm (by simp), readable_src hr ht hm (by simp)])).trans ?_
  congr 2; funext t th
  simp only [wrote]; congr 3
  cases f t ((s.val c w t b).toNat % 32) with
  | none => rfl
  | some k => simp only [Option.bind_some]; split <;> simp

/-- A map that commutes with a combination commutes with its butterfly (R68). -/
theorem butterfly_map {α β : Type} (f : α → α → α) (g : β → β → β) (m : α → β) (h : ∀ x y, m (f x y) = g (m x) (m y))
    (v : List (Option α)) : (butterfly f v).map m = butterfly g (v.map (Option.map m)) := by
  have hst : ∀ d v, (stageOf f d v).map (Option.map m) = stageOf g d (v.map (Option.map m)) := by
    intro d v
    simp only [stageOf, List.map_map]
    refine List.map_congr_left fun t _ => ?_
    simp only [Function.comp, List.getElem?_map]
    generalize v[if t / d % 2 = 0 then t else t - d]? = x
    generalize v[(if t / d % 2 = 0 then t else t - d) + d]? = y
    rcases x with _ | _ | x <;> rcases y with _ | _ | y <;> simp [combineWith, h]
  have hfold : ∀ l v, (List.foldl (fun v d => stageOf f d v) v l).map (Option.map m) =
      List.foldl (fun v d => stageOf g d v) (v.map (Option.map m)) l := by
    intro l
    induction l with
    | nil => intro v; rfl
    | cons a r ih => intro v; simp only [List.foldl_cons, ih, hst]
  simp only [butterfly, ← hfold, List.getElem?_map]
  generalize (List.foldl (fun v d => stageOf f d v) v [16, 8, 4, 2, 1])[0]? = x
  rcases x with _ | _ | x <;> rfl

/-- The values of a mask's threads. -/
theorem map_flagged (m : Word) (x : Nat → Word) :
    ((List.range 32).map fun k => (if inMask m k then some (x k) else none).map fun y => (y, Raised.none)) =
      (List.range 32).map fun k => if inMask m k then some (x k, Raised.none) else none := by
  refine List.map_congr_left fun k _ => ?_
  split <;> rfl

theorem reduce_done {f : Word → Word → Word × Raised} (hi : Issuing s c w) (hc : Clear c w (uses1 a d 1 1))
    (hr : Readable s c w [a]) :
    reduce s a nw d f = .next (laneDone s c w fun t th =>
      let r := (butterfly (fun (p q : Word × Raised) => ((f p.1 q.1).1, (p.2.or q.2).or (f p.1 q.1).2))
        ((List.range 32).map fun k => if inMask c.taking k then some (s.val c w k a, Raised.none) else none)).getD
          (s.val c w t a, Raised.none)
      (th.result (nw == 1) d.toNat [r.1], r.2)) := by
  refine (exchangeOp_done (fun t => s.val c w t a) hi hc fun t ht hm => readable_src hr ht hm (by simp)).trans ?_
  simp only [map_flagged]

/-- A reduction whose combination raises no flag. -/
theorem reduce_plain {f : Word → Word → Word} (hi : Issuing s c w) (hc : Clear c w (uses1 a d 1 1))
    (hr : Readable s c w [a]) :
    reduce s a nw d (plain f) = .next (laneDone s c w fun t th => wrote nw d th
      [(butterfly f ((List.range 32).map fun k => if inMask c.taking k then some (s.val c w k a) else none)).getD
        (s.val c w t a)]) := by
  refine (reduce_done hi hc hr).trans ?_
  have h : ∀ (v : List (Option Word)), butterfly (fun (p q : Word × Raised) => (f p.1 q.1, (p.2.or q.2).or Raised.none))
      (v.map (Option.map fun y => (y, Raised.none))) = (butterfly f v).map fun y => (y, Raised.none) := fun v =>
    (butterfly_map f (fun (p q : Word × Raised) => (f p.1 q.1, (p.2.or q.2).or Raised.none)) (fun y => (y, Raised.none))
      (fun _ _ => rfl) v).symm
  have hv := h ((List.range 32).map fun k => if inMask c.taking k then some (s.val c w k a) else none)
  rw [List.map_map] at hv
  have hm := map_flagged c.taking (fun k => s.val c w k a)
  simp only [plain]
  simp only [Function.comp_def] at hv
  rw [hm] at hv
  rw [hv]
  congr 2
  funext t th
  generalize butterfly f _ = o
  cases o <;> rfl

/-! ## Uniform shapes -/

theorem uni2_done {f : Word → Word → Word} (hi : Issuing s c w) (hc : Clear c w (uniUses2 b a d 1 1)) :
    uni2 s b a d f = .next (uniformDone s c (w.setS d.toNat (f (s.uval c w a) (s.uval c w b)))) := uniformOp_done hi hc

theorem uni1_done {f : Word → Word} (hi : Issuing s c w) (hc : Clear c w (uniUses1 a d 1 1)) :
    uni1 s a d f = .next (uniformDone s c (w.setS d.toNat (f (s.uval c w a)))) := uniformOp_done hi hc

theorem uniD_done {f : Word → Word} (hi : Issuing s c w) (hc : Clear c w ((useS d.toNat 1).and (useD d.toNat 1))) :
    uniD s d f = .next (uniformDone s c (w.setS d.toNat (f (w.sreg d.toNat)))) := uniformOp_done hi hc

theorem uni64_done {f : Dword → Dword → Dword} (hi : Issuing s c w) (hc : Clear c w (uniUses2 b a d 2 2)) :
    uni64 s b a d f = .next (uniformDone s c (w.setSPair d.toNat (f (s.uval64 c w a) (s.uval64 c w b)))) :=
  uniformOp_done hi hc

end Sys2Proof.Machine
end

