-- ==== Sys2Proof/Laws/State.lean ====
section
/-! SUPPORT. What each update of the state leaves in each field and under each accessor, so that no proof unfolds a record
update: every other field as it was, and the record under its own key. -/
namespace Sys2Proof.Machine

variable (s : State)


/-! ## setSpiral -/

@[simp] theorem State.setSpiral_cycle (k : Nat) (x : Spiral) : (s.setSpiral k x).cycle = s.cycle := rfl
@[simp] theorem State.setSpiral_mem (k : Nat) (x : Spiral) : (s.setSpiral k x).mem = s.mem := rfl
@[simp] theorem State.setSpiral_under (k : Nat) (x : Spiral) : (s.setSpiral k x).under = s.under := rfl
@[simp] theorem State.setSpiral_owned (k : Nat) (x : Spiral) : (s.setSpiral k x).owned = s.owned := rfl
@[simp] theorem State.setSpiral_copies (k : Nat) (x : Spiral) : (s.setSpiral k x).copies = s.copies := rfl
@[simp] theorem State.setSpiral_clocks (k : Nat) (x : Spiral) : (s.setSpiral k x).clocks = s.clocks := rfl
@[simp] theorem State.setSpiral_read_clockOf (k : Nat) (x : Spiral) (j : Nat) : (s.setSpiral k x).clockOf j = s.clockOf j := rfl
@[simp] theorem State.setSpiral_poison (k : Nat) (x : Spiral) : (s.setSpiral k x).poison = s.poison := rfl
@[simp] theorem State.setSpiral_spadPoison (k : Nat) (x : Spiral) : (s.setSpiral k x).spadPoison = s.spadPoison := rfl
@[simp] theorem State.setSpiral_lost (k : Nat) (x : Spiral) : (s.setSpiral k x).lost = s.lost := rfl
@[simp] theorem State.setSpiral_repLost (k : Nat) (x : Spiral) : (s.setSpiral k x).repLost = s.repLost := rfl
@[simp] theorem State.setSpiral_reps (k : Nat) (x : Spiral) : (s.setSpiral k x).reps = s.reps := rfl
@[simp] theorem State.setSpiral_latPages (k : Nat) (x : Spiral) : (s.setSpiral k x).latPages = s.latPages := rfl
@[simp] theorem State.setSpiral_spad (k : Nat) (x : Spiral) : (s.setSpiral k x).spad = s.spad := rfl
@[simp] theorem State.setSpiral_smap (k : Nat) (x : Spiral) : (s.setSpiral k x).smap = s.smap := rfl
@[simp] theorem State.setSpiral_read_smapOf (k : Nat) (x : Spiral) (j i : Nat) : (s.setSpiral k x).smapOf j i = s.smapOf j i := rfl
@[simp] theorem State.setSpiral_tlb (k : Nat) (x : Spiral) : (s.setSpiral k x).tlb = s.tlb := rfl
@[simp] theorem State.setSpiral_code (k : Nat) (x : Spiral) : (s.setSpiral k x).code = s.code := rfl
@[simp] theorem State.setSpiral_wbq (k : Nat) (x : Spiral) : (s.setSpiral k x).wbq = s.wbq := rfl
@[simp] theorem State.setSpiral_parts (k : Nat) (x : Spiral) : (s.setSpiral k x).parts = s.parts := rfl
@[simp] theorem State.setSpiral_read_part (k : Nat) (x : Spiral) (j : Nat) : (s.setSpiral k x).part j = s.part j := rfl
@[simp] theorem State.setSpiral_launches (k : Nat) (x : Spiral) : (s.setSpiral k x).launches = s.launches := rfl
@[simp] theorem State.setSpiral_read_launch (k : Nat) (x : Spiral) (j : Nat) : (s.setSpiral k x).launch j = s.launch j := rfl
@[simp] theorem State.setSpiral_gangs (k : Nat) (x : Spiral) : (s.setSpiral k x).gangs = s.gangs := rfl
@[simp] theorem State.setSpiral_read_gang (k : Nat) (x : Spiral) (j : Nat) : (s.setSpiral k x).gang j = s.gang j := rfl
@[simp] theorem State.setSpiral_crews (k : Nat) (x : Spiral) : (s.setSpiral k x).crews = s.crews := rfl
@[simp] theorem State.setSpiral_read_crew (k : Nat) (x : Spiral) (j : Nat) : (s.setSpiral k x).crew j = s.crew j := rfl
@[simp] theorem State.setSpiral_warps (k : Nat) (x : Spiral) : (s.setSpiral k x).warps = s.warps := rfl
@[simp] theorem State.setSpiral_read_warp (k : Nat) (x : Spiral) (j : Nat) : (s.setSpiral k x).warp j = s.warp j := rfl
@[simp] theorem State.setSpiral_cores (k : Nat) (x : Spiral) : (s.setSpiral k x).cores = s.cores := rfl
@[simp] theorem State.setSpiral_read_core (k : Nat) (x : Spiral) (j : Nat) : (s.setSpiral k x).core j = s.core j := rfl
@[simp] theorem State.setSpiral_vfs (k : Nat) (x : Spiral) : (s.setSpiral k x).vfs = s.vfs := rfl
@[simp] theorem State.setSpiral_read_vf (k : Nat) (x : Spiral) (j : Nat) : (s.setSpiral k x).vf j = s.vf j := rfl
@[simp] theorem State.setSpiral_claims (k : Nat) (x : Spiral) : (s.setSpiral k x).claims = s.claims := rfl
@[simp] theorem State.setSpiral_stackTab (k : Nat) (x : Spiral) : (s.setSpiral k x).stackTab = s.stackTab := rfl
@[simp] theorem State.setSpiral_read_stack (k : Nat) (x : Spiral) (j : Nat) : (s.setSpiral k x).stack j = s.stack j := rfl
@[simp] theorem State.setSpiral_hostPorts (k : Nat) (x : Spiral) : (s.setSpiral k x).hostPorts = s.hostPorts := rfl
@[simp] theorem State.setSpiral_jalef (k : Nat) (x : Spiral) : (s.setSpiral k x).jalef = s.jalef := rfl
@[simp] theorem State.setSpiral_routers (k : Nat) (x : Spiral) : (s.setSpiral k x).routers = s.routers := rfl
@[simp] theorem State.setSpiral_alarm (k : Nat) (x : Spiral) : (s.setSpiral k x).alarm = s.alarm := rfl
@[simp] theorem State.setSpiral_bootGo (k : Nat) (x : Spiral) : (s.setSpiral k x).bootGo = s.bootGo := rfl
@[simp] theorem State.setSpiral_bootDone (k : Nat) (x : Spiral) : (s.setSpiral k x).bootDone = s.bootDone := rfl
@[simp] theorem State.setSpiral_bootAcpt (k : Nat) (x : Spiral) : (s.setSpiral k x).bootAcpt = s.bootAcpt := rfl
@[simp] theorem State.setSpiral_staging (k : Nat) (x : Spiral) : (s.setSpiral k x).staging = s.staging := rfl
@[simp] theorem State.setSpiral_delivered (k : Nat) (x : Spiral) : (s.setSpiral k x).delivered = s.delivered := rfl
@[simp] theorem State.setSpiral_sent (k : Nat) (x : Spiral) : (s.setSpiral k x).sent = s.sent := rfl
@[simp] theorem State.setSpiral_cur (k : Nat) (x : Spiral) : (s.setSpiral k x).cur = s.cur := rfl
@[simp] theorem State.setSpiral_rest (k : Nat) (x : Spiral) : (s.setSpiral k x).rest = s.rest := rfl
@[simp] theorem State.setSpiral_switch (k : Nat) (x : Spiral) : (s.setSpiral k x).switch = s.switch := rfl
@[simp] theorem State.setSpiral_agenda (k : Nat) (x : Spiral) : (s.setSpiral k x).agenda = s.agenda := rfl
@[simp] theorem State.setSpiral_draws (k : Nat) (x : Spiral) : (s.setSpiral k x).draws = s.draws := rfl
@[simp] theorem State.setSpiral_fresh (k : Nat) (x : Spiral) : (s.setSpiral k x).fresh = s.fresh := rfl
@[simp] theorem State.setSpiral_shared (k : Nat) (x : Spiral) : (s.setSpiral k x).shared = s.shared := rfl
@[simp] theorem State.setSpiral_slices (k : Nat) (x : Spiral) : (s.setSpiral k x).slices = s.slices := rfl
@[simp] theorem State.setSpiral_directory (k : Nat) (x : Spiral) : (s.setSpiral k x).directory = s.directory := rfl
@[simp] theorem State.setSpiral_filters (k : Nat) (x : Spiral) : (s.setSpiral k x).filters = s.filters := rfl
@[simp] theorem State.setSpiral_ciphered (k : Nat) (x : Spiral) : (s.setSpiral k x).ciphered = s.ciphered := rfl
@[simp] theorem State.setSpiral_sealedBands (k : Nat) (x : Spiral) : (s.setSpiral k x).sealedBands = s.sealedBands := rfl
@[simp] theorem State.setSpiral_repPoison (k : Nat) (x : Spiral) : (s.setSpiral k x).repPoison = s.repPoison := rfl
@[simp] theorem State.setSpiral_decoders (k : Nat) (x : Spiral) : (s.setSpiral k x).decoders = s.decoders := rfl
@[simp] theorem State.setSpiral_lanes (k : Nat) (x : Spiral) : (s.setSpiral k x).lanes = s.lanes := rfl
@[simp] theorem State.setSpiral_homes (k : Nat) (x : Spiral) : (s.setSpiral k x).homes = s.homes := rfl
@[simp] theorem State.setSpiral_same (k : Nat) (x : Spiral) : Spiral.of (s.setSpiral k x) k = x := by simp [Spiral.of, State.setSpiral, tfind_tput_same]
theorem State.setSpiral_other (k : Nat) (x : Spiral) {j : Nat} (h : j ≠ k) : Spiral.of (s.setSpiral k x) j = Spiral.of s j := by
  simp [Spiral.of, State.setSpiral, tfind_tput_other _ _ h]

/-! ## setCore -/

@[simp] theorem State.setCore_cycle (k : Nat) (x : Core) : (s.setCore k x).cycle = s.cycle := rfl
@[simp] theorem State.setCore_mem (k : Nat) (x : Core) : (s.setCore k x).mem = s.mem := rfl
@[simp] theorem State.setCore_under (k : Nat) (x : Core) : (s.setCore k x).under = s.under := rfl
@[simp] theorem State.setCore_owned (k : Nat) (x : Core) : (s.setCore k x).owned = s.owned := rfl
@[simp] theorem State.setCore_copies (k : Nat) (x : Core) : (s.setCore k x).copies = s.copies := rfl
@[simp] theorem State.setCore_clocks (k : Nat) (x : Core) : (s.setCore k x).clocks = s.clocks := rfl
@[simp] theorem State.setCore_read_clockOf (k : Nat) (x : Core) (j : Nat) : (s.setCore k x).clockOf j = s.clockOf j := rfl
@[simp] theorem State.setCore_poison (k : Nat) (x : Core) : (s.setCore k x).poison = s.poison := rfl
@[simp] theorem State.setCore_spadPoison (k : Nat) (x : Core) : (s.setCore k x).spadPoison = s.spadPoison := rfl
@[simp] theorem State.setCore_lost (k : Nat) (x : Core) : (s.setCore k x).lost = s.lost := rfl
@[simp] theorem State.setCore_repLost (k : Nat) (x : Core) : (s.setCore k x).repLost = s.repLost := rfl
@[simp] theorem State.setCore_reps (k : Nat) (x : Core) : (s.setCore k x).reps = s.reps := rfl
@[simp] theorem State.setCore_latPages (k : Nat) (x : Core) : (s.setCore k x).latPages = s.latPages := rfl
@[simp] theorem State.setCore_spad (k : Nat) (x : Core) : (s.setCore k x).spad = s.spad := rfl
@[simp] theorem State.setCore_smap (k : Nat) (x : Core) : (s.setCore k x).smap = s.smap := rfl
@[simp] theorem State.setCore_read_smapOf (k : Nat) (x : Core) (j i : Nat) : (s.setCore k x).smapOf j i = s.smapOf j i := rfl
@[simp] theorem State.setCore_spirals (k : Nat) (x : Core) : (s.setCore k x).spirals = s.spirals := rfl
@[simp] theorem State.setCore_of (k : Nat) (x : Core) (j : Nat) : Spiral.of (s.setCore k x) j = Spiral.of s j := rfl
@[simp] theorem State.setCore_tlb (k : Nat) (x : Core) : (s.setCore k x).tlb = s.tlb := rfl
@[simp] theorem State.setCore_code (k : Nat) (x : Core) : (s.setCore k x).code = s.code := rfl
@[simp] theorem State.setCore_wbq (k : Nat) (x : Core) : (s.setCore k x).wbq = s.wbq := rfl
@[simp] theorem State.setCore_parts (k : Nat) (x : Core) : (s.setCore k x).parts = s.parts := rfl
@[simp] theorem State.setCore_read_part (k : Nat) (x : Core) (j : Nat) : (s.setCore k x).part j = s.part j := rfl
@[simp] theorem State.setCore_launches (k : Nat) (x : Core) : (s.setCore k x).launches = s.launches := rfl
@[simp] theorem State.setCore_read_launch (k : Nat) (x : Core) (j : Nat) : (s.setCore k x).launch j = s.launch j := rfl
@[simp] theorem State.setCore_gangs (k : Nat) (x : Core) : (s.setCore k x).gangs = s.gangs := rfl
@[simp] theorem State.setCore_read_gang (k : Nat) (x : Core) (j : Nat) : (s.setCore k x).gang j = s.gang j := rfl
@[simp] theorem State.setCore_crews (k : Nat) (x : Core) : (s.setCore k x).crews = s.crews := rfl
@[simp] theorem State.setCore_read_crew (k : Nat) (x : Core) (j : Nat) : (s.setCore k x).crew j = s.crew j := rfl
@[simp] theorem State.setCore_warps (k : Nat) (x : Core) : (s.setCore k x).warps = s.warps := rfl
@[simp] theorem State.setCore_read_warp (k : Nat) (x : Core) (j : Nat) : (s.setCore k x).warp j = s.warp j := rfl
@[simp] theorem State.setCore_vfs (k : Nat) (x : Core) : (s.setCore k x).vfs = s.vfs := rfl
@[simp] theorem State.setCore_read_vf (k : Nat) (x : Core) (j : Nat) : (s.setCore k x).vf j = s.vf j := rfl
@[simp] theorem State.setCore_claims (k : Nat) (x : Core) : (s.setCore k x).claims = s.claims := rfl
@[simp] theorem State.setCore_stackTab (k : Nat) (x : Core) : (s.setCore k x).stackTab = s.stackTab := rfl
@[simp] theorem State.setCore_read_stack (k : Nat) (x : Core) (j : Nat) : (s.setCore k x).stack j = s.stack j := rfl
@[simp] theorem State.setCore_hostPorts (k : Nat) (x : Core) : (s.setCore k x).hostPorts = s.hostPorts := rfl
@[simp] theorem State.setCore_jalef (k : Nat) (x : Core) : (s.setCore k x).jalef = s.jalef := rfl
@[simp] theorem State.setCore_routers (k : Nat) (x : Core) : (s.setCore k x).routers = s.routers := rfl
@[simp] theorem State.setCore_alarm (k : Nat) (x : Core) : (s.setCore k x).alarm = s.alarm := rfl
@[simp] theorem State.setCore_bootGo (k : Nat) (x : Core) : (s.setCore k x).bootGo = s.bootGo := rfl
@[simp] theorem State.setCore_bootDone (k : Nat) (x : Core) : (s.setCore k x).bootDone = s.bootDone := rfl
@[simp] theorem State.setCore_bootAcpt (k : Nat) (x : Core) : (s.setCore k x).bootAcpt = s.bootAcpt := rfl
@[simp] theorem State.setCore_staging (k : Nat) (x : Core) : (s.setCore k x).staging = s.staging := rfl
@[simp] theorem State.setCore_delivered (k : Nat) (x : Core) : (s.setCore k x).delivered = s.delivered := rfl
@[simp] theorem State.setCore_sent (k : Nat) (x : Core) : (s.setCore k x).sent = s.sent := rfl
@[simp] theorem State.setCore_cur (k : Nat) (x : Core) : (s.setCore k x).cur = s.cur := rfl
@[simp] theorem State.setCore_rest (k : Nat) (x : Core) : (s.setCore k x).rest = s.rest := rfl
@[simp] theorem State.setCore_switch (k : Nat) (x : Core) : (s.setCore k x).switch = s.switch := rfl
@[simp] theorem State.setCore_agenda (k : Nat) (x : Core) : (s.setCore k x).agenda = s.agenda := rfl
@[simp] theorem State.setCore_draws (k : Nat) (x : Core) : (s.setCore k x).draws = s.draws := rfl
@[simp] theorem State.setCore_fresh (k : Nat) (x : Core) : (s.setCore k x).fresh = s.fresh := rfl
@[simp] theorem State.setCore_shared (k : Nat) (x : Core) : (s.setCore k x).shared = s.shared := rfl
@[simp] theorem State.setCore_slices (k : Nat) (x : Core) : (s.setCore k x).slices = s.slices := rfl
@[simp] theorem State.setCore_directory (k : Nat) (x : Core) : (s.setCore k x).directory = s.directory := rfl
@[simp] theorem State.setCore_filters (k : Nat) (x : Core) : (s.setCore k x).filters = s.filters := rfl
@[simp] theorem State.setCore_ciphered (k : Nat) (x : Core) : (s.setCore k x).ciphered = s.ciphered := rfl
@[simp] theorem State.setCore_sealedBands (k : Nat) (x : Core) : (s.setCore k x).sealedBands = s.sealedBands := rfl
@[simp] theorem State.setCore_repPoison (k : Nat) (x : Core) : (s.setCore k x).repPoison = s.repPoison := rfl
@[simp] theorem State.setCore_decoders (k : Nat) (x : Core) : (s.setCore k x).decoders = s.decoders := rfl
@[simp] theorem State.setCore_lanes (k : Nat) (x : Core) : (s.setCore k x).lanes = s.lanes := rfl
@[simp] theorem State.setCore_homes (k : Nat) (x : Core) : (s.setCore k x).homes = s.homes := rfl
@[simp] theorem State.setCore_same (k : Nat) (x : Core) : (s.setCore k x).core k = x := by simp [State.core, State.setCore, tfind_tput_same]
theorem State.setCore_other (k : Nat) (x : Core) {j : Nat} (h : j ≠ k) : (s.setCore k x).core j = s.core j := by
  simp [State.core, State.setCore, tfind_tput_other _ _ h]

/-! ## setStack -/

@[simp] theorem State.setStack_cycle (k : Nat) (x : Stack) : (s.setStack k x).cycle = s.cycle := rfl
@[simp] theorem State.setStack_mem (k : Nat) (x : Stack) : (s.setStack k x).mem = s.mem := rfl
@[simp] theorem State.setStack_under (k : Nat) (x : Stack) : (s.setStack k x).under = s.under := rfl
@[simp] theorem State.setStack_owned (k : Nat) (x : Stack) : (s.setStack k x).owned = s.owned := rfl
@[simp] theorem State.setStack_copies (k : Nat) (x : Stack) : (s.setStack k x).copies = s.copies := rfl
@[simp] theorem State.setStack_clocks (k : Nat) (x : Stack) : (s.setStack k x).clocks = s.clocks := rfl
@[simp] theorem State.setStack_read_clockOf (k : Nat) (x : Stack) (j : Nat) : (s.setStack k x).clockOf j = s.clockOf j := rfl
@[simp] theorem State.setStack_poison (k : Nat) (x : Stack) : (s.setStack k x).poison = s.poison := rfl
@[simp] theorem State.setStack_spadPoison (k : Nat) (x : Stack) : (s.setStack k x).spadPoison = s.spadPoison := rfl
@[simp] theorem State.setStack_lost (k : Nat) (x : Stack) : (s.setStack k x).lost = s.lost := rfl
@[simp] theorem State.setStack_repLost (k : Nat) (x : Stack) : (s.setStack k x).repLost = s.repLost := rfl
@[simp] theorem State.setStack_reps (k : Nat) (x : Stack) : (s.setStack k x).reps = s.reps := rfl
@[simp] theorem State.setStack_latPages (k : Nat) (x : Stack) : (s.setStack k x).latPages = s.latPages := rfl
@[simp] theorem State.setStack_spad (k : Nat) (x : Stack) : (s.setStack k x).spad = s.spad := rfl
@[simp] theorem State.setStack_smap (k : Nat) (x : Stack) : (s.setStack k x).smap = s.smap := rfl
@[simp] theorem State.setStack_read_smapOf (k : Nat) (x : Stack) (j i : Nat) : (s.setStack k x).smapOf j i = s.smapOf j i := rfl
@[simp] theorem State.setStack_spirals (k : Nat) (x : Stack) : (s.setStack k x).spirals = s.spirals := rfl
@[simp] theorem State.setStack_of (k : Nat) (x : Stack) (j : Nat) : Spiral.of (s.setStack k x) j = Spiral.of s j := rfl
@[simp] theorem State.setStack_tlb (k : Nat) (x : Stack) : (s.setStack k x).tlb = s.tlb := rfl
@[simp] theorem State.setStack_code (k : Nat) (x : Stack) : (s.setStack k x).code = s.code := rfl
@[simp] theorem State.setStack_wbq (k : Nat) (x : Stack) : (s.setStack k x).wbq = s.wbq := rfl
@[simp] theorem State.setStack_parts (k : Nat) (x : Stack) : (s.setStack k x).parts = s.parts := rfl
@[simp] theorem State.setStack_read_part (k : Nat) (x : Stack) (j : Nat) : (s.setStack k x).part j = s.part j := rfl
@[simp] theorem State.setStack_launches (k : Nat) (x : Stack) : (s.setStack k x).launches = s.launches := rfl
@[simp] theorem State.setStack_read_launch (k : Nat) (x : Stack) (j : Nat) : (s.setStack k x).launch j = s.launch j := rfl
@[simp] theorem State.setStack_gangs (k : Nat) (x : Stack) : (s.setStack k x).gangs = s.gangs := rfl
@[simp] theorem State.setStack_read_gang (k : Nat) (x : Stack) (j : Nat) : (s.setStack k x).gang j = s.gang j := rfl
@[simp] theorem State.setStack_crews (k : Nat) (x : Stack) : (s.setStack k x).crews = s.crews := rfl
@[simp] theorem State.setStack_read_crew (k : Nat) (x : Stack) (j : Nat) : (s.setStack k x).crew j = s.crew j := rfl
@[simp] theorem State.setStack_warps (k : Nat) (x : Stack) : (s.setStack k x).warps = s.warps := rfl
@[simp] theorem State.setStack_read_warp (k : Nat) (x : Stack) (j : Nat) : (s.setStack k x).warp j = s.warp j := rfl
@[simp] theorem State.setStack_cores (k : Nat) (x : Stack) : (s.setStack k x).cores = s.cores := rfl
@[simp] theorem State.setStack_read_core (k : Nat) (x : Stack) (j : Nat) : (s.setStack k x).core j = s.core j := rfl
@[simp] theorem State.setStack_vfs (k : Nat) (x : Stack) : (s.setStack k x).vfs = s.vfs := rfl
@[simp] theorem State.setStack_read_vf (k : Nat) (x : Stack) (j : Nat) : (s.setStack k x).vf j = s.vf j := rfl
@[simp] theorem State.setStack_claims (k : Nat) (x : Stack) : (s.setStack k x).claims = s.claims := rfl
@[simp] theorem State.setStack_hostPorts (k : Nat) (x : Stack) : (s.setStack k x).hostPorts = s.hostPorts := rfl
@[simp] theorem State.setStack_jalef (k : Nat) (x : Stack) : (s.setStack k x).jalef = s.jalef := rfl
@[simp] theorem State.setStack_routers (k : Nat) (x : Stack) : (s.setStack k x).routers = s.routers := rfl
@[simp] theorem State.setStack_alarm (k : Nat) (x : Stack) : (s.setStack k x).alarm = s.alarm := rfl
@[simp] theorem State.setStack_bootGo (k : Nat) (x : Stack) : (s.setStack k x).bootGo = s.bootGo := rfl
@[simp] theorem State.setStack_bootDone (k : Nat) (x : Stack) : (s.setStack k x).bootDone = s.bootDone := rfl
@[simp] theorem State.setStack_bootAcpt (k : Nat) (x : Stack) : (s.setStack k x).bootAcpt = s.bootAcpt := rfl
@[simp] theorem State.setStack_staging (k : Nat) (x : Stack) : (s.setStack k x).staging = s.staging := rfl
@[simp] theorem State.setStack_delivered (k : Nat) (x : Stack) : (s.setStack k x).delivered = s.delivered := rfl
@[simp] theorem State.setStack_sent (k : Nat) (x : Stack) : (s.setStack k x).sent = s.sent := rfl
@[simp] theorem State.setStack_cur (k : Nat) (x : Stack) : (s.setStack k x).cur = s.cur := rfl
@[simp] theorem State.setStack_rest (k : Nat) (x : Stack) : (s.setStack k x).rest = s.rest := rfl
@[simp] theorem State.setStack_switch (k : Nat) (x : Stack) : (s.setStack k x).switch = s.switch := rfl
@[simp] theorem State.setStack_agenda (k : Nat) (x : Stack) : (s.setStack k x).agenda = s.agenda := rfl
@[simp] theorem State.setStack_draws (k : Nat) (x : Stack) : (s.setStack k x).draws = s.draws := rfl
@[simp] theorem State.setStack_fresh (k : Nat) (x : Stack) : (s.setStack k x).fresh = s.fresh := rfl
@[simp] theorem State.setStack_shared (k : Nat) (x : Stack) : (s.setStack k x).shared = s.shared := rfl
@[simp] theorem State.setStack_slices (k : Nat) (x : Stack) : (s.setStack k x).slices = s.slices := rfl
@[simp] theorem State.setStack_directory (k : Nat) (x : Stack) : (s.setStack k x).directory = s.directory := rfl
@[simp] theorem State.setStack_filters (k : Nat) (x : Stack) : (s.setStack k x).filters = s.filters := rfl
@[simp] theorem State.setStack_ciphered (k : Nat) (x : Stack) : (s.setStack k x).ciphered = s.ciphered := rfl
@[simp] theorem State.setStack_sealedBands (k : Nat) (x : Stack) : (s.setStack k x).sealedBands = s.sealedBands := rfl
@[simp] theorem State.setStack_repPoison (k : Nat) (x : Stack) : (s.setStack k x).repPoison = s.repPoison := rfl
@[simp] theorem State.setStack_decoders (k : Nat) (x : Stack) : (s.setStack k x).decoders = s.decoders := rfl
@[simp] theorem State.setStack_lanes (k : Nat) (x : Stack) : (s.setStack k x).lanes = s.lanes := rfl
@[simp] theorem State.setStack_homes (k : Nat) (x : Stack) : (s.setStack k x).homes = s.homes := rfl
@[simp] theorem State.setStack_same (k : Nat) (x : Stack) : (s.setStack k x).stack k = x := by simp [State.stack, State.setStack, tfind_tput_same]
theorem State.setStack_other (k : Nat) (x : Stack) {j : Nat} (h : j ≠ k) : (s.setStack k x).stack j = s.stack j := by
  simp [State.stack, State.setStack, tfind_tput_other _ _ h]

/-! ## setVf -/

@[simp] theorem State.setVf_cycle (k : Nat) (x : VfPage) : (s.setVf k x).cycle = s.cycle := rfl
@[simp] theorem State.setVf_mem (k : Nat) (x : VfPage) : (s.setVf k x).mem = s.mem := rfl
@[simp] theorem State.setVf_under (k : Nat) (x : VfPage) : (s.setVf k x).under = s.under := rfl
@[simp] theorem State.setVf_owned (k : Nat) (x : VfPage) : (s.setVf k x).owned = s.owned := rfl
@[simp] theorem State.setVf_copies (k : Nat) (x : VfPage) : (s.setVf k x).copies = s.copies := rfl
@[simp] theorem State.setVf_clocks (k : Nat) (x : VfPage) : (s.setVf k x).clocks = s.clocks := rfl
@[simp] theorem State.setVf_read_clockOf (k : Nat) (x : VfPage) (j : Nat) : (s.setVf k x).clockOf j = s.clockOf j := rfl
@[simp] theorem State.setVf_poison (k : Nat) (x : VfPage) : (s.setVf k x).poison = s.poison := rfl
@[simp] theorem State.setVf_spadPoison (k : Nat) (x : VfPage) : (s.setVf k x).spadPoison = s.spadPoison := rfl
@[simp] theorem State.setVf_lost (k : Nat) (x : VfPage) : (s.setVf k x).lost = s.lost := rfl
@[simp] theorem State.setVf_repLost (k : Nat) (x : VfPage) : (s.setVf k x).repLost = s.repLost := rfl
@[simp] theorem State.setVf_reps (k : Nat) (x : VfPage) : (s.setVf k x).reps = s.reps := rfl
@[simp] theorem State.setVf_latPages (k : Nat) (x : VfPage) : (s.setVf k x).latPages = s.latPages := rfl
@[simp] theorem State.setVf_spad (k : Nat) (x : VfPage) : (s.setVf k x).spad = s.spad := rfl
@[simp] theorem State.setVf_smap (k : Nat) (x : VfPage) : (s.setVf k x).smap = s.smap := rfl
@[simp] theorem State.setVf_read_smapOf (k : Nat) (x : VfPage) (j i : Nat) : (s.setVf k x).smapOf j i = s.smapOf j i := rfl
@[simp] theorem State.setVf_spirals (k : Nat) (x : VfPage) : (s.setVf k x).spirals = s.spirals := rfl
@[simp] theorem State.setVf_of (k : Nat) (x : VfPage) (j : Nat) : Spiral.of (s.setVf k x) j = Spiral.of s j := rfl
@[simp] theorem State.setVf_tlb (k : Nat) (x : VfPage) : (s.setVf k x).tlb = s.tlb := rfl
@[simp] theorem State.setVf_code (k : Nat) (x : VfPage) : (s.setVf k x).code = s.code := rfl
@[simp] theorem State.setVf_wbq (k : Nat) (x : VfPage) : (s.setVf k x).wbq = s.wbq := rfl
@[simp] theorem State.setVf_parts (k : Nat) (x : VfPage) : (s.setVf k x).parts = s.parts := rfl
@[simp] theorem State.setVf_read_part (k : Nat) (x : VfPage) (j : Nat) : (s.setVf k x).part j = s.part j := rfl
@[simp] theorem State.setVf_launches (k : Nat) (x : VfPage) : (s.setVf k x).launches = s.launches := rfl
@[simp] theorem State.setVf_read_launch (k : Nat) (x : VfPage) (j : Nat) : (s.setVf k x).launch j = s.launch j := rfl
@[simp] theorem State.setVf_gangs (k : Nat) (x : VfPage) : (s.setVf k x).gangs = s.gangs := rfl
@[simp] theorem State.setVf_read_gang (k : Nat) (x : VfPage) (j : Nat) : (s.setVf k x).gang j = s.gang j := rfl
@[simp] theorem State.setVf_crews (k : Nat) (x : VfPage) : (s.setVf k x).crews = s.crews := rfl
@[simp] theorem State.setVf_read_crew (k : Nat) (x : VfPage) (j : Nat) : (s.setVf k x).crew j = s.crew j := rfl
@[simp] theorem State.setVf_warps (k : Nat) (x : VfPage) : (s.setVf k x).warps = s.warps := rfl
@[simp] theorem State.setVf_read_warp (k : Nat) (x : VfPage) (j : Nat) : (s.setVf k x).warp j = s.warp j := rfl
@[simp] theorem State.setVf_cores (k : Nat) (x : VfPage) : (s.setVf k x).cores = s.cores := rfl
@[simp] theorem State.setVf_read_core (k : Nat) (x : VfPage) (j : Nat) : (s.setVf k x).core j = s.core j := rfl
@[simp] theorem State.setVf_claims (k : Nat) (x : VfPage) : (s.setVf k x).claims = s.claims := rfl
@[simp] theorem State.setVf_stackTab (k : Nat) (x : VfPage) : (s.setVf k x).stackTab = s.stackTab := rfl
@[simp] theorem State.setVf_read_stack (k : Nat) (x : VfPage) (j : Nat) : (s.setVf k x).stack j = s.stack j := rfl
@[simp] theorem State.setVf_hostPorts (k : Nat) (x : VfPage) : (s.setVf k x).hostPorts = s.hostPorts := rfl
@[simp] theorem State.setVf_jalef (k : Nat) (x : VfPage) : (s.setVf k x).jalef = s.jalef := rfl
@[simp] theorem State.setVf_routers (k : Nat) (x : VfPage) : (s.setVf k x).routers = s.routers := rfl
@[simp] theorem State.setVf_alarm (k : Nat) (x : VfPage) : (s.setVf k x).alarm = s.alarm := rfl
@[simp] theorem State.setVf_bootGo (k : Nat) (x : VfPage) : (s.setVf k x).bootGo = s.bootGo := rfl
@[simp] theorem State.setVf_bootDone (k : Nat) (x : VfPage) : (s.setVf k x).bootDone = s.bootDone := rfl
@[simp] theorem State.setVf_bootAcpt (k : Nat) (x : VfPage) : (s.setVf k x).bootAcpt = s.bootAcpt := rfl
@[simp] theorem State.setVf_staging (k : Nat) (x : VfPage) : (s.setVf k x).staging = s.staging := rfl
@[simp] theorem State.setVf_delivered (k : Nat) (x : VfPage) : (s.setVf k x).delivered = s.delivered := rfl
@[simp] theorem State.setVf_sent (k : Nat) (x : VfPage) : (s.setVf k x).sent = s.sent := rfl
@[simp] theorem State.setVf_cur (k : Nat) (x : VfPage) : (s.setVf k x).cur = s.cur := rfl
@[simp] theorem State.setVf_rest (k : Nat) (x : VfPage) : (s.setVf k x).rest = s.rest := rfl
@[simp] theorem State.setVf_switch (k : Nat) (x : VfPage) : (s.setVf k x).switch = s.switch := rfl
@[simp] theorem State.setVf_agenda (k : Nat) (x : VfPage) : (s.setVf k x).agenda = s.agenda := rfl
@[simp] theorem State.setVf_draws (k : Nat) (x : VfPage) : (s.setVf k x).draws = s.draws := rfl
@[simp] theorem State.setVf_fresh (k : Nat) (x : VfPage) : (s.setVf k x).fresh = s.fresh := rfl
@[simp] theorem State.setVf_shared (k : Nat) (x : VfPage) : (s.setVf k x).shared = s.shared := rfl
@[simp] theorem State.setVf_slices (k : Nat) (x : VfPage) : (s.setVf k x).slices = s.slices := rfl
@[simp] theorem State.setVf_directory (k : Nat) (x : VfPage) : (s.setVf k x).directory = s.directory := rfl
@[simp] theorem State.setVf_filters (k : Nat) (x : VfPage) : (s.setVf k x).filters = s.filters := rfl
@[simp] theorem State.setVf_ciphered (k : Nat) (x : VfPage) : (s.setVf k x).ciphered = s.ciphered := rfl
@[simp] theorem State.setVf_sealedBands (k : Nat) (x : VfPage) : (s.setVf k x).sealedBands = s.sealedBands := rfl
@[simp] theorem State.setVf_repPoison (k : Nat) (x : VfPage) : (s.setVf k x).repPoison = s.repPoison := rfl
@[simp] theorem State.setVf_decoders (k : Nat) (x : VfPage) : (s.setVf k x).decoders = s.decoders := rfl
@[simp] theorem State.setVf_lanes (k : Nat) (x : VfPage) : (s.setVf k x).lanes = s.lanes := rfl
@[simp] theorem State.setVf_homes (k : Nat) (x : VfPage) : (s.setVf k x).homes = s.homes := rfl
@[simp] theorem State.setVf_same (k : Nat) (x : VfPage) : (s.setVf k x).vf k = x := by simp [State.vf, State.setVf, tfind_tput_same]
theorem State.setVf_other (k : Nat) (x : VfPage) {j : Nat} (h : j ≠ k) : (s.setVf k x).vf j = s.vf j := by
  simp [State.vf, State.setVf, tfind_tput_other _ _ h]

/-! ## setSmap -/

@[simp] theorem State.setSmap_cycle (k n : Nat) (x : Smap) : (s.setSmap k n x).cycle = s.cycle := rfl
@[simp] theorem State.setSmap_mem (k n : Nat) (x : Smap) : (s.setSmap k n x).mem = s.mem := rfl
@[simp] theorem State.setSmap_under (k n : Nat) (x : Smap) : (s.setSmap k n x).under = s.under := rfl
@[simp] theorem State.setSmap_owned (k n : Nat) (x : Smap) : (s.setSmap k n x).owned = s.owned := rfl
@[simp] theorem State.setSmap_copies (k n : Nat) (x : Smap) : (s.setSmap k n x).copies = s.copies := rfl
@[simp] theorem State.setSmap_clocks (k n : Nat) (x : Smap) : (s.setSmap k n x).clocks = s.clocks := rfl
@[simp] theorem State.setSmap_read_clockOf (k n : Nat) (x : Smap) (j : Nat) : (s.setSmap k n x).clockOf j = s.clockOf j := rfl
@[simp] theorem State.setSmap_poison (k n : Nat) (x : Smap) : (s.setSmap k n x).poison = s.poison := rfl
@[simp] theorem State.setSmap_spadPoison (k n : Nat) (x : Smap) : (s.setSmap k n x).spadPoison = s.spadPoison := rfl
@[simp] theorem State.setSmap_lost (k n : Nat) (x : Smap) : (s.setSmap k n x).lost = s.lost := rfl
@[simp] theorem State.setSmap_repLost (k n : Nat) (x : Smap) : (s.setSmap k n x).repLost = s.repLost := rfl
@[simp] theorem State.setSmap_reps (k n : Nat) (x : Smap) : (s.setSmap k n x).reps = s.reps := rfl
@[simp] theorem State.setSmap_latPages (k n : Nat) (x : Smap) : (s.setSmap k n x).latPages = s.latPages := rfl
@[simp] theorem State.setSmap_spad (k n : Nat) (x : Smap) : (s.setSmap k n x).spad = s.spad := rfl
@[simp] theorem State.setSmap_spirals (k n : Nat) (x : Smap) : (s.setSmap k n x).spirals = s.spirals := rfl
@[simp] theorem State.setSmap_of (k n : Nat) (x : Smap) (j : Nat) : Spiral.of (s.setSmap k n x) j = Spiral.of s j := rfl
@[simp] theorem State.setSmap_tlb (k n : Nat) (x : Smap) : (s.setSmap k n x).tlb = s.tlb := rfl
@[simp] theorem State.setSmap_code (k n : Nat) (x : Smap) : (s.setSmap k n x).code = s.code := rfl
@[simp] theorem State.setSmap_wbq (k n : Nat) (x : Smap) : (s.setSmap k n x).wbq = s.wbq := rfl
@[simp] theorem State.setSmap_parts (k n : Nat) (x : Smap) : (s.setSmap k n x).parts = s.parts := rfl
@[simp] theorem State.setSmap_read_part (k n : Nat) (x : Smap) (j : Nat) : (s.setSmap k n x).part j = s.part j := rfl
@[simp] theorem State.setSmap_launches (k n : Nat) (x : Smap) : (s.setSmap k n x).launches = s.launches := rfl
@[simp] theorem State.setSmap_read_launch (k n : Nat) (x : Smap) (j : Nat) : (s.setSmap k n x).launch j = s.launch j := rfl
@[simp] theorem State.setSmap_gangs (k n : Nat) (x : Smap) : (s.setSmap k n x).gangs = s.gangs := rfl
@[simp] theorem State.setSmap_read_gang (k n : Nat) (x : Smap) (j : Nat) : (s.setSmap k n x).gang j = s.gang j := rfl
@[simp] theorem State.setSmap_crews (k n : Nat) (x : Smap) : (s.setSmap k n x).crews = s.crews := rfl
@[simp] theorem State.setSmap_read_crew (k n : Nat) (x : Smap) (j : Nat) : (s.setSmap k n x).crew j = s.crew j := rfl
@[simp] theorem State.setSmap_warps (k n : Nat) (x : Smap) : (s.setSmap k n x).warps = s.warps := rfl
@[simp] theorem State.setSmap_read_warp (k n : Nat) (x : Smap) (j : Nat) : (s.setSmap k n x).warp j = s.warp j := rfl
@[simp] theorem State.setSmap_cores (k n : Nat) (x : Smap) : (s.setSmap k n x).cores = s.cores := rfl
@[simp] theorem State.setSmap_read_core (k n : Nat) (x : Smap) (j : Nat) : (s.setSmap k n x).core j = s.core j := rfl
@[simp] theorem State.setSmap_vfs (k n : Nat) (x : Smap) : (s.setSmap k n x).vfs = s.vfs := rfl
@[simp] theorem State.setSmap_read_vf (k n : Nat) (x : Smap) (j : Nat) : (s.setSmap k n x).vf j = s.vf j := rfl
@[simp] theorem State.setSmap_claims (k n : Nat) (x : Smap) : (s.setSmap k n x).claims = s.claims := rfl
@[simp] theorem State.setSmap_stackTab (k n : Nat) (x : Smap) : (s.setSmap k n x).stackTab = s.stackTab := rfl
@[simp] theorem State.setSmap_read_stack (k n : Nat) (x : Smap) (j : Nat) : (s.setSmap k n x).stack j = s.stack j := rfl
@[simp] theorem State.setSmap_hostPorts (k n : Nat) (x : Smap) : (s.setSmap k n x).hostPorts = s.hostPorts := rfl
@[simp] theorem State.setSmap_jalef (k n : Nat) (x : Smap) : (s.setSmap k n x).jalef = s.jalef := rfl
@[simp] theorem State.setSmap_routers (k n : Nat) (x : Smap) : (s.setSmap k n x).routers = s.routers := rfl
@[simp] theorem State.setSmap_alarm (k n : Nat) (x : Smap) : (s.setSmap k n x).alarm = s.alarm := rfl
@[simp] theorem State.setSmap_bootGo (k n : Nat) (x : Smap) : (s.setSmap k n x).bootGo = s.bootGo := rfl
@[simp] theorem State.setSmap_bootDone (k n : Nat) (x : Smap) : (s.setSmap k n x).bootDone = s.bootDone := rfl
@[simp] theorem State.setSmap_bootAcpt (k n : Nat) (x : Smap) : (s.setSmap k n x).bootAcpt = s.bootAcpt := rfl
@[simp] theorem State.setSmap_staging (k n : Nat) (x : Smap) : (s.setSmap k n x).staging = s.staging := rfl
@[simp] theorem State.setSmap_delivered (k n : Nat) (x : Smap) : (s.setSmap k n x).delivered = s.delivered := rfl
@[simp] theorem State.setSmap_sent (k n : Nat) (x : Smap) : (s.setSmap k n x).sent = s.sent := rfl
@[simp] theorem State.setSmap_cur (k n : Nat) (x : Smap) : (s.setSmap k n x).cur = s.cur := rfl
@[simp] theorem State.setSmap_rest (k n : Nat) (x : Smap) : (s.setSmap k n x).rest = s.rest := rfl
@[simp] theorem State.setSmap_switch (k n : Nat) (x : Smap) : (s.setSmap k n x).switch = s.switch := rfl
@[simp] theorem State.setSmap_agenda (k n : Nat) (x : Smap) : (s.setSmap k n x).agenda = s.agenda := rfl
@[simp] theorem State.setSmap_draws (k n : Nat) (x : Smap) : (s.setSmap k n x).draws = s.draws := rfl
@[simp] theorem State.setSmap_fresh (k n : Nat) (x : Smap) : (s.setSmap k n x).fresh = s.fresh := rfl
@[simp] theorem State.setSmap_shared (k n : Nat) (x : Smap) : (s.setSmap k n x).shared = s.shared := rfl
@[simp] theorem State.setSmap_slices (k n : Nat) (x : Smap) : (s.setSmap k n x).slices = s.slices := rfl
@[simp] theorem State.setSmap_directory (k n : Nat) (x : Smap) : (s.setSmap k n x).directory = s.directory := rfl
@[simp] theorem State.setSmap_filters (k n : Nat) (x : Smap) : (s.setSmap k n x).filters = s.filters := rfl
@[simp] theorem State.setSmap_ciphered (k n : Nat) (x : Smap) : (s.setSmap k n x).ciphered = s.ciphered := rfl
@[simp] theorem State.setSmap_sealedBands (k n : Nat) (x : Smap) : (s.setSmap k n x).sealedBands = s.sealedBands := rfl
@[simp] theorem State.setSmap_repPoison (k n : Nat) (x : Smap) : (s.setSmap k n x).repPoison = s.repPoison := rfl
@[simp] theorem State.setSmap_decoders (k n : Nat) (x : Smap) : (s.setSmap k n x).decoders = s.decoders := rfl
@[simp] theorem State.setSmap_lanes (k n : Nat) (x : Smap) : (s.setSmap k n x).lanes = s.lanes := rfl
@[simp] theorem State.setSmap_homes (k n : Nat) (x : Smap) : (s.setSmap k n x).homes = s.homes := rfl
@[simp] theorem State.setSmap_same (k n : Nat) (x : Smap) : (s.setSmap k n x).smapOf k n = x := by simp [State.smapOf, State.setSmap, tfind_tput_same]
theorem State.setSmap_other (k n : Nat) (x : Smap) {j i : Nat} (h : 16 * j + i ≠ 16 * k + n) : (s.setSmap k n x).smapOf j i = s.smapOf j i := by
  simp [State.smapOf, State.setSmap, tfind_tput_other _ _ h]

/-! ## setClock -/

@[simp] theorem State.setClock_cycle (k : Nat) (x : WordClock) : (s.setClock k x).cycle = s.cycle := rfl
@[simp] theorem State.setClock_mem (k : Nat) (x : WordClock) : (s.setClock k x).mem = s.mem := rfl
@[simp] theorem State.setClock_under (k : Nat) (x : WordClock) : (s.setClock k x).under = s.under := rfl
@[simp] theorem State.setClock_owned (k : Nat) (x : WordClock) : (s.setClock k x).owned = s.owned := rfl
@[simp] theorem State.setClock_copies (k : Nat) (x : WordClock) : (s.setClock k x).copies = s.copies := rfl
@[simp] theorem State.setClock_poison (k : Nat) (x : WordClock) : (s.setClock k x).poison = s.poison := rfl
@[simp] theorem State.setClock_spadPoison (k : Nat) (x : WordClock) : (s.setClock k x).spadPoison = s.spadPoison := rfl
@[simp] theorem State.setClock_lost (k : Nat) (x : WordClock) : (s.setClock k x).lost = s.lost := rfl
@[simp] theorem State.setClock_repLost (k : Nat) (x : WordClock) : (s.setClock k x).repLost = s.repLost := rfl
@[simp] theorem State.setClock_reps (k : Nat) (x : WordClock) : (s.setClock k x).reps = s.reps := rfl
@[simp] theorem State.setClock_latPages (k : Nat) (x : WordClock) : (s.setClock k x).latPages = s.latPages := rfl
@[simp] theorem State.setClock_spad (k : Nat) (x : WordClock) : (s.setClock k x).spad = s.spad := rfl
@[simp] theorem State.setClock_smap (k : Nat) (x : WordClock) : (s.setClock k x).smap = s.smap := rfl
@[simp] theorem State.setClock_read_smapOf (k : Nat) (x : WordClock) (j i : Nat) : (s.setClock k x).smapOf j i = s.smapOf j i := rfl
@[simp] theorem State.setClock_spirals (k : Nat) (x : WordClock) : (s.setClock k x).spirals = s.spirals := rfl
@[simp] theorem State.setClock_of (k : Nat) (x : WordClock) (j : Nat) : Spiral.of (s.setClock k x) j = Spiral.of s j := rfl
@[simp] theorem State.setClock_tlb (k : Nat) (x : WordClock) : (s.setClock k x).tlb = s.tlb := rfl
@[simp] theorem State.setClock_code (k : Nat) (x : WordClock) : (s.setClock k x).code = s.code := rfl
@[simp] theorem State.setClock_wbq (k : Nat) (x : WordClock) : (s.setClock k x).wbq = s.wbq := rfl
@[simp] theorem State.setClock_parts (k : Nat) (x : WordClock) : (s.setClock k x).parts = s.parts := rfl
@[simp] theorem State.setClock_read_part (k : Nat) (x : WordClock) (j : Nat) : (s.setClock k x).part j = s.part j := rfl
@[simp] theorem State.setClock_launches (k : Nat) (x : WordClock) : (s.setClock k x).launches = s.launches := rfl
@[simp] theorem State.setClock_read_launch (k : Nat) (x : WordClock) (j : Nat) : (s.setClock k x).launch j = s.launch j := rfl
@[simp] theorem State.setClock_gangs (k : Nat) (x : WordClock) : (s.setClock k x).gangs = s.gangs := rfl
@[simp] theorem State.setClock_read_gang (k : Nat) (x : WordClock) (j : Nat) : (s.setClock k x).gang j = s.gang j := rfl
@[simp] theorem State.setClock_crews (k : Nat) (x : WordClock) : (s.setClock k x).crews = s.crews := rfl
@[simp] theorem State.setClock_read_crew (k : Nat) (x : WordClock) (j : Nat) : (s.setClock k x).crew j = s.crew j := rfl
@[simp] theorem State.setClock_warps (k : Nat) (x : WordClock) : (s.setClock k x).warps = s.warps := rfl
@[simp] theorem State.setClock_read_warp (k : Nat) (x : WordClock) (j : Nat) : (s.setClock k x).warp j = s.warp j := rfl
@[simp] theorem State.setClock_cores (k : Nat) (x : WordClock) : (s.setClock k x).cores = s.cores := rfl
@[simp] theorem State.setClock_read_core (k : Nat) (x : WordClock) (j : Nat) : (s.setClock k x).core j = s.core j := rfl
@[simp] theorem State.setClock_vfs (k : Nat) (x : WordClock) : (s.setClock k x).vfs = s.vfs := rfl
@[simp] theorem State.setClock_read_vf (k : Nat) (x : WordClock) (j : Nat) : (s.setClock k x).vf j = s.vf j := rfl
@[simp] theorem State.setClock_claims (k : Nat) (x : WordClock) : (s.setClock k x).claims = s.claims := rfl
@[simp] theorem State.setClock_stackTab (k : Nat) (x : WordClock) : (s.setClock k x).stackTab = s.stackTab := rfl
@[simp] theorem State.setClock_read_stack (k : Nat) (x : WordClock) (j : Nat) : (s.setClock k x).stack j = s.stack j := rfl
@[simp] theorem State.setClock_hostPorts (k : Nat) (x : WordClock) : (s.setClock k x).hostPorts = s.hostPorts := rfl
@[simp] theorem State.setClock_jalef (k : Nat) (x : WordClock) : (s.setClock k x).jalef = s.jalef := rfl
@[simp] theorem State.setClock_routers (k : Nat) (x : WordClock) : (s.setClock k x).routers = s.routers := rfl
@[simp] theorem State.setClock_alarm (k : Nat) (x : WordClock) : (s.setClock k x).alarm = s.alarm := rfl
@[simp] theorem State.setClock_bootGo (k : Nat) (x : WordClock) : (s.setClock k x).bootGo = s.bootGo := rfl
@[simp] theorem State.setClock_bootDone (k : Nat) (x : WordClock) : (s.setClock k x).bootDone = s.bootDone := rfl
@[simp] theorem State.setClock_bootAcpt (k : Nat) (x : WordClock) : (s.setClock k x).bootAcpt = s.bootAcpt := rfl
@[simp] theorem State.setClock_staging (k : Nat) (x : WordClock) : (s.setClock k x).staging = s.staging := rfl
@[simp] theorem State.setClock_delivered (k : Nat) (x : WordClock) : (s.setClock k x).delivered = s.delivered := rfl
@[simp] theorem State.setClock_sent (k : Nat) (x : WordClock) : (s.setClock k x).sent = s.sent := rfl
@[simp] theorem State.setClock_cur (k : Nat) (x : WordClock) : (s.setClock k x).cur = s.cur := rfl
@[simp] theorem State.setClock_rest (k : Nat) (x : WordClock) : (s.setClock k x).rest = s.rest := rfl
@[simp] theorem State.setClock_switch (k : Nat) (x : WordClock) : (s.setClock k x).switch = s.switch := rfl
@[simp] theorem State.setClock_agenda (k : Nat) (x : WordClock) : (s.setClock k x).agenda = s.agenda := rfl
@[simp] theorem State.setClock_draws (k : Nat) (x : WordClock) : (s.setClock k x).draws = s.draws := rfl
@[simp] theorem State.setClock_fresh (k : Nat) (x : WordClock) : (s.setClock k x).fresh = s.fresh := rfl
@[simp] theorem State.setClock_shared (k : Nat) (x : WordClock) : (s.setClock k x).shared = s.shared := rfl
@[simp] theorem State.setClock_slices (k : Nat) (x : WordClock) : (s.setClock k x).slices = s.slices := rfl
@[simp] theorem State.setClock_directory (k : Nat) (x : WordClock) : (s.setClock k x).directory = s.directory := rfl
@[simp] theorem State.setClock_filters (k : Nat) (x : WordClock) : (s.setClock k x).filters = s.filters := rfl
@[simp] theorem State.setClock_ciphered (k : Nat) (x : WordClock) : (s.setClock k x).ciphered = s.ciphered := rfl
@[simp] theorem State.setClock_sealedBands (k : Nat) (x : WordClock) : (s.setClock k x).sealedBands = s.sealedBands := rfl
@[simp] theorem State.setClock_repPoison (k : Nat) (x : WordClock) : (s.setClock k x).repPoison = s.repPoison := rfl
@[simp] theorem State.setClock_decoders (k : Nat) (x : WordClock) : (s.setClock k x).decoders = s.decoders := rfl
@[simp] theorem State.setClock_lanes (k : Nat) (x : WordClock) : (s.setClock k x).lanes = s.lanes := rfl
@[simp] theorem State.setClock_homes (k : Nat) (x : WordClock) : (s.setClock k x).homes = s.homes := rfl
@[simp] theorem State.setClock_same (k : Nat) (x : WordClock) : (s.setClock k x).clockOf k = x := by simp [State.clockOf, State.setClock, tfind_tput_same]
theorem State.setClock_other (k : Nat) (x : WordClock) {j : Nat} (h : j ≠ k) : (s.setClock k x).clockOf j = s.clockOf j := by
  simp [State.clockOf, State.setClock, tfind_tput_other _ _ h]

/-! ## setWarp -/

@[simp] theorem State.setWarp_cycle (k : Nat) (x : Warp) : (s.setWarp k x).cycle = s.cycle := rfl
@[simp] theorem State.setWarp_mem (k : Nat) (x : Warp) : (s.setWarp k x).mem = s.mem := rfl
@[simp] theorem State.setWarp_under (k : Nat) (x : Warp) : (s.setWarp k x).under = s.under := rfl
@[simp] theorem State.setWarp_owned (k : Nat) (x : Warp) : (s.setWarp k x).owned = s.owned := rfl
@[simp] theorem State.setWarp_copies (k : Nat) (x : Warp) : (s.setWarp k x).copies = s.copies := rfl
@[simp] theorem State.setWarp_clocks (k : Nat) (x : Warp) : (s.setWarp k x).clocks = s.clocks := rfl
@[simp] theorem State.setWarp_read_clockOf (k : Nat) (x : Warp) (j : Nat) : (s.setWarp k x).clockOf j = s.clockOf j := rfl
@[simp] theorem State.setWarp_poison (k : Nat) (x : Warp) : (s.setWarp k x).poison = s.poison := rfl
@[simp] theorem State.setWarp_spadPoison (k : Nat) (x : Warp) : (s.setWarp k x).spadPoison = s.spadPoison := rfl
@[simp] theorem State.setWarp_lost (k : Nat) (x : Warp) : (s.setWarp k x).lost = s.lost := rfl
@[simp] theorem State.setWarp_repLost (k : Nat) (x : Warp) : (s.setWarp k x).repLost = s.repLost := rfl
@[simp] theorem State.setWarp_reps (k : Nat) (x : Warp) : (s.setWarp k x).reps = s.reps := rfl
@[simp] theorem State.setWarp_latPages (k : Nat) (x : Warp) : (s.setWarp k x).latPages = s.latPages := rfl
@[simp] theorem State.setWarp_spad (k : Nat) (x : Warp) : (s.setWarp k x).spad = s.spad := rfl
@[simp] theorem State.setWarp_smap (k : Nat) (x : Warp) : (s.setWarp k x).smap = s.smap := rfl
@[simp] theorem State.setWarp_read_smapOf (k : Nat) (x : Warp) (j i : Nat) : (s.setWarp k x).smapOf j i = s.smapOf j i := rfl
@[simp] theorem State.setWarp_spirals (k : Nat) (x : Warp) : (s.setWarp k x).spirals = s.spirals := rfl
@[simp] theorem State.setWarp_of (k : Nat) (x : Warp) (j : Nat) : Spiral.of (s.setWarp k x) j = Spiral.of s j := rfl
@[simp] theorem State.setWarp_tlb (k : Nat) (x : Warp) : (s.setWarp k x).tlb = s.tlb := rfl
@[simp] theorem State.setWarp_code (k : Nat) (x : Warp) : (s.setWarp k x).code = s.code := rfl
@[simp] theorem State.setWarp_wbq (k : Nat) (x : Warp) : (s.setWarp k x).wbq = s.wbq := rfl
@[simp] theorem State.setWarp_parts (k : Nat) (x : Warp) : (s.setWarp k x).parts = s.parts := rfl
@[simp] theorem State.setWarp_read_part (k : Nat) (x : Warp) (j : Nat) : (s.setWarp k x).part j = s.part j := rfl
@[simp] theorem State.setWarp_launches (k : Nat) (x : Warp) : (s.setWarp k x).launches = s.launches := rfl
@[simp] theorem State.setWarp_read_launch (k : Nat) (x : Warp) (j : Nat) : (s.setWarp k x).launch j = s.launch j := rfl
@[simp] theorem State.setWarp_gangs (k : Nat) (x : Warp) : (s.setWarp k x).gangs = s.gangs := rfl
@[simp] theorem State.setWarp_read_gang (k : Nat) (x : Warp) (j : Nat) : (s.setWarp k x).gang j = s.gang j := rfl
@[simp] theorem State.setWarp_crews (k : Nat) (x : Warp) : (s.setWarp k x).crews = s.crews := rfl
@[simp] theorem State.setWarp_read_crew (k : Nat) (x : Warp) (j : Nat) : (s.setWarp k x).crew j = s.crew j := rfl
@[simp] theorem State.setWarp_cores (k : Nat) (x : Warp) : (s.setWarp k x).cores = s.cores := rfl
@[simp] theorem State.setWarp_read_core (k : Nat) (x : Warp) (j : Nat) : (s.setWarp k x).core j = s.core j := rfl
@[simp] theorem State.setWarp_vfs (k : Nat) (x : Warp) : (s.setWarp k x).vfs = s.vfs := rfl
@[simp] theorem State.setWarp_read_vf (k : Nat) (x : Warp) (j : Nat) : (s.setWarp k x).vf j = s.vf j := rfl
@[simp] theorem State.setWarp_claims (k : Nat) (x : Warp) : (s.setWarp k x).claims = s.claims := rfl
@[simp] theorem State.setWarp_stackTab (k : Nat) (x : Warp) : (s.setWarp k x).stackTab = s.stackTab := rfl
@[simp] theorem State.setWarp_read_stack (k : Nat) (x : Warp) (j : Nat) : (s.setWarp k x).stack j = s.stack j := rfl
@[simp] theorem State.setWarp_hostPorts (k : Nat) (x : Warp) : (s.setWarp k x).hostPorts = s.hostPorts := rfl
@[simp] theorem State.setWarp_jalef (k : Nat) (x : Warp) : (s.setWarp k x).jalef = s.jalef := rfl
@[simp] theorem State.setWarp_routers (k : Nat) (x : Warp) : (s.setWarp k x).routers = s.routers := rfl
@[simp] theorem State.setWarp_alarm (k : Nat) (x : Warp) : (s.setWarp k x).alarm = s.alarm := rfl
@[simp] theorem State.setWarp_bootGo (k : Nat) (x : Warp) : (s.setWarp k x).bootGo = s.bootGo := rfl
@[simp] theorem State.setWarp_bootDone (k : Nat) (x : Warp) : (s.setWarp k x).bootDone = s.bootDone := rfl
@[simp] theorem State.setWarp_bootAcpt (k : Nat) (x : Warp) : (s.setWarp k x).bootAcpt = s.bootAcpt := rfl
@[simp] theorem State.setWarp_staging (k : Nat) (x : Warp) : (s.setWarp k x).staging = s.staging := rfl
@[simp] theorem State.setWarp_delivered (k : Nat) (x : Warp) : (s.setWarp k x).delivered = s.delivered := rfl
@[simp] theorem State.setWarp_sent (k : Nat) (x : Warp) : (s.setWarp k x).sent = s.sent := rfl
@[simp] theorem State.setWarp_cur (k : Nat) (x : Warp) : (s.setWarp k x).cur = s.cur := rfl
@[simp] theorem State.setWarp_rest (k : Nat) (x : Warp) : (s.setWarp k x).rest = s.rest := rfl
@[simp] theorem State.setWarp_switch (k : Nat) (x : Warp) : (s.setWarp k x).switch = s.switch := rfl
@[simp] theorem State.setWarp_agenda (k : Nat) (x : Warp) : (s.setWarp k x).agenda = s.agenda := rfl
@[simp] theorem State.setWarp_draws (k : Nat) (x : Warp) : (s.setWarp k x).draws = s.draws := rfl
@[simp] theorem State.setWarp_fresh (k : Nat) (x : Warp) : (s.setWarp k x).fresh = s.fresh := rfl
@[simp] theorem State.setWarp_shared (k : Nat) (x : Warp) : (s.setWarp k x).shared = s.shared := rfl
@[simp] theorem State.setWarp_slices (k : Nat) (x : Warp) : (s.setWarp k x).slices = s.slices := rfl
@[simp] theorem State.setWarp_directory (k : Nat) (x : Warp) : (s.setWarp k x).directory = s.directory := rfl
@[simp] theorem State.setWarp_filters (k : Nat) (x : Warp) : (s.setWarp k x).filters = s.filters := rfl
@[simp] theorem State.setWarp_ciphered (k : Nat) (x : Warp) : (s.setWarp k x).ciphered = s.ciphered := rfl
@[simp] theorem State.setWarp_sealedBands (k : Nat) (x : Warp) : (s.setWarp k x).sealedBands = s.sealedBands := rfl
@[simp] theorem State.setWarp_repPoison (k : Nat) (x : Warp) : (s.setWarp k x).repPoison = s.repPoison := rfl
@[simp] theorem State.setWarp_decoders (k : Nat) (x : Warp) : (s.setWarp k x).decoders = s.decoders := rfl
@[simp] theorem State.setWarp_lanes (k : Nat) (x : Warp) : (s.setWarp k x).lanes = s.lanes := rfl
@[simp] theorem State.setWarp_homes (k : Nat) (x : Warp) : (s.setWarp k x).homes = s.homes := rfl
@[simp] theorem State.setWarp_same (k : Nat) (x : Warp) : (s.setWarp k x).warp k = some x := by simp [State.warp, State.setWarp, tfind_tput_same]
theorem State.setWarp_other (k : Nat) (x : Warp) {j : Nat} (h : j ≠ k) : (s.setWarp k x).warp j = s.warp j := by
  simp [State.warp, State.setWarp, tfind_tput_other _ _ h]

/-! ## setCrew -/

@[simp] theorem State.setCrew_cycle (k : Nat) (x : Crew) : (s.setCrew k x).cycle = s.cycle := rfl
@[simp] theorem State.setCrew_mem (k : Nat) (x : Crew) : (s.setCrew k x).mem = s.mem := rfl
@[simp] theorem State.setCrew_under (k : Nat) (x : Crew) : (s.setCrew k x).under = s.under := rfl
@[simp] theorem State.setCrew_owned (k : Nat) (x : Crew) : (s.setCrew k x).owned = s.owned := rfl
@[simp] theorem State.setCrew_copies (k : Nat) (x : Crew) : (s.setCrew k x).copies = s.copies := rfl
@[simp] theorem State.setCrew_clocks (k : Nat) (x : Crew) : (s.setCrew k x).clocks = s.clocks := rfl
@[simp] theorem State.setCrew_read_clockOf (k : Nat) (x : Crew) (j : Nat) : (s.setCrew k x).clockOf j = s.clockOf j := rfl
@[simp] theorem State.setCrew_poison (k : Nat) (x : Crew) : (s.setCrew k x).poison = s.poison := rfl
@[simp] theorem State.setCrew_spadPoison (k : Nat) (x : Crew) : (s.setCrew k x).spadPoison = s.spadPoison := rfl
@[simp] theorem State.setCrew_lost (k : Nat) (x : Crew) : (s.setCrew k x).lost = s.lost := rfl
@[simp] theorem State.setCrew_repLost (k : Nat) (x : Crew) : (s.setCrew k x).repLost = s.repLost := rfl
@[simp] theorem State.setCrew_reps (k : Nat) (x : Crew) : (s.setCrew k x).reps = s.reps := rfl
@[simp] theorem State.setCrew_latPages (k : Nat) (x : Crew) : (s.setCrew k x).latPages = s.latPages := rfl
@[simp] theorem State.setCrew_spad (k : Nat) (x : Crew) : (s.setCrew k x).spad = s.spad := rfl
@[simp] theorem State.setCrew_smap (k : Nat) (x : Crew) : (s.setCrew k x).smap = s.smap := rfl
@[simp] theorem State.setCrew_read_smapOf (k : Nat) (x : Crew) (j i : Nat) : (s.setCrew k x).smapOf j i = s.smapOf j i := rfl
@[simp] theorem State.setCrew_spirals (k : Nat) (x : Crew) : (s.setCrew k x).spirals = s.spirals := rfl
@[simp] theorem State.setCrew_of (k : Nat) (x : Crew) (j : Nat) : Spiral.of (s.setCrew k x) j = Spiral.of s j := rfl
@[simp] theorem State.setCrew_tlb (k : Nat) (x : Crew) : (s.setCrew k x).tlb = s.tlb := rfl
@[simp] theorem State.setCrew_code (k : Nat) (x : Crew) : (s.setCrew k x).code = s.code := rfl
@[simp] theorem State.setCrew_wbq (k : Nat) (x : Crew) : (s.setCrew k x).wbq = s.wbq := rfl
@[simp] theorem State.setCrew_parts (k : Nat) (x : Crew) : (s.setCrew k x).parts = s.parts := rfl
@[simp] theorem State.setCrew_read_part (k : Nat) (x : Crew) (j : Nat) : (s.setCrew k x).part j = s.part j := rfl
@[simp] theorem State.setCrew_launches (k : Nat) (x : Crew) : (s.setCrew k x).launches = s.launches := rfl
@[simp] theorem State.setCrew_read_launch (k : Nat) (x : Crew) (j : Nat) : (s.setCrew k x).launch j = s.launch j := rfl
@[simp] theorem State.setCrew_gangs (k : Nat) (x : Crew) : (s.setCrew k x).gangs = s.gangs := rfl
@[simp] theorem State.setCrew_read_gang (k : Nat) (x : Crew) (j : Nat) : (s.setCrew k x).gang j = s.gang j := rfl
@[simp] theorem State.setCrew_warps (k : Nat) (x : Crew) : (s.setCrew k x).warps = s.warps := rfl
@[simp] theorem State.setCrew_read_warp (k : Nat) (x : Crew) (j : Nat) : (s.setCrew k x).warp j = s.warp j := rfl
@[simp] theorem State.setCrew_cores (k : Nat) (x : Crew) : (s.setCrew k x).cores = s.cores := rfl
@[simp] theorem State.setCrew_read_core (k : Nat) (x : Crew) (j : Nat) : (s.setCrew k x).core j = s.core j := rfl
@[simp] theorem State.setCrew_vfs (k : Nat) (x : Crew) : (s.setCrew k x).vfs = s.vfs := rfl
@[simp] theorem State.setCrew_read_vf (k : Nat) (x : Crew) (j : Nat) : (s.setCrew k x).vf j = s.vf j := rfl
@[simp] theorem State.setCrew_claims (k : Nat) (x : Crew) : (s.setCrew k x).claims = s.claims := rfl
@[simp] theorem State.setCrew_stackTab (k : Nat) (x : Crew) : (s.setCrew k x).stackTab = s.stackTab := rfl
@[simp] theorem State.setCrew_read_stack (k : Nat) (x : Crew) (j : Nat) : (s.setCrew k x).stack j = s.stack j := rfl
@[simp] theorem State.setCrew_hostPorts (k : Nat) (x : Crew) : (s.setCrew k x).hostPorts = s.hostPorts := rfl
@[simp] theorem State.setCrew_jalef (k : Nat) (x : Crew) : (s.setCrew k x).jalef = s.jalef := rfl
@[simp] theorem State.setCrew_routers (k : Nat) (x : Crew) : (s.setCrew k x).routers = s.routers := rfl
@[simp] theorem State.setCrew_alarm (k : Nat) (x : Crew) : (s.setCrew k x).alarm = s.alarm := rfl
@[simp] theorem State.setCrew_bootGo (k : Nat) (x : Crew) : (s.setCrew k x).bootGo = s.bootGo := rfl
@[simp] theorem State.setCrew_bootDone (k : Nat) (x : Crew) : (s.setCrew k x).bootDone = s.bootDone := rfl
@[simp] theorem State.setCrew_bootAcpt (k : Nat) (x : Crew) : (s.setCrew k x).bootAcpt = s.bootAcpt := rfl
@[simp] theorem State.setCrew_staging (k : Nat) (x : Crew) : (s.setCrew k x).staging = s.staging := rfl
@[simp] theorem State.setCrew_delivered (k : Nat) (x : Crew) : (s.setCrew k x).delivered = s.delivered := rfl
@[simp] theorem State.setCrew_sent (k : Nat) (x : Crew) : (s.setCrew k x).sent = s.sent := rfl
@[simp] theorem State.setCrew_cur (k : Nat) (x : Crew) : (s.setCrew k x).cur = s.cur := rfl
@[simp] theorem State.setCrew_rest (k : Nat) (x : Crew) : (s.setCrew k x).rest = s.rest := rfl
@[simp] theorem State.setCrew_switch (k : Nat) (x : Crew) : (s.setCrew k x).switch = s.switch := rfl
@[simp] theorem State.setCrew_agenda (k : Nat) (x : Crew) : (s.setCrew k x).agenda = s.agenda := rfl
@[simp] theorem State.setCrew_draws (k : Nat) (x : Crew) : (s.setCrew k x).draws = s.draws := rfl
@[simp] theorem State.setCrew_fresh (k : Nat) (x : Crew) : (s.setCrew k x).fresh = s.fresh := rfl
@[simp] theorem State.setCrew_shared (k : Nat) (x : Crew) : (s.setCrew k x).shared = s.shared := rfl
@[simp] theorem State.setCrew_slices (k : Nat) (x : Crew) : (s.setCrew k x).slices = s.slices := rfl
@[simp] theorem State.setCrew_directory (k : Nat) (x : Crew) : (s.setCrew k x).directory = s.directory := rfl
@[simp] theorem State.setCrew_filters (k : Nat) (x : Crew) : (s.setCrew k x).filters = s.filters := rfl
@[simp] theorem State.setCrew_ciphered (k : Nat) (x : Crew) : (s.setCrew k x).ciphered = s.ciphered := rfl
@[simp] theorem State.setCrew_sealedBands (k : Nat) (x : Crew) : (s.setCrew k x).sealedBands = s.sealedBands := rfl
@[simp] theorem State.setCrew_repPoison (k : Nat) (x : Crew) : (s.setCrew k x).repPoison = s.repPoison := rfl
@[simp] theorem State.setCrew_decoders (k : Nat) (x : Crew) : (s.setCrew k x).decoders = s.decoders := rfl
@[simp] theorem State.setCrew_lanes (k : Nat) (x : Crew) : (s.setCrew k x).lanes = s.lanes := rfl
@[simp] theorem State.setCrew_homes (k : Nat) (x : Crew) : (s.setCrew k x).homes = s.homes := rfl
@[simp] theorem State.setCrew_same (k : Nat) (x : Crew) : (s.setCrew k x).crew k = some x := by simp [State.crew, State.setCrew, tfind_tput_same]
theorem State.setCrew_other (k : Nat) (x : Crew) {j : Nat} (h : j ≠ k) : (s.setCrew k x).crew j = s.crew j := by
  simp [State.crew, State.setCrew, tfind_tput_other _ _ h]

/-! ## setGang -/

@[simp] theorem State.setGang_cycle (k : Nat) (x : Gang) : (s.setGang k x).cycle = s.cycle := rfl
@[simp] theorem State.setGang_mem (k : Nat) (x : Gang) : (s.setGang k x).mem = s.mem := rfl
@[simp] theorem State.setGang_under (k : Nat) (x : Gang) : (s.setGang k x).under = s.under := rfl
@[simp] theorem State.setGang_owned (k : Nat) (x : Gang) : (s.setGang k x).owned = s.owned := rfl
@[simp] theorem State.setGang_copies (k : Nat) (x : Gang) : (s.setGang k x).copies = s.copies := rfl
@[simp] theorem State.setGang_clocks (k : Nat) (x : Gang) : (s.setGang k x).clocks = s.clocks := rfl
@[simp] theorem State.setGang_read_clockOf (k : Nat) (x : Gang) (j : Nat) : (s.setGang k x).clockOf j = s.clockOf j := rfl
@[simp] theorem State.setGang_poison (k : Nat) (x : Gang) : (s.setGang k x).poison = s.poison := rfl
@[simp] theorem State.setGang_spadPoison (k : Nat) (x : Gang) : (s.setGang k x).spadPoison = s.spadPoison := rfl
@[simp] theorem State.setGang_lost (k : Nat) (x : Gang) : (s.setGang k x).lost = s.lost := rfl
@[simp] theorem State.setGang_repLost (k : Nat) (x : Gang) : (s.setGang k x).repLost = s.repLost := rfl
@[simp] theorem State.setGang_reps (k : Nat) (x : Gang) : (s.setGang k x).reps = s.reps := rfl
@[simp] theorem State.setGang_latPages (k : Nat) (x : Gang) : (s.setGang k x).latPages = s.latPages := rfl
@[simp] theorem State.setGang_spad (k : Nat) (x : Gang) : (s.setGang k x).spad = s.spad := rfl
@[simp] theorem State.setGang_smap (k : Nat) (x : Gang) : (s.setGang k x).smap = s.smap := rfl
@[simp] theorem State.setGang_read_smapOf (k : Nat) (x : Gang) (j i : Nat) : (s.setGang k x).smapOf j i = s.smapOf j i := rfl
@[simp] theorem State.setGang_spirals (k : Nat) (x : Gang) : (s.setGang k x).spirals = s.spirals := rfl
@[simp] theorem State.setGang_of (k : Nat) (x : Gang) (j : Nat) : Spiral.of (s.setGang k x) j = Spiral.of s j := rfl
@[simp] theorem State.setGang_tlb (k : Nat) (x : Gang) : (s.setGang k x).tlb = s.tlb := rfl
@[simp] theorem State.setGang_code (k : Nat) (x : Gang) : (s.setGang k x).code = s.code := rfl
@[simp] theorem State.setGang_wbq (k : Nat) (x : Gang) : (s.setGang k x).wbq = s.wbq := rfl
@[simp] theorem State.setGang_parts (k : Nat) (x : Gang) : (s.setGang k x).parts = s.parts := rfl
@[simp] theorem State.setGang_read_part (k : Nat) (x : Gang) (j : Nat) : (s.setGang k x).part j = s.part j := rfl
@[simp] theorem State.setGang_launches (k : Nat) (x : Gang) : (s.setGang k x).launches = s.launches := rfl
@[simp] theorem State.setGang_read_launch (k : Nat) (x : Gang) (j : Nat) : (s.setGang k x).launch j = s.launch j := rfl
@[simp] theorem State.setGang_crews (k : Nat) (x : Gang) : (s.setGang k x).crews = s.crews := rfl
@[simp] theorem State.setGang_read_crew (k : Nat) (x : Gang) (j : Nat) : (s.setGang k x).crew j = s.crew j := rfl
@[simp] theorem State.setGang_warps (k : Nat) (x : Gang) : (s.setGang k x).warps = s.warps := rfl
@[simp] theorem State.setGang_read_warp (k : Nat) (x : Gang) (j : Nat) : (s.setGang k x).warp j = s.warp j := rfl
@[simp] theorem State.setGang_cores (k : Nat) (x : Gang) : (s.setGang k x).cores = s.cores := rfl
@[simp] theorem State.setGang_read_core (k : Nat) (x : Gang) (j : Nat) : (s.setGang k x).core j = s.core j := rfl
@[simp] theorem State.setGang_vfs (k : Nat) (x : Gang) : (s.setGang k x).vfs = s.vfs := rfl
@[simp] theorem State.setGang_read_vf (k : Nat) (x : Gang) (j : Nat) : (s.setGang k x).vf j = s.vf j := rfl
@[simp] theorem State.setGang_claims (k : Nat) (x : Gang) : (s.setGang k x).claims = s.claims := rfl
@[simp] theorem State.setGang_stackTab (k : Nat) (x : Gang) : (s.setGang k x).stackTab = s.stackTab := rfl
@[simp] theorem State.setGang_read_stack (k : Nat) (x : Gang) (j : Nat) : (s.setGang k x).stack j = s.stack j := rfl
@[simp] theorem State.setGang_hostPorts (k : Nat) (x : Gang) : (s.setGang k x).hostPorts = s.hostPorts := rfl
@[simp] theorem State.setGang_jalef (k : Nat) (x : Gang) : (s.setGang k x).jalef = s.jalef := rfl
@[simp] theorem State.setGang_routers (k : Nat) (x : Gang) : (s.setGang k x).routers = s.routers := rfl
@[simp] theorem State.setGang_alarm (k : Nat) (x : Gang) : (s.setGang k x).alarm = s.alarm := rfl
@[simp] theorem State.setGang_bootGo (k : Nat) (x : Gang) : (s.setGang k x).bootGo = s.bootGo := rfl
@[simp] theorem State.setGang_bootDone (k : Nat) (x : Gang) : (s.setGang k x).bootDone = s.bootDone := rfl
@[simp] theorem State.setGang_bootAcpt (k : Nat) (x : Gang) : (s.setGang k x).bootAcpt = s.bootAcpt := rfl
@[simp] theorem State.setGang_staging (k : Nat) (x : Gang) : (s.setGang k x).staging = s.staging := rfl
@[simp] theorem State.setGang_delivered (k : Nat) (x : Gang) : (s.setGang k x).delivered = s.delivered := rfl
@[simp] theorem State.setGang_sent (k : Nat) (x : Gang) : (s.setGang k x).sent = s.sent := rfl
@[simp] theorem State.setGang_cur (k : Nat) (x : Gang) : (s.setGang k x).cur = s.cur := rfl
@[simp] theorem State.setGang_rest (k : Nat) (x : Gang) : (s.setGang k x).rest = s.rest := rfl
@[simp] theorem State.setGang_switch (k : Nat) (x : Gang) : (s.setGang k x).switch = s.switch := rfl
@[simp] theorem State.setGang_agenda (k : Nat) (x : Gang) : (s.setGang k x).agenda = s.agenda := rfl
@[simp] theorem State.setGang_draws (k : Nat) (x : Gang) : (s.setGang k x).draws = s.draws := rfl
@[simp] theorem State.setGang_fresh (k : Nat) (x : Gang) : (s.setGang k x).fresh = s.fresh := rfl
@[simp] theorem State.setGang_shared (k : Nat) (x : Gang) : (s.setGang k x).shared = s.shared := rfl
@[simp] theorem State.setGang_slices (k : Nat) (x : Gang) : (s.setGang k x).slices = s.slices := rfl
@[simp] theorem State.setGang_directory (k : Nat) (x : Gang) : (s.setGang k x).directory = s.directory := rfl
@[simp] theorem State.setGang_filters (k : Nat) (x : Gang) : (s.setGang k x).filters = s.filters := rfl
@[simp] theorem State.setGang_ciphered (k : Nat) (x : Gang) : (s.setGang k x).ciphered = s.ciphered := rfl
@[simp] theorem State.setGang_sealedBands (k : Nat) (x : Gang) : (s.setGang k x).sealedBands = s.sealedBands := rfl
@[simp] theorem State.setGang_repPoison (k : Nat) (x : Gang) : (s.setGang k x).repPoison = s.repPoison := rfl
@[simp] theorem State.setGang_decoders (k : Nat) (x : Gang) : (s.setGang k x).decoders = s.decoders := rfl
@[simp] theorem State.setGang_lanes (k : Nat) (x : Gang) : (s.setGang k x).lanes = s.lanes := rfl
@[simp] theorem State.setGang_homes (k : Nat) (x : Gang) : (s.setGang k x).homes = s.homes := rfl
@[simp] theorem State.setGang_same (k : Nat) (x : Gang) : (s.setGang k x).gang k = some x := by simp [State.gang, State.setGang, tfind_tput_same]
theorem State.setGang_other (k : Nat) (x : Gang) {j : Nat} (h : j ≠ k) : (s.setGang k x).gang j = s.gang j := by
  simp [State.gang, State.setGang, tfind_tput_other _ _ h]

/-! ## setLaunch -/

@[simp] theorem State.setLaunch_cycle (k : Nat) (x : Launch) : (s.setLaunch k x).cycle = s.cycle := rfl
@[simp] theorem State.setLaunch_mem (k : Nat) (x : Launch) : (s.setLaunch k x).mem = s.mem := rfl
@[simp] theorem State.setLaunch_under (k : Nat) (x : Launch) : (s.setLaunch k x).under = s.under := rfl
@[simp] theorem State.setLaunch_owned (k : Nat) (x : Launch) : (s.setLaunch k x).owned = s.owned := rfl
@[simp] theorem State.setLaunch_copies (k : Nat) (x : Launch) : (s.setLaunch k x).copies = s.copies := rfl
@[simp] theorem State.setLaunch_clocks (k : Nat) (x : Launch) : (s.setLaunch k x).clocks = s.clocks := rfl
@[simp] theorem State.setLaunch_read_clockOf (k : Nat) (x : Launch) (j : Nat) : (s.setLaunch k x).clockOf j = s.clockOf j := rfl
@[simp] theorem State.setLaunch_poison (k : Nat) (x : Launch) : (s.setLaunch k x).poison = s.poison := rfl
@[simp] theorem State.setLaunch_spadPoison (k : Nat) (x : Launch) : (s.setLaunch k x).spadPoison = s.spadPoison := rfl
@[simp] theorem State.setLaunch_lost (k : Nat) (x : Launch) : (s.setLaunch k x).lost = s.lost := rfl
@[simp] theorem State.setLaunch_repLost (k : Nat) (x : Launch) : (s.setLaunch k x).repLost = s.repLost := rfl
@[simp] theorem State.setLaunch_reps (k : Nat) (x : Launch) : (s.setLaunch k x).reps = s.reps := rfl
@[simp] theorem State.setLaunch_latPages (k : Nat) (x : Launch) : (s.setLaunch k x).latPages = s.latPages := rfl
@[simp] theorem State.setLaunch_spad (k : Nat) (x : Launch) : (s.setLaunch k x).spad = s.spad := rfl
@[simp] theorem State.setLaunch_smap (k : Nat) (x : Launch) : (s.setLaunch k x).smap = s.smap := rfl
@[simp] theorem State.setLaunch_read_smapOf (k : Nat) (x : Launch) (j i : Nat) : (s.setLaunch k x).smapOf j i = s.smapOf j i := rfl
@[simp] theorem State.setLaunch_spirals (k : Nat) (x : Launch) : (s.setLaunch k x).spirals = s.spirals := rfl
@[simp] theorem State.setLaunch_of (k : Nat) (x : Launch) (j : Nat) : Spiral.of (s.setLaunch k x) j = Spiral.of s j := rfl
@[simp] theorem State.setLaunch_tlb (k : Nat) (x : Launch) : (s.setLaunch k x).tlb = s.tlb := rfl
@[simp] theorem State.setLaunch_code (k : Nat) (x : Launch) : (s.setLaunch k x).code = s.code := rfl
@[simp] theorem State.setLaunch_wbq (k : Nat) (x : Launch) : (s.setLaunch k x).wbq = s.wbq := rfl
@[simp] theorem State.setLaunch_parts (k : Nat) (x : Launch) : (s.setLaunch k x).parts = s.parts := rfl
@[simp] theorem State.setLaunch_read_part (k : Nat) (x : Launch) (j : Nat) : (s.setLaunch k x).part j = s.part j := rfl
@[simp] theorem State.setLaunch_gangs (k : Nat) (x : Launch) : (s.setLaunch k x).gangs = s.gangs := rfl
@[simp] theorem State.setLaunch_read_gang (k : Nat) (x : Launch) (j : Nat) : (s.setLaunch k x).gang j = s.gang j := rfl
@[simp] theorem State.setLaunch_crews (k : Nat) (x : Launch) : (s.setLaunch k x).crews = s.crews := rfl
@[simp] theorem State.setLaunch_read_crew (k : Nat) (x : Launch) (j : Nat) : (s.setLaunch k x).crew j = s.crew j := rfl
@[simp] theorem State.setLaunch_warps (k : Nat) (x : Launch) : (s.setLaunch k x).warps = s.warps := rfl
@[simp] theorem State.setLaunch_read_warp (k : Nat) (x : Launch) (j : Nat) : (s.setLaunch k x).warp j = s.warp j := rfl
@[simp] theorem State.setLaunch_cores (k : Nat) (x : Launch) : (s.setLaunch k x).cores = s.cores := rfl
@[simp] theorem State.setLaunch_read_core (k : Nat) (x : Launch) (j : Nat) : (s.setLaunch k x).core j = s.core j := rfl
@[simp] theorem State.setLaunch_vfs (k : Nat) (x : Launch) : (s.setLaunch k x).vfs = s.vfs := rfl
@[simp] theorem State.setLaunch_read_vf (k : Nat) (x : Launch) (j : Nat) : (s.setLaunch k x).vf j = s.vf j := rfl
@[simp] theorem State.setLaunch_claims (k : Nat) (x : Launch) : (s.setLaunch k x).claims = s.claims := rfl
@[simp] theorem State.setLaunch_stackTab (k : Nat) (x : Launch) : (s.setLaunch k x).stackTab = s.stackTab := rfl
@[simp] theorem State.setLaunch_read_stack (k : Nat) (x : Launch) (j : Nat) : (s.setLaunch k x).stack j = s.stack j := rfl
@[simp] theorem State.setLaunch_hostPorts (k : Nat) (x : Launch) : (s.setLaunch k x).hostPorts = s.hostPorts := rfl
@[simp] theorem State.setLaunch_jalef (k : Nat) (x : Launch) : (s.setLaunch k x).jalef = s.jalef := rfl
@[simp] theorem State.setLaunch_routers (k : Nat) (x : Launch) : (s.setLaunch k x).routers = s.routers := rfl
@[simp] theorem State.setLaunch_alarm (k : Nat) (x : Launch) : (s.setLaunch k x).alarm = s.alarm := rfl
@[simp] theorem State.setLaunch_bootGo (k : Nat) (x : Launch) : (s.setLaunch k x).bootGo = s.bootGo := rfl
@[simp] theorem State.setLaunch_bootDone (k : Nat) (x : Launch) : (s.setLaunch k x).bootDone = s.bootDone := rfl
@[simp] theorem State.setLaunch_bootAcpt (k : Nat) (x : Launch) : (s.setLaunch k x).bootAcpt = s.bootAcpt := rfl
@[simp] theorem State.setLaunch_staging (k : Nat) (x : Launch) : (s.setLaunch k x).staging = s.staging := rfl
@[simp] theorem State.setLaunch_delivered (k : Nat) (x : Launch) : (s.setLaunch k x).delivered = s.delivered := rfl
@[simp] theorem State.setLaunch_sent (k : Nat) (x : Launch) : (s.setLaunch k x).sent = s.sent := rfl
@[simp] theorem State.setLaunch_cur (k : Nat) (x : Launch) : (s.setLaunch k x).cur = s.cur := rfl
@[simp] theorem State.setLaunch_rest (k : Nat) (x : Launch) : (s.setLaunch k x).rest = s.rest := rfl
@[simp] theorem State.setLaunch_switch (k : Nat) (x : Launch) : (s.setLaunch k x).switch = s.switch := rfl
@[simp] theorem State.setLaunch_agenda (k : Nat) (x : Launch) : (s.setLaunch k x).agenda = s.agenda := rfl
@[simp] theorem State.setLaunch_draws (k : Nat) (x : Launch) : (s.setLaunch k x).draws = s.draws := rfl
@[simp] theorem State.setLaunch_fresh (k : Nat) (x : Launch) : (s.setLaunch k x).fresh = s.fresh := rfl
@[simp] theorem State.setLaunch_shared (k : Nat) (x : Launch) : (s.setLaunch k x).shared = s.shared := rfl
@[simp] theorem State.setLaunch_slices (k : Nat) (x : Launch) : (s.setLaunch k x).slices = s.slices := rfl
@[simp] theorem State.setLaunch_directory (k : Nat) (x : Launch) : (s.setLaunch k x).directory = s.directory := rfl
@[simp] theorem State.setLaunch_filters (k : Nat) (x : Launch) : (s.setLaunch k x).filters = s.filters := rfl
@[simp] theorem State.setLaunch_ciphered (k : Nat) (x : Launch) : (s.setLaunch k x).ciphered = s.ciphered := rfl
@[simp] theorem State.setLaunch_sealedBands (k : Nat) (x : Launch) : (s.setLaunch k x).sealedBands = s.sealedBands := rfl
@[simp] theorem State.setLaunch_repPoison (k : Nat) (x : Launch) : (s.setLaunch k x).repPoison = s.repPoison := rfl
@[simp] theorem State.setLaunch_decoders (k : Nat) (x : Launch) : (s.setLaunch k x).decoders = s.decoders := rfl
@[simp] theorem State.setLaunch_lanes (k : Nat) (x : Launch) : (s.setLaunch k x).lanes = s.lanes := rfl
@[simp] theorem State.setLaunch_homes (k : Nat) (x : Launch) : (s.setLaunch k x).homes = s.homes := rfl
@[simp] theorem State.setLaunch_same (k : Nat) (x : Launch) : (s.setLaunch k x).launch k = some x := by simp [State.launch, State.setLaunch, tfind_tput_same]
theorem State.setLaunch_other (k : Nat) (x : Launch) {j : Nat} (h : j ≠ k) : (s.setLaunch k x).launch j = s.launch j := by
  simp [State.launch, State.setLaunch, tfind_tput_other _ _ h]

/-! ## setPart -/

@[simp] theorem State.setPart_cycle (k : Nat) (x : Partition) : (s.setPart k x).cycle = s.cycle := rfl
@[simp] theorem State.setPart_mem (k : Nat) (x : Partition) : (s.setPart k x).mem = s.mem := rfl
@[simp] theorem State.setPart_under (k : Nat) (x : Partition) : (s.setPart k x).under = s.under := rfl
@[simp] theorem State.setPart_owned (k : Nat) (x : Partition) : (s.setPart k x).owned = s.owned := rfl
@[simp] theorem State.setPart_copies (k : Nat) (x : Partition) : (s.setPart k x).copies = s.copies := rfl
@[simp] theorem State.setPart_clocks (k : Nat) (x : Partition) : (s.setPart k x).clocks = s.clocks := rfl
@[simp] theorem State.setPart_read_clockOf (k : Nat) (x : Partition) (j : Nat) : (s.setPart k x).clockOf j = s.clockOf j := rfl
@[simp] theorem State.setPart_poison (k : Nat) (x : Partition) : (s.setPart k x).poison = s.poison := rfl
@[simp] theorem State.setPart_spadPoison (k : Nat) (x : Partition) : (s.setPart k x).spadPoison = s.spadPoison := rfl
@[simp] theorem State.setPart_lost (k : Nat) (x : Partition) : (s.setPart k x).lost = s.lost := rfl
@[simp] theorem State.setPart_repLost (k : Nat) (x : Partition) : (s.setPart k x).repLost = s.repLost := rfl
@[simp] theorem State.setPart_reps (k : Nat) (x : Partition) : (s.setPart k x).reps = s.reps := rfl
@[simp] theorem State.setPart_latPages (k : Nat) (x : Partition) : (s.setPart k x).latPages = s.latPages := rfl
@[simp] theorem State.setPart_spad (k : Nat) (x : Partition) : (s.setPart k x).spad = s.spad := rfl
@[simp] theorem State.setPart_smap (k : Nat) (x : Partition) : (s.setPart k x).smap = s.smap := rfl
@[simp] theorem State.setPart_read_smapOf (k : Nat) (x : Partition) (j i : Nat) : (s.setPart k x).smapOf j i = s.smapOf j i := rfl
@[simp] theorem State.setPart_spirals (k : Nat) (x : Partition) : (s.setPart k x).spirals = s.spirals := rfl
@[simp] theorem State.setPart_of (k : Nat) (x : Partition) (j : Nat) : Spiral.of (s.setPart k x) j = Spiral.of s j := rfl
@[simp] theorem State.setPart_tlb (k : Nat) (x : Partition) : (s.setPart k x).tlb = s.tlb := rfl
@[simp] theorem State.setPart_code (k : Nat) (x : Partition) : (s.setPart k x).code = s.code := rfl
@[simp] theorem State.setPart_wbq (k : Nat) (x : Partition) : (s.setPart k x).wbq = s.wbq := rfl
@[simp] theorem State.setPart_launches (k : Nat) (x : Partition) : (s.setPart k x).launches = s.launches := rfl
@[simp] theorem State.setPart_read_launch (k : Nat) (x : Partition) (j : Nat) : (s.setPart k x).launch j = s.launch j := rfl
@[simp] theorem State.setPart_gangs (k : Nat) (x : Partition) : (s.setPart k x).gangs = s.gangs := rfl
@[simp] theorem State.setPart_read_gang (k : Nat) (x : Partition) (j : Nat) : (s.setPart k x).gang j = s.gang j := rfl
@[simp] theorem State.setPart_crews (k : Nat) (x : Partition) : (s.setPart k x).crews = s.crews := rfl
@[simp] theorem State.setPart_read_crew (k : Nat) (x : Partition) (j : Nat) : (s.setPart k x).crew j = s.crew j := rfl
@[simp] theorem State.setPart_warps (k : Nat) (x : Partition) : (s.setPart k x).warps = s.warps := rfl
@[simp] theorem State.setPart_read_warp (k : Nat) (x : Partition) (j : Nat) : (s.setPart k x).warp j = s.warp j := rfl
@[simp] theorem State.setPart_cores (k : Nat) (x : Partition) : (s.setPart k x).cores = s.cores := rfl
@[simp] theorem State.setPart_read_core (k : Nat) (x : Partition) (j : Nat) : (s.setPart k x).core j = s.core j := rfl
@[simp] theorem State.setPart_vfs (k : Nat) (x : Partition) : (s.setPart k x).vfs = s.vfs := rfl
@[simp] theorem State.setPart_read_vf (k : Nat) (x : Partition) (j : Nat) : (s.setPart k x).vf j = s.vf j := rfl
@[simp] theorem State.setPart_claims (k : Nat) (x : Partition) : (s.setPart k x).claims = s.claims := rfl
@[simp] theorem State.setPart_stackTab (k : Nat) (x : Partition) : (s.setPart k x).stackTab = s.stackTab := rfl
@[simp] theorem State.setPart_read_stack (k : Nat) (x : Partition) (j : Nat) : (s.setPart k x).stack j = s.stack j := rfl
@[simp] theorem State.setPart_hostPorts (k : Nat) (x : Partition) : (s.setPart k x).hostPorts = s.hostPorts := rfl
@[simp] theorem State.setPart_jalef (k : Nat) (x : Partition) : (s.setPart k x).jalef = s.jalef := rfl
@[simp] theorem State.setPart_routers (k : Nat) (x : Partition) : (s.setPart k x).routers = s.routers := rfl
@[simp] theorem State.setPart_alarm (k : Nat) (x : Partition) : (s.setPart k x).alarm = s.alarm := rfl
@[simp] theorem State.setPart_bootGo (k : Nat) (x : Partition) : (s.setPart k x).bootGo = s.bootGo := rfl
@[simp] theorem State.setPart_bootDone (k : Nat) (x : Partition) : (s.setPart k x).bootDone = s.bootDone := rfl
@[simp] theorem State.setPart_bootAcpt (k : Nat) (x : Partition) : (s.setPart k x).bootAcpt = s.bootAcpt := rfl
@[simp] theorem State.setPart_staging (k : Nat) (x : Partition) : (s.setPart k x).staging = s.staging := rfl
@[simp] theorem State.setPart_delivered (k : Nat) (x : Partition) : (s.setPart k x).delivered = s.delivered := rfl
@[simp] theorem State.setPart_sent (k : Nat) (x : Partition) : (s.setPart k x).sent = s.sent := rfl
@[simp] theorem State.setPart_cur (k : Nat) (x : Partition) : (s.setPart k x).cur = s.cur := rfl
@[simp] theorem State.setPart_rest (k : Nat) (x : Partition) : (s.setPart k x).rest = s.rest := rfl
@[simp] theorem State.setPart_switch (k : Nat) (x : Partition) : (s.setPart k x).switch = s.switch := rfl
@[simp] theorem State.setPart_agenda (k : Nat) (x : Partition) : (s.setPart k x).agenda = s.agenda := rfl
@[simp] theorem State.setPart_draws (k : Nat) (x : Partition) : (s.setPart k x).draws = s.draws := rfl
@[simp] theorem State.setPart_fresh (k : Nat) (x : Partition) : (s.setPart k x).fresh = s.fresh := rfl
@[simp] theorem State.setPart_shared (k : Nat) (x : Partition) : (s.setPart k x).shared = s.shared := rfl
@[simp] theorem State.setPart_slices (k : Nat) (x : Partition) : (s.setPart k x).slices = s.slices := rfl
@[simp] theorem State.setPart_directory (k : Nat) (x : Partition) : (s.setPart k x).directory = s.directory := rfl
@[simp] theorem State.setPart_filters (k : Nat) (x : Partition) : (s.setPart k x).filters = s.filters := rfl
@[simp] theorem State.setPart_ciphered (k : Nat) (x : Partition) : (s.setPart k x).ciphered = s.ciphered := rfl
@[simp] theorem State.setPart_sealedBands (k : Nat) (x : Partition) : (s.setPart k x).sealedBands = s.sealedBands := rfl
@[simp] theorem State.setPart_repPoison (k : Nat) (x : Partition) : (s.setPart k x).repPoison = s.repPoison := rfl
@[simp] theorem State.setPart_decoders (k : Nat) (x : Partition) : (s.setPart k x).decoders = s.decoders := rfl
@[simp] theorem State.setPart_lanes (k : Nat) (x : Partition) : (s.setPart k x).lanes = s.lanes := rfl
@[simp] theorem State.setPart_homes (k : Nat) (x : Partition) : (s.setPart k x).homes = s.homes := rfl
@[simp] theorem State.setPart_same (k : Nat) (x : Partition) : (s.setPart k x).part k = some x := by simp [State.part, State.setPart, tfind_tput_same]
theorem State.setPart_other (k : Nat) (x : Partition) {j : Nat} (h : j ≠ k) : (s.setPart k x).part j = s.part j := by
  simp [State.part, State.setPart, tfind_tput_other _ _ h]

/-! ## drawn -/

@[simp] theorem State.drawn_cycle : (s.drawn).cycle = s.cycle := rfl
@[simp] theorem State.drawn_mem : (s.drawn).mem = s.mem := rfl
@[simp] theorem State.drawn_under : (s.drawn).under = s.under := rfl
@[simp] theorem State.drawn_owned : (s.drawn).owned = s.owned := rfl
@[simp] theorem State.drawn_copies : (s.drawn).copies = s.copies := rfl
@[simp] theorem State.drawn_clocks : (s.drawn).clocks = s.clocks := rfl
@[simp] theorem State.drawn_read_clockOf (j : Nat) : (s.drawn).clockOf j = s.clockOf j := rfl
@[simp] theorem State.drawn_poison : (s.drawn).poison = s.poison := rfl
@[simp] theorem State.drawn_spadPoison : (s.drawn).spadPoison = s.spadPoison := rfl
@[simp] theorem State.drawn_lost : (s.drawn).lost = s.lost := rfl
@[simp] theorem State.drawn_repLost : (s.drawn).repLost = s.repLost := rfl
@[simp] theorem State.drawn_reps : (s.drawn).reps = s.reps := rfl
@[simp] theorem State.drawn_latPages : (s.drawn).latPages = s.latPages := rfl
@[simp] theorem State.drawn_spad : (s.drawn).spad = s.spad := rfl
@[simp] theorem State.drawn_smap : (s.drawn).smap = s.smap := rfl
@[simp] theorem State.drawn_read_smapOf (j i : Nat) : (s.drawn).smapOf j i = s.smapOf j i := rfl
@[simp] theorem State.drawn_spirals : (s.drawn).spirals = s.spirals := rfl
@[simp] theorem State.drawn_of (j : Nat) : Spiral.of (s.drawn) j = Spiral.of s j := rfl
@[simp] theorem State.drawn_tlb : (s.drawn).tlb = s.tlb := rfl
@[simp] theorem State.drawn_code : (s.drawn).code = s.code := rfl
@[simp] theorem State.drawn_wbq : (s.drawn).wbq = s.wbq := rfl
@[simp] theorem State.drawn_parts : (s.drawn).parts = s.parts := rfl
@[simp] theorem State.drawn_read_part (j : Nat) : (s.drawn).part j = s.part j := rfl
@[simp] theorem State.drawn_launches : (s.drawn).launches = s.launches := rfl
@[simp] theorem State.drawn_read_launch (j : Nat) : (s.drawn).launch j = s.launch j := rfl
@[simp] theorem State.drawn_gangs : (s.drawn).gangs = s.gangs := rfl
@[simp] theorem State.drawn_read_gang (j : Nat) : (s.drawn).gang j = s.gang j := rfl
@[simp] theorem State.drawn_crews : (s.drawn).crews = s.crews := rfl
@[simp] theorem State.drawn_read_crew (j : Nat) : (s.drawn).crew j = s.crew j := rfl
@[simp] theorem State.drawn_warps : (s.drawn).warps = s.warps := rfl
@[simp] theorem State.drawn_read_warp (j : Nat) : (s.drawn).warp j = s.warp j := rfl
@[simp] theorem State.drawn_cores : (s.drawn).cores = s.cores := rfl
@[simp] theorem State.drawn_read_core (j : Nat) : (s.drawn).core j = s.core j := rfl
@[simp] theorem State.drawn_vfs : (s.drawn).vfs = s.vfs := rfl
@[simp] theorem State.drawn_read_vf (j : Nat) : (s.drawn).vf j = s.vf j := rfl
@[simp] theorem State.drawn_claims : (s.drawn).claims = s.claims := rfl
@[simp] theorem State.drawn_stackTab : (s.drawn).stackTab = s.stackTab := rfl
@[simp] theorem State.drawn_read_stack (j : Nat) : (s.drawn).stack j = s.stack j := rfl
@[simp] theorem State.drawn_hostPorts : (s.drawn).hostPorts = s.hostPorts := rfl
@[simp] theorem State.drawn_jalef : (s.drawn).jalef = s.jalef := rfl
@[simp] theorem State.drawn_routers : (s.drawn).routers = s.routers := rfl
@[simp] theorem State.drawn_alarm : (s.drawn).alarm = s.alarm := rfl
@[simp] theorem State.drawn_bootGo : (s.drawn).bootGo = s.bootGo := rfl
@[simp] theorem State.drawn_bootDone : (s.drawn).bootDone = s.bootDone := rfl
@[simp] theorem State.drawn_bootAcpt : (s.drawn).bootAcpt = s.bootAcpt := rfl
@[simp] theorem State.drawn_staging : (s.drawn).staging = s.staging := rfl
@[simp] theorem State.drawn_delivered : (s.drawn).delivered = s.delivered := rfl
@[simp] theorem State.drawn_sent : (s.drawn).sent = s.sent := rfl
@[simp] theorem State.drawn_cur : (s.drawn).cur = s.cur := rfl
@[simp] theorem State.drawn_rest : (s.drawn).rest = s.rest := rfl
@[simp] theorem State.drawn_switch : (s.drawn).switch = s.switch := rfl
@[simp] theorem State.drawn_agenda : (s.drawn).agenda = s.agenda := rfl
@[simp] theorem State.drawn_fresh : (s.drawn).fresh = s.fresh := rfl
@[simp] theorem State.drawn_shared : (s.drawn).shared = s.shared := rfl
@[simp] theorem State.drawn_slices : (s.drawn).slices = s.slices := rfl
@[simp] theorem State.drawn_directory : (s.drawn).directory = s.directory := rfl
@[simp] theorem State.drawn_filters : (s.drawn).filters = s.filters := rfl
@[simp] theorem State.drawn_ciphered : (s.drawn).ciphered = s.ciphered := rfl
@[simp] theorem State.drawn_sealedBands : (s.drawn).sealedBands = s.sealedBands := rfl
@[simp] theorem State.drawn_repPoison : (s.drawn).repPoison = s.repPoison := rfl
@[simp] theorem State.drawn_decoders : (s.drawn).decoders = s.decoders := rfl
@[simp] theorem State.drawn_lanes : (s.drawn).lanes = s.lanes := rfl
@[simp] theorem State.drawn_homes : (s.drawn).homes = s.homes := rfl

/-! ## switched -/

@[simp] theorem State.switched_cycle : (s.switched).cycle = s.cycle := rfl
@[simp] theorem State.switched_mem : (s.switched).mem = s.mem := rfl
@[simp] theorem State.switched_under : (s.switched).under = s.under := rfl
@[simp] theorem State.switched_owned : (s.switched).owned = s.owned := rfl
@[simp] theorem State.switched_copies : (s.switched).copies = s.copies := rfl
@[simp] theorem State.switched_clocks : (s.switched).clocks = s.clocks := rfl
@[simp] theorem State.switched_read_clockOf (j : Nat) : (s.switched).clockOf j = s.clockOf j := rfl
@[simp] theorem State.switched_poison : (s.switched).poison = s.poison := rfl
@[simp] theorem State.switched_spadPoison : (s.switched).spadPoison = s.spadPoison := rfl
@[simp] theorem State.switched_lost : (s.switched).lost = s.lost := rfl
@[simp] theorem State.switched_repLost : (s.switched).repLost = s.repLost := rfl
@[simp] theorem State.switched_reps : (s.switched).reps = s.reps := rfl
@[simp] theorem State.switched_latPages : (s.switched).latPages = s.latPages := rfl
@[simp] theorem State.switched_spad : (s.switched).spad = s.spad := rfl
@[simp] theorem State.switched_smap : (s.switched).smap = s.smap := rfl
@[simp] theorem State.switched_read_smapOf (j i : Nat) : (s.switched).smapOf j i = s.smapOf j i := rfl
@[simp] theorem State.switched_spirals : (s.switched).spirals = s.spirals := rfl
@[simp] theorem State.switched_of (j : Nat) : Spiral.of (s.switched) j = Spiral.of s j := rfl
@[simp] theorem State.switched_tlb : (s.switched).tlb = s.tlb := rfl
@[simp] theorem State.switched_code : (s.switched).code = s.code := rfl
@[simp] theorem State.switched_wbq : (s.switched).wbq = s.wbq := rfl
@[simp] theorem State.switched_parts : (s.switched).parts = s.parts := rfl
@[simp] theorem State.switched_read_part (j : Nat) : (s.switched).part j = s.part j := rfl
@[simp] theorem State.switched_launches : (s.switched).launches = s.launches := rfl
@[simp] theorem State.switched_read_launch (j : Nat) : (s.switched).launch j = s.launch j := rfl
@[simp] theorem State.switched_gangs : (s.switched).gangs = s.gangs := rfl
@[simp] theorem State.switched_read_gang (j : Nat) : (s.switched).gang j = s.gang j := rfl
@[simp] theorem State.switched_crews : (s.switched).crews = s.crews := rfl
@[simp] theorem State.switched_read_crew (j : Nat) : (s.switched).crew j = s.crew j := rfl
@[simp] theorem State.switched_warps : (s.switched).warps = s.warps := rfl
@[simp] theorem State.switched_read_warp (j : Nat) : (s.switched).warp j = s.warp j := rfl
@[simp] theorem State.switched_cores : (s.switched).cores = s.cores := rfl
@[simp] theorem State.switched_read_core (j : Nat) : (s.switched).core j = s.core j := rfl
@[simp] theorem State.switched_vfs : (s.switched).vfs = s.vfs := rfl
@[simp] theorem State.switched_read_vf (j : Nat) : (s.switched).vf j = s.vf j := rfl
@[simp] theorem State.switched_claims : (s.switched).claims = s.claims := rfl
@[simp] theorem State.switched_stackTab : (s.switched).stackTab = s.stackTab := rfl
@[simp] theorem State.switched_read_stack (j : Nat) : (s.switched).stack j = s.stack j := rfl
@[simp] theorem State.switched_hostPorts : (s.switched).hostPorts = s.hostPorts := rfl
@[simp] theorem State.switched_jalef : (s.switched).jalef = s.jalef := rfl
@[simp] theorem State.switched_routers : (s.switched).routers = s.routers := rfl
@[simp] theorem State.switched_alarm : (s.switched).alarm = s.alarm := rfl
@[simp] theorem State.switched_bootGo : (s.switched).bootGo = s.bootGo := rfl
@[simp] theorem State.switched_bootDone : (s.switched).bootDone = s.bootDone := rfl
@[simp] theorem State.switched_bootAcpt : (s.switched).bootAcpt = s.bootAcpt := rfl
@[simp] theorem State.switched_staging : (s.switched).staging = s.staging := rfl
@[simp] theorem State.switched_delivered : (s.switched).delivered = s.delivered := rfl
@[simp] theorem State.switched_sent : (s.switched).sent = s.sent := rfl
@[simp] theorem State.switched_cur : (s.switched).cur = s.cur := rfl
@[simp] theorem State.switched_rest : (s.switched).rest = s.rest := rfl
@[simp] theorem State.switched_agenda : (s.switched).agenda = s.agenda := rfl
@[simp] theorem State.switched_draws : (s.switched).draws = s.draws := rfl
@[simp] theorem State.switched_fresh : (s.switched).fresh = s.fresh := rfl
@[simp] theorem State.switched_shared : (s.switched).shared = s.shared := rfl
@[simp] theorem State.switched_slices : (s.switched).slices = s.slices := rfl
@[simp] theorem State.switched_directory : (s.switched).directory = s.directory := rfl
@[simp] theorem State.switched_filters : (s.switched).filters = s.filters := rfl
@[simp] theorem State.switched_ciphered : (s.switched).ciphered = s.ciphered := rfl
@[simp] theorem State.switched_sealedBands : (s.switched).sealedBands = s.sealedBands := rfl
@[simp] theorem State.switched_repPoison : (s.switched).repPoison = s.repPoison := rfl
@[simp] theorem State.switched_decoders : (s.switched).decoders = s.decoders := rfl
@[simp] theorem State.switched_lanes : (s.switched).lanes = s.lanes := rfl
@[simp] theorem State.switched_homes : (s.switched).homes = s.homes := rfl

/-! ## Threads -/

variable (th : Thread)

@[simp] theorem Thread.setV_pc (n : Nat) (x : Word) : (th.setV n x).pc = th.pc := rfl
@[simp] theorem Thread.setV_p (n : Nat) (x : Word) : (th.setV n x).p = th.p := rfl
@[simp] theorem Thread.setV_l0 (n : Nat) (x : Word) : (th.setV n x).l0 = th.l0 := rfl
@[simp] theorem Thread.setV_l1 (n : Nat) (x : Word) : (th.setV n x).l1 = th.l1 := rfl
@[simp] theorem Thread.setV_l2 (n : Nat) (x : Word) : (th.setV n x).l2 = th.l2 := rfl
@[simp] theorem Thread.setV_l3 (n : Nat) (x : Word) : (th.setV n x).l3 = th.l3 := rfl
@[simp] theorem Thread.setV_view (n : Nat) (x : Word) : (th.setV n x).view = th.view := rfl
@[simp] theorem Thread.setV_count (n : Nat) (x : Word) : (th.setV n x).count = th.count := rfl
@[simp] theorem Thread.setV_status (n : Nat) (x : Word) : (th.setV n x).status = th.status := rfl
@[simp] theorem Thread.setV_handler (n : Nat) (x : Word) : (th.setV n x).handler = th.handler := rfl
@[simp] theorem Thread.setV_sup (n : Nat) (x : Word) : (th.setV n x).sup = th.sup := rfl
@[simp] theorem Thread.setV_resume (n : Nat) (x : Word) : (th.setV n x).resume = th.resume := rfl
@[simp] theorem Thread.setV_left (n : Nat) (x : Word) : (th.setV n x).left = th.left := rfl
@[simp] theorem Thread.setV_timeout (n : Nat) (x : Word) : (th.setV n x).timeout = th.timeout := rfl
@[simp] theorem Thread.setV_since (n : Nat) (x : Word) : (th.setV n x).since = th.since := rfl
@[simp] theorem Thread.setV_held (n : Nat) (x : Word) : (th.setV n x).held = th.held := rfl
@[simp] theorem Thread.setV_fences (n : Nat) (x : Word) : (th.setV n x).fences = th.fences := rfl
@[simp] theorem Thread.setV_fenced (n : Nat) (x : Word) : (th.setV n x).fenced = th.fenced := rfl
@[simp] theorem Thread.setV_met (n : Nat) (x : Word) : (th.setV n x).met = th.met := rfl
@[simp] theorem Thread.setP_pc (n : Nat) (x : Bool) : (th.setP n x).pc = th.pc := rfl
@[simp] theorem Thread.setP_v (n : Nat) (x : Bool) : (th.setP n x).v = th.v := rfl
@[simp] theorem Thread.setP_l0 (n : Nat) (x : Bool) : (th.setP n x).l0 = th.l0 := rfl
@[simp] theorem Thread.setP_l1 (n : Nat) (x : Bool) : (th.setP n x).l1 = th.l1 := rfl
@[simp] theorem Thread.setP_l2 (n : Nat) (x : Bool) : (th.setP n x).l2 = th.l2 := rfl
@[simp] theorem Thread.setP_l3 (n : Nat) (x : Bool) : (th.setP n x).l3 = th.l3 := rfl
@[simp] theorem Thread.setP_view (n : Nat) (x : Bool) : (th.setP n x).view = th.view := rfl
@[simp] theorem Thread.setP_count (n : Nat) (x : Bool) : (th.setP n x).count = th.count := rfl
@[simp] theorem Thread.setP_status (n : Nat) (x : Bool) : (th.setP n x).status = th.status := rfl
@[simp] theorem Thread.setP_handler (n : Nat) (x : Bool) : (th.setP n x).handler = th.handler := rfl
@[simp] theorem Thread.setP_sup (n : Nat) (x : Bool) : (th.setP n x).sup = th.sup := rfl
@[simp] theorem Thread.setP_resume (n : Nat) (x : Bool) : (th.setP n x).resume = th.resume := rfl
@[simp] theorem Thread.setP_left (n : Nat) (x : Bool) : (th.setP n x).left = th.left := rfl
@[simp] theorem Thread.setP_timeout (n : Nat) (x : Bool) : (th.setP n x).timeout = th.timeout := rfl
@[simp] theorem Thread.setP_since (n : Nat) (x : Bool) : (th.setP n x).since = th.since := rfl
@[simp] theorem Thread.setP_held (n : Nat) (x : Bool) : (th.setP n x).held = th.held := rfl
@[simp] theorem Thread.setP_fences (n : Nat) (x : Bool) : (th.setP n x).fences = th.fences := rfl
@[simp] theorem Thread.setP_fenced (n : Nat) (x : Bool) : (th.setP n x).fenced = th.fenced := rfl
@[simp] theorem Thread.setP_met (n : Nat) (x : Bool) : (th.setP n x).met = th.met := rfl
@[simp] theorem Thread.latch_pc (x : Word) : (th.latch x).pc = th.pc := rfl
@[simp] theorem Thread.latch_v (x : Word) : (th.latch x).v = th.v := rfl
@[simp] theorem Thread.latch_p (x : Word) : (th.latch x).p = th.p := rfl
@[simp] theorem Thread.latch_view (x : Word) : (th.latch x).view = th.view := rfl
@[simp] theorem Thread.latch_count (x : Word) : (th.latch x).count = th.count := rfl
@[simp] theorem Thread.latch_status (x : Word) : (th.latch x).status = th.status := rfl
@[simp] theorem Thread.latch_handler (x : Word) : (th.latch x).handler = th.handler := rfl
@[simp] theorem Thread.latch_sup (x : Word) : (th.latch x).sup = th.sup := rfl
@[simp] theorem Thread.latch_resume (x : Word) : (th.latch x).resume = th.resume := rfl
@[simp] theorem Thread.latch_left (x : Word) : (th.latch x).left = th.left := rfl
@[simp] theorem Thread.latch_timeout (x : Word) : (th.latch x).timeout = th.timeout := rfl
@[simp] theorem Thread.latch_since (x : Word) : (th.latch x).since = th.since := rfl
@[simp] theorem Thread.latch_held (x : Word) : (th.latch x).held = th.held := rfl
@[simp] theorem Thread.latch_fences (x : Word) : (th.latch x).fences = th.fences := rfl
@[simp] theorem Thread.latch_fenced (x : Word) : (th.latch x).fenced = th.fenced := rfl
@[simp] theorem Thread.latch_met (x : Word) : (th.latch x).met = th.met := rfl
@[simp] theorem Thread.clearLatches_pc : (th.clearLatches).pc = th.pc := rfl
@[simp] theorem Thread.clearLatches_v : (th.clearLatches).v = th.v := rfl
@[simp] theorem Thread.clearLatches_p : (th.clearLatches).p = th.p := rfl
@[simp] theorem Thread.clearLatches_view : (th.clearLatches).view = th.view := rfl
@[simp] theorem Thread.clearLatches_count : (th.clearLatches).count = th.count := rfl
@[simp] theorem Thread.clearLatches_status : (th.clearLatches).status = th.status := rfl
@[simp] theorem Thread.clearLatches_handler : (th.clearLatches).handler = th.handler := rfl
@[simp] theorem Thread.clearLatches_sup : (th.clearLatches).sup = th.sup := rfl
@[simp] theorem Thread.clearLatches_resume : (th.clearLatches).resume = th.resume := rfl
@[simp] theorem Thread.clearLatches_left : (th.clearLatches).left = th.left := rfl
@[simp] theorem Thread.clearLatches_timeout : (th.clearLatches).timeout = th.timeout := rfl
@[simp] theorem Thread.clearLatches_since : (th.clearLatches).since = th.since := rfl
@[simp] theorem Thread.clearLatches_held : (th.clearLatches).held = th.held := rfl
@[simp] theorem Thread.clearLatches_fences : (th.clearLatches).fences = th.fences := rfl
@[simp] theorem Thread.clearLatches_fenced : (th.clearLatches).fenced = th.fenced := rfl
@[simp] theorem Thread.clearLatches_met : (th.clearLatches).met = th.met := rfl
@[simp] theorem Thread.setV_same (n : Nat) (x : Word) : (th.setV n x).vreg n = x := wget_wput_same _ _ _
theorem Thread.setV_other (n : Nat) (x : Word) {k : Nat} (h : k ≠ n) : (th.setV n x).vreg k = th.vreg k :=
  wget_wput_other _ _ h
@[simp] theorem Thread.latch_vreg (x : Word) (k : Nat) : (th.latch x).vreg k = th.vreg k := rfl

/-! ## Warps -/

variable (w : Warp)

@[simp] theorem Warp.setS_crew (n : Nat) (x : Word) : (w.setS n x).crew = w.crew := rfl
@[simp] theorem Warp.setS_wix (n : Nat) (x : Word) : (w.setS n x).wix = w.wix := rfl
@[simp] theorem Warp.setS_lane (n : Nat) (x : Word) : (w.setS n x).lane = w.lane := rfl
@[simp] theorem Warp.setS_slot (n : Nat) (x : Word) : (w.setS n x).slot = w.slot := rfl
@[simp] theorem Warp.setS_kv (n : Nat) (x : Word) : (w.setS n x).kv = w.kv := rfl
@[simp] theorem Warp.setS_ks (n : Nat) (x : Word) : (w.setS n x).ks = w.ks := rfl
@[simp] theorem Warp.setS_frm (n : Nat) (x : Word) : (w.setS n x).frm = w.frm := rfl
@[simp] theorem Warp.setS_fflags (n : Nat) (x : Word) : (w.setS n x).fflags = w.fflags := rfl
@[simp] theorem Warp.setS_threads (n : Nat) (x : Word) : (w.setS n x).threads = w.threads := rfl
@[simp] theorem Warp.setS_bars (n : Nat) (x : Word) : (w.setS n x).bars = w.bars := rfl
@[simp] theorem Warp.setS_pend (n : Nat) (x : Word) : (w.setS n x).pend = w.pend := rfl
@[simp] theorem Warp.setS_batches (n : Nat) (x : Word) : (w.setS n x).batches = w.batches := rfl
@[simp] theorem Warp.setS_subs (n : Nat) (x : Word) : (w.setS n x).subs = w.subs := rfl
@[simp] theorem Warp.setS_run (n : Nat) (x : Word) : (w.setS n x).run = w.run := rfl
@[simp] theorem Warp.setS_pausedAt (n : Nat) (x : Word) : (w.setS n x).pausedAt = w.pausedAt := rfl
@[simp] theorem Warp.setS_stuck (n : Nat) (x : Word) : (w.setS n x).stuck = w.stuck := rfl
@[simp] theorem Warp.setS_ended (n : Nat) (x : Word) : (w.setS n x).ended = w.ended := rfl
@[simp] theorem Warp.setSPair_crew (n : Nat) (x : Dword) : (w.setSPair n x).crew = w.crew := rfl
@[simp] theorem Warp.setSPair_wix (n : Nat) (x : Dword) : (w.setSPair n x).wix = w.wix := rfl
@[simp] theorem Warp.setSPair_lane (n : Nat) (x : Dword) : (w.setSPair n x).lane = w.lane := rfl
@[simp] theorem Warp.setSPair_slot (n : Nat) (x : Dword) : (w.setSPair n x).slot = w.slot := rfl
@[simp] theorem Warp.setSPair_kv (n : Nat) (x : Dword) : (w.setSPair n x).kv = w.kv := rfl
@[simp] theorem Warp.setSPair_ks (n : Nat) (x : Dword) : (w.setSPair n x).ks = w.ks := rfl
@[simp] theorem Warp.setSPair_frm (n : Nat) (x : Dword) : (w.setSPair n x).frm = w.frm := rfl
@[simp] theorem Warp.setSPair_fflags (n : Nat) (x : Dword) : (w.setSPair n x).fflags = w.fflags := rfl
@[simp] theorem Warp.setSPair_threads (n : Nat) (x : Dword) : (w.setSPair n x).threads = w.threads := rfl
@[simp] theorem Warp.setSPair_bars (n : Nat) (x : Dword) : (w.setSPair n x).bars = w.bars := rfl
@[simp] theorem Warp.setSPair_pend (n : Nat) (x : Dword) : (w.setSPair n x).pend = w.pend := rfl
@[simp] theorem Warp.setSPair_batches (n : Nat) (x : Dword) : (w.setSPair n x).batches = w.batches := rfl
@[simp] theorem Warp.setSPair_subs (n : Nat) (x : Dword) : (w.setSPair n x).subs = w.subs := rfl
@[simp] theorem Warp.setSPair_run (n : Nat) (x : Dword) : (w.setSPair n x).run = w.run := rfl
@[simp] theorem Warp.setSPair_pausedAt (n : Nat) (x : Dword) : (w.setSPair n x).pausedAt = w.pausedAt := rfl
@[simp] theorem Warp.setSPair_stuck (n : Nat) (x : Dword) : (w.setSPair n x).stuck = w.stuck := rfl
@[simp] theorem Warp.setSPair_ended (n : Nat) (x : Dword) : (w.setSPair n x).ended = w.ended := rfl
@[simp] theorem Warp.setBar_crew (n : Nat) (x : Barrier) : (w.setBar n x).crew = w.crew := rfl
@[simp] theorem Warp.setBar_wix (n : Nat) (x : Barrier) : (w.setBar n x).wix = w.wix := rfl
@[simp] theorem Warp.setBar_lane (n : Nat) (x : Barrier) : (w.setBar n x).lane = w.lane := rfl
@[simp] theorem Warp.setBar_slot (n : Nat) (x : Barrier) : (w.setBar n x).slot = w.slot := rfl
@[simp] theorem Warp.setBar_kv (n : Nat) (x : Barrier) : (w.setBar n x).kv = w.kv := rfl
@[simp] theorem Warp.setBar_ks (n : Nat) (x : Barrier) : (w.setBar n x).ks = w.ks := rfl
@[simp] theorem Warp.setBar_s (n : Nat) (x : Barrier) : (w.setBar n x).s = w.s := rfl
@[simp] theorem Warp.setBar_frm (n : Nat) (x : Barrier) : (w.setBar n x).frm = w.frm := rfl
@[simp] theorem Warp.setBar_fflags (n : Nat) (x : Barrier) : (w.setBar n x).fflags = w.fflags := rfl
@[simp] theorem Warp.setBar_threads (n : Nat) (x : Barrier) : (w.setBar n x).threads = w.threads := rfl
@[simp] theorem Warp.setBar_pend (n : Nat) (x : Barrier) : (w.setBar n x).pend = w.pend := rfl
@[simp] theorem Warp.setBar_batches (n : Nat) (x : Barrier) : (w.setBar n x).batches = w.batches := rfl
@[simp] theorem Warp.setBar_subs (n : Nat) (x : Barrier) : (w.setBar n x).subs = w.subs := rfl
@[simp] theorem Warp.setBar_run (n : Nat) (x : Barrier) : (w.setBar n x).run = w.run := rfl
@[simp] theorem Warp.setBar_pausedAt (n : Nat) (x : Barrier) : (w.setBar n x).pausedAt = w.pausedAt := rfl
@[simp] theorem Warp.setBar_stuck (n : Nat) (x : Barrier) : (w.setBar n x).stuck = w.stuck := rfl
@[simp] theorem Warp.setBar_seals (n : Nat) (x : Barrier) : (w.setBar n x).seals = w.seals := rfl
@[simp] theorem Warp.setBar_ended (n : Nat) (x : Barrier) : (w.setBar n x).ended = w.ended := rfl
@[simp] theorem Warp.mapThreads_crew (f : Nat → Thread → Thread) : (w.mapThreads f).crew = w.crew := rfl
@[simp] theorem Warp.mapThreads_wix (f : Nat → Thread → Thread) : (w.mapThreads f).wix = w.wix := rfl
@[simp] theorem Warp.mapThreads_lane (f : Nat → Thread → Thread) : (w.mapThreads f).lane = w.lane := rfl
@[simp] theorem Warp.mapThreads_slot (f : Nat → Thread → Thread) : (w.mapThreads f).slot = w.slot := rfl
@[simp] theorem Warp.mapThreads_kv (f : Nat → Thread → Thread) : (w.mapThreads f).kv = w.kv := rfl
@[simp] theorem Warp.mapThreads_ks (f : Nat → Thread → Thread) : (w.mapThreads f).ks = w.ks := rfl
@[simp] theorem Warp.mapThreads_s (f : Nat → Thread → Thread) : (w.mapThreads f).s = w.s := rfl
@[simp] theorem Warp.mapThreads_frm (f : Nat → Thread → Thread) : (w.mapThreads f).frm = w.frm := rfl
@[simp] theorem Warp.mapThreads_fflags (f : Nat → Thread → Thread) : (w.mapThreads f).fflags = w.fflags := rfl
@[simp] theorem Warp.mapThreads_bars (f : Nat → Thread → Thread) : (w.mapThreads f).bars = w.bars := rfl
@[simp] theorem Warp.mapThreads_pend (f : Nat → Thread → Thread) : (w.mapThreads f).pend = w.pend := rfl
@[simp] theorem Warp.mapThreads_batches (f : Nat → Thread → Thread) : (w.mapThreads f).batches = w.batches := rfl
@[simp] theorem Warp.mapThreads_subs (f : Nat → Thread → Thread) : (w.mapThreads f).subs = w.subs := rfl
@[simp] theorem Warp.mapThreads_run (f : Nat → Thread → Thread) : (w.mapThreads f).run = w.run := rfl
@[simp] theorem Warp.mapThreads_pausedAt (f : Nat → Thread → Thread) : (w.mapThreads f).pausedAt = w.pausedAt := rfl
@[simp] theorem Warp.mapThreads_stuck (f : Nat → Thread → Thread) : (w.mapThreads f).stuck = w.stuck := rfl
@[simp] theorem Warp.mapThreads_seals (f : Nat → Thread → Thread) : (w.mapThreads f).seals = w.seals := rfl
@[simp] theorem Warp.mapThreads_ended (f : Nat → Thread → Thread) : (w.mapThreads f).ended = w.ended := rfl
@[simp] theorem Warp.onThreads_crew (m : Word) (f : Thread → Thread) : (w.onThreads m f).crew = w.crew := rfl
@[simp] theorem Warp.onThreads_wix (m : Word) (f : Thread → Thread) : (w.onThreads m f).wix = w.wix := rfl
@[simp] theorem Warp.onThreads_lane (m : Word) (f : Thread → Thread) : (w.onThreads m f).lane = w.lane := rfl
@[simp] theorem Warp.onThreads_slot (m : Word) (f : Thread → Thread) : (w.onThreads m f).slot = w.slot := rfl
@[simp] theorem Warp.onThreads_kv (m : Word) (f : Thread → Thread) : (w.onThreads m f).kv = w.kv := rfl
@[simp] theorem Warp.onThreads_ks (m : Word) (f : Thread → Thread) : (w.onThreads m f).ks = w.ks := rfl
@[simp] theorem Warp.onThreads_s (m : Word) (f : Thread → Thread) : (w.onThreads m f).s = w.s := rfl
@[simp] theorem Warp.onThreads_frm (m : Word) (f : Thread → Thread) : (w.onThreads m f).frm = w.frm := rfl
@[simp] theorem Warp.onThreads_fflags (m : Word) (f : Thread → Thread) : (w.onThreads m f).fflags = w.fflags := rfl
@[simp] theorem Warp.onThreads_bars (m : Word) (f : Thread → Thread) : (w.onThreads m f).bars = w.bars := rfl
@[simp] theorem Warp.onThreads_pend (m : Word) (f : Thread → Thread) : (w.onThreads m f).pend = w.pend := rfl
@[simp] theorem Warp.onThreads_batches (m : Word) (f : Thread → Thread) : (w.onThreads m f).batches = w.batches := rfl
@[simp] theorem Warp.onThreads_subs (m : Word) (f : Thread → Thread) : (w.onThreads m f).subs = w.subs := rfl
@[simp] theorem Warp.onThreads_run (m : Word) (f : Thread → Thread) : (w.onThreads m f).run = w.run := rfl
@[simp] theorem Warp.onThreads_pausedAt (m : Word) (f : Thread → Thread) : (w.onThreads m f).pausedAt = w.pausedAt := rfl
@[simp] theorem Warp.onThreads_stuck (m : Word) (f : Thread → Thread) : (w.onThreads m f).stuck = w.stuck := rfl
@[simp] theorem Warp.onThreads_seals (m : Word) (f : Thread → Thread) : (w.onThreads m f).seals = w.seals := rfl
@[simp] theorem Warp.onThreads_ended (m : Word) (f : Thread → Thread) : (w.onThreads m f).ended = w.ended := rfl
@[simp] theorem Warp.setS_same (n : Nat) (x : Word) : (w.setS n x).sreg n = x := wget_wput_same _ _ _
theorem Warp.setS_other (n : Nat) (x : Word) {k : Nat} (h : k ≠ n) : (w.setS n x).sreg k = w.sreg k :=
  wget_wput_other _ _ h
@[simp] theorem Warp.setBar_same (n : Nat) (x : Barrier) : (w.setBar n x).bar n = x := by
  simp [Warp.bar, Warp.setBar, tfind_tput_same]
theorem Warp.setBar_other (n : Nat) (x : Barrier) {k : Nat} (h : k ≠ n) : (w.setBar n x).bar k = w.bar k := by
  simp [Warp.bar, Warp.setBar, tfind_tput_other _ _ h]

/-! ## Engines, partitions and VF pages -/

variable (c : Core) (p : Partition) (v : VfPage)

@[simp] theorem Core.setBuf_accs (k : Nat) (x : Buf) : (c.setBuf k x).accs = c.accs := rfl
@[simp] theorem Core.setBuf_entries (k : Nat) (x : Buf) : (c.setBuf k x).entries = c.entries := rfl
@[simp] theorem Core.setBuf_submitted (k : Nat) (x : Buf) : (c.setBuf k x).submitted = c.submitted := rfl
@[simp] theorem Core.setBuf_ktb (k : Nat) (x : Buf) : (c.setBuf k x).ktb = c.ktb := rfl
@[simp] theorem Core.setBuf_gate (k : Nat) (x : Buf) : (c.setBuf k x).gate = c.gate := rfl
@[simp] theorem Core.setBuf_gateRequests (k : Nat) (x : Buf) : (c.setBuf k x).gateRequests = c.gateRequests := rfl
@[simp] theorem Core.setBuf_fifo (k : Nat) (x : Buf) : (c.setBuf k x).fifo = c.fifo := rfl
@[simp] theorem Core.setBuf_vacate (k : Nat) (x : Buf) : (c.setBuf k x).vacate = c.vacate := rfl
@[simp] theorem Core.setBuf_askedAt (k : Nat) (x : Buf) : (c.setBuf k x).askedAt = c.askedAt := rfl
@[simp] theorem Core.setBuf_same (k : Nat) (x : Buf) : (c.setBuf k x).buf k = x := by
  simp [Core.buf, Core.setBuf, tfind_tput_same]
theorem Core.setBuf_other (k : Nat) (x : Buf) {j : Nat} (h : j ≠ k) : (c.setBuf k x).buf j = c.buf j := by
  simp [Core.buf, Core.setBuf, tfind_tput_other _ _ h]
@[simp] theorem Core.setAcc_bufs (k : Nat) (x : Acc) : (c.setAcc k x).bufs = c.bufs := rfl
@[simp] theorem Core.setAcc_entries (k : Nat) (x : Acc) : (c.setAcc k x).entries = c.entries := rfl
@[simp] theorem Core.setAcc_submitted (k : Nat) (x : Acc) : (c.setAcc k x).submitted = c.submitted := rfl
@[simp] theorem Core.setAcc_ktb (k : Nat) (x : Acc) : (c.setAcc k x).ktb = c.ktb := rfl
@[simp] theorem Core.setAcc_gate (k : Nat) (x : Acc) : (c.setAcc k x).gate = c.gate := rfl
@[simp] theorem Core.setAcc_gateRequests (k : Nat) (x : Acc) : (c.setAcc k x).gateRequests = c.gateRequests := rfl
@[simp] theorem Core.setAcc_fifo (k : Nat) (x : Acc) : (c.setAcc k x).fifo = c.fifo := rfl
@[simp] theorem Core.setAcc_vacate (k : Nat) (x : Acc) : (c.setAcc k x).vacate = c.vacate := rfl
@[simp] theorem Core.setAcc_askedAt (k : Nat) (x : Acc) : (c.setAcc k x).askedAt = c.askedAt := rfl
@[simp] theorem Core.setAcc_same (k : Nat) (x : Acc) : (c.setAcc k x).acc k = x := by
  simp [Core.acc, Core.setAcc, tfind_tput_same]
theorem Core.setAcc_other (k : Nat) (x : Acc) {j : Nat} (h : j ≠ k) : (c.setAcc k x).acc j = c.acc j := by
  simp [Core.acc, Core.setAcc, tfind_tput_other _ _ h]
@[simp] theorem Core.setEntry_bufs (k : Nat) (x : Entry) : (c.setEntry k x).bufs = c.bufs := rfl
@[simp] theorem Core.setEntry_accs (k : Nat) (x : Entry) : (c.setEntry k x).accs = c.accs := rfl
@[simp] theorem Core.setEntry_submitted (k : Nat) (x : Entry) : (c.setEntry k x).submitted = c.submitted := rfl
@[simp] theorem Core.setEntry_ktb (k : Nat) (x : Entry) : (c.setEntry k x).ktb = c.ktb := rfl
@[simp] theorem Core.setEntry_gate (k : Nat) (x : Entry) : (c.setEntry k x).gate = c.gate := rfl
@[simp] theorem Core.setEntry_gateRequests (k : Nat) (x : Entry) : (c.setEntry k x).gateRequests = c.gateRequests := rfl
@[simp] theorem Core.setEntry_fifo (k : Nat) (x : Entry) : (c.setEntry k x).fifo = c.fifo := rfl
@[simp] theorem Core.setEntry_vacate (k : Nat) (x : Entry) : (c.setEntry k x).vacate = c.vacate := rfl
@[simp] theorem Core.setEntry_askedAt (k : Nat) (x : Entry) : (c.setEntry k x).askedAt = c.askedAt := rfl
@[simp] theorem Core.setEntry_same (k : Nat) (x : Entry) : (c.setEntry k x).entry k = x := by
  simp [Core.entry, Core.setEntry, tfind_tput_same]
theorem Core.setEntry_other (k : Nat) (x : Entry) {j : Nat} (h : j ≠ k) : (c.setEntry k x).entry j = c.entry j := by
  simp [Core.entry, Core.setEntry, tfind_tput_other _ _ h]
@[simp] theorem Partition.setQueue_same (k : Nat) (x : Queue) : (p.setQueue k x).queue k = x := by
  simp [Partition.queue, Partition.setQueue, tfind_tput_same]
theorem Partition.setQueue_other (k : Nat) (x : Queue) {j : Nat} (h : j ≠ k) : (p.setQueue k x).queue j = p.queue j := by
  simp [Partition.queue, Partition.setQueue, tfind_tput_other _ _ h]
@[simp] theorem Partition.setGroup_same (k : Nat) (x : Group) : (p.setGroup k x).group k = x := by
  simp [Partition.group, Partition.setGroup, tfind_tput_same]
theorem Partition.setGroup_other (k : Nat) (x : Group) {j : Nat} (h : j ≠ k) : (p.setGroup k x).group j = p.group j := by
  simp [Partition.group, Partition.setGroup, tfind_tput_other _ _ h]
@[simp] theorem VfPage.setTier_same (k : Nat) (x : Quota) : (v.setTier k x).tier k = x := by
  simp [VfPage.tier, VfPage.setTier, tfind_tput_same]
theorem VfPage.setTier_other (k : Nat) (x : Quota) {j : Nat} (h : j ≠ k) : (v.setTier k x).tier j = v.tier j := by
  simp [VfPage.tier, VfPage.setTier, tfind_tput_other _ _ h]

end Sys2Proof.Machine
end

