-- ==== Sys2Proof/Laws/Memory.lean ====
section
/-! SUPPORT. Every operation over memory keeps its canonical form: the bytes of memory, of the scratchpads and of the
staging window. -/
namespace Sys2Proof.Machine

/-- The three memories of a state stand in canonical form. -/
structure Canonical (s : State) : Prop where
  mem : Memory.wf s.mem = true
  spad : Memory.wf s.spad = true
  staging : Memory.wf s.staging = true

theorem canonical_reset : Canonical State.reset := ⟨rfl, rfl, rfl⟩

/-- An operation that leaves the three memories alone keeps the form. -/
theorem Canonical.same {s t : State} (h : Canonical s) (hm : t.mem = s.mem) (hp : t.spad = s.spad)
    (hs : t.staging = s.staging) : Canonical t := ⟨hm ▸ h.mem, hp ▸ h.spad, hs ▸ h.staging⟩

theorem canonical_foldl {α β : Type} {f : β → α → β} {g : β → State} (l : List α) (b : β) (h : Canonical (g b))
    (hf : ∀ b a, Canonical (g b) → Canonical (g (f b a))) : Canonical (g (l.foldl f b)) := by
  induction l generalizing b with
  | nil => exact h
  | cons a r ih => exact ih _ (hf b a h)

theorem wf_foldl {α : Type} {f : Memory → α → Memory} (l : List α) (m : Memory) (h : Memory.wf m = true)
    (hf : ∀ m a, Memory.wf m = true → Memory.wf (f m a) = true) : Memory.wf (l.foldl f m) = true := by
  induction l generalizing m with
  | nil => exact h
  | cons a r ih => exact ih _ (hf m a h)

/-! ## Operations that write a memory -/

theorem Canonical.putByte {s : State} (h : Canonical s) (d : Bool) (a : Nat) (b : Byte) : Canonical (s.putByte d a b) :=
  ⟨wf_wput a b h.mem, h.spad, h.staging⟩

theorem Canonical.putBytes {s : State} (h : Canonical s) (d : Bool) (a : Nat) (bs : List Byte) :
    Canonical (s.putBytes d a bs) := by
  induction bs generalizing s a with
  | nil => exact h
  | cons b r ih => exact ih (h.putByte d a b) (a + 1)

theorem Canonical.putPad {s : State} (h : Canonical s) (a : Nat) (bs : List Byte) : Canonical (s.putPad a bs) :=
  ⟨h.mem, wf_memPut a bs h.spad, h.staging⟩

theorem Canonical.discardLine {s : State} (h : Canonical s) (a : Nat) : Canonical (s.discardLine a) :=
  ⟨wf_foldl _ _ h.mem fun _ e hm => wf_wput e.1 e.2 hm, h.spad, h.staging⟩

/-! ## Operations that leave the memories alone -/

theorem Canonical.spiral {s : State} (h : Canonical s) (o : Tab Spiral) : Canonical { s with spirals := o } :=
  h.same rfl rfl rfl

theorem Canonical.onSpiral {s : State} (h : Canonical s) (k : Nat) (f : Spiral → Spiral) : Canonical (s.onSpiral k f) :=
  h.same rfl rfl rfl

theorem Canonical.queueBack {s : State} (h : Canonical s) (band pri : Nat) (bs : List Host.Cell) :
    Canonical (s.queueBack band pri bs).1 := by
  unfold State.queueBack
  split
  · exact h
  · exact h.same rfl rfl rfl

theorem Canonical.leave {s : State} (h : Canonical s) (p : Partition) (band : Nat) (ts : List Tile) :
    Canonical (s.leave p band ts).1 := by
  unfold State.leave
  exact canonical_foldl (g := Prod.fst) _ (s, []) h fun _ _ hb => hb.queueBack ..

theorem Canonical.touch {s : State} (h : Canonical s) (p : Partition) (band tile handle : Nat) :
    Canonical (s.touch p band tile handle) := by
  have hs : Canonical (s.setSpiral band ((Spiral.of s band).touch tile handle).1) := h.same rfl rfl rfl
  exact hs.leave ..

theorem Canonical.touchWhen {s : State} (h : Canonical s) (b : Bool) (p : Partition) (band tile handle : Nat) :
    Canonical (s.touchWhen b p band tile handle) := h.same rfl rfl rfl

theorem Canonical.touchTarget {s : State} (h : Canonical s) (b : Bool) (t : Target) (handle : Nat) :
    Canonical (s.touchTarget b t handle) := by
  unfold State.touchTarget
  split
  · exact h.touchWhen ..
  · exact h.touchWhen ..
  · exact h

theorem Canonical.writeTime {s : State} (h : Canonical s) (ws : List Nat) (v : Dword) : Canonical (s.writeTime ws v).1 := by
  unfold State.writeTime
  exact canonical_foldl (g := Prod.fst) _ (s, v) h fun _ _ hb => hb.same rfl rfl rfl

theorem Canonical.tick {s : State} (h : Canonical s) (k : Nat) (v : Dword) : Canonical (s.tick k v) := h.same rfl rfl rfl

theorem Canonical.cleanse {s : State} (h : Canonical s) (ws : List Nat) : Canonical (s.cleanse ws) := h.same rfl rfl rfl

theorem Canonical.grant {s : State} (h : Canonical s) (key slice core : Nat) (ws : List Nat) (v : Dword) :
    Canonical (s.grant key slice core ws v).1 := by
  unfold State.grant
  exact canonical_foldl (g := Prod.fst) _ (s, v) h fun _ _ hb => hb.same rfl rfl rfl

theorem Canonical.obtain {s : State} (h : Canonical s) (core : Nat) (ws : List Nat) : Canonical (s.obtain core ws) := by
  unfold State.obtain
  refine canonical_foldl (g := id) _ s h fun b a hb => ?_
  dsimp only [id]
  split
  · exact hb
  · exact hb.same rfl rfl rfl

theorem Canonical.giveBack {s : State} (h : Canonical s) (w : Nat) : Canonical (s.giveBack w) := by
  unfold State.giveBack
  dsimp only
  split
  · split <;> exact h.same rfl rfl rfl
  · exact h.same rfl rfl rfl

theorem Canonical.recall {s : State} (h : Canonical s) (core : Nat) (ws : List Nat) : Canonical (s.recall core ws) := by
  unfold State.recall
  refine canonical_foldl (g := id) _ s h fun b a hb => ?_
  dsimp only [id]
  split
  · split
    · exact hb
    · exact hb.giveBack a
  · exact hb

theorem Canonical.recallAll {s : State} (h : Canonical s) (ws : List Nat) : Canonical (s.recallAll ws) :=
  canonical_foldl (g := id) _ s h fun _ a hb => hb.giveBack a.1

theorem Canonical.sendHome {s : State} (h : Canonical s) (mine : Nat → Bool) : Canonical (s.sendHome mine) :=
  canonical_foldl (g := id) _ s h fun _ a hb => hb.giveBack a.1

theorem Canonical.own {s : State} (h : Canonical s) (core id : Nat) (ws : List Nat) : Canonical (s.own core id ws) := by
  unfold State.own
  exact canonical_foldl (g := fun s => s) _ _ (h.same rfl rfl rfl) fun _ _ hb => hb.same rfl rfl rfl

theorem Canonical.refresh {s : State} (h : Canonical s) (key core : Nat) (ws : List Nat) :
    Canonical (s.refresh key core ws) := by
  unfold State.refresh
  refine canonical_foldl (g := id) _ s h fun b a hb => ?_
  dsimp only [id]
  split
  · exact hb.same rfl rfl rfl
  · exact hb

theorem Canonical.smapDone {s : State} (h : Canonical s) (p : Partition) (cluster n : Nat) :
    Canonical (s.smapDone p cluster n) := by
  unfold State.smapDone
  extract_lets e k len dest mine word s1 mem poison moved dead clocks
  have h1 : Canonical s1 := canonical_foldl (g := id) _ s h fun _ a hb => hb.giveBack a.1
  exact ⟨wf_foldl _ _ (wf_filter _ h1.mem) fun _ c hm => wf_wput _ c.2 hm, h1.spad, h1.staging⟩

/-! ## Loads and stores -/

theorem Canonical.putSealed {s : State} (h : Canonical s) (key a : Nat) (bs : List Byte) :
    Canonical (s.putSealed key a bs) := by
  exact (h.putBytes false a bs).same rfl rfl rfl

theorem Canonical.putHome {s : State} (h : Canonical s) (t : Target) (bs : List Byte) : Canonical (s.putHome t bs) := by
  unfold State.putHome
  split
  · dsimp only
    split
    · exact (h.putBytes ..).onSpiral _ _
    · exact h.putBytes ..
  · exact h.putBytes ..
  · exact h.putSealed ..
  · exact h.putPad ..
  · exact h.same rfl rfl rfl
  · exact h

theorem Canonical.writeKeep {s : State} (h : Canonical s) (keep : Nat) (v : Dword) (t : Target) (bs : List Byte) :
    Canonical (s.writeKeep keep v t bs).1 := by
  unfold State.writeKeep
  dsimp only
  have hw := (((h.recallAll (t.words bs.length)).writeTime (t.words bs.length) v).tick t.slice
    ((s.recallAll (t.words bs.length)).writeTime (t.words bs.length) v).2)
  have hp : Canonical ((((s.recallAll (t.words bs.length)).writeTime (t.words bs.length) v).1.tick t.slice
    ((s.recallAll (t.words bs.length)).writeTime (t.words bs.length) v).2).probe keep (t.words bs.length)) := hw.same rfl rfl rfl
  have hq := hp.putHome t bs
  split
  · exact hq
  · exact hq
  · exact hq
  · exact hq
  · exact hq
  · exact h

theorem Canonical.writeHome {s : State} (h : Canonical s) (v : Dword) (t : Target) (bs : List Byte) :
    Canonical (s.writeHome v t bs).1 := h.writeKeep ..

theorem Canonical.readHome {s : State} (h : Canonical s) (v : Dword) (t : Target) (n : Nat) :
    Canonical (s.readHome v t n).1 := h.recallAll _

theorem Canonical.load {s : State} (h : Canonical s) (core rq : Nat) (acq : Bool) (after : Nat) (v : Dword) (t : Target)
    (n : Nat) : Canonical (s.load core rq acq after v t n).1 := by
  unfold State.load
  dsimp only
  split
  · exact (h.readHome ..).touchTarget ..
  · split
    · exact h
    · split
      · exact ((h.recall ..).touchTarget ..).obtain ..
      · split
        · exact h.same rfl rfl rfl
        · split
          · exact (((h.recallAll _).touchTarget ..).grant ..).same rfl rfl rfl
          · exact (h.recallAll _).same rfl rfl rfl

theorem Canonical.store {s : State} (h : Canonical s) (core id rq : Nat) (v : Dword) (t : Target) (bs : List Byte) :
    Canonical (s.store core id rq v t bs).1 := by
  unfold State.store
  dsimp only
  split
  · have h1 : ∀ b ws us, Canonical ((((((s.recall core ws).touchTarget b t 0).writeTime ws v).1.tick t.slice
        (((s.recall core ws).touchTarget b t 0).writeTime ws v).2).cleanse us).own core id ws) :=
      fun b ws us => ((((h.recall core ws).touchTarget b t 0).writeTime ws v).tick ..).cleanse us |>.own ..
    split
    · dsimp only
      split
      · exact (h1 _ _ _).putBytes ..
      · exact ((h1 _ _ _).putBytes ..).onSpiral _ _
    · exact (h1 _ _ _).putSealed ..
    · exact (h1 _ _ _).putPad ..
    · exact h1 _ _ _
  · dsimp only
    split
    · exact (h.touchTarget ..).writeKeep ..
    · exact ((h.touchTarget ..).writeKeep ..).refresh ..

/-- Placing an instruction keeps the form. -/
theorem Canonical.withFetchWord {s : State} (h : Canonical s) (nbits w : Nat) : Canonical (s.withFetchWord nbits w) :=
  ⟨wf_memPut _ _ (wf_memPut _ _ (wf_memPut _ _ (wf_memPut _ _ h.mem))), h.spad, h.staging⟩

/-! ## Translation -/

theorem andThen_ok {α β : Type} {x : Answer α} {f : α → Answer β} {b : β} (e : x.andThen f = .ok b) :
    ∃ a, x = .ok a ∧ f a = .ok b := by
  cases x with
  | ok a => exact ⟨a, rfl, e⟩
  | trap t => cases e
  | wait w => cases e

@[simp] theorem State.fill_mem (s : State) (c : Cached) : (s.fill c).mem = s.mem := by unfold State.fill; split <;> rfl
@[simp] theorem State.fill_spad (s : State) (c : Cached) : (s.fill c).spad = s.spad := by unfold State.fill; split <;> rfl
@[simp] theorem State.fill_staging (s : State) (c : Cached) : (s.fill c).staging = s.staging := by
  unfold State.fill; split <;> rfl

theorem Canonical.markLeaf {s t : State} (h : Canonical s) {va : Dword} {c : Cached} {l : Leaf} {d : Nat}
    (e : s.markLeaf va c l d = .ok t) : Canonical t := by
  unfold State.markLeaf at e
  generalize (if c.entry ||| 64 ||| d = c.entry then 0 else 64 ||| d) = b at e
  dsimp only at e
  split at e
  · cases e
    exact h
  · split at e
    · cases e
    · cases e
    · cases e
      exact h.writeHome _ _ _

theorem Canonical.ask {s : State} (h : Canonical s) (l : List Sent) : Canonical (s.ask l) := by
  unfold State.ask
  split
  · exact h
  · exact h.same rfl rfl rfl

theorem Canonical.through {s : State} (h : Canonical s) {core : Nat} {sup : Bool} {need : Need} {va : Dword} {c : Cached}
    {l : Leaf} {r : State × Site} (e : s.through core sup need va c l = .ok r) : Canonical r.1 := by
  unfold State.through at e
  split at e
  · cases e
  · obtain ⟨t, e1, e⟩ := andThen_ok e
    cases e
    exact (((h.recallAll _).ask _).markLeaf e1).same (State.fill_mem _ _) (State.fill_spad _ _) (State.fill_staging _ _)

/-- Whichever translation serves it, an address is translated by a walk's leaf or by one that a TLB holds. -/
theorem Canonical.translate {s : State} (h : Canonical s) {p : Partition} {core : Nat} {sup : Bool} {need : Need}
    {va : Dword} {r : State × Site} (e : s.translate p core sup need va = .ok r) : Canonical r.1 := by
  unfold State.translate at e
  split at e
  · cases e
  · dsimp only at e
    split at e
    · obtain ⟨l, -, e⟩ := andThen_ok e
      exact h.through e
    · split at e
      · obtain ⟨q, e1, e2⟩ := andThen_ok e
        cases e2
        exact (h.through e1).same rfl rfl rfl
      · obtain ⟨q, e1, e2⟩ := andThen_ok e
        cases e2
        obtain ⟨l, -, e3⟩ := andThen_ok e1
        exact (h.through e3).same rfl rfl rfl

/-! ## Lattice pages -/

/-- What an address of a partition reaches is never a lattice cell: cells come from the page alone (R123). -/
theorem reach_cells {s : State} {p pp : Partition} {core pa b a lt : Nat} (h : s.reach p core pa = .cells pp b a lt) : False := by
  simp only [State.reach, State.hostTarget] at h
  repeat' split at h
  all_goals exact Target.noConfusion h
theorem reachPackage_cells {s : State} {p : Partition} {core n b a lt : Nat} (h : s.reachPackage core n = .cells p b a lt) : False := by
  simp only [State.reachPackage, State.hostTarget] at h
  repeat' split at h
  all_goals first | exact Target.noConfusion h | exact reach_cells h

theorem settlePage_cells {s : State} {p pp : Partition} {core : Nat} {q : Site} {pa a lt : Nat}
    (h : (s.settlePage p core q).2 = .cells pp pa a lt) : q.lat.isSome = true := by
  simp only [State.settlePage] at h
  repeat' split at h
  all_goals first | exact (reach_cells h).elim | simp_all

/-- An access reaches a lattice cell only through a page whose leaf has LAT set (R123). -/
theorem site_cells {s s1 : State} {w : Who} {va : Dword} {n : Nat} {need : Need} {q : Site} {p : Partition} {pa a lt : Nat}
    (h : s.site w va n need = .ok (s1, q, .cells p pa a lt)) : q.lat.isSome = true := by
  unfold State.site at h
  split at h
  · split at h
    · simp at h
    · simp only [Answer.ok.injEq, Prod.mk.injEq] at h
      exact (reachPackage_cells h.2.2).elim
  · split at h
    · simp at h
    · split at h
      · simp at h
      · split at h
        · simp at h
        · obtain ⟨r, -, h⟩ := andThen_ok h
          simp only [Answer.ok.injEq, Prod.mk.injEq] at h
          exact h.2.1 ▸ settlePage_cells h.2.2

theorem memBytes_map (m : Memory) (a n : Nat) : memBytes m a n = (List.range n).map fun i => wget m (a + i) := by
  induction n generalizing a with
  | zero => rfl
  | succ n ih => simp [memBytes, ih, List.range_succ_eq_map, Nat.add_assoc, Nat.add_comm 1]

/-- Where nothing stands under another key, a holder reads memory as it is (R390). -/
theorem plainBytes_plain {s : State} (key a n : Nat) (h : ∀ b, s.standsUnder b = none ∨ s.standsUnder b = some key) :
    s.plainBytes key a n = memBytes s.mem a n := by
  unfold State.plainBytes
  split
  · rfl
  · rw [memBytes_map]
    refine List.map_congr_left fun i _ => ?_
    rcases h (a + i) with e | e <;> simp [e]

/-- A byte that has been written under a key of its own stands under that one, whatever its band does (R390). -/
theorem standsUnder_listed {s : State} {a k : Nat} (h : tfind s.ciphered a = some k) : s.standsUnder a = some k := by
  simp [State.standsUnder, h]

/-- A leaf in which A, and D for a write, stand already is not written (R346). -/
theorem markLeaf_marked {s : State} {va : Dword} {c : Cached} {l : Leaf} {d : Nat} (h : l.entry ||| (64 ||| d) = l.entry) :
    s.markLeaf va c l d = .ok s := by
  unfold State.markLeaf
  split <;> simp_all

theorem Canonical.sendPart {s : State} (h : Canonical s) (p : Partition) : Canonical (s.sendPart p) :=
  canonical_foldl (g := id) _ s h fun _ x hx => hx.giveBack x.1

/-- The end of TINVC sends words home and drops translations, and no more (R348, R393). -/
theorem Canonical.invalidate {s : State} (h : Canonical s) (part : Nat) : Canonical (s.invalidate part) := by
  unfold State.invalidate
  split
  · exact h
  · rename_i p _
    refine Canonical.same (s := if p.tinvDue.isEmpty then s else s.sendPart p) ?_ rfl rfl rfl
    split
    · exact h
    · exact h.sendPart p

end Sys2Proof.Machine
end

