-- ==== Sys2Proof/Laws/Turns.lean ====
section
/-! SUPPORT. What traps, engine forms, jumps and the accesses thread by thread come to. -/
namespace Sys2Proof.Machine

variable {s : State} {c : Cur} {w : Warp}

theorem ctx_plain (h : c.held = none) : s.ctx c w = s.plain c w := by
  simp [State.ctx, State.plain, Cur.sees, h]

theorem clear_and {u v : Uses} (h1 : Clear c w u) (h2 : Clear c w v) : Clear c w (u.and v) := by
  obtain ⟨a1, a2, a3, a4, a5⟩ := h1
  obtain ⟨b1, b2, b3, b4, b5⟩ := h2
  have key : ∀ n ∈ (u.and v).s, wget w.seals n = 0 := by
    intro n hn
    rcases List.mem_append.1 hn with h | h
    · exact a5 n h
    · exact b5 n h
  refine ⟨?_, ?_, ?_, a4, key⟩ <;>
    simp only [Uses.and, Uses.declared, Uses.pendingRead, Uses.pendingWrite, List.all_append, Bool.and_eq_true,
      List.find?_append] at * <;> simp [a1, a2, a3, b1, b2, b3]

theorem clear_none {u : Uses} (h : Clear c w u) : Clear c w Uses.none := ⟨rfl, rfl, rfl, h.2.2.2.1, by simp [Uses.none]⟩

/-! ## Traps and forms of the warp -/

theorem onWarp_issuing {f : Warp → Warp} (hi : Issuing s c w) : s.onWarp c.warp f = s.setWarp c.warp (f w) := by
  unfold State.onWarp; rw [hi.2]

theorem advance_issuing {m : Word} (hi : Issuing s c w) :
    s.advance c m = s.setWarp c.warp (w.onThreads m fun th => { th with pc := c.next, held := none }) := onWarp_issuing hi

/-- Threads that trap alike are one group. -/
theorem groupTraps_same (l : List Nat) (t : Trap) (a : Nat) :
    groupTraps ((a :: l).map fun i => (i, t)) = [((a :: l).foldr (fun i m => setBit m i true) 0, t)] := by
  induction l generalizing a with
  | nil => simp [groupTraps]
  | cons b r ih =>
    rw [List.map_cons, groupTraps, ih b]
    simp

theorem foldr_threadsOf (m : Word) : (threadsOf m).foldr (fun i m => setBit m i true) 0 = m := by
  apply BitVec.eq_of_getLsbD_eq
  intro k hk
  have key : ∀ l : List Nat, (∀ x ∈ l, x < 32) →
      (l.foldr (fun i (m : Word) => setBit m i true) 0).getLsbD k = decide (k ∈ l) := by
    intro l
    induction l with
    | nil => simp
    | cons a r ih =>
      intro hx
      have h1 := ih fun x h => hx x (by simp [h])
      simp only [setBit, if_true] at h1
      have h2 : (BitVec.ofNat 32 (2 ^ a)).getLsbD k = decide (k = a) := by
        rw [BitVec.getLsbD_ofNat, Nat.testBit_two_pow]; simp [hk, eq_comm]
      simp only [List.foldr_cons, setBit, if_true, BitVec.getLsbD_or]
      rw [h1, h2]
      by_cases h : k = a <;> simp [h]
  rw [key _ fun x hx => (mem_threadsOf.1 hx).1]
  simp [threadsOf, inMask, hk]

/-- One trap for the threads of a mask that is not empty is raised once. -/
theorem raiseAll_once {m : Word} {t : Trap} {i : Nat} (h : lowestOf m = some i) : s.raiseAll c m t = s.raiseOne c m t := by
  unfold State.raiseAll State.raise
  unfold lowestOf at h
  cases hl : threadsOf m with
  | nil => simp [hl] at h
  | cons a l => rw [groupTraps_same, ← hl, foldr_threadsOf]; rfl

/-- A form of a crew whose checks pass. -/
theorem engineOp_done {u : Uses} {sw : Bool} {f : State → Cur → Warp → Crew → Answer Act} {k : Crew} {t : State}
    (hi : Issuing s c w) (hk : s.crewOf w = some k) (hc : Clear c w u) (h : f (s.switchIf sw) c w k = .ok (.done t)) :
    engineOp s u sw f = .next (t.advance c c.group) := by
  refine unitOp_done hi hc ?_
  have hk' : (s.switchIf sw).crewOf w = some k := by rw [← hk]; rfl
  simp only [hk', h]

/-- A command is submitted when a task-table entry is free. -/
theorem submit_done {tk : Option Nat} {batched acq rel : Bool} {cmd : Command}
    (h : (s.core (s.coreOf w)).freeEntries ≠ []) : ∃ t, s.submit c w tk batched acq rel cmd = .done t := by
  unfold State.submit
  dsimp only
  rw [if_neg (by simpa using h)]
  exact ⟨_, rfl⟩

/-! ## Turns -/

/-- A turn that succeeds is done. -/
theorem turn_act {α : Type} {x : Answer α} {after : α → State} {f : α → Thread → Thread} {n : Nat} {s t : State}
    (h : turn c n x after f = some t) : x.act s (fun r => (after r).wrote c n (f r)) = .done t := by
  cases x with
  | ok a => simp only [turn, Answer.result, Option.map_some, Option.some.injEq] at h; simp only [Answer.act, h]
  | trap a => simp [turn, Answer.result] at h
  | wait a => simp [turn, Answer.result] at h

theorem jump_done {a : BitVec 7} {link : Option (BitVec 6)} (hi : Issuing s c w) (hc : Clear c w (linkUses a link))
    (hh : c.held = none) (ho : ∀ t < 32, inMask c.taking t = true → (s.val64 c w false t a).getLsbD 0 = false) :
    jump s a link = .next (s.switched.setWarp c.warp (w.mapThreads fun t th =>
      if inMask c.taking t then { th.linked link c.next with pc := s.val64 c w false t a }
      else if inMask c.group t then { th with pc := c.next } else th)) := by
  unfold jump
  rw [onIssue_issuing hi, gated_clear hc, switchIf_false, ctx_plain hh]
  have hv : ∀ t, ((s.plain c w).src64 false t (w.thread t) a).getD 0 = s.val64 c w false t a := fun t => rfl
  simp only [hv]
  have hn : (threadsOf c.taking).filter (fun t => (s.val64 c w false t a).getLsbD 0) = [] := by
    rw [List.filter_eq_nil_iff]; intro t ht; obtain ⟨h1, h2⟩ := mem_threadsOf.1 ht; rw [ho t h1 h2]; simp
  have ha : ((threadsOf c.taking).any fun t => !(s.val64 c w false t a).getLsbD 0) = true := by
    obtain ⟨t, _, ht⟩ := lowest_taking hc.2.2.2.1
    obtain ⟨h1, h2⟩ := mem_threadsOf.1 ht
    exact List.any_eq_true.2 ⟨t, ht, by rw [ho t h1 h2]; rfl⟩
  rw [hn, ha]
  simp only [List.map_nil, List.isEmpty_nil, if_true, switchIf_true]
  have hm : w.mapThreads (fun t th => if inMask c.taking t then (if (s.val64 c w false t a).getLsbD 0 then th else
      { th.linked link c.next with pc := s.val64 c w false t a })
      else if inMask c.group t then { th with pc := c.next } else th) = w.mapThreads (fun t th =>
      if inMask c.taking t then { th.linked link c.next with pc := s.val64 c w false t a }
      else if inMask c.group t then { th with pc := c.next } else th) := by
    refine mapThreads_congr fun t ht => ?_
    split
    · next hm => rw [if_neg (by rw [ho t ht hm]; simp)]
    · rfl
  refine Eq.trans ?_ (congrArg (fun x => Host.Outcome.next (s.switched.setWarp c.warp x)) hm)
  rfl

/-! ## Memory -/

theorem load_done {rq : Nat} {k : Kind} {o : BitVec 5} {a : BitVec 7} {d : BitVec 6} {n : Nat} {off : Dword} {t : State}
    (hi : Issuing s c w) (hc : Clear c w ((useSrc a 2).and (useV d.toNat (groupSize n))))
    (h : turns c (loadTurn c rq k o a d n off) (threadsOf c.taking) (s.switched.passed c) = some t) :
    loadOp s rq k o a d n off = .next t := by
  refine eachOp_done (g := loadTurn c rq k o a d n off) hi hc ?_ (by rwa [switchIf_true])
  intro s w t t' h
  exact turn_act h

theorem store_done {rq : Nat} {k : Kind} {o : BitVec 5} {a : BitVec 7} {d : BitVec 6} {n : Nat} {off : Dword} {t : State}
    (hi : Issuing s c w) (hc : Clear c w ((useSrc a 2).and (useV d.toNat (groupSize n))))
    (h : turns c (storeTurn c rq k o a d n off) (threadsOf c.taking) (s.passed c) = some t) :
    storeOp s rq k o a d n off = .next t := by
  refine eachOp_done (g := storeTurn c rq k o a d n off) hi hc ?_ (by rwa [switchIf_false])
  intro s w t t' h
  exact turn_act h

theorem atomic_done {o : BitVec 5} {q : BitVec 3} {a : BitVec 7} {d : BitVec 6} {n k : Nat} {f : Thread → Dword → Option Dword} {t : State}
    (hi : Issuing s c w) (hc : Clear c w ((useSrc a 2).and (useV d.toNat k)))
    (h : turns c (atomicTurn c o q a d n f) (threadsOf c.taking) (s.switched.passed c) = some t) :
    atomicOp s o q a d n k f = .next t := by
  refine eachOp_done (g := atomicTurn c o q a d n f) hi hc ?_ (by rwa [switchIf_true])
  intro s w t t' h
  exact turn_act h

theorem padLoad_done {b a : BitVec 7} {d : BitVec 6} {n : Nat} {t : State} (hi : Issuing s c w)
    (hc : Clear c w (uses2 b a d 1 (groupSize n)))
    (h : turns c (padLoadTurn c b a d n) (threadsOf c.taking) (s.switched.passed c) = some t) :
    padLoadOp s b a d n = .next t := by
  refine eachOp_done (g := padLoadTurn c b a d n) hi hc ?_ (by rwa [switchIf_true])
  intro s w t t' h
  simp only [padLoadTurn, Option.bind_eq_some_iff] at h
  obtain ⟨x, hx, y, hy, k, hk, h⟩ := h
  simp only [hx, hy, hk]
  exact turn_act h

theorem padStore_done {b a : BitVec 7} {d : BitVec 6} {n : Nat} {t : State} (hi : Issuing s c w)
    (hc : Clear c w (uses2 b a d 1 (groupSize n)))
    (h : turns c (padStoreTurn c b a d n) (threadsOf c.taking) (s.passed c) = some t) :
    padStoreOp s b a d n = .next t := by
  refine eachOp_done (g := padStoreTurn c b a d n) hi hc ?_ (by rwa [switchIf_false])
  intro s w t t' h
  simp only [padStoreTurn, Option.bind_eq_some_iff] at h
  obtain ⟨x, hx, y, hy, k, hk, h⟩ := h
  simp only [hx, hy, hk]
  exact turn_act h

theorem tile_done {u : Uses} {a : BitVec 7} {nw : BitVec 1} {d : BitVec 6} {h : Option (BitVec 7)}
    {f : State → Warp → TileSite → Option Word → State × Word} {g : State → Warp → TileSite → Nat → State × Word} {t : State}
    (hi : Issuing s c w) (hc : Clear c w (u.and ((useSrc a 2).and (useV d.toNat 1))))
    (hg : ∀ s w r x, f s w r x = g s w r (x.getD 0).toNat)
    (ht : turns c (tileTurn c a nw d h g) (threadsOf c.taking) (s.passed c) = some t) :
    tileOp s u a nw d f h = .next t := by
  refine eachOp_done (g := tileTurn c a nw d h g) hi hc ?_ (by rwa [switchIf_false])
  intro s w t t' h1
  simp only [tileTurn] at h1
  cases h with
  | none =>
    simp only [Option.map_none, Option.bind_some, Option.getD_none] at h1 ⊢
    revert h1
    generalize State.tileSite _ _ _ = x
    cases x <;> simp [Answer.result, Answer.act]
    simp [hg]
  | some b =>
    simp only [Option.map_some] at h1 ⊢
    revert h1
    generalize hy : (s.ctxOf c w t).src t (w.reader t) b = y
    cases y with
    | none => simp
    | some y =>
      simp only [Option.bind_some, Option.getD_some]
      generalize State.tileSite _ _ _ = x
      cases x <;> simp [Answer.result, Answer.act]
      simp [hg]

theorem range_done {b a : BitVec 7} {f : State → Who → Dword → Nat → State × List Nat × Option (Trap ⊕ Wait)} {t : State}
    (hi : Issuing s c w) (hc : Clear c w ((useSrc a 2).and (useSrc b 1)))
    (ht : (threadsOf c.taking).foldlM (rangeTurn c w b a f) (s.passed c) = some t) :
    rangeOp s b a f = .next t := by
  have key : ∀ (l : List Nat) (s1 : State),
      l.foldlM (rangeTurn c w b a f) s1 = some t →
      l.foldl (rangeThread c w b a f) (s1, []) = (t, []) := by
    intro l
    induction l with
    | nil => intro s1 h; simp at h; simp [h]
    | cons k r ih =>
      intro s1 h
      simp only [List.foldlM_cons] at h
      obtain ⟨s2, h1, h2⟩ := Option.bind_eq_some_iff.1 h
      simp only [List.foldl_cons]
      rw [← ih s2 h2]
      congr 1
      simp only [rangeTurn, Option.bind_eq_some_iff] at h1
      obtain ⟨n, hn, h1⟩ := h1
      simp only [rangeThread, hn]
      split at h1
      · next h0 => rw [if_pos h0, Option.some.inj h1]
      · next h0 =>
        rw [if_neg h0]
        split at h1
        · next hcn =>
          rw [if_neg (by intro h; simp [State.whoIs] at h; simp [h] at hcn)]
          revert h1
          generalize f s1 (s1.whoIs c w k) (s1.addressOf c w k a) n.toNat = q
          obtain ⟨q1, q2, q3⟩ := q
          cases q3 with
          | none => simp
          | some _ => simp
        · simp at h1
  unfold rangeOp
  rw [onIssue_issuing hi, gated_clear hc, switchIf_false]
  have := key _ _ ht
  simp only [State.passed] at this
  simp only [this, List.isEmpty_nil, if_true]

end Sys2Proof.Machine
end

