-- ==== Sys2Proof/Tests/Fixture.lean ====
section
/-! SUPPORT. A small state for tests: one warp of the placed boot gang, in supervisor mode, with an issue of four threads of
which two take part. -/
namespace Sys2Proof.Tests
open Sys2Proof Sys2Proof.Machine

/-- Every thread: v1 = 7, v2 = 3, v4 = 1.0, v5 = −2.0, valid latches. -/
def thread : Thread :=
  { Thread.init 0x10000 true with
    v := [(1, 7), (2, 3), (4, 0x3F800000), (5, 0xC0000000)], l0 := some 11, l1 := some 12, l2 := some 13, l3 := some 14 }

/-- The warp: s0:s1 = 0x20000, a mapped address; s4 = 5, s5 = 64, s6 = 128, s11 = 1. -/
def warp : Warp :=
  { Warp.start 0 0 0 0 64 32 0x10000 0 0 true with
    s := [(0, 0x20000), (4, 5), (5, 64), (6, 128), (11, 1)], threads := List.replicate 32 thread }

/-- Threads 0 to 3 are the group; threads 0 and 1 take part. -/
def cur : Cur :=
  { warp := 0, group := 0xF, taking := 0x3, pc := 0x10000, next := 0x10004, word := 0x29, clk := 9, held := none }

/-- The state: the crew has 8 KiB of scratchpad. -/
def fix : State :=
  let s := State.reset.placeWord 32 0x29
  { s with cur := some cur, warps := [(0, warp)], crews := [(0, { Crew.placed with size := 8192 })], agenda := [] }

/-- The fixture with other threads. -/
def withThreads (f : Thread → Thread) : Warp := { warp with threads := List.replicate 32 (f thread) }
def fixWith (w : Warp) : State := { fix with warps := [(0, w)] }

/-- The fixture with every page a lattice page of type 0 (R123), in partition and crew as before. -/
def latFix : State := { fix with mem := memPut fix.mem 0x3000 (natBytes 8 (0xFD + 2 ^ 52)) }
/-- The fixture with another core 0, and with another partition. -/
def withCore (k : Core) : State := { fix with cores := [(0, k)] }
def withPart (p : Partition) : State := { fix with parts := [(0, p)] }

/-- Valid descriptors: one row of one FP16 element, of rank 1 and of rank 3, based at 0x20000. -/
def desc1 : Desc := [0x20000, 0, 0x101, 0x1010000, 64, 0, 0, 0, 0, 0, 0, 0, 0, 0, 0, 0]
def desc3 : Desc := [0x20000, 0, 0x301, 0x1010000, 64, 1, 1, 0, 0, 0, 0, 0, 0, 0, 0, 0]
/-- The crew with descriptors td0, td62 and td63, and a core whose buffers 0 and 15 are full. -/
def crew : Crew := { Crew.placed with size := 8192, td := [(0, desc3), (62, desc1), (63, desc1)] }
def core : Core :=
  { Core.init with bufs := [(0, { Buf.init with full := true, fmt := 1, use := 2 }), (15, { Buf.init with full := true, fmt := 1, use := 1 })] }
def engFix : State := { fix with crews := [(0, crew)], cores := [(0, core)] }

/-- A submitted hold of buffer 0. -/
def task : Task :=
  { cmd := .hold 0 1, order := 0, started := false, warp := 0, crew := 0, launch := 0, batch := none, acq := false,
    rel := false, seqRecord := none, genTime := none, inst := none, cancelled := false, sup := true, stamp := 0,
    refused := false, quar := [], seen := [], stalled := none }

/-- The state after one instruction, and a register of a thread in it. -/
def after (i : Instr) (s : State) : Option State := match exec i s with | .next t => some t | _ => none
def vAfter (i : Instr) (s : State) (t n : Nat) : Option Word :=
  ((after i s).bind fun s => s.warp 0).map fun w => (w.thread t).vreg n
def sAfter (i : Instr) (s : State) (n : Nat) : Option Word := ((after i s).bind fun s => s.warp 0).map fun w => w.sreg n
def pAfter (i : Instr) (s : State) (t k : Nat) : Option Bool :=
  ((after i s).bind fun s => s.warp 0).map fun w => (w.thread t).pred k
def pcAfter (i : Instr) (s : State) (t : Nat) : Option Dword := ((after i s).bind fun s => s.warp 0).map fun w => (w.thread t).pc

/-- Who accesses in the statements about one access; and the kind and the package address of the target of an access, with
whether its line is lost, or its replica. -/
def who : Who := { core := 0, sup := true, view := 0 }
def reached (s : State) (va : Dword) (n : Nat) (need : Need) : Option (Nat × Nat × Bool) :=
  (s.site who va n need).result.map fun r => match r.2.2 with
    | .dram _ _ a => (0, a, r.1.deadHome r.2.2)
    | .cells p _ a _ => (1, a, r.1.repDead p a who.stack)
    | _ => (2, 0, false)

end Sys2Proof.Tests
end

