-- ==== Sys2Proof/Tests/EventWitnesses.lean ====
section
/-! SUPPORT. Witnesses for the statements on system instructions, events, accesses, frames and steps. -/
namespace Sys2Proof.Tests
open Sys2Proof Sys2Proof.Machine
set_option Elab.async false

/-! ## System instructions -/

/-- CSRs 0x001, 0x020 in a pre-emption handler, guarded ones in supervisor mode, a read-only one, and the boundary values
of the reserved fields. -/
theorem witness_CsrResults :
    let w := withThreads fun th => { th with handler := .preempt }
    let s := fixWith w
    let x := { warp with s := [(4, 256)] }
    let t := fixWith x
    Issuing fix cur warp ∧ Clear cur warp (useD 31 1) ∧ Clear cur warp (useUni 0x44 1) ∧ Privileged cur warp ∧
    fix.partOfCore (fix.coreOf warp) = some (0, Partition.placed) ∧ fix.part 0 = some Partition.placed ∧
    (csrNumber 0 1 = 1 ∧ csrReserved 1 5 = false ∧ csrReadOnly 1 = false ∧ csrGuarded 1 = false ∧
      (fix.csrWrite cur.warp warp (fix.coreOf warp) 1 5).isSome = true) ∧
    (Issuing s cur w ∧ csrNumber 0 32 = 0x020 ∧ Saving cur w ∧ csrReserved 0x020 5 = false ∧ csrReadOnly 0x020 = false ∧
      (s.csrWrite cur.warp w (s.coreOf w) 0x020 5).isSome = true) ∧
    (csrNumber 0 8 = 0x008 ∧ csrReadOnly 0x008 = true ∧ csrGuarded 0x008 = true) ∧
    (csrNumber 15 64 = 0x7C0 ∧ csrHidden 0x7C0 = true ∧ csrNumber 15 95 = 0x7DF ∧ csrHidden 0x7DF = true) ∧
    Issuing t cur x ∧ Clear cur x (useUni 0x44 1) ∧ csrNumber 15 104 = 0x7E8 ∧
      csrReserved 0x7E8 (t.uarg cur x 0x44) = false ∧ (t.csrWrite cur.warp x (t.coreOf x) 0x7E8 256).isSome = true ∧
    (let e : Smap := { v := true, wb := false, nt := 0, soff := 0, gtn := 64 }
     let m := { fix with smap := [(15, e)] }
     (m.smapOf 0 15).v = true ∧ (m.smapOf 0 0).v = false ∧ csrNumber 15 95 = 0x7C1 + 2 * 15 ∧ Issuing m cur warp ∧
     csrReadOnly 0x7DF = false ∧ csrReserved 0x7DF (m.uarg cur warp 0x44) = false ∧
     (m.csrWrite cur.warp warp (m.coreOf warp) 0x7DF (m.uarg cur warp 0x44)).isNone = true) := by
  simp only [Issuing, Clear, Saving, Privileged]; and_intros <;> decide +kernel

/-- `shdw` from the supervisor core of stack 0 (log 8), for a band of that stack. -/
theorem witness_CsrResults_shdw :
    let s := { fix with crews := [(0, { Crew.placed with core := 2048 })] }
    Issuing s cur warp ∧ Privileged cur warp ∧ csrNumber 15 96 = 0x7E0 ∧
    shdwCore (s.coreOf warp) (0x702 : Word) = true ∧ csrReserved 0x7E0 0x702 = false := by
  simp only [Issuing, Privileged]; and_intros <;> decide +kernel

/-- Requests above REM and within it; the four states of the gate, asked on and off. -/
theorem witness_EnergyResults :
    let p := { Partition.placed with rem := 5 }
    let w := fun (r : Nat) => { warp with s := [(4, BitVec.ofNat 32 r)] }
    let s := fun g r => { withPart p with cores := [(16, { Core.init with gate := g })], warps := [(0, w r)] }
    (∀ g ∈ [Gate.on, .drain, .off, .wake], ∀ r ∈ [0, 5, 6, 0x80000000],
      Issuing (s g r) cur (w r) ∧ (s g r).partOfCore ((s g r).coreOf (w r)) = some (0, p) ∧ (s g r).part 0 = some p) ∧
    Clear cur (w 5) (useD 30 2) ∧ Clear cur (w 5) (uniUses1 0x44 31 1 1) ∧ Privileged cur (w 5) ∧
    (bits 0x80000000 14 17 = 0 ∧ bits 0x80000000 6 2 = 0 ∧ bits 0x80000000 2 2 = 0 ∧ p.holds (bits 0x80000000 8 6) = true) ∧
    ¬ (bits 0x4000 14 17 = 0) := by
  simp only [Issuing, Clear, Privileged]; and_intros <;> decide +kernel

/-- Fifteen entries in the FIFO, and 16; and an upper core that receives the first. -/
theorem witness_RiserResults :
    let f := withCore { Core.init with fifo := List.replicate 16 (0, [], 0) }
    let s := withCore { Core.init with fifo := List.replicate 15 (0, [], 0) }
    let t := { s with crews := [(0, { Crew.placed with core := 16 })] }
    Issuing s cur warp ∧ Clear cur warp (useSrc 63 1) ∧ isUpperCore (s.coreOf warp) = false ∧
    (s.core (upperCore (s.coreOf warp))).gate ≠ .off ∧ (s.core (upperCore (s.coreOf warp))).gate ≠ .wake ∧
    (∀ t < 32, inMask cur.taking t = true → ((s.ctxOf cur warp t).src t (warp.reader t) 63).isSome = true) ∧
    (s.core (s.coreOf warp)).fifo.length < 16 ∧
    (Issuing f cur warp ∧ 16 ≤ (f.core (f.coreOf warp)).fifo.length ∧
      ∀ t < 32, inMask cur.taking t = true → ((f.ctxOf cur warp t).src t (warp.reader t) 63).isSome = true) ∧
    Issuing t cur warp ∧ Clear cur warp (useV 63 1) ∧ isUpperCore (t.coreOf warp) = true ∧
    ((t.core (lowerCore (t.coreOf warp))).fifo.head?.map Prod.fst) = some 0 ∧ (t.launchOf warp).map Prod.fst = some 0 := by
  simp only [Issuing, Clear]; and_intros <;> decide +kernel

/-- The bytes of a header that R310 accepts, and of a record that names one at an address: one gang, no events. -/
def header : List Byte := natBytes 4 0x4B584E46 ++ [64, 32, 1, 0] ++ natBytes 4 0 ++ [1, 0, 0, 0] ++ List.replicate 48 0
def record (hdr : Nat) : List Byte :=
  natBytes 8 hdr ++ natBytes 8 1 ++ List.replicate 16 0 ++ natBytes 4 0xFFFFFFFF ++ natBytes 4 0 ++ natBytes 4 0xFFFFFFFF ++
    List.replicate 20 0

/-- A queue number of 64, a queue that is not enabled, event numbers 4,095 and 4,096, thresholds met and not met. -/
theorem witness_LaunchAndEventResults :
    let x := fun (n t : Nat) => { warp with s := [(0, 0x20000), (4, BitVec.ofNat 32 n), (5, BitVec.ofNat 32 t)] }
    let s := fun n t => { fixWith (x n t) with parts := [(0, { Partition.placed with events := [(4095, 7)] })] }
    Issuing fix cur warp ∧ fix.partOfCore (fix.coreOf warp) = some (0, Partition.placed) ∧
    fix.part 0 = some Partition.placed ∧ Clear cur warp ((useUni 0x40 2).and ((useUni 0x45 1).and (useD 31 1))) ∧
    ((fix.threadLoad { core := fix.coreOf warp, sup := warp.supIn cur.taking, view := warp.viewIn cur.taking } 0
      (fix.uarg64 cur warp 0x40) 64).result.bind fun r =>
        (r.1.offer (fix.coreOf warp) 0 Partition.placed r.2.1 none (fix.uarg cur warp 0x45).toNat r.2.2).result.map Prod.snd) =
      some 2 ∧
    (Partition.placed.queue 63).en = false ∧
    (let q : Queue := { Queue.init with base := 0x40000, en := true, src := true }
     let p := Partition.placed.setQueue 63 q
     let a := { withPart p with mem := memPut fix.mem 0x50000 header }
     (p.queue 63).en = true ∧ (p.queue 63).src = true ∧ (p.queue 63).owned = false ∧ (record 0x50000).length = 64 ∧
     (a.examine 0 (LaunchRec.ofBytes (record 0x50000))).result.map (fun e => (e.2.isSome, decide (e.1.part 0 = some p),
       match e.1.reach p 0 (0x40000 + 64 * (q.tail.toNat % 2 ^ q.logn)) with
       | .dram r x i => (i, e.1.lostTarget (.dram r x i)) | _ => (0, true))) = some (true, true, 0x40000, false) ∧
     (a.examine 0 (LaunchRec.ofBytes (record 0x60000))).result.map (fun e => e.2.isNone) = some true ∧
     (q.tail - q.head).toNat ≠ 2 ^ q.logn ∧ (({ q with tail := 1 } : Queue).tail - q.head).toNat = 2 ^ q.logn) ∧
    Clear cur warp ((useUni 0x44 1).and (useUni 0x45 1)) ∧
    (∀ e ∈ [(4095, 7), (4095, 8), (4096, 0)], Issuing (s e.1 e.2) cur (x e.1 e.2)) ∧
    (((s 4095 7).uarg cur (x 4095 7) 0x44).toNat < 4096 ∧ ((s 4095 7).uarg cur (x 4095 7) 0x45).toNat ≤ 7) ∧
    (7 < ((s 4095 8).uarg cur (x 4095 8) 0x45).toNat) ∧ 4096 ≤ ((s 4096 0).uarg cur (x 4096 0) 0x44).toNat := by
  simp only [Issuing, Clear]; and_intros <;> decide +kernel

theorem witness_BarrierResults :
    let s := fixWith (withThreads fun th => { th with status := .crewBarrier 0x10004 })
    let k := { Crew.placed with size := 8192 }
    Issuing fix cur warp ∧ Clear cur warp Uses.none ∧ fix.crewOf warp = some k ∧ s.crew 0 = some k ∧
    (s.warpsOf k).filter (fun e => e.2.unfinished != 0) ≠ [] ∧
    (∀ e ∈ s.warpsOf k, e.2.unfinished ≠ 0 → e.2.allIn Status.inCrew = true ∧ e.2.wix < 32) ∧
    (let w := fun (st : Status) => withThreads fun th => { th with status := st }
     let t := fixWith (w (.gangBarrier 0x10004))
     t.gang 0 = fix.gang 0 ∧ (fix.gang 0).map (fun g => (g.crews, g.arrived)) = some ([0], 0) ∧ k.cix < 32 ∧ k.state ≠ .finished ∧
     (∀ s ∈ [fix, t], s.crew 0 = some k ∧ (s.warpsOf k).any fun e => e.2.unfinished != 0) ∧
     (t.crewHere k = true ∧ ∀ e ∈ t.warpsOf k, e.2.allIn Status.inGang = true) ∧
     (∃ e ∈ fix.warpsOf k, e.2.unfinished ≠ 0 ∧ e.2.allIn Status.inGang = false) ∧
     0 ∈ k.warps ∧ t.warp 0 = some (w (.gangBarrier 0x10004)) ∧ s.warp 0 = some (w (.crewBarrier 0x10004)) ∧
     Status.inGang (warp.thread 31).status = false) := by
  simp only [Issuing, Clear]; and_intros <;> decide +kernel

/-- Two stages with a queue of four-byte entries: stage 0 adds, stage 1 takes, also from an empty closed queue. -/
theorem witness_StageQueueResults :
    let st := fun n => ({ header := Launch.placed.header, size := 4, capacity := 2, mark := 1,
                          entries := List.replicate n ([1, 2, 3, 4], 0) } : Stage)
    let s := fun n k d => { fix with
      launches := [(0, { Launch.placed with stages := [st n, st 0], next := 1 })],
      gangs := [(0, { launch := 0, index := 0, band := 0, stage := k, crews := [0], arrived := 0, state := .running }),
                (1, { launch := 0, index := 0, band := 0, stage := 0, crews := [], arrived := 0, state := d })] }
    (∀ n ∈ [0, 2], Issuing (s n 0 .running) cur warp ∧ Issuing (s n 1 .finished) cur warp) ∧
    Clear cur warp ((useSrc 0x40 2).and (useSrc 0x64 1)) ∧
    (turns cur (enqTurn cur 0x64 0x40) (threadsOf cur.taking) ((s 0 0 .running).switched.passed cur)).isSome = true ∧
    (turns cur (deqTurn cur 0x64 0x40 7) (threadsOf cur.taking) ((s 2 1 .running).switched.passed cur)).isSome = true ∧
    (turns cur (deqTurn cur 0x64 0x40 0) (threadsOf cur.taking) ((s 0 1 .finished).switched.passed cur)).isSome = true ∧
    -- The first thread has its turn, and the second waits; and the first waits.
    (let l := threadsOf cur.taking
     let next := fun (f : State → Warp → Nat → Bool) (done : List Nat) (t : State) => (t.warp 0).map fun w => f t w (l.getD done.length 0)
     let q := enqWaits cur 0x64 0x40
     let d := deqWaits cur 0x64 0x40
     let start := fun (s : State) => s.switched.passed cur
     ((turns cur (enqTurn cur 0x64 0x40) (l.take 1) (start (s 1 0 .running))).bind (next q (l.take 1))) = some true ∧
     next q [] (start (s 2 0 .running)) = some true ∧
     ((turns cur (deqTurn cur 0x64 0x40 7) (l.take 1) (start (s 1 1 .running))).bind (next d (l.take 1))) = some true ∧
     next d [] (start (s 0 1 .running)) = some true) := by
  simp only [Issuing, Clear]; and_intros <;> decide +kernel

/-- In a pre-emption handler and outside; items 0, 1 and another. -/
theorem witness_SaveRestoreResults :
    let w := withThreads fun th => { th with handler := .preempt, v := [(1, 1), (2, 2)] }
    let s := fixWith w
    Issuing s cur w ∧ Saving cur w ∧ Clear cur w ((useSrc 1 1).and (useV 62 2)) ∧ Readable s cur w [0, 1, 2] ∧
    s.val cur w 0 0 = 0 ∧ s.val cur w 0 1 = 1 ∧ s.val cur w 0 2 = 2 ∧
    Clear cur w ((useSrc 1 1).and (useSrc 0x40 2)) ∧ Readable64 s cur w false [0x40] ∧ Clear cur w (uniUses1 0x64 31 1 1) ∧
    Clear cur w ((useUni 0x64 1).and (useS 31 1)) ∧
    Issuing fix cur warp ∧ ¬ Saving cur warp ∧ ((useSrc 1 1).and (useV 62 2)).declared warp = true ∧
    Privileged cur warp ∧ Clear cur warp (useS 31 1) ∧ fix.partOfCore (fix.coreOf warp) = some (0, Partition.placed) ∧
    kvinvValid (warp.sreg 31) = true ∧
    (let b := { warp with bars := [(15, { m := 0, z := 0, expiry := [(31, 9)] })], pausedAt := some 4 }
     tfind (b.bar 15).expiry 31 = some 9 ∧ tfind (b.bar 15).expiry 0 = none) := by
  simp only [Issuing, Clear, Readable, Readable64, Saving, Privileged]; and_intros <;> decide +kernel

/-- Frames of cause 0x10, and of cause 0x11 with sub-causes 1 and 0, at offset 0 of `savebase`. -/
theorem witness_ReturnResults :
    let w := fun h => withThreads fun th => { th with handler := h }
    let s := fun (h : Handler) (f : List Byte) => { fixWith (w h) with mem := memPut fix.mem 0x30000 f }
    let f := fun c b => natBytes 4 c ++ natBytes 4 b
    let read := fun h x => (((s h x).switched.slotRead ((s h x).coreOf (w h)) ((w h).viewIn cur.taking)
      (Partition.placed.savebase + ((s h x).uarg cur (w h) 0x64).setWidth 64) 8).result.map fun r =>
        ((Frame.ofBytes r.2.2).cause, (Frame.ofBytes r.2.2).sub, (Frame.ofBytes r.2.2).pc.getLsbD 0))
    Issuing fix cur warp ∧ Clear cur warp (useUni 0x64 1) ∧ warp.handlerIn cur.group = .none ∧
    (∀ h ∈ [Handler.trap, .preempt, .nestedTrap], Issuing (s h []) cur (w h) ∧ (w h).handlerIn cur.group ≠ .none ∧
      (s h []).partOfCore ((s h []).coreOf (w h)) = some (0, Partition.placed) ∧
      ((w h).handlerIn cur.taking = .trap ∨ (w h).handlerIn cur.taking = .preempt → (w h).nesting = false) ∧
      ((s h []).uarg cur (w h) 0x64).toNat % 64 = 0) ∧
    read .trap (f 0x10 3) = some (0x10, 3, false) ∧ read .preempt (f 0x11 1) = some (0x11, 1, false) ∧
    read .preempt (f 0x11 0) = some (0x11, 0, false) ∧
    (((s .preempt (f 0x11 1)).core 0).tasks = [] ∧ (w .preempt).pend = [] ∧
      ((s .preempt (f 0x11 1)).slotRead 0 0 (Partition.placed.savebase + BitVec.ofNat 64 ((s .preempt []).slotOf (w .preempt) + 128)) 1).result.isSome = true) ∧
    (∀ th ∈ (w .preempt).threads, resumeState th.resume ≠ 3) ∧
    (let x := { w .trap with pend := [(31, .batch 1)] }
     Issuing (fixWith x) cur x ∧ Clear cur x (useUni 0x64 1) ∧ x.handlerIn cur.group ≠ .none ∧ (tfind x.pend 31).isSome = true) ∧
    (let p := { Partition.placed with savebase := 0x40000000 }
     let y := { fixWith (w .trap) with parts := [(0, p)] }
     Issuing y cur (w .trap) ∧ y.partOfCore (y.coreOf (w .trap)) = some (0, p) ∧ tfind (w .trap).pend 31 = none ∧
     (match y.switched.slotRead (y.coreOf (w .trap)) ((w .trap).viewIn cur.taking) (p.savebase + (y.uarg cur (w .trap) 0x64).setWidth 64) 8 with
       | .trap _ => true | _ => false) = true) ∧
    (let x := withThreads fun th => { th with handler := .preempt, resume := resumeWord 0x10000 3 }
     Issuing (fixWith x) cur x ∧ (∃ th ∈ x.threads, resumeState th.resume = 3) ∧
     ((fixWith x).slotRead 0 0 (Partition.placed.savebase + BitVec.ofNat 64 ((fixWith x).slotOf x)) 8).result.isSome = true) := by
  simp only [Issuing, Clear]; and_intros <;> decide +kernel

/-- The only warp of the last crew on a core that is being left, and one of two; records of STATE 0, 2 and 3; the words of `cvb.wait`
on barrier 15 for its members and for others, and of both barrier forms. -/
theorem witness_ReturnContents :
    let k := { Crew.placed with size := 8192 }
    let s := { fix with cores := [(0, { Core.init with vacate := .leaving })] }
    let two := { s with crews := [(0, { k with warps := [0, 1] })], warps := [(0, warp), (1, { warp with wix := 1 })] }
    let f : Frame := { cause := 0x10, sub := 0, addr := 0, mask := 0x80000000, word := 0, pc := 0x10000, view := 0, detail := 0, s31 := 0 }
    let r := { warp with threads := ((List.replicate 32 { thread with resume := resumeWord 0x10000 0 }).set 1
      { thread with resume := resumeWord 0x10000 2 }).set 31 { thread with resume := resumeWord 0x10000 3 } }
    let w := { warp with bars := [(15, { m := 3, z := 1, expiry := [] })] }
    let at_ := fun (i : Instr) => { fixWith w with mem := memPut fix.mem 0x10000 (natBytes 4 (encode i)) }
    let peek := fun (i : Instr) => (at_ i).peekWord ((at_ i).coreOf w) ((at_ i).baseMode w) 0x10000
    (s.warp 0 = some warp ∧ s.crew warp.crew = some k ∧ (s.core k.core).vacate = .leaving ∧
      (∀ e ∈ s.warpsOf k, e.1 = 0) ∧ ((s.leaveWarp 0 warp 7).crewsOn 0).isEmpty = true) ∧
    (two.warp 0 = some warp ∧ two.crew 0 = some { k with warps := [0, 1] } ∧
      ∃ e ∈ two.warpsOf { k with warps := [0, 1] }, e.1 ≠ 0 ∧ e.2.run ≠ .left ∧ e.2.unfinished ≠ 0) ∧
    ((fixWith r).warp 0 = some r ∧ (∀ i < 32, resumeState (r.thread i).resume ≠ 1) ∧
      (∀ i < 32, resumeState (r.thread i).resume = 3 → inMask f.mask i = true) ∧ resumeState (r.thread 0).resume = 0 ∧
      resumeState (r.thread 1).resume = 2 ∧ resumeState (r.thread 31).resume = 3) ∧
    (peek (.cvbWait 0x64 15 7)).map (fun x => (isCvbWait x.1, fieldNat x.1 14 4, x.2)) = some (true, 15, 0x10004) ∧
    (inMask (w.bar 15).z 0 = true ∧ inMask (w.bar 15).z 1 = false ∧ inMask (w.bar 15).m 1 = true ∧ inMask (w.bar 15).m 31 = false) ∧
    (peek .barCrew).map (fun x => (isCvbWait x.1, isBarCrew x.1)) = some (false, true) ∧
    (peek .barGang).map (fun x => (isCvbWait x.1, isBarCrew x.1, isBarGang x.1)) = some (false, false, true) := by
  and_intros <;> decide +kernel

theorem witness_DecodingTraps : Issuing fix cur warp ∧ fix.launchOf warp = some (0, Launch.placed) ∧
    lowestOf cur.group = some 0 ∧ (warp.thread 0).handler = .none ∧
    (fix.kernelOf warp Launch.placed).enables (trapAt 1 0 0) = true ∧
    (let l := { Launch.placed with header := { Launch.placed.header with traps := 0 } }
     let s := { fix with launches := [(0, l)] }
     s.launchOf warp = some (0, l) ∧ (s.kernelOf warp l).enables (trapAt 2 15 0) = false) ∧
    fix.launch 0 = some Launch.placed ∧ (∃ e ∈ fix.crews, e.2.launch = 0 ∧ 0 ∈ e.2.warps) ∧
    (let s := { fix with crews := [(0, { Crew.placed with state := .suspended })] }
     s.crew 0 = some { Crew.placed with state := .suspended } ∧ ((s.abort 0).warp 0).isSome = true) := by
  simp only [Issuing]; and_intros <;> decide +kernel

/-- A kernel with three vector and four scalar registers; a register that `seal` has made pending; threads with an invalid
latch. -/
theorem witness_IssueChecks :
    let w := { warp with kv := 3, ks := 4 }
    let p := { warp with pend := [(4, .batch 1)] }
    let v := { warp with seals := [(4, 9)] }
    let x := { warp with threads := (List.replicate 32 thread).set 1 { thread with l0 := none } }
    Issuing (fixWith w) cur w ∧ (uses2 2 1 3 1 1).declared w = false ∧ (uniUses2 0x44 0x40 0 1 1).declared w = false ∧
    (Issuing (fixWith p) cur p ∧ (uniUses2 0x44 0x40 0 1 1).declared p = true ∧ cur.taking ≠ 0 ∧
      (uniUses2 0x44 0x40 0 1 1).pendingRead p = some 4 ∧ (∀ j < 32, (p.thread j).held = none)) ∧
    (let h := { p with threads := (List.replicate 32 thread).set 1 { thread with
       held := some { s := [], clk := 0, l0 := none, l1 := none, l2 := none, l3 := none } } }
     Issuing (fixWith h) cur h ∧ (uniUses2 0x44 0x40 0 1 1).declared h = true ∧ (uniUses2 0x44 0x40 0 1 1).pendingRead h = some 4 ∧
     (uniUses2 0x44 0x40 0 1 1).pendingWrite h = none ∧ (uniUses2 0x44 0x40 4 1 1).pendingWrite h = some 4 ∧
     cur.taking &&& ~~~(cur.taking &&& h.where_ fun th => th.held.isNone) = 2) ∧
    (let none_ := { cur with taking := 0 }
     Issuing { fixWith p with cur := some none_ } none_ p ∧ (uniUses2 0x44 0x40 0 1 1).s.any p.sealPending = true ∧
     { p with pend := [(4, .gate 16)] }.sealPending 4 = true ∧ { p with pend := [(4, .spiral [])] }.sealPending 4 = false) ∧
    Issuing (fixWith x) cur x ∧ Clear cur x (uses2 1 0x60 3 1 1) ∧
    (threadsOf cur.taking).filter (fun t => (((fixWith x).plain cur x).src t (x.thread t) 0x60).isNone ||
      (((fixWith x).plain cur x).src t (x.thread t) 1).isNone) = [1] ∧
    (Issuing (fixWith v) cur v ∧ (uniUses2 0x44 0x40 0 1 1).declared v = true ∧ (uniUses2 0x44 0x40 0 1 1).pendingRead v = none ∧
      (uniUses2 0x44 0x40 0 1 1).pendingWrite v = none ∧ (uniUses2 0x44 0x40 9 1 1).pendingWrite { v with pend := [(9, .batch 1)] } = some 9) ∧
    (let b := { thread with v := [(20, 0x7F800000)] }
     let g := { warp with threads := (List.replicate 32 thread).set 1 b }
     let o := { warp with threads := List.replicate 32 b }
     Issuing (fixWith g) cur g ∧ Clear cur g (geoUses 1 2 0 20 6 15) ∧ Readable (fixWith g) cur g [2] ∧
     (threadsOf cur.taking).filter (fun t => (coordinates (g.thread t) 0 20 15).any Option.isNone) = [1] ∧
     Issuing (fixWith o) cur o ∧ Clear cur o (geoUses 0 0 0 20 6 8) ∧
     ∀ t < 32, inMask cur.taking t = true → (coordinates (o.thread t) 0 20 8).any Option.isNone = true) ∧
    (let u := withThreads fun th => { th with sup := false }
     Issuing (fixWith u) cur u ∧ u.supIn cur.group = false ∧ (uniUses1 0x44 31 1 1).declared u = true ∧
     (useS 31 1).declared u = true ∧ (useD 31 1).declared u = true ∧ csrHidden (csrNumber 15 64) = true ∧
     (useUni 0x44 1).declared u = true ∧ csrGuarded 0x7C0 = true ∧
     csrReserved 0x7C0 ((fixWith u).csrRead u 0 0x7C0 &&& (fixWith u).uarg cur u 0x64) = false) ∧
    (let s := { fix with stackTab := [(0, { boot := .running, lvl := 1, fenced := false, struck := false })] }
     Issuing s cur warp ∧ (s.stack (coreStack (s.coreOf warp))).lvl = 1 ∧ (uses2 2 4 62 2 2).declared warp = true ∧
     (uses1 4 62 2 2).declared warp = true ∧ ((useSrc 2 2).and (useSrc 4 2)).declared warp = true ∧
     ((useSrc 2 2).and ((useSrc 4 1).and (useV 62 2))).declared warp = true ∧
     ((useSrc 2 1).and ((useV (4 * 15) 4).and (useV 63 1))).declared warp = true ∧ (geoUses 1 2 1 34 6 15).declared warp = true) ∧
    (let s := { engFix with stackTab := [(0, { boot := .running, lvl := 1, fenced := false, struck := false })],
                            cores := [(0, { core with bufs := core.bufs.map fun e => (e.1, { e.2 with fmt := 5 }) })] }
     Issuing s cur warp ∧ (s.stack (coreStack (s.coreOf warp))).lvl = 1 ∧ (mmaUses 15 0 0 0).declared warp = true ∧
     (s.core (s.coreOf warp)).narrowOperands false 15 0 (warp.padOperand 0 15) (warp.padOperand 0 0) = true) := by
  simp only [Issuing, Clear, Readable]; and_intros <;> decide +kernel

/-! ## Events -/

theorem witness_WakingEvents :
    let c := { withThreads (fun th => { th with status := .converge 15 7 0x10004 }) with
      bars := [(15, { m := 0xF, z := 0xF, expiry := [(0, 0)] })] }
    let l := withThreads fun th => { th with status := .waiting (.lattice 0 0 0 1), timeout := 1 }
    let r := { withThreads (fun th => { th with status := .waiting (.range [1] 0x10004) }) with pend := [(31, .spiral [2])] }
    let d := withThreads fun th => { th with status := .gangBarrier 0x10004 }
    let s := fun w => { fixWith w with cycle := 2 }
    (∀ w ∈ [c, l, r, d], (s w).warp 0 = some w ∧ (s w).runs w = true) ∧
    ((c.thread 0).status = .converge 15 7 0x10004 ∧ tfind (c.bar 15).expiry 0 = some 0 ∧ 0 < (s c).cycle) ∧
    ((l.thread 0).status = .waiting (.lattice 0 0 0 1) ∧ (l.thread 0).timeout ≠ 0 ∧ (l.thread 0).timeout < (s l).cycle) ∧
    ((r.thread 0).status = .waiting (.range [1] 0x10004) ∧ (s r).settled [1] = true) ∧
    (tfind r.pend 31 = some (.spiral [2]) ∧ (s r).settled [2] = true) ∧
    { s d with cycle := 3300000001 }.dogDue 0 d 31 = true := by
  and_intros <;> decide +kernel

theorem witness_HandlerEntry :
    let sub : Sub := { mask := 0xF, cause := 0x10, sub := 3, addr := 0, word := 0, pc := 0x10004, origin := 0x10000, detail := 0,
                       nested := false, framed := false }
    let w := { withThreads (fun th => { th with status := .parked }) with subs := [sub] }
    let n := { withThreads (fun th => { th with status := .parked, handler := .trap }) with subs := [{ sub with nested := true }] }
    let written := fun (w : Warp) (x : Sub) (nested : Bool) (off : Nat) =>
      (((fixWith w).setWarp 0 { w with subs := dropSub nested w.subs, stuck := none }).slotWrite 0 0 0 (Partition.placed.savebase + BitVec.ofNat 64 off)
        (dwordsOf ({ cause := x.cause, sub := x.sub, addr := x.addr, mask := x.mask, word := x.word, pc := x.pc, view := 0,
                     detail := x.detail, s31 := w.sreg 31 } : Frame).bytes)).result.isSome
    (fixWith w).warp 0 = some w ∧ (fixWith w).launchOf w = some (0, Launch.placed) ∧ sub.framed = false ∧
    (fixWith w).part Launch.placed.part = some Partition.placed ∧
    (fixWith w).nextSub 0 w = some sub ∧ written w sub false 0 = true ∧
    (fixWith n).warp 0 = some n ∧ (fixWith n).nextNested 0 n = some { sub with nested := true } ∧ written n sub true 192 = true := by
  and_intros <;> decide +kernel

/-- A task of each kind that may start, and one that has; two mapped descriptors; KV commands of a launch with no VF, and of one
whose STEN is off; a barrier of one rank; a gather whose block table names block 0; FP16 operands. -/
theorem witness_EngineEvents :
    let c := fun (t : Task) => { withCore { core with entries := [(63, { Entry.init with task := some t })] } with crews := [(0, crew)] }
    let on := fun (t : Task) => { t with started := true }
    let s2s := { task with cmd := .copy 5 0 desc1 [] 0 4096 }
    let s2b := { task with cmd := .copy 4 14 desc1 [] 64 0 }
    let mma := { task with cmd := .mma false false true 0 15 none none 7 }
    let kv := { task with cmd := .kv 0 14 desc3 0 0 0 1 }
    let k := { (c (on kv)) with launches := [(0, { Launch.placed with vf := some 63 })], vfs := [(63, { VfPage.init with stlogn := 4 })] }
    (∀ t ∈ [task, s2s, s2b, mma, kv, { task with cancelled := true }], (((c t).core 0).entry 63).task = some t ∧
      (((c (on t)).core 0).entry 63).task = some (on t)) ∧
    (∀ t ∈ [s2s, s2b, mma, kv], (c t).eligible 0 t = true ∧ (on t).cancelled = false ∧ (on t).started = true ∧
      (c t).crew t.crew = some crew) ∧
    (∀ s ∈ [c (on s2s)], s.padClocks (crew.padAt 0) 2048 = [] ∧ s.padClocks (crew.padAt 4096) 2048 = [] ∧
      marked s.spadPoison (crew.padAt 0) 2048 = false) ∧ Desc.valid desc1 = true ∧
    (((c kv).launch 0).bind Launch.vf = none ∧ (c (on kv)).launch 0 = some Launch.placed ∧
      (Desc.base desc3).toNat % Desc.esize desc3 = 0) ∧
    ({ k with cores := (c kv).cores }.eligible 0 kv = true ∧ (k.launch 0).bind Launch.vf = some 63 ∧ (k.vf 63).sten = false ∧
      2 ^ ({ k.vf 63 with sten := true } : VfPage).stlogn ≤ (16 : Word).toNat % 65536) ∧
    (let k := { k with cores := (c kv).cores, vfs := [(63, { VfPage.init with sten := true, stlogn := 4 })] }
     k.eligible 0 kv = true ∧ (k.vf 63).sten = true ∧ (0 : Word).toNat % 65536 < 2 ^ (k.vf 63).stlogn) := by
  and_intros <;> first | rfl | decide +kernel

theorem witness_EngineEvents_barrier :
    let i : Inst := { k := 0, joined := [{ rank := 0, core := 0, ent := 63 }] }
    let p := { Partition.placed with groups := [(63, { Group.init with gctl := 0x80000000, insts := [i] })] }
    let t := { task with cmd := .col 6 [] [] 63, started := true, inst := some 0 }
    let s := { withPart p with cores := [(0, { Core.init with entries := [(63, { Entry.init with task := some t })] })] }
    ((s.core 0).entry 63).task = some t ∧ s.part 0 = some p ∧
    (s.instanceOf 0 t).map (fun x => (x.1, x.2.2.1, x.2.2.2.k)) = some (0, 63, 0) ∧ (s.members i).length = 1 ∧
    (s.members i).all (fun m => m.task.started && m.cmd.1 == 6 && m.cmd.2.1.isEmpty && m.cmd.2.2.isEmpty) = true ∧
    (p.group 63).participants = 1 := by
  and_intros <;> decide +kernel

theorem witness_EngineEvents_gather :
    let s := { engFix with mem := memPut engFix.mem 0x28000 (natBytes 4 0x80000000) }
    let r : Run := { state := s, who := who, handle := 0, seen := [], poison := false, stop := none, down := none }
    let bytes := natBytes 4 1 ++ natBytes 4 16 ++ natBytes 8 0x28000 ++ natBytes 8 0
    let rec_ := SeqRecord.of bytes
    let q := ({ r with handle := Desc.handle desc3 } : Run).block 0 63 0 rec_ none 0
    r.stop.isNone = true ∧ (r.state.site r.who 0x28000 1 needRead).result.isSome = true ∧ reached s 0x28000 1 needRead = some (0, 0x28000, false) ∧
    reached s 0x28000 1 needWrite = some (0, 0x28000, false) ∧ (rec_.state = 1 ∧ 0 < rec_.len) ∧ q.2 = some 0x80000000 ∧
    (q.1.stop.isNone = true ∧ q.1.poison = false ∧ q.1.down.isNone = true) ∧ 0 < Desc.ext desc3 2 ∧ quarNames [] 0 = false ∧
    ((Run.collect (fun r (p : Nat × Nat) =>
      if p.1 = 0 ∧ p.2 < Desc.cols desc3 ∧ 0 + p.2 < Desc.ext desc3 0 then
        ((r.read (Desc.base desc3 + BitVec.ofNat 64 (2 * p.2)) 2).1, (p, (r.read (Desc.base desc3 + BitVec.ofNat 64 (2 * p.2)) 2).2))
      else (r, (p, .bytes (List.replicate 2 0)))) q.1 (imageElements 2)).2.all fun e => decide (e.2 ≠ .poison)) = true ∧
    formatSize (({ spad := [], core := core, crew := crew, buf := 0, pad := none } : Operand).fmt false) = 2 := by
  and_intros <;> decide +kernel

/-- A queued write-back; a resident tile, and one that is not; a lattice page; a word that a core alone holds; two stacks that a
round pairs, with replicas alive and lost; entries that may be mapped and that wait for their write-back. -/
theorem witness_MemoryEvents :
    let b : WriteBack := { id := 1, bytes := [(64, 1)], priority := 0 }
    let e : Smap := { v := false, wb := false, nt := 0, soff := 0, gtn := 64 }
    let sp : Spiral := { emptySpiral with order := [{ tile := 0, handle := 0, dirty := false, owner := none }] }
    let s := { fix with wbq := [(0, [b])], owned := [(16, { core := 3, writers := [] })], spirals := [(0, sp)],
                        spad := [(7, 9)], smap := [(0, e), (15, { e with wb := true })] }
    let wide := { Partition.placed with bot := 3, right := 15 }
    let two := { withPart wide with latPages := [(32, 0)], repLost := [(8 * (16384 / 16) + wide.stackList.getD 1 0, ())] }
    (tfind s.wbq 0).getD [] = [b] ∧ b.bytes.filter (fun c => c.1 == 64) = [(64, 1)] ∧ b.bytes.filter (fun c => c.1 == 65) = [] ∧
    s.mapped Partition.placed 64 = none ∧
    ((s.tileOf 5).map fun x => (x.2.1, x.2.2)) = some (0, 0) ∧ tfind s.latPages (5 / 4096) = none ∧ s.resident 0 0 = true ∧
    fix.resident 0 0 = false ∧ (tfind two.latPages (0x20000 / 4096)).isSome = true ∧ (two.tileOf 0x20000).isSome = true ∧
    wide.stackList.length = 8 ∧ (two.latPages.map Prod.fst).Nodup ∧ ceilLog2 8 ≠ 0 ∧ wide.ownsCells 32 = true ∧
    (two.part 0 = some wide ∧ 1 = 0 ^^^ 2 ^ (wide.round % ceilLog2 8) ∧ 16384 / 512 = 32 ∧ (two.stack 0).fenced = false) ∧
    tfind s.owned (65 / 4) = some { core := 3, writers := [] } ∧ ((s.tileOf 64).map fun x => (x.2.1, x.2.2)) = some (0, 0) ∧ s.part 0 = some Partition.placed ∧
    s.partOfBand (0 / 8) = some (0, Partition.placed) ∧ (s.smapOf 0 0).v = false ∧
    s.smapBad Partition.placed 0 0 (s.smapOf 0 0) = false ∧ s.mapped Partition.placed 0x20000 = none ∧
    ((s.smapOf 0 0).gtn ≤ 0x20000 / 2048 ∧ 0x20000 / 2048 ≤ (s.smapOf 0 0).gtn + (s.smapOf 0 0).nt) ∧ (s.smapOf 0 15).wb = true ∧
    2048 * (e.gtn + e.nt + 1) ≤ Config.bandBytes * Partition.placed.bandList.length ∧ s.spad.filter (fun c => c.1 == 7) = [(7, 9)] ∧
    (withPart { Partition.placed with tinvDue := [none, some 0x20000] }).part 0 =
      some { Partition.placed with tinvDue := [none, some 0x20000] } := by
  and_intros <;> decide +kernel

/-- A record that begins, one that is not ready, one that R310 refuses, a slot that lies nowhere and one behind a host port that
is down. -/
theorem witness_SchedulerEvents_begin :
    let q : Queue := { Queue.init with base := 0x40000, en := true, logn := 2, tail := 1 }
    let win : Window := { base := 0, ctl := 0x80000000, size := 1 }
    let p := { (Partition.placed.setQueue 63 q) with hostWindows := [(0, win)] }
    let put := fun (bs : List Byte) =>
      { fix with
        launches := [], gangs := [], crews := [], warps := [], parts := [(0, p)],
        mem := memPut (memPut fix.mem 0x50000 header) 0x40000 bs }
    let good := put (record 0x50000)
    let late := put ((record 0x50000).take 40 ++ natBytes 4 5 ++ natBytes 4 1 ++ List.replicate 16 0)
    let read := fun (s : State) => (s.readSlot p ((p.queue 63).slot (p.queue 63).disp)).result.bind fun x => x.2.map fun y =>
      (x.1.examine p.anyCore (LaunchRec.ofBytes y.1)).result.map fun z => (z.2.isSome, (LaunchRec.ofBytes y.1).wev)
    (good.part 0 = some p ∧ (p.queue 63).en = true ∧ (p.queue 63).disp ≠ (p.queue 63).tail ∧ p.stopped = false ∧
      good.queueLaunches 0 63 = []) ∧
    read good = some (some (true, 0xFFFFFFFF)) ∧ read late = some (some (true, 5)) ∧ wget p.events 5 = 0 ∧
    read (put (record 0x60000)) = some (some (false, 0xFFFFFFFF)) ∧ (Queue.init.en = false) ∧
    ((good.readSlot p 0x7FFFFFFFFF).result.map fun x => x.2.isNone) = some true ∧
    (match good.readSlot p Config.hostBase with | .wait _ => true | _ => false) = true ∧ (good.beginAt 0 63).isSome = true := by
  and_intros <;> decide +kernel

/-- A launch whose first gang is next, and one with a gang to repeat; a gang that may move, and none; a finished crew's warps; a
launch whose last gang is done, with a queue and without; each gate. -/
theorem witness_SchedulerEvents :
    let w := withThreads fun th => { th with status := .finished }
    let done := fixWith w
    let ended := { fix with gangs := [] }
    let waits := { fix with launches := [(0, { Launch.placed with next := 0 })], gangs := [], crews := [], warps := [] }
    let again := { fix with launches := [(0, { Launch.placed with redo := [0] })], gangs := [], crews := [], warps := [] }
    let gang := { fix with gangs := [(0, { launch := 0, index := 0, band := 0, stage := 0, crews := [0], arrived := 0, state := .assigned })] }
    let last := { Launch.placed with queue := some 63, begun := true }
    let queued := { ended with launches := [(0, last)] }
    let ended2 := { ended with launches := [(0, { last with finished := true })] }
    let gate := fun g => { fix with cores := [(16, { Core.init with gate := g })] }
    (waits.launch 0 = some { Launch.placed with next := 0 } ∧ (waits.offerBand 0 0).map Prod.fst = some 0) ∧
    ((again.offerBand 0 0).map Prod.fst = some 0 ∧ (again.launch 0).map Launch.redo = some [0]) ∧
    ((gang.steal 0 0).isSome = true ∧ (fix.steal 5 0).isNone = true ∧ gang.cores = [] ∧ Core.init.vacate ≠ .leaving) ∧
    (done.crew 0 = some { Crew.placed with size := 8192 } ∧ { Crew.placed with size := 8192 }.state = .resident ∧
      (∀ e ∈ done.warpsOf { Crew.placed with size := 8192 }, e.2.unfinished = 0) ∧ (done.core 0).tasks = []) ∧
    (ended.launch 0 = some Launch.placed ∧ ended.launchDone 0 Launch.placed = true ∧ (ended.statusWait Launch.placed).isNone = true ∧
      Launch.placed.queue = none) ∧
    (queued.launch 0 = some last ∧ queued.launchDone 0 last = true ∧ (queued.statusWait last).isNone = true ∧
      (queued.deviceWrite Partition.placed 0 (0x40000 + 52) (natBytes 4 1)).result.isSome = true ∧ last.detached = false) ∧
    (let p := { (Partition.placed.setQueue 63 { Queue.init with base := Config.hostBase }) with
       hostWindows := [(0, { base := 0, ctl := 0x80000000, size := 1 })] }
     let s := { queued with parts := [(0, p)] }
     s.launchDone 0 last = true ∧ (s.statusWait last).isSome = true) ∧
    (ended2.queueLaunches 0 63 = [(0, { last with finished := true })] ∧ last.idx = (Partition.placed.queue 63).head ∧
      queued.queueLaunches 0 63 = [(0, last)]) ∧
    (((gate .drain).core 16).gate = .drain ∧ (gate .drain).gateIdle 16 = true) ∧ ((gate .wake).core 16).gate = .wake := by
  and_intros <;> decide +kernel

/-- GO of PBOOT, and none; a header that can boot, a bad one, an address that no page maps, and a boot gang that exists. -/
theorem witness_SchedulerEvents_boot :
    let s := { fix with launches := [], gangs := [], crews := [], warps := [], mem := memPut fix.mem 0x50000 header }
    let s1 := s.setPart 0 { Partition.placed with pboot := 0x50001 }
    (s.part 0 = some Partition.placed ∧ s.launches = [] ∧ (0x50001 : Dword).getLsbD 0 = true ∧ (0x50000 : Dword).getLsbD 0 = false) ∧
    ((s1.readHeader Partition.placed.anyCore 0x50000).result.bind fun x => x.2.map fun h => (h.staged, h.fitsEmptyBand)) = some (false, true) ∧
    ((s1.readHeader Partition.placed.anyCore 0x60000).result.map fun x => x.2.isNone) = some true ∧
    (match s1.readHeader Partition.placed.anyCore 0x40000000 with | .trap _ => true | .ok x => x.2.isNone | _ => false) = true := by
  and_intros <;> decide +kernel

/-- Cores of the partition and of none; each state of a vacate; threads in every kind of status; a warp held; a save slot that is
mapped; a crew that is suspended. -/
theorem witness_PreemptionEvents :
    let k := fun v => { fix with cores := [(0, { Core.init with vacate := v })] }
    let s := { fix with crews := [(0, { Crew.placed with state := .suspended })] }
    let asked : Word := BitVec.ofNat 32 (2 ^ 31 + 2 ^ 30 + 31)
    let held := { warp with run := .held }
    let w1 := { warp.record 0 with subs := [], pausedAt := some 0 }
    fix.part 0 = some Partition.placed ∧ Partition.placed.pstat.getLsbD 31 = false ∧ Partition.placed.pcmdQueue = [] ∧
    Partition.placed.holdsCore 31 = true ∧ Partition.placed.holdsCore 32 = false ∧ Partition.placed.holdsCore 2047 = false ∧
    (fix.setPart 0 { Partition.placed with pcmd := asked, pcmdQueue := [asked] }).mayReturn asked = true ∧
    ({ fix.setPart 0 { Partition.placed with pcmd := asked, pcmdQueue := [asked] } with
      crews := [(0, { Crew.placed with core := 31, size := 4194304, scanned := some ([], []) })] }).mayReturn asked = false ∧
    (((k .vacated).core 0).vacate ≠ .inService ∧ ((k .inService).core 0).vacate = .inService ∧ (k .inService).crewsOn 0 ≠ [] ∧
      (k .inService).crewsOn 1 = []) ∧ (fix.gang 0).map Gang.state = some .assigned ∧
    (∀ e ∈ ({ fix with gangs := [] } : State).gangs, e.2.state = .assigned → False) ∧
    (∀ g, fix.gang 0 = some g → g.stage = 0 ∧ fix.launch g.launch = some Launch.placed) ∧ Launch.placed.stages = [] ∧
    Launch.placed.aborted = false ∧
    ((k (.asked false)).heldDue 0 = true ∧ (k (.asked false)).partOfCore 0 = some (0, Partition.placed) ∧
      (k (.asked false)).warpKeysOn 0 = [0] ∧ warp.run = .resident ∧ warp.unfinished ≠ 0 ∧ warp.saving = false) ∧
    ((fixWith held).warp 0 = some held ∧ held.run = .held ∧ held.saving = false) ∧
    ((k (.asked true)).core 0).vacate = .asked true ∧
    (let v := warp.viewIn 0xFFFFFFFF
     let f := fun (d : Dword) =>
       ({ cause := 0x11, sub := 1, addr := 0, mask := 0xFFFFFFFF, word := 0, pc := 0, view := v, detail := d, s31 := warp.sreg 31 } : Frame)
     let off := fix.slotOf warp + 64
     ((fix.setWarp 0 w1).slotWrite 0 0 (warp.viewIn 0xFFFFFFFF) (0x30000 + BitVec.ofNat 64 off) (dwordsOf (f 0).bytes)).result.isSome = true ∧
     ((fix.setWarp 0 w1).slotRead 0 (warp.viewIn 0xFFFFFFFF) (0x30000 + BitVec.ofNat 64 (off + 64)) 1).result.map (fun r =>
       (decide (r.1.warp 0 = some w1), decide (r.1.crews = fix.crews), (r.1.launchOf w1).map Prod.fst,
        (r.1.slotWrite 0 0 (warp.viewIn 0xFFFFFFFF) (0x30000 + BitVec.ofNat 64 off)
          (dwordsOf (f (BitVec.ofNat 64 (bytesNat r.2.2))).bytes)).result.isSome)) = some (true, true, some 0, true)) ∧
    ({ k .leaving with cycle := 165001 }.phlimDue 0 = true) ∧ (s.resumeCrew 0 31).isSome = true ∧
    fix.crew 0 = some { Crew.placed with size := 8192 } := by
  and_intros <;> decide +kernel

/-- A warp whose crew resumes, and its restore slot. -/
theorem witness_PreemptionEvents_restore :
    let w1 := { warp.emptied.mapThreads (fun _ th => { th with resume := resumeWord 0 2, status := .ready, view := 0, fenced := 0 }) with
      run := .resident, pausedAt := some 0 }
    let frame : Frame := { cause := 0x11, sub := 2, addr := 0, mask := 0xFFFFFFFF, word := 0, pc := 0, view := 0, detail := 0, s31 := 0 }
    let entered := fun (t : State × Dword) => (t.1.freeLane 0).onWarp 0 fun w =>
      { (w.setS 31 64).mapThreads (fun _ th =>
        { th.clearLatches with status := .ready, handler := .preempt, sup := true, pc := 0x20000, timeout := 0, held := none,
                               view := laterOf th.view t.2 }) with
        stuck := none }
    (fix.launchOf warp).map Prod.fst = some 0 ∧ laterOf (viewOf (fix.warpsOf { Crew.placed with size := 8192 })) fix.latest = 0 ∧
    fix.draws = 0 ∧ fix.slotOf warp = 0 ∧
    ((fix.setWarp 0 w1).slotWrite 0 0 0 (0x30000 + 64) (dwordsOf frame.bytes)).result.map (fun t =>
      (decide (t.1.warp 0 = some w1), decide (t.1.crews = fix.crews), ((entered t).slotWrite 0 0 0 (0x30000 + 128) [0]).result.isSome)) =
      some (true, true, true) := by
  and_intros <;> decide +kernel

/-- Queue, event, group and VF numbers at the ends of their ranges; queues that QCTL enables and QTAIL fills and breaks; a VF whose
guarantee stays below CAP, and one above it; VFs that are free, that own a queue, and that another partition binds; a port that
is up, and down. -/
theorem witness_RegisterWriteEvents :
    let own : Queue := { Queue.init with owned := true, owner := 63 }
    let p := { (Partition.placed.setQueue 63 own) with vfbind := 0x8000000000000001, cap := [(1, 5)] }
    let other := { Partition.placed with top := 1, bot := 1, vfbind := 2 }
    let quota := { Quota.init with guar := 4 }
    let s := { fix with parts := [(0, p), (16, other)], hostPorts := [(0, 1)], vfs := [(0, VfPage.init.setTier 1 quota)] }
    s.part 0 = some p ∧ (63 < 64 ∧ 4095 < 4096 ∧ (3 < 4 ∧ 2 < 3)) ∧
    ((p.queue 63).en = false ∧ bits (0x80000010 : Word).toNat 0 5 ≤ 16 ∧ 16 < bits (0x80000011 : Word).toNat 0 5) ∧
    ((p.queue 63).src = false ∧ ((p.queue 63).tail - (p.queue 63).head).toNat ≤ ((1 : Word) - (p.queue 63).head).toNat ∧
      ((1 : Word) - (p.queue 63).head).toNat ≤ 2 ^ (p.queue 63).logn ∧ 2 ^ (p.queue 63).logn < ((2 : Word) - (p.queue 63).head).toNat) ∧
    (s.boundTo 5 = none ∧ s.boundTo 0 = some (0, p) ∧ (wget p.cap 1).toNat < 0 + (6 : Word).toNat ∧
      0 + (5 : Word).toNat ≤ (wget p.cap 1).toNat ∧ ((s.vf 0).tier 1).guar.toNat ≤ (5 : Word).toNat ∧
      (3 : Word).toNat < ((s.vf 0).tier 1).guar.toNat) ∧
    (∃ e ∈ s.parts, ∃ x ∈ e.2.queues, x.2.owned = true ∧ x.2.owner = 63) ∧ (∃ e ∈ s.parts, e.1 ≠ 0 ∧ e.2.vfbind.getLsbD 1 = true) ∧
    (s.ownsQueue 5 = false ∧ (∀ e ∈ s.parts, e.1 = 0 ∨ e.2.vfbind.getLsbD 5 = false)) ∧
    (s.proto (bitNat (p.vfport.getLsbD 63)) ≠ 0 ∧ fix.proto 0 = 0) := by
  and_intros <;> decide +kernel

/-- A bound VF with 4 guaranteed pages of tier 1, under each answer of the pool; a decoder of a CXL port; export entry 15 for a
peer, and a peer that has none; lines that are lost, and poisoned ones. -/
theorem witness_OutsideEvents :
    let win : Window := { base := 0, ctl := 0x80050000, size := 1 }
    let p := { Partition.placed with vfbind := 0x8000000000000000, vfport := 0, exports := [(15, win)], cap := [(1, 8)] }
    let s := { (withPart p) with
      hostPorts := [(0, 2)], jalef := [(15, { up := true, lanes := 7, peer := 5 })],
      decoders := [(0, { on := true, part := 0, base := 0x20000, size := 64 })] }
    let n32 := BitVec.ofNat 32
    let quota := fun (guar blim used rsv recl : Nat) =>
      { Quota.init with guar := n32 guar, blim := n32 blim, used := n32 used, rsv := n32 rsv, recl := n32 recl }
    let q := fun guar blim used rsv recl => { s with vfs := [(63, VfPage.init.setTier 1 (quota guar blim used rsv recl))] }
    let st := fun (s : State) op n => (s.pool 0 p 63 1 op n).2
    s.boundTo 63 = some (0, p) ∧ (1 ≤ 64 ∧ 64 ≤ 64) ∧
    (st (q 4 0 0 0 1) 0 1 = 3 ∧ st (q 4 0 3 0 0) 2 4 = 2 ∧ st (q 4 0 3 0 0) 2 3 = 0 ∧ st (q 4 0 3 0 0) 1 2 = 2 ∧
      st (q 4 0 1 1 0) 0 3 = 1 ∧ st (q 4 0 0 0 0) 1 4 = 0 ∧ st (q 4 4 4 0 0) 1 4 = 0 ∧ st (q 4 9 4 0 0) 1 5 = 2) ∧
    s.proto (bitNat (p.vfport.getLsbD 63)) ≠ 0 ∧ fix.proto (bitNat (p.vfport.getLsbD 63)) = 0 ∧
    (outsideSize 8 8 = true ∧ s.proto 0 = 2 ∧ (s.decoder 0).on = true ∧ 8 + 8 ≤ (s.decoder 0).size ∧ s.part (s.decoder 0).part = some p ∧
      (match s.reach p 0 (0x20000 + 8) with | .dram r x a => (a, s.lostTarget (.dram r x a), s.poisonAt (.dram r x a) 8) | _ => (0, true, true)) =
        (0x20008, false, false)) ∧
    (s.proto 1 ≠ 2 ∧ (s.decoder 1).on = false ∧ (s.decoder 0).size < 60 + 8) ∧ 8 < Config.hostBase ∧ 67108856 + 8 ≤ 67108864 ∧
    ((s.jalefPort 15).up = true ∧ (s.jalefPort 15).peer = (5 : BitVec 8).toNat ∧ (p.export 15).ctl.getLsbD 31 = true ∧
      bits (p.export 15).ctl.toNat 16 8 = 5 ∧ 0x20000 < 1073741824 * (p.export 15).size.toNat ∧
      ∀ i < 15, (p.export i).ctl.getLsbD 31 = false) ∧
    (∀ i < 16, ¬ (bits (p.export i).ctl.toNat 16 8 = 6 ∧ (p.export i).ctl.getLsbD 31 = true)) := by
  and_intros <;> decide +kernel

/-- Each boot state; a stack that may be raised; an alarm of a partition under each policy, with a log that is off, full and open;
each state of a router; ranks on both sides of those of this device, and a started collective. -/
theorem witness_DeviceEvents :
    let st := fun (b : Boot) => { State.reset with stackTab := [(7, { Stack.init with boot := b })] }
    let p := { Partition.placed with groups := [(63, { Group.init with gctl := 0xC0000002, gloc := 0x00010000 })] }
    let log := fun n => { Partition.placed with flen := true, flbase := 0x40000, fltail := n, secpol := 0x24 }
    let col := { task with cmd := .col 6 [] [] 63, inst := some 0 }
    let c := { withPart p with cores := [(0, { Core.init with entries := [(63, { Entry.init with task := some col })] })] }
    let route := fun x => { State.reset with routers := [(71, x)] }
    (State.reset.bootGo = false ∧ State.reset.bootAcpt = 0) ∧ ((st .checking).stack 7).boot = .checking ∧
    (((st .running).stack 7).boot = .running ∧ ((st .running).stack 7).lvl = 1 ∧ (st .running).stackInUse 7 = false) ∧
    { State.reset with stackTab := (List.range 8).map fun k => (k, { boot := .running, lvl := 0, fenced := false, struck := false }) }.mayCreate
      { Partition.make 0 0 0 0 with keyId := State.reset.fresh } = true ∧
    fix.part 0 = some Partition.placed ∧ (Partition.placed.holds (0x30000 / Config.bandBytes) = true ∧ fix.standsUnder 0x30000 = none ∧ fix.atReduced 0 = false ∧
      { fix with stackTab := [(0, { boot := .running, lvl := 1, fenced := false, struck := false })] }.atReduced 0 = true) ∧
    (State.reset.stack 7).fenced = false ∧ (({ State.reset with stackTab := [(7, { Stack.init with fenced := true })] } : State).stack 7).fenced = true ∧
    -- A stack with a running gang, a staged launch and words that its cores own.
    (let g : Gang := { launch := 0, index := 0, band := 7, stage := 0, crews := [0], arrived := 0, state := .running }
     let l := { Launch.placed with stages := [{ header := Launch.placed.header, size := 0, capacity := 0, mark := 0, entries := [] }],
                                   band := some 7 }
     let s := { fix with gangs := [(0, g)], launches := [(0, Launch.placed), (1, l)], owned := [(16, { core := 255, writers := [] })] }
     (s.stack 0).fenced = false ∧ s.gang 0 = some g ∧ (s.launches.map Prod.fst).Nodup ∧ s.launch 0 = some Launch.placed ∧
     Launch.placed.stages = [] ∧ Launch.placed.aborted = false ∧ (∀ c ∈ s.crews, c.2.gang = 0 → c.2.launch = 0) ∧
     s.launch 1 = some l ∧ l.stages ≠ [] ∧ l.finished = false ∧ coreStack 255 = 0 ∧ (0 ∈ Partition.placed.stackList)) ∧
    ((withPart (log 0)).part 0 = some (log 0) ∧ (withPart (log 1)).part 0 = some (log 1)) ∧
    (bits (log 0).secpol.toNat 0 2 = 0 ∧ bits (log 0).secpol.toNat 2 2 = 1 ∧ bits (log 0).secpol.toNat 4 2 = 2) ∧
    (Partition.placed.flen = false ∧ ((log 1).fltail - (log 1).flhead).toNat = 2 ^ (log 1).fllogn ∧
      ((log 0).fltail - (log 0).flhead).toNat ≠ 2 ^ (log 0).fllogn) ∧
    (((withPart (log 0)).deviceWrite (log 0) 0 0x40000 (List.replicate 32 0)).result.map fun w => (w.1.part 0).isSome) = some true ∧
    (edgePort 71 = false ∧ ∀ x ∈ [Router.active, .idle, .down, .waking], (route x).router 71 = x) ∧
    State.reset.proto 1 = 0 ∧ (withPart p).part 0 = some p ∧ (p.group 63).gctl.getLsbD 31 = true ∧
    (p.group 63).gctl.getLsbD 30 = true ∧ (0 < bits (p.group 63).gloc.toNat 16 8 ∧ 0 < (p.group 63).participants) ∧
    (bits (p.group 63).gloc.toNat 16 8 + bits (p.group 63).gloc.toNat 0 8 < 2 ∧ 2 < (p.group 63).participants) ∧
    (c.part 0 = some p ∧ (tfind (c.core 0).entries 63).map Entry.task = some (some col) ∧ p.holdsCore 0 = true) := by
  and_intros <;> decide +kernel

/-! ## Accesses, frames and steps -/

/-- An address of DRAM, one that is not canonical, and one that is not aligned; lost and poisoned places. -/
theorem witness_MemoryAccessResults :
    let place := fun (s : State) n need => (s.site who 0x20000 n need).result.map fun r => (r.2.1, r.1.lostTarget r.2.2, r.1.poisonAt r.2.2 n)
    let lost := { fix with lost := [(1024, ())] }
    let bad := { fix with poison := [(0x20000, ())] }
    place fix 8 needRead = some ({ pa := 0x20000, lat := none }, false, false) ∧
    place fix 8 needWrite = some ({ pa := 0x20000, lat := none }, false, false) ∧
    place fix 8 needBoth = some ({ pa := 0x20000, lat := none }, false, false) ∧
    (place lost 8 needRead).map (fun x => x.2.1) = some true ∧ (place lost 8 needWrite).map (fun x => x.2.1) = some true ∧
    (place lost 8 needBoth).map (fun x => x.2.1) = some true ∧ (place bad 8 needBoth).map (fun x => x.2) = some (false, true) ∧
    ((fix.site who 0x20000 8 needRead).result.map fun r =>
      ((List.range 8).all fun i => (r.1.standsUnder (0x20000 + i)).isNone, r.1.copies, r.1.shared)) = some (true, [], []) ∧
    (let held := { fix with shared := [(4096 * 0x8000, ()), (4096 * 0x8001, ())] }
     (held.site who 0x20000 8 needRead).result.map fun r => (r.1.lostTarget r.2.2,
       (wordsOf 0x20000 8).all fun k => (tfind r.1.shared (4096 * k + who.core)).isSome)) = some (false, true) ∧ (place bad 8 needRead).map (fun x => x.2) = some (false, true) ∧
    isSupervisorCore who.core = false ∧ canonical (0x100000000000000 : Dword) = false ∧
    (canonical (0x20001 : Dword) = true ∧ (0x20001 : Dword).toNat % 2 ≠ 0) ∧
    canonical (0x20000 : Dword) = true ∧ (fix.staleLeaves Partition.placed 0 0x20000
      (fix.walk Partition.placed 0 0x20000 4 Partition.placed.troot.toNat)).isEmpty = true ∧
    (fix.walk Partition.placed 0 0x20000 4 Partition.placed.troot.toNat).result.map (fun l => (l.entry, leafFault l.whole true needWrite)) =
      some (0xFD, none) ∧
    (let young := { fix with mem := memPut fix.mem 0x3000 (natBytes 8 0x3D) }
     (young.staleLeaves Partition.placed 0 0x20000 (young.walk Partition.placed 0 0x20000 4 0x1000)).isEmpty = true ∧
     (young.walk Partition.placed 0 0x20000 4 0x1000).result.map (fun l => (l.entry.testBit 6, leafFault l.whole true needWrite,
       match l.place with | .dram _ _ a => a | _ => 0)) = some (false, none, 0x3000)) ∧
    -- A leaf with A clear behind a host window on a port trained as PCIe.
    (let p := { Partition.placed with hostWindows := [(0, { base := 0, ctl := 0x80000000, size := 1 })] }
     let far := { withPart p with
       mem := memPut (memPut fix.mem 0x2000 (natBytes 8 (Config.hostBase + 3))) Config.hostBase (natBytes 8 0x3D)
       hostPorts := [(0, 1)] }
     let now := far.walk p 0 0x20000 4 0x1000
     (far.staleLeaves p 0 0x20000 now).isEmpty = true ∧ now.result.map (fun l => (l.entry.testBit 6, leafFault l.whole true needWrite,
       match l.place with | .host _ _ cxl _ => some cxl | _ => none)) = some (false, none, some false)) := by
  and_intros <;> decide +kernel

/-- A halfword that a core has kept and that memory no longer gives may still be executed, and no more once the core has
executed `cinv` of its line (R130). -/
theorem test_kept_code :
    let mine : Kept := { core := 0, place := 0x20002, half := 0x29 }
    let s := { fix with code := [mine, { mine with core := 1 }] }
    s.oldCode 0 0x20002 0 = [0x29] ∧ s.oldCode 0 0x20002 0x29 = [] ∧
    (after (.cinv 0x44 0x40) s).map (fun s => s.code) = some [{ mine with core := 1 }] := by
  and_intros <;> decide +kernel

/-- A page whose leaf has lost W after a TLB took it: the old translation may still serve a store, and no more once TINVC
has completed (R348). -/
theorem test_stale_translation :
    let old : Cached := { part := 0, cluster := 0, base := 0, size := 0x40000000, leaf := 0x3000, entry := 0xFD }
    let s := { withPart { Partition.placed with tinvc := 0x80000000, tinvDue := [some 0x20000] } with
                mem := memPut fix.mem 0x3000 (natBytes 8 0xF5), tlb := [old, { old with part := 1 }] }
    (s.staleLeaves Partition.placed 0 0x20000 (s.walk Partition.placed 0 0x20000 4 0x1000)).map Prod.fst = [old] ∧
    leafFault old.entry true needWrite = none ∧ leafFault 0xF5 true needWrite = some 2 ∧
    (after (.tinvcComplete 0) s).map (fun s => s.tlb) = some [{ old with part := 1 }] := by
  and_intros <;> decide +kernel

theorem witness_RegisterFrames : Issuing fix cur warp ∧ Clear cur warp (uses2 2 1 63 1 1) ∧ Readable fix cur warp [1, 2] ∧
    Clear cur warp (uses2 4 2 62 2 2) ∧ Readable64 fix cur warp true [2, 4] ∧ FullService fix warp ∧
    Clear cur warp (uniUses2 0x45 0x44 31 1 1) := by
  simp only [Issuing, Clear, Readable, Readable64, FullService]; and_intros <;> decide +kernel

/-- An unguarded word, and a guard with the word after it. -/
theorem witness_StepRunsDecoded :
    let s := fun n w => State.reset.placeWord n w
    let w := Warp.start 0 0 0 0 64 32 0x10000 0 0 true
    let s0 := fun (s : State) => { s with rest := none, cur := none, agenda := [] }
    let s1 := fun (s : State) => (s0 s).beginIssue 0 w ((s0 s).readyMask 0 w) 0xFFFFFFFF none
    let word := fun guarded (f : Option (State × Nat × Nat)) => f.bind fun f => (decodeFetched guarded f.2.1 f.2.2).toOption
    let first := fun (s : State) => ((s1 s).fetchWord (s.coreOf w) true 0x10000).result
    let two := s 64 (encode (.guard 1 2) + 2 ^ 32 * encode (.valuAdd 2 1 0 3))
    (∀ t ∈ [s 32 0x29, two], t.rest = none ∧ t.agenda = [.issue 0] ∧ (s0 t).warp 0 = some w ∧ (s0 t).runs w = true ∧
      (s0 t).laneChoice ((s0 t).laneOf w) = some 0 ∧ ((s0 t).lane ((s0 t).laneOf w)).keeps = some 0 ∧ w.unfinished ≠ 0 ∧
      (w.select ((s0 t).readyMask 0 w)).map (fun g => (g.pc, g.mask)) = [(0x10000, 0xFFFFFFFF)] ∧ w.supIn 0xFFFFFFFF = true) ∧
    (let other := { s 32 0x29 with lanes := [(0, { keeps := none, last := 0, gave := false, passed := [] })],
                                   warps := [(0, w), (1, { w with slot := 1 })] }
     (s0 other).warp 0 = some w ∧ (s0 other).laneChoice ((s0 other).laneOf w) = some 1) ∧
    word false (first (s 32 0x29)) = some .ctrlNop ∧ (first (s 32 0x29)).map (fun f => isGuard f.2.1) = some false ∧
    word false (first two) = some (.guard 1 2) ∧ (first two).map (fun f => (f.2.2, isGuard f.2.1)) = some (4, true) ∧
    word true ((first two).bind fun f => (f.1.fetchWord (two.coreOf w) true 0x10004).result) = some (.valuAdd 2 1 0 3) := by
  and_intros <;> decide +kernel

/-- The longest and the shortest word forms. -/
theorem witness_DecodeOfEncode : encodedLength (.valuAdd 2 1 0 3) = 4 ∧ WellFormed (.valuAdd 2 1 0 3) = true ∧
    guardable (encode (.valuAdd 2 1 0 3)) = true ∧ encodedLength (.mov 0 0) = 2 ∧ WellFormed (.mov 1 0) = true := by
  and_intros <;> decide +kernel

theorem witness_StepsEndAtBoundaries : ∃ t, step (State.reset.withFetchWord 32 0x29) = .next t := by
  have h : (match step (State.reset.withFetchWord 32 0x29) with | .next _ => true | _ => false) = true := by decide +kernel
  split at h
  · exact ⟨_, by assumption⟩
  · simp at h

end Sys2Proof.Tests
end

