-- ==== Sys2Proof/Tests/Slice0.lean ====
section
/-! SUPPORT. Tests: operands that each check of WellFormed refuses, words that the spec writes out, reserved words, and
results that the spec works through. Every expected value is the spec's own, or a hand calculation from its rules. -/
namespace Sys2Proof.Tests
open Sys2Proof Sys2Proof.Machine
set_option Elab.async false

/-! ## Ill-formed operands (R133 to R144) -/

/-- The sub-cause that an instruction's operands take. -/
def subOf (i : Instr) : Option Nat := lowestSub i.checks

theorem test_well_formed : subOf (.valuAdd 2 1 0 3) = none ∧ WellFormed (.valuAdd 2 1 0 3) = true := by decide +kernel
theorem test_refuses_reserved_lane_source : subOf (.valuAdd 0x6E 1 0 3) = some 2 := by decide +kernel
theorem test_refuses_odd_pair_source : subOf (.vmiscAdd64 3 2 0 2) = some 6 := by decide +kernel
theorem test_refuses_odd_latch_pair : subOf (.vmiscAdd64 0x61 2 0 2) = some 2 := by decide +kernel
theorem test_refuses_vector_in_uniform_form : subOf (.saluAdd 0x20 1 3) = some 2 := by decide +kernel
theorem test_refuses_tix_in_uniform_form : subOf (.saluAdd 0x65 1 3) = some 2 := by decide +kernel
theorem test_refuses_odd_uniform_pair : subOf (.smiscAdd64 3 2 2) = some 6 := by decide +kernel
theorem test_refuses_gixh_as_pair : subOf (.smiscAdd64 0x69 2 2) = some 2 := by decide +kernel
theorem test_refuses_scalar_destination : subOf (.saluAdd 1 1 0x20) = some 7 := by decide +kernel
theorem test_refuses_odd_pair_destination : subOf (.daluAdd 2 4 0 3) = some 6 := by decide +kernel
theorem test_refuses_group_destination : subOf (.qdecE4m3nF32 2 4 0 6) = some 6 := by decide +kernel
theorem test_refuses_latch_as_address : subOf (.ld 2 0 0 0x60 4) = some 2 := by decide +kernel
theorem test_refuses_odd_address : subOf (.ld 2 0 0 0x43 4) = some 6 := by decide +kernel
theorem test_refuses_size_code : subOf (.ld 6 0 0 0x42 0) = some 4 := by decide +kernel
theorem test_refuses_request_type : subOf (.ld 2 0 5 0x42 4) = some 3 := by decide +kernel
theorem test_refuses_unaligned_group : subOf (.ld 4 0 0 0x42 6) = some 6 := by decide +kernel
theorem test_refuses_no_observer : subOf (.ldaq 2 0 0 0x42 4) = some 10 := by decide +kernel
theorem test_refuses_shift_count : subOf (.vlogiShl 32 0 3) = some 7 := by decide +kernel
theorem test_refuses_long_point_block : subOf (.geoInsphere 0 0 0 50 0 3) = some 8 := by decide +kernel
theorem test_refuses_odd_fp64_block : subOf (.geoOrient2 0 0 1 21 0 3) = some 6 := by decide +kernel
theorem test_refuses_key_without_sym : subOf (.geoOrient2 0 1 0 8 0 3) = some 7 := by decide +kernel
theorem test_refuses_vector_control_word : subOf (.lst 4 2 4) = some 2 := by decide +kernel
theorem test_refuses_buffer_above_15 : subOf (.mma 0 0 0 16 0 0 0) = some 7 := by decide +kernel
theorem test_refuses_odd_scratchpad_operand : subOf (.mma 0 0 0 3 0 1 0) = some 6 := by decide +kernel
theorem test_refuses_csr_number : subOf (.csrr 0 3 4) = some 7 := by decide +kernel
theorem test_refuses_register_number : subOf (.amov 0x42 0) = some 7 := by decide +kernel
theorem test_refuses_special_as_record : subOf (.lnch 4 0x64 4) = some 2 := by decide +kernel
theorem test_refuses_broadcast_b : subOf (.evtSig 0x44 2 0) = some 2 := by decide +kernel
theorem test_refuses_vector_b : subOf (.qenq 4 2) = some 2 := by decide +kernel
theorem test_refuses_zero_halfword : WellFormed (.mov 0 0) = false := by decide +kernel

/-! ## Words (R131 to R145) -/

/-- Words of the example lines of spec/11, 12 and 13. -/
theorem test_words_of_register_forms :
    [decodeTableWord 32 0x10A10191, decodeTableWord 32 0x0C800083, decodeTableWord 32 0x2880809B, decodeTableWord 32 0x40048029,
      decodeTableWord 32 0x02190113, decodeTableWord 32 0x5019419F, decodeTableWord 32 0x7000421D, decodeTableWord 32 0x828304C3,
      decodeTableWord 32 0x20604135, decodeTableWord 32 0x6020C13D, decodeTableWord 32 0x85150149] =
    [some (.valuSub 5 4 0 3), some (.saddi 100 0 1), some (.vcmpLt 0x44 2 1), some (.ctrlTrap 0 0x12),
      some (.vaddi 16 0x64 0 2), some (.xchRadd 0x65 0 3), some (.predBallot 1 0 4), some (.qcvtE4m3n 1 20 3 0 0 9),
      some (.fcmpLt 3 1 2), some (.fcvtS32F32 1 3 0 2), some (.geoOrient2 1 40 1 20 0 2)] := by decide +kernel
theorem test_words_of_memory_forms :
    [decodeTableWord 32 0x6010824D, decodeTableWord 32 0x9020844F, decodeTableWord 32 0x4300835F, decodeTableWord 32 0x108088E3,
      decodeTableWord 32 0x08608267, decodeTableWord 32 0x4C808367, decodeTableWord 32 0x6101C0E5] =
    [some (.ld 3 0 0 0x42 4), some (.st 4 0x10 1 2 8), some (.amoxCas 3 0 2 6), some (.cwb 4 2 0x11), some (.spadLd32 0x43 2 4),
      some (.spadSt64 0x64 2 6), some (.rhset 8 7 1)] := by decide +kernel
theorem test_call_at_0x1000 : decodeTableWord 32 0x00020023 = some (.call 0x40) := by decide +kernel

/-- What a word that is no instruction takes (R144, R145). -/
noncomputable def rejects (n w : Nat) : Option (Nat × Nat) :=
  match (decodeBytes false (natLE n w)).2.2 with | .ok _ => none | .error r => some (r.cause, r.sub)
theorem test_zero_halfword_is_no_instruction : rejects 2 0 = some (1, 2) ∧ rejects 4 0xFFFFFFFF = some (1, 1) := by decide +kernel
theorem test_reserved_lane_source_word : rejects 4 (0x10A10191 + 0x69 * 2 ^ 21) = some (2, 2) := by decide +kernel
/-- LDAQ with the reserved request type 5 and no observer: sub-causes 3 and 10, of which the lowest counts. -/
theorem test_lowest_sub_cause_counts : rejects 4 0x40B08259 = some (2, 3) := by decide +kernel

/-- The encoder writes the words of the spec's lines. -/
theorem test_encode_sub : encode (.valuSub 5 4 0 3) = 0x10A10191 := by decide +kernel
theorem test_encode_ld : encode (.ld 3 0 0 0x42 4) = 0x6010824D := by decide +kernel

/-! ## Integer results -/

/-- One thread of the issue, with some vector registers. -/
def cur1 : Cur := { cur with group := 1, taking := 1 }
def one (v : List (Nat × Word)) : State := { fixWith (withThreads fun th => { th with v := v }) with cur := some cur1 }

theorem test_sub_wraps : vAfter (.valuSub 2 1 0 3) (one [(2, 1)]) 0 3 = some 0xFFFFFFFF := by decide +kernel
theorem test_shift_by_32_is_by_0 : vAfter (.valuShl 2 1 0 3) (one [(1, 5), (2, 32)]) 0 3 = some 5 := by decide +kernel
theorem test_sra_keeps_sign : vAfter (.valuSra 2 1 0 3) (one [(1, 0x80000000), (2, 31)]) 0 3 = some 0xFFFFFFFF := by
  decide +kernel
theorem test_div_by_zero : vAfter (.valuDiv 2 1 0 3) (one [(1, 5)]) 0 3 = some 0xFFFFFFFF := by decide +kernel
theorem test_rem_by_zero : vAfter (.valuRem 2 1 0 3) (one [(1, 5)]) 0 3 = some 5 := by decide +kernel
theorem test_div_truncates : vAfter (.valuDiv 2 1 0 3) (one [(1, 0xFFFFFFF9), (2, 2)]) 0 3 = some 0xFFFFFFFD := by decide +kernel
theorem test_vaddi_negative : vAfter (.vaddi 0x7FF 0x64 0 3) (one []) 0 3 = some 0xFFFFFFFF := by decide +kernel
theorem test_source_is_destination : vAfter (.valuAdd 1 1 0 1) (one [(1, 7)]) 0 1 = some 14 := by decide +kernel
theorem test_nw_keeps_register : vAfter (.valuAdd 1 1 1 1) (one [(1, 7)]) 0 1 = some 7 := by decide +kernel
theorem test_other_thread_keeps_register : vAfter (.valuAdd 1 1 0 1) (one [(1, 7)]) 1 1 = some 7 := by decide +kernel
theorem test_slih : sAfter (.slih 0x2ABCD 4) fix 4 = some 0xAAF34000 := by decide +kernel
theorem test_saddi : sAfter (.saddi 100 0x44 1) fix 1 = some 105 := by decide +kernel
theorem test_compare_is_signed : pAfter (.vcmpLt 2 1 1) (one [(1, 0xFFFFFFFF)]) 0 1 = some true := by decide +kernel
theorem test_compare_unsigned : pAfter (.vcmpLtn 2 1 1) (one [(1, 0xFFFFFFFF)]) 0 1 = some false := by decide +kernel

/-! ## Votes and reductions (spec/11, spec/05) -/

/-- Sixteen threads take part. -/
def half (v : Nat → List (Nat × Word)) : State :=
  { fixWith { warp with threads := (List.range 32).map fun t => { thread with v := v t } } with
    cur := some { cur with group := 0xFFFFFFFF, taking := 0xFFFF } }

theorem test_radd_of_thread_indices : vAfter (.xchRadd 0x65 0 3) (half fun _ => []) 15 3 = some 120 := by decide +kernel
theorem test_radd_leaves_others : vAfter (.xchRadd 0x65 0 3) (half fun _ => [(3, 9)]) 16 3 = some 9 := by decide +kernel
theorem test_ballot : vAfter (.predBallot 15 0 4) (half fun _ => []) 0 4 = some 0x0000FFFF := by decide +kernel
/-- Four threads: the placement decides the sum (spec/05). -/
def four (v : List Word) : State :=
  { fixWith { warp with threads := (List.range 32).map fun t => { thread with v := [(1, v.getD t 0)] } } with
    cur := some { cur with group := 0xF, taking := 0xF } }
theorem test_placement_1 : vAfter (.xchRfadd 1 0 3) (four [0x4B800000, 0x3F800000, 0x3F800000, 0]) 0 3 = some 0x4B800000 := by
  decide +kernel
theorem test_placement_2 : vAfter (.xchRfadd 1 0 3) (four [0x4B800000, 0x3F800000, 0, 0x3F800000]) 0 3 = some 0x4B800001 := by
  decide +kernel

/-! ## Floating point and narrow formats (spec/05, spec/12) -/

/-- A result and its flags: NV 16, DZ 8, OF 4, UF 2, NX 1. -/
def shown (r : Rounded) : Nat × Nat := (r.1, r.2.bits.toNat)
theorem test_f16_overflow_rne : shown (convert fp32 fp16 .rne 0x477FF000) = (0x7C00, 5) := by decide +kernel
theorem test_f16_overflow_rtz : shown (convert fp32 fp16 .rtz 0x477FF000) = (0x7BFF, 1) := by decide +kernel
theorem test_s32_of_3e9 : shown (fp32.toInteger true 32 .rne 0x4F32D05E) = (0x7FFFFFFF, 16) := by decide +kernel
theorem test_s32_of_minus_2_5_rdn : shown (fp32.toInteger true 32 .rdn 0xC0200000) = (0xFFFFFFFD, 1) := by decide +kernel
theorem test_n32_of_minus_half_rtz : shown (fp32.toInteger false 32 .rtz 0xBF000000) = (0, 1) := by decide +kernel
theorem test_n32_of_minus_0_7_rne : shown (fp32.toInteger false 32 .rne 0xBF333333) = (0, 16) := by decide +kernel
theorem test_f32_of_16777217 : shown (fp32.ofInteger true 32 .rne 16777217) = (0x4B800000, 1) := by decide +kernel
theorem test_fma_rounds_once : shown (fp32.fma false false false .rne 0x3F800001 0x3F800001 0xBF800002) = (0x28800000, 0) := by
  decide +kernel
/-- Rows of spec/05: scale 1.0, without and with `.sat`. -/
theorem test_e4m3n_tie : shown (Narrow.e4m3n.quantise .rne false 0x3F880000 0x3F800000) = (0x40, 1) := by decide +kernel
theorem test_e4m3n_248 : shown (Narrow.e4m3n.quantise .rne false 0x43780000 0x3F800000) = (0x80, 5) := by decide +kernel
theorem test_e4m3n_248_sat : shown (Narrow.e4m3n.quantise .rne true 0x43780000 0x3F800000) = (0x7F, 5) := by decide +kernel
theorem test_e4m3n_tiny : shown (Narrow.e4m3n.quantise .rne false 0x3A000000 0x3F800000) = (0x00, 3) := by decide +kernel
theorem test_dm8_tie_to_even : shown (Narrow.dm8.quantise .rne false 0x3F9B0000 0x3F800000) = (0x42, 1) := by decide +kernel
theorem test_dm8_overflow : shown (Narrow.dm8.quantise .rne false 0x411EE000 0x3F800000) = (0x80, 5) := by decide +kernel
/-- The example of R212: `qcvt.e4m3n.sat v9, v12:v15, v20`, then `qdec`. -/
def quantum : State := one [(12, 0x3F800000), (13, 0xC0400000), (14, 0x43FA0000), (15, 0x3B000000), (20, 0x40000000)]
theorem test_qcvt : vAfter (.qcvtE4m3n 1 20 3 0 0 9) quantum 0 9 = some 0x017FC438 := by decide +kernel
theorem test_qcvt_flags : ((after (.qcvtE4m3n 1 20 3 0 0 9) quantum).bind fun s => s.warp 0).map Warp.fflags = some 5 := by
  decide +kernel
theorem test_qdec : vAfter (.qdecE4m3nF32 20 9 0 16) (one [(9, 0x017FC438), (20, 0x40000000)]) 0 18 = some 0x43F00000 := by
  decide +kernel
/-- The example of R216. -/
theorem test_comp8 : vAfter (.cmprComp8 12 0 10) (one [(12, 0x4880C840), (13, 0x01000000)]) 0 10 = some 0x010080C8 := by
  decide +kernel
theorem test_meta8 : vAfter (.cmprMeta8 12 0 11) (one [(12, 0x4880C840), (13, 0x01000000)]) 0 11 = some 0xC9000000 := by
  decide +kernel
theorem test_exp8 : vAfter (.cmprExp8 11 10 0 14) (one [(10, 0x010080C8), (11, 0xC9)]) 0 14 = some 0x0080C800 := by decide +kernel
/-- The matrix step of spec/05: 5, neither 6 nor 1. -/
def matrixOperand (data : Memory) : Operand :=
  { spad := [], core := { Core.init with bufs := [(0, { Buf.init with data := data, full := true, fmt := 2 })] }, crew := crew,
    buf := 0, pad := none }
theorem test_matrix_step :
    let a := [0x4580, 0x3F80, 0x3F80, 0x3F80, 0x3F80, 0, 0, 0, 0x3F80, 0, 0, 0, 0, 0, 0, 0, 0xC580, 0, 0, 0, 0, 0, 0, 0, 0x3F80]
    let b := [0x4580, 0x3F80, 0x3F80, 0x3F80, 0x3F80, 0, 0, 0, 0x3F80, 0, 0, 0, 0, 0, 0, 0, 0x4580, 0, 0, 0, 0, 0, 0, 0, 0x3F80]
    let rows := (List.range 25).foldl (fun m k => memPut m (64 * k) (natBytes 2 (b.getD k 0))) []
    stepElement false false true (matrixOperand (memPut [] 0 (a.flatMap fun x => natBytes 2 x))) (matrixOperand rows) 0 0 0 =
      0x40A00000 := by decide +kernel

/-! ## Geometry (spec/12, spec/26) -/

def circle (key : Word) : State :=
  one [(8, 0x3F800000), (11, 0x3F800000), (12, 0xBF800000), (15, 0xBF800000), (40, key)]
theorem test_incircle : vAfter (.geoIncircle 0 0 0 8 0 1) (circle 0) 0 1 = some 0 := by decide +kernel
theorem test_incircle_sym_inside : vAfter (.geoIncircle 1 40 0 8 0 1) (circle 0x3210) 0 1 = some 1 := by decide +kernel
theorem test_incircle_sym_outside : vAfter (.geoIncircle 1 40 0 8 0 1) (circle 0x0123) 0 1 = some 0xFFFFFFFF := by
  decide +kernel
/-- (0.5, 0.5), (12, 12), (24, 24) and with 24 + 2^−19. -/
def line (y : Word) : State :=
  one [(8, 0x3F000000), (9, 0x3F000000), (10, 0x41400000), (11, 0x41400000), (12, 0x41C00000), (13, y), (40, 0x210)]
theorem test_orient2_collinear : vAfter (.geoOrient2 0 0 0 8 0 1) (line 0x41C00000) 0 1 = some 0 := by decide +kernel
theorem test_orient2_sym : vAfter (.geoOrient2 1 40 0 8 0 1) (line 0x41C00000) 0 1 = some 0xFFFFFFFF := by decide +kernel
theorem test_orient2_exact : vAfter (.geoOrient2 0 0 0 8 0 1) (line 0x41C00001) 0 1 = some 1 := by decide +kernel

/-! ## Control -/

theorem test_call_link : vAfter (.call 0x40) fix 0 62 = some 0x10004 ∧ pcAfter (.call 0x40) fix 0 = some 0x10080 := by
  decide +kernel
theorem test_branch_back : pcAfter (.br 0x1FFFE0 1 7) fix 0 = some 0xFFC0 := by decide +kernel
theorem test_guard_masks : ((after (.guard 0 1) fix).bind State.cur).map Cur.taking = some 0 := by decide +kernel
/-- Threads 4 to 7 break out of three loops (spec/03). -/
theorem test_three_loops :
    let w := { warp with bars := [(0, { m := 0xFFFFFFFF, z := 0, expiry := [] }), (1, { m := 0xFFFFFFFF, z := 0xFFFF0000, expiry := [] }),
                                  (2, { m := 0x0000FFFF, z := 0x0000FF00, expiry := [] })] }
    let s := { fixWith w with cur := some { cur with group := 0xF0, taking := 0xF0 } }
    ((after (.cvbDrop 0 7 0) s).bind fun s => s.warp 0).map (fun w => (w.bars.map fun b => (b.1, b.2.m, b.2.z))) =
      some [(0, 0xFFFFFF0F, 0), (1, 0xFFFFFF0F, 0xFFFF0000), (2, 0x0000FF0F, 0x0000FF00)] := by decide +kernel
/-- `trap 0x12` parks its threads at the next PC with sub-cause 0x12. -/
theorem test_trap_parks : (((after (.ctrlTrap 0 0x12) fix).bind fun s => s.warp 0).map fun w =>
    (w.subs.map fun x => (x.mask, x.cause, x.sub, x.pc), (w.thread 0).status)) =
      some ([(0x3, 0x10, 0x12, 0x10004)], .parked) := by decide +kernel
/-- Its handler runs at `trapvec` in supervisor mode, with the frame at the slot: cause, sub-cause and PC (R329). -/
theorem test_trap_entry :
    let s := ((after (.ctrlTrap 0 0x12) { fix with cur := some { cur with taking := 0xF, group := 0xF } }).getD fix)
    let quiet := s.onWarp 0 fun w => { w with threads := w.threads.take 4 ++ List.replicate 28 { thread with status := .finished } }
    let t := (after (.trapEntry 0) quiet).getD fix
    (t.warp 0).map (fun w => ((w.thread 0).pc, (w.thread 0).handler, (w.thread 0).sup, w.sreg 31)) = some (0x20000, .trap, true, 0) ∧
    bytesNat (memBytes t.mem 0x30000 4) = 0x10 ∧ bytesNat (memBytes t.mem 0x30004 4) = 0x12 ∧
    bytesNat (memBytes t.mem 0x30018 8) = 0x10004 := by decide +kernel

/-! ## Memory -/

/-- Stored words are read back, the lowest byte first. -/
theorem test_store_bytes : ((after (.st 2 0 0 0x40 1) { fixWith (withThreads fun th => { th with v := [(1, 0x11223344)] }) with
    cur := some cur1 }).map fun s => memBytes s.mem 0x20000 5) = some [0x44, 0x33, 0x22, 0x11, 0] := by decide +kernel
theorem test_load_zero_extends : vAfter (.ld 0 0 0 0x40 3) { fix with mem := memPut fix.mem 0x20000 [0xFF, 0xFF] } 0 3 =
    some 0xFF := by decide +kernel
theorem test_unaligned_store_parks : (((after (.st 2 0 0 0x40 1) { fixWith { warp with s := [(0, 0x20002)] } with
    cur := some cur1 }).bind fun s => s.warp 0).map fun w => w.subs.map fun x => (x.cause, x.sub, x.addr)) =
      some [(4, 4, 0x20002)] := by decide +kernel
/-- `amo32.add` of 1 in thirty-two threads (R231): old values 0 to 31, and the word holds 32. -/
def all : State :=
  { fixWith (withThreads fun th => { th with v := [(5, 1)] }) with cur := some { cur with group := 0xFFFFFFFF, taking := 0xFFFFFFFF } }
theorem test_amo_add : vAfter (.amo32Add 1 0 0x40 5) all 31 5 = some 31 ∧
    ((after (.amo32Add 1 0 0x40 5) all).map fun s => bytesNat (memBytes s.mem 0x20000 4)) = some 32 := by decide +kernel
/-- Four tiles of an empty spiral, touched in ascending thread order: distances 3, 2, 1, 0 (R242). -/
def tiles : State :=
  { fixWith { warp with threads := (List.range 32).map fun t => { thread with v := [(2, BitVec.ofNat 32 (0x20000 + 2048 * t))] } } with
    cur := some { cur with group := 0xF, taking := 0xF } }
theorem test_touch_then_dist :
    let s := ((after (.touch 0x64 2 0 9) tiles).getD tiles)
    let t := { s with cur := tiles.cur }
    [0, 1, 2, 3].map (vAfter (.dist 2 0 10) t · 10) = [some 3, some 2, some 1, some 0] := by decide +kernel
/-- Joins of lattice types 0, 2 and 3 (R72). -/
theorem test_joins : join 0 3 5 = 5 ∧ join 2 3 5 = 3 ∧ join 3 3 5 = 7 := by decide +kernel
theorem test_lst_joins :
    let s := { latFix with warps := [(0, { warp with threads := List.replicate 32 { thread with v := [(4, 5)] } })], cur := some cur1 }
    ((after (.lst 0x44 0x40 4) s).map fun t => t.replica 0x20000 0) = some 5 := by decide +kernel
theorem test_scratchpad_byte_order :
    ((after (.spadSt64 0x64 0x45 4) { fix with cur := some cur1 }).map fun s => memBytes s.spad 64 8) =
      some [0, 0, 0x80, 0x3F, 0, 0, 0, 0xC0] := by decide +kernel

/-! ## The machine -/

/-- The memory of reset is canonical, and a store of zero lists nothing. -/
theorem test_reset_memory : Memory.wf State.reset.mem = true ∧ memPut [(5, 1)] 5 [0] = [] := by decide +kernel
/-- A placed instruction is fetched and run by the next step. -/
theorem test_step_runs_placed_word :
    (match step (State.reset.withFetchWord 32 0x0C800083) with
      | .next s => (s.warp 0).map fun w => (w.sreg 1, (w.thread 0).pc)
      | _ => none) = some (100, 0x10004) := by decide +kernel

/-! ## Signatures (R387) -/

/-- The digest of "abc" that FIPS 180-4's example gives. -/
theorem test_sha384 : bigNat (sha384 [0x61, 0x62, 0x63]) =
    0xcb00753f45a35e8bb5a03d699ac65007272c32ab0eded1631a8b605a43ff5bed8086072ba1e7cc2358baeca134c825a7 := by decide +kernel

/-- The base point lies on the curve and has the order that FIPS 186-5 gives for P-384. -/
theorem test_curve_order : onCurve curveG = true ∧ mulPoint 384 curveN (some curveG) = none := by decide +kernel

end Sys2Proof.Tests
end

