-- ==== Sys2Proof/Tests/Witnesses.lean ====
section
/-! SUPPORT. For every statement with hypotheses, a state and operands that meet them together: boundary registers and
values where a clause has a range. The statements are those of Certificates/Slice0/Obligations.lean. -/
namespace Sys2Proof.Tests
open Sys2Proof Sys2Proof.Machine
set_option Elab.async false

/-! ## Lane and uniform instructions on registers -/

theorem witness_IntegerAluResults : Issuing fix cur warp ∧ Clear cur warp (uses2 2 1 63 1 1) ∧ Readable fix cur warp [1, 2] ∧
    Clear cur warp (uniUses2 0x5F 0x40 31 1 1) := by
  simp only [Issuing, Clear, Readable]; and_intros <;> decide +kernel

theorem witness_AddImmediateResults : Issuing fix cur warp ∧ Clear cur warp (uses1 0x63 0 1 1) ∧ Readable fix cur warp [0x63] ∧
    Clear cur warp (uniUses1 0x64 0 1 1) := by
  simp only [Issuing, Clear, Readable]; and_intros <;> decide +kernel

theorem witness_MiscLaneResults : Issuing fix cur warp ∧ Clear cur warp (uses2 0x6D 63 0 1 1) ∧ Readable fix cur warp [63, 0x6D] ∧
    Clear cur warp (uses1 0x60 63 1 1) ∧ Readable fix cur warp [0x60] ∧ Clear cur warp (useV 63 1) := by
  simp only [Issuing, Clear, Readable]; and_intros <;> decide +kernel

theorem witness_WideLaneResults : Issuing fix cur warp ∧ Clear cur warp (uses2 0x60 62 62 2 2) ∧
    Readable64 fix cur warp false [62, 0x60] ∧ Clear cur warp (uses2 2 1 63 1 1) ∧ Clear cur warp (uses2 2 1 62 1 2) ∧
    Readable fix cur warp [1, 2] := by
  simp only [Issuing, Clear, Readable, Readable64]; and_intros <;> decide +kernel

theorem witness_ShortFormResults : Issuing fix cur warp ∧
    Clear cur warp (uses2 (shortCode 27) ((63 : BitVec 6).setWidth 7) 63 1 1) ∧ Readable fix cur warp [shortCode 27] ∧
    Clear cur warp (uses2 0x64 (shortCode 28) 0 1 1) ∧ Readable fix cur warp [shortCode 28] ∧
    Clear cur warp (uses2 0x60 (shortCode 31) 0 1 1) ∧ Readable fix cur warp [shortCode 31, 0x60] := by
  simp only [Issuing, Clear, Readable]; and_intros <;> decide +kernel

theorem witness_CompareResults : Issuing fix cur warp ∧ Clear cur warp ((useSrc 63 1).and (useSrc 0x5F 1)) ∧
    Readable fix cur warp [63, 0x5F] ∧ Clear cur warp ((useSrc 62 2).and (useSrc 0x5E 2)) ∧
    Readable64 fix cur warp false [62, 0x5E] ∧ Readable64 fix cur warp true [62, 0x5E] ∧ FullService fix warp := by
  simp only [Issuing, Clear, Readable, Readable64, FullService]; and_intros <;> decide +kernel

theorem witness_FloatLaneResults : Issuing fix cur warp ∧ Clear cur warp (uses2 4 5 6 1 1) ∧ Readable fix cur warp [5, 4] ∧
    FullService fix warp := by
  simp only [Issuing, Clear, Readable, FullService]; and_intros <;> decide +kernel

theorem witness_DoubleLaneResults : Issuing fix cur warp ∧ Clear cur warp (uses2 4 0x62 62 2 2) ∧
    Readable64 fix cur warp true [0x62, 4] ∧ Clear cur warp (uses1 4 62 2 2) ∧ Readable64 fix cur warp true [4] ∧
    Clear cur warp ((useSrc 4 2).and ((useSrc 2 1).and (useV 62 2))) ∧ Readable fix cur warp [2] ∧ FullService fix warp := by
  simp only [Issuing, Clear, Readable, Readable64, FullService]; and_intros <;> decide +kernel

theorem witness_SpecialFunctionResults : Issuing fix cur warp ∧ Clear cur warp (uses1 4 63 1 1) ∧ Readable fix cur warp [4] := by
  simp only [Issuing, Clear, Readable]; and_intros <;> decide +kernel

theorem witness_ConversionResults : Issuing fix cur warp ∧ Clear cur warp (uses1 4 63 1 1) ∧ Clear cur warp (uses1 4 62 1 2) ∧
    Readable fix cur warp [4] ∧ Clear cur warp (uses1 4 63 2 1) ∧ Clear cur warp (uses1 4 62 2 2) ∧
    Readable64 fix cur warp true [4] ∧ Readable64 fix cur warp false [4] ∧ FullService fix warp := by
  simp only [Issuing, Clear, Readable, Readable64, FullService]; and_intros <;> decide +kernel

theorem witness_NarrowFormatResults : Issuing fix cur warp ∧
    Clear cur warp ((useSrc 4 1).and ((useV (4 * (15 : BitVec 4).toNat) 4).and (useV 63 1))) ∧ Readable fix cur warp [4] ∧
    Clear cur warp (uses2 4 5 60 1 4) ∧ Readable fix cur warp [5, 4] ∧ Clear cur warp (uses2 4 5 62 1 2) ∧
    FullService fix warp := by
  simp only [Issuing, Clear, Readable, FullService]; and_intros <;> decide +kernel

theorem witness_TwoOfFourResults : Issuing fix cur warp ∧ Clear cur warp (uses1 4 63 2 1) ∧ Readable64 fix cur warp false [4] ∧
    FullService fix warp ∧ Clear cur warp (uses2 4 5 62 1 2) ∧ Readable fix cur warp [5, 4] := by
  simp only [Issuing, Clear, Readable, Readable64, FullService]; and_intros <;> decide +kernel

theorem witness_GeometricResults : Issuing fix cur warp ∧ Clear cur warp (geoUses 1 2 0 49 6 15) ∧ Readable fix cur warp [2] ∧
    FiniteCoordinates cur warp 0 49 15 ∧ Clear cur warp (geoUses 0 0 1 34 6 15) ∧ FiniteCoordinates cur warp 1 34 15 ∧ FullService fix warp ∧
    Clear cur warp (geoUses 0 0 1 48 63 8) ∧ FiniteCoordinates cur warp 1 48 8 := by
  simp only [Issuing, Clear, Readable, FullService, FiniteCoordinates]; and_intros <;> decide +kernel

theorem witness_VoteAndExchangeResults : Issuing fix cur warp ∧ Clear cur warp Uses.none ∧ Clear cur warp (useV 63 1) ∧
    Clear cur warp (useSrc 63 1) ∧ Readable fix cur warp [63] ∧ Clear cur warp (uses2 2 1 63 1 1) ∧
    Readable fix cur warp [1, 2] ∧ Clear cur warp (uses1 1 63 1 1) ∧ Readable fix cur warp [1] := by
  simp only [Issuing, Clear, Readable]; and_intros <;> decide +kernel

theorem witness_ReductionResults : Issuing fix cur warp ∧ Clear cur warp (uses1 4 63 1 1) ∧ Readable fix cur warp [4] := by
  simp only [Issuing, Clear, Readable]; and_intros <;> decide +kernel

theorem witness_UniformResults : Issuing fix cur warp ∧ Clear cur warp (uniUses2 0x5F 0x40 31 1 1) ∧
    Clear cur warp (uniUses1 0x44 31 1 1) ∧ Clear cur warp ((useS 31 1).and (useD 31 1)) ∧ Clear cur warp (useD 31 1) ∧
    Clear cur warp (uniUses2 0x5E 0x40 30 2 2) ∧
    Clear cur warp ((useUni 0x44 1).and ((useUni 0x45 1).and ((useS 31 1).and (useD 31 1)))) ∧
    Clear cur warp ((useUni 0x44 1).and ((useUni 0x45 1).and ((useS 30 2).and (useD 30 2)))) ∧ Clear cur warp (useD 30 2) := by
  simp only [Issuing, Clear]; and_intros <;> decide +kernel

/-! ## Control -/

/-- A warp whose s0:s1 is odd. -/
def oddWarp : Warp := { warp with s := [(0, 0x20001)] }

theorem witness_BranchResults : Issuing fix cur warp ∧ Clear cur warp (useV 62 2) ∧ Clear cur warp (useSrc 0x40 2) ∧
    Clear cur warp ((useSrc 0x40 2).and (useV 62 2)) ∧ cur.held = none ∧
    (threadsOf cur.taking).filter (fun t => (fix.val64 cur warp false t 0x40).getLsbD 0) = [] ∧
    Issuing (fixWith oddWarp) cur oddWarp ∧ Clear cur oddWarp (useSrc 0x40 2) ∧ Clear cur oddWarp ((useSrc 0x40 2).and (useV 62 2)) ∧
    (threadsOf cur.taking).filter (fun t => ((fixWith oddWarp).val64 cur oddWarp false t 0x40).getLsbD 0) = [0, 1] := by
  simp only [Issuing, Clear]; and_intros <;> decide +kernel

theorem witness_ControlResults : Issuing fix cur warp ∧ Clear cur warp Uses.none ∧ Clear cur warp (useUni 0x44 1) ∧
    Clear cur warp (useUni 0x64 1) ∧ cur.held = none ∧ fix.uval cur warp 0x44 = 5 ∧ fix.uval cur warp 0x64 = 0 := by
  simp only [Issuing, Clear]; and_intros <;> decide +kernel

/-- Barriers 0 and 15 that a drop of thread 1 completes, barrier 14 that waits for thread 2, and barrier 1 that it does not name;
thread 0 waits at 15. -/
theorem witness_ControlContents :
    let b := fun (m z : Word) => ({ m := m, z := z, expiry := [(1, 9)] } : Barrier)
    let w := { warp with bars := [(0, b 2 0), (1, b 3 0), (14, b 7 1), (15, b 3 1)],
                         threads := warp.threads.set 0 { thread with status := .converge 15 7 0x10004 } }
    (w.bar 14).m &&& ~~~(w.bar 14).z ≠ 0 ∧ (w.bar 2).m &&& ~~~(w.bar 2).z = 0 ∧
    (∀ n ∈ [0, 15], (0xC001 : BitVec 16).getLsbD n = true ∧ ((w.bar n).m &&& ~~~2) &&& ~~~((w.bar n).z &&& ~~~2) = 0) ∧
    (0xC001 : BitVec 16).getLsbD 14 = true ∧ ((w.bar 14).m &&& ~~~2) &&& ~~~((w.bar 14).z &&& ~~~2) ≠ 0 ∧
    (0xC001 : BitVec 16).getLsbD 1 = false ∧ (w.thread 0).status = .converge 15 7 0x10004 ∧
    inMask ((w.bar 15).z &&& ~~~2) 0 = true ∧ (w.thread 31).status = .ready ∧ fix.warp 0 = some warp ∧
    fix.launchOf warp = some (0, Launch.placed) := by
  and_intros <;> decide +kernel

/-- Trap code 255 is enabled in the kernel of the fixture; `brk` is too. -/
theorem witness_TrapFormResults : Issuing fix cur warp ∧ Clear cur warp Uses.none ∧
    fix.launchOf warp = some (0, Launch.placed) ∧ cur.taking &&& ~~~cur.group = 0 ∧ lowestOf cur.taking = some 0 ∧
    (warp.thread 0).handler = .none ∧ Launch.placed.aborted = false := by
  simp only [Issuing, Clear]; and_intros <;> decide +kernel

/-! ## Memory -/

/-- Each form of load: sizes 1 to 32 bytes, groups up to their last register, both orders, the offset forms with their
smallest and largest offsets. -/
theorem witness_LoadResults : Issuing fix cur warp ∧ Clear cur warp (useSrc 0x40 2) ∧
    Clear cur warp (useV (63 : BitVec 6).toNat (groupSize (2 ^ (0 : BitVec 3).toNat))) ∧
    (turns cur (loadTurn cur 0 .weak 0 0x40 63 (2 ^ (0 : BitVec 3).toNat) 0) (threadsOf cur.taking) (fix.switched.passed cur)).isSome = true ∧
    Clear cur warp (useV (56 : BitVec 6).toNat (groupSize (2 ^ (5 : BitVec 3).toNat))) ∧
    (turns cur (loadTurn cur 0 .weak 0 0x40 56 (2 ^ (5 : BitVec 3).toNat) 0) (threadsOf cur.taking) (fix.switched.passed cur)).isSome = true ∧
    (turns cur (loadTurn cur 0 .acquire 31 0x40 62 (2 ^ (3 : BitVec 2).toNat) 0) (threadsOf cur.taking) (fix.switched.passed cur)).isSome = true ∧
    Clear cur warp (useV (63 : BitVec 6).toNat 1) ∧ Clear cur warp (useV (62 : BitVec 6).toNat 2) ∧
    (turns cur (loadTurn cur 0 .weak 0 0x40 63 4 (4 * (-1024 : BitVec 11).signExtend 64)) (threadsOf cur.taking) (fix.switched.passed cur)).isSome = true ∧
    (turns cur (loadTurn cur 0 .weak 0 0x40 62 8 (8 * (1023 : BitVec 11).signExtend 64)) (threadsOf cur.taking) (fix.switched.passed cur)).isSome = true := by
  simp only [Issuing, Clear]; and_intros <;> decide +kernel

theorem witness_StoreResults : Issuing fix cur warp ∧ Clear cur warp (useSrc 0x40 2) ∧
    Clear cur warp (useV (63 : BitVec 6).toNat (groupSize (2 ^ (0 : BitVec 3).toNat))) ∧
    (turns cur (storeTurn cur 0 .weak 0 0x40 63 (2 ^ (0 : BitVec 3).toNat) 0) (threadsOf cur.taking) (fix.passed cur)).isSome = true ∧
    Clear cur warp (useV (56 : BitVec 6).toNat (groupSize (2 ^ (5 : BitVec 3).toNat))) ∧
    (turns cur (storeTurn cur 4 .strong 31 0x40 56 (2 ^ (5 : BitVec 3).toNat) 0) (threadsOf cur.taking) (fix.passed cur)).isSome = true ∧
    (turns cur (storeTurn cur 4 .release 31 0x40 62 (2 ^ (3 : BitVec 2).toNat) 0) (threadsOf cur.taking) (fix.passed cur)).isSome = true ∧
    Clear cur warp (useV (63 : BitVec 6).toNat 1) ∧ Clear cur warp (useV (62 : BitVec 6).toNat 2) ∧
    (turns cur (storeTurn cur 0 .weak 0 0x40 63 4 (4 * (-1024 : BitVec 11).signExtend 64)) (threadsOf cur.taking) (fix.passed cur)).isSome = true ∧
    (turns cur (storeTurn cur 0 .weak 0 0x40 62 8 (8 * (1023 : BitVec 11).signExtend 64)) (threadsOf cur.taking) (fix.passed cur)).isSome = true := by
  simp only [Issuing, Clear]; and_intros <;> decide +kernel

theorem witness_AtomicResults : Issuing fix cur warp ∧ Clear cur warp ((useSrc 0x40 2).and (useV (63 : BitVec 6).toNat 1)) ∧
    (turns cur (atomicTurn cur 0 0 0x40 63 4 fun th old => some ((lowWord old + th.vreg (63 : BitVec 6).toNat).setWidth 64))
      (threadsOf cur.taking) (fix.switched.passed cur)).isSome = true ∧
    Clear cur warp ((useSrc 0x40 2).and (useV (60 : BitVec 6).toNat 4)) ∧
    (turns cur (atomicTurn cur 31 0 0x40 60 8 fun th old => if old = th.vpair (60 : BitVec 6).toNat then
        some (th.vpair ((60 : BitVec 6).toNat + 2)) else none)
      (threadsOf cur.taking) (fix.switched.passed cur)).isSome = true := by
  simp only [Issuing, Clear]; and_intros <;> decide +kernel

/-- A threshold that the cell satisfies: the cell of an unwritten page is 0. A cell, one that is lost, and no cell. -/
theorem witness_LatticeFormResults : Issuing latFix cur warp ∧
    Clear cur warp ((useSrc 0x40 2).and ((useSrc 0x44 1).and (useV (62 : BitVec 6).toNat 2))) ∧
    (turns cur (joinTurn cur 0x44 0x40 62) (threadsOf cur.taking) (latFix.passed cur)).isSome = true ∧
    (turns cur (pollTurn cur 0x44 0x40 62 false) (threadsOf cur.taking) (latFix.switched.passed cur)).isSome = true ∧
    (turns cur (pollTurn cur 0x44 0x40 62 true) (threadsOf cur.taking) (latFix.switched.passed cur)).isSome = true ∧
    reached latFix 0x20000 8 needBoth = some (1, 0x20000, false) ∧ reached latFix 0x20000 8 needRead = some (1, 0x20000, false) ∧
    reached { latFix with repLost := [(8192, ())], latPages := [(32, 0)] } 0x20000 8 needBoth = some (1, 0x20000, true) ∧
    (let s := { latFix with repPoison := [(8 * 0x20007, ())], latPages := [(32, 0)] }
     (s.site who 0x20000 8 needBoth).result.map fun r => match r.2.2 with
       | .cells p _ a _ => (r.1.repDead p a who.stack, r.1.repMarked a who.stack 8) | _ => (true, false)) = some (false, true) ∧
    ((latFix.site who 0x20000 8 needRead).result.map fun r => r.1.repMarked 0x20000 who.stack 8) = some false ∧
    ((fix.site who 0x20000 8 needRead).result.map fun r => r.2.1.lat) = some none ∧
    ((fix.site who 0x20000 8 needBoth).result.map fun r => r.2.1.lat) = some none ∧ fix.warp cur.warp = some warp := by
  simp only [Issuing, Clear]; and_intros <;> decide +kernel

/-- A range of five bytes, a whole line, and an empty range. -/
theorem witness_MaintenanceResults : Issuing fix cur warp ∧ Clear cur warp Uses.none ∧
    Clear cur warp ((useSrc 0x40 2).and (useSrc 0x44 1)) ∧ Clear cur warp ((useSrc 0x40 2).and (useSrc 0x64 1)) ∧
    Clear cur warp ((useSrc 0x40 2).and (useSrc 0x46 1)) ∧
    ((threadsOf cur.taking).foldlM (rangeTurn cur warp 0x44 0x40 State.cinvRange) (fix.passed cur)).isSome = true ∧
    ((threadsOf cur.taking).foldlM (rangeTurn cur warp 0x46 0x40 State.discardRange) (fix.passed cur)).isSome = true ∧
    ((threadsOf cur.taking).foldlM (rangeTurn cur warp 0x44 0x40 (State.cwbRange 2)) (fix.passed cur)).isSome = true ∧
    ((threadsOf cur.taking).foldlM (rangeTurn cur warp 0x64 0x40 State.cinvRange) (fix.passed cur)).isSome = true ∧
    Clear cur warp (useSrc 0x40 2) ∧
    (turns cur (fun s w t => turn cur t (s.threadZero ((s.whoIs cur w t).as .strong 31) (s.addressOf cur w t 0x40)) (fun r => r.1) fun r th =>
      { th with view := r.2 }) (threadsOf cur.taking) (fix.passed cur)).isSome = true ∧
    reached fix 0x20000 128 needWrite = some (0, 0x20000, false) ∧ reached fix 0x20000 1 needWrite = some (0, 0x20000, false) ∧
    lineCount 0x20000 128 = 1 ∧ lineCount 0x2007F 1 = 1 ∧ firstLine 0x2007F = 0x20000 ∧
    ((fix.lineSite who needRead 0x20000).result.map fun r => match r.2.2 with | .dram _ _ a => a | _ => 0) = some 0x20000 ∧
    ((fix.site who 0x20000 1 needWrite).result.bind fun r =>
      (r.1.site who 0x20000 1 needWrite).result.map fun q => decide (q.2.1 = r.2.1)) = some true ∧
    ((fix.site who 0x20000 1 needWrite).result.map fun r => r.1.lostTarget r.2.2) = some false := by
  simp only [Issuing, Clear]; and_intros <;> decide +kernel

/-- Offset 64 of the crew's 8 KiB, for each size. -/
theorem witness_ScratchpadResults : Issuing fix cur warp ∧ Clear cur warp (uses2 0x64 0x45 63 1 1) ∧
    Clear cur warp (uses2 0x64 0x45 62 1 2) ∧ Clear cur warp (uses2 0x64 0x45 60 1 4) ∧
    (turns cur (padLoadTurn cur 0x64 0x45 63 4) (threadsOf cur.taking) (fix.switched.passed cur)).isSome = true ∧
    (turns cur (padLoadTurn cur 0x64 0x45 60 16) (threadsOf cur.taking) (fix.switched.passed cur)).isSome = true ∧
    (turns cur (padStoreTurn cur 0x64 0x45 62 8) (threadsOf cur.taking) (fix.passed cur)).isSome = true ∧
    (turns cur (padStoreTurn cur 0x64 0x45 60 16) (threadsOf cur.taking) (fix.passed cur)).isSome = true := by
  simp only [Issuing, Clear]; and_intros <;> decide +kernel

/-- Offsets 2, 8,190, 8,188 and 8,192 of 8 KiB: not a multiple, beyond the end, the last word, poison in it. -/
theorem witness_ScratchpadContents :
    let k := { Crew.placed with size := 8192 }
    2 % 4 ≠ 0 ∧ (8192 % 4 = 0 ∧ k.size < 8192 + 4) ∧ (8188 % 4 = 0 ∧ 8188 + 4 ≤ k.size) ∧
    fix.padLost (k.padAt 8188) 4 = false ∧ marked fix.spadPoison (k.padAt 8188) 4 = false ∧
    fix.padClocks (k.padAt 8188) 4 = [] ∧
    (let s := { fix with spadPoison := [(k.padAt 8191, ())] }
     s.padLost (k.padAt 8188) 4 = false ∧ marked s.spadPoison (k.padAt 8188) 4 = true) := by
  and_intros <;> decide +kernel

/-- A tile of the band: `pin` and `touch` of handle 64, `unpin` and `dist`. -/
theorem witness_SpiralFormResults : Issuing fix cur warp ∧
    Clear cur warp ((useSrc 0x45 1).and ((useSrc 0x40 2).and (useV (63 : BitVec 6).toNat 1))) ∧
    (turns cur (tileTurn cur 0x40 0 63 (some 0x45) fun s w r h =>
        if 255 < h then (s, 4) else match r.home with
          | none => (s, 3)
          | some (k, p, band, tile) =>
            let q := s.pinTile k p band tile h ((s.launchOf w).bind fun l => l.2.vf)
            (q.1, BitVec.ofNat 32 q.2))
      (threadsOf cur.taking) (fix.passed cur)).isSome = true ∧
    (turns cur (tileTurn cur 0x40 0 63 (some 0x45) fun s _ r h =>
        if 255 < h then (s, 4) else match r.home with
          | none => (s, 3)
          | some (_, p, band, tile) => (s.touch p band tile h, 0))
      (threadsOf cur.taking) (fix.passed cur)).isSome = true ∧
    Clear cur warp ((useSrc 0x40 2).and (useV (63 : BitVec 6).toNat 1)) ∧
    (turns cur (tileTurn cur 0x40 0 63 none fun s _ r _ => match r.home with
          | none => (s, 1)
          | some (_, p, band, tile) => ((s.unpinTile p band tile).1, BitVec.ofNat 32 (s.unpinTile p band tile).2))
      (threadsOf cur.taking) (fix.passed cur)).isSome = true ∧
    (turns cur (tileTurn cur 0x40 0 63 none fun s _ r _ => match r.home with
          | none => (s, if r.mapped then 0xA0000000 else 0x80000000)
          | some (_, _, band, tile) => (s, (Spiral.of s band).distWord tile))
      (threadsOf cur.taking) (fix.passed cur)).isSome = true := by
  simp only [Issuing, Clear]; and_intros <;> decide +kernel

/-- The tile that `pinnedSpiral` pins. -/
def pinnedTile : Tile := { tile := 7, handle := 0, dirty := false, owner := none }

/-- A spiral with `n` positions pinned, ring 7 and 8 reserved, in band 0. -/
def pinnedFix (n : Nat) : State :=
  { fix with spirals := [(0, { order := [], pinned := List.replicate n (3, pinnedTile), res := 2 })] }

theorem pinnedAt_replicate (n p t : Nat) (u : Tile) (h : u.tile ≠ t) : pinnedAt (List.replicate n (p, u)) t = none := by
  induction n with
  | zero => rfl
  | succ n ih => simp [List.replicate_succ, pinnedAt, h, ih]

theorem pinnedFix_room (n : Nat) : (∀ i, (Spiral.of (pinnedFix n) 0).position 8 ≠ some (i, true)) ∧
    (Spiral.of (pinnedFix n) 0).room = 16384 - n := by
  refine ⟨fun i => ?_, ?_⟩
  · simp [Spiral.of, pinnedFix, tfind, Spiral.position, pinnedAt_replicate n 3 8 pinnedTile (by decide), recencyOf]
  · simp [Spiral.of, pinnedFix, tfind, Spiral.room, Spiral.limit]

/-- A pinned tile, an absent one, a spiral with 1,024 positions left and one with more, and one at position 65,535. -/
theorem witness_SpiralContents :
    (Spiral.of (pinnedFix 1) 0).position 7 = some (3, true) ∧
    (∀ u ∈ (Spiral.of (pinnedFix 1) 0).order, u.tile ≠ 7) ∧ (∀ e ∈ (Spiral.of (pinnedFix 1) 0).pinned, e.2.tile = 7 → e.1 = 3) ∧
    ((∀ i, (Spiral.of (pinnedFix 15360) 0).position 8 ≠ some (i, true)) ∧ (Spiral.of (pinnedFix 15360) 0).room < 1025) ∧
    ((∀ i, (Spiral.of fix 0).position 8 ≠ some (i, true)) ∧ 1025 ≤ (Spiral.of fix 0).room ∧
      1 ≤ fix.freeOf { Partition.placed with cap := [(0, 1)] } 0) ∧
    ((Spiral.of fix 0).position 8 = none ∧ (1 : Nat) ≠ 0) ∧
    ({ order := [], pinned := [(65535, pinnedTile)], res := 0 } : Spiral).position 7 = some (65535, true) := by
  refine ⟨by decide, by decide, by decide, ⟨(pinnedFix_room 15360).1, ?_⟩, ⟨?_, by decide, by decide +kernel⟩, by decide, by decide⟩
  · rw [(pinnedFix_room 15360).2]; decide
  · have : (Spiral.of fix 0).position 8 = none := by decide
    simp [this]

/-- Handles 0, 5, 255 and 256; priorities 15 and 16. -/
theorem witness_HandleFormResults :
    let w := fun h x => { warp with s := [(4, h), (5, x)] }
    Issuing fix cur warp ∧ fix.partOfCore (fix.coreOf warp) = some (0, Partition.placed) ∧ Clear cur warp (uniUses1 0x44 31 1 1) ∧
    Clear cur warp (uniUses2 0x45 0x44 31 1 1) ∧
    (Issuing (fixWith (w 0 15)) cur (w 0 15) ∧ ((fixWith (w 0 15)).uarg cur (w 0 15) 0x44).toNat = 0 ∧
      ((fixWith (w 0 15)).uarg cur (w 0 15) 0x45).toNat = 15) ∧
    (Issuing (fixWith (w 255 16)) cur (w 255 16) ∧ ((fixWith (w 255 16)).uarg cur (w 255 16) 0x44).toNat = 255 ∧
      ((fixWith (w 255 16)).uarg cur (w 255 16) 0x45).toNat = 16) ∧
    Issuing (fixWith (w 256 0)) cur (w 256 0) ∧ ((fixWith (w 256 0)).uarg cur (w 256 0) 0x44).toNat = 256 := by
  simp only [Issuing, Clear]; and_intros <;> decide +kernel

/-! ## Engines -/

/-- An empty task table, and one with the last entry alone free. -/
theorem witness_SubmissionResults : (fix.core (fix.coreOf warp)).freeEntries ≠ [] ∧ fix.warp cur.warp = some warp ∧
    (let full : Core := { Core.init with entries := (List.range 63).map fun e => (e, { Entry.init with task := some task }) }
     ((withCore full).core ((withCore full).coreOf warp)).freeEntries = [63]) ∧
    (Command.col 6 [] [] 0).queue ≠ 1 ∧ (Command.col 6 [] [] 0).obs.testBit 1 = true ∧
    (let w := withThreads fun th => { th with fences := 2 }
     inMask cur.taking 0 = true ∧ (w.thread 0).fences.getLsbD 1 = true) := by
  and_intros <;> decide +kernel

theorem witness_TransferForms : Issuing engFix cur warp ∧ engFix.crewOf warp = some crew ∧
    Clear cur warp ((useS 31 1).and (useD 31 1)) ∧ Clear cur warp ((useS 8 2).and (useD 31 1)) ∧
    crew.desc 62 = .ok desc1 ∧ crew.secondDesc true 62 = .ok desc1 ∧ crew.secondDesc false 62 = .ok [] ∧
    engFix.copyCheck (engFix.coreOf warp) crew 0 62 14 desc1 [] (warp.sreg 31) 0 = none ∧
    engFix.copyCheck (engFix.coreOf warp) crew 1 62 0 desc1 [] (warp.sreg 8) (warp.sreg 9) = none ∧
    engFix.copyCheck (engFix.coreOf warp) crew 2 62 0 desc1 [] (warp.sreg 8) (warp.sreg 9) = none ∧
    engFix.copyCheck (engFix.coreOf warp) crew 3 62 0 desc1 desc1 (warp.sreg 8) (warp.sreg 9) = none ∧
    engFix.copyCheck (engFix.coreOf warp) crew 4 62 14 desc1 [] (warp.sreg 31) 0 = none ∧
    engFix.copyCheck (engFix.coreOf warp) crew 5 62 0 desc1 [] (warp.sreg 8) (warp.sreg 9) = none ∧
    (engFix.core (engFix.coreOf warp)).freeEntries ≠ [] ∧ Clear cur warp ((useS 8 4).and (useD 31 1)) ∧
    crew.desc 0 = .ok desc3 ∧
    engFix.kvCheck (engFix.coreOf warp) crew 0 8 0 14 desc3 (warp.sreg 10) (warp.sreg 11) = none ∧
    engFix.kvCheck (engFix.coreOf warp) crew 2 8 0 0 desc3 (warp.sreg 10) (warp.sreg 11) = none := by
  simp only [Issuing, Clear]; and_intros <;> first | rfl | decide +kernel

/-- A dense `mmaz` on two full buffers, and one whose operands stand in the scratchpad. -/
theorem witness_MatrixForms :
    let w := { warp with s := [(8, 0x800000), (9, 1), (30, 0x800000), (31, 1)] }
    let s := { engFix with warps := [(0, w)] }
    Issuing s cur w ∧ s.crewOf w = some crew ∧ Clear cur w (mmaUses 15 0 0 0) ∧ FullService s w ∧
    s.mmaCheck (s.coreOf w) crew false false true 0 15 (w.padOperand 0 0) (w.padOperand 0 15) 7 = none ∧
    Clear cur w (mmaUses 30 8 1 1) ∧
    s.mmaCheck (s.coreOf w) crew false false true 8 30 (w.padOperand 1 8) (w.padOperand 1 30) 0 = none ∧
    (s.core (s.coreOf w)).freeEntries ≠ [] := by
  simp only [Issuing, Clear, FullService]; and_intros <;> decide +kernel

theorem witness_CollectiveForms : Issuing engFix cur warp ∧ engFix.crewOf warp = some crew ∧
    Clear cur warp ((useS 31 1).and (useD 31 1)) ∧ crew.firstDesc 0 63 = .ok desc1 ∧ crew.secondDesc false 63 = .ok [] ∧
    crew.firstDesc 5 62 = .ok desc1 ∧ crew.secondDesc true 62 = .ok desc1 ∧ crew.firstDesc 6 0 = .ok [] ∧
    (engFix.core (engFix.coreOf warp)).freeEntries ≠ [] := by
  simp only [Issuing, Clear]; and_intros <;> first | rfl | decide +kernel

theorem witness_AccumulatorForms :
    let s := withCore { Core.init with accs := [(7, { Acc.init with mitt := some 0 })] }
    let crew := { Crew.placed with size := 8192 }
    Issuing s cur warp ∧ s.crewOf warp = some crew ∧ Clear cur warp Uses.none ∧
    ((s.core (s.coreOf warp)).acc (7 : BitVec 3).toNat).mitt = some cur.warp ∧
    ((s.core (s.coreOf warp)).acc (0 : BitVec 3).toNat).mitt = none ∧
    ((s.core (s.coreOf warp)).acc (0 : BitVec 3).toNat).waiting = [] ∧
    (s.core (s.coreOf warp)).targeted (0 : BitVec 3).toNat (s.core (s.coreOf warp)).submitted = false ∧
    Clear cur warp (useUni 0x64 1) ∧ crew.padTrap (s.uarg cur warp 0x64).toNat 128 4096 = none ∧
    s.padLost (crew.padAt (s.uarg cur warp 0x64).toNat) 4096 = false := by
  simp only [Issuing, Clear]; and_intros <;> decide +kernel

/-- A hold of one consumption; token 0 of an entry never used, and token 1; an open batch, with 16 sealed ones before it, and
none; a valid record in memory. -/
theorem witness_TaskForms :
    let batch : Batch := { id := 1, reg := none, closed := false, left := 1, code := 0, stamp := 0 }
    let f := { warp with batches := (List.range 17).map fun i => { batch with id := i + 1, closed := decide (i < 16), reg := some i } }
    let p := { warp with s := [(31, 127)] }
    let running := { fixWith p with cores := [(0, { Core.init with entries := [(63, { Entry.init with seq := 1, task := some task })] })] }
    let w := { warp with batches := [{ id := 1, reg := none, closed := false, left := 1, code := 0, stamp := 0 }] }
    let t := { engFix with warps := [(0, w)] }
    let m := { engFix with mem := memPut engFix.mem 0x20000 (desc1.flatMap fun x => natBytes 4 x.toNat) }
    Issuing engFix cur warp ∧ engFix.crewOf warp = some crew ∧ Clear cur warp ((useS 11 1).and (useD 31 1)) ∧
    (1 ≤ (warp.sreg 11).toNat ∧ (warp.sreg 11).toNat ≤ 16) ∧ ((engFix.core (engFix.coreOf warp)).logical 15).full = true ∧
    (engFix.core (engFix.coreOf warp)).freeEntries ≠ [] ∧ Clear cur warp (useS 31 1) ∧
    (engFix.core (engFix.coreOf warp)).finished 0 0 = true ∧ Clear cur warp (useD 31 1) ∧ Clear cur warp Uses.none ∧
    (∀ t ∈ (engFix.core (engFix.coreOf warp)).tasks, 15 ∉ t.cmd.names) ∧ warp.sealedCount < 16 ∧ warp.openBatch = none ∧
    (Issuing t cur w ∧ w.sealedCount < 16 ∧ w.openBatch.map Batch.id = some 1) ∧
    warp.sealedCount ≤ (0 : BitVec 7).toNat ∧
    (16 ≤ f.sealedCount ∧ f.openBatch.map Batch.id = some 17 ∧ Issuing (fixWith f) cur f ∧ (15 : BitVec 7).toNat < f.sealedCount) ∧
    (running.core 0).finished 1 63 = false ∧ Issuing running cur p ∧ p.sreg 31 = 127 ∧ Clear cur p (useS 31 1) ∧
    Issuing m cur warp ∧ m.crewOf warp = some crew ∧ Clear cur warp (useUni 0x40 2) ∧
    (m.threadLoad { core := m.coreOf warp, sup := warp.supIn cur.taking, view := warp.viewIn cur.taking } 0
      (m.uarg64 cur warp 0x40) 64).result.map (fun r => Desc.valid (registersOf r.2.2)) = some true := by
  simp only [Issuing, Clear]; and_intros <;> decide +kernel

end Sys2Proof.Tests
end

