-- ==== Sys2Proof/Tests/Words.lean ====
section
/-! SUPPORT. One word of every constructor, its bits placed as in the encoding tables of R131 to R142, and the
instruction that it decodes to: distinct values in the operand fields, so that no two are exchanged. -/
namespace Sys2Proof.Tests
open Sys2Proof
set_option Elab.async false

/-- Each word decodes to the instruction beside it. -/
noncomputable def decodesTo (n : Nat) (l : List (Nat × Instr)) : Bool := l.all fun e => decide (decodeTableWord n e.1 = some e.2)

theorem words_Short : decodesTo 16
    [(0x4180, .mov 8 12), (0x4182, .iadd 8 12), (0x4184, .isub 8 12), (0x4186, .iand 8 12), (0x4188, .ior 8 12),
     (0x418A, .ixor 8 12), (0x418C, .ishl 8 12), (0x418E, .ishr 8 12), (0x4190, .imin 8 12), (0x4192, .imax 8 12),
     (0x4194, .fadd 8 12), (0x4196, .fsub 8 12), (0x4198, .fmul 8 12), (0x419A, .fmax 8 12), (0x419C, .fmin 8 12),
     (0x419E, .fmac 8 12)] = true := by
  decide +kernel

theorem words_Salu : decodesTo 32
    [(0x08908601, .saluAdd 68 66 12), (0x18908601, .saluSub 68 66 12), (0x28908601, .saluAnd 68 66 12),
     (0x38908601, .saluOr 68 66 12), (0x48908601, .saluXor 68 66 12), (0x58908601, .saluShl 68 66 12),
     (0x68908601, .saluShr 68 66 12), (0x78908601, .saluSra 68 66 12), (0x88908601, .saluMin 68 66 12),
     (0x98908601, .saluMax 68 66 12), (0xA8908601, .saluMinn 68 66 12), (0xB8908601, .saluMaxn 68 66 12),
     (0xC8908601, .saluMul 68 66 12), (0xD8908601, .saluMulh 68 66 12), (0xE8908601, .saluDiv 68 66 12),
     (0xF8908601, .saluRem 68 66 12)] = true := by
  decide +kernel

theorem words_Valu : decodesTo 32
    [(0x0890A611, .valuAdd 68 66 1 12), (0x1890A611, .valuSub 68 66 1 12), (0x2890A611, .valuAnd 68 66 1 12),
     (0x3890A611, .valuOr 68 66 1 12), (0x4890A611, .valuXor 68 66 1 12), (0x5890A611, .valuShl 68 66 1 12),
     (0x6890A611, .valuShr 68 66 1 12), (0x7890A611, .valuSra 68 66 1 12), (0x8890A611, .valuMin 68 66 1 12),
     (0x9890A611, .valuMax 68 66 1 12), (0xA890A611, .valuMinn 68 66 1 12), (0xB890A611, .valuMaxn 68 66 1 12),
     (0xC890A611, .valuMul 68 66 1 12), (0xD890A611, .valuMulh 68 66 1 12), (0xE890A611, .valuDiv 68 66 1 12),
     (0xF890A611, .valuRem 68 66 1 12)] = true := by
  decide +kernel

theorem words_Slogi : decodesTo 32
    [(0x00054605, .slogiAnd 21 12), (0x10054605, .slogiOr 21 12), (0x20054605, .slogiXor 21 12),
     (0x30054605, .slogiShl 21 12), (0x40054605, .slogiShr 21 12), (0x50054605, .slogiSra 21 12),
     (0x60054605, .slogiClr 21 12)] = true := by
  decide +kernel

theorem words_Vlogi : decodesTo 32
    [(0x00056615, .vlogiAnd 21 1 12), (0x10056615, .vlogiOr 21 1 12), (0x20056615, .vlogiXor 21 1 12),
     (0x30056615, .vlogiShl 21 1 12), (0x40056615, .vlogiShr 21 1 12), (0x50056615, .vlogiSra 21 1 12),
     (0x60056615, .vlogiClr 21 1 12)] = true := by
  decide +kernel

theorem words_Smisc : decodesTo 32
    [(0x08908609, .smiscDivn 68 66 12), (0x18908609, .smiscRemn 68 66 12), (0x20108609, .smiscClz 66 12),
     (0x30108609, .smiscCtz 66 12), (0x40108609, .smiscPopc 66 12), (0x50108609, .smiscBrev 66 12),
     (0x60108609, .smiscSext8 66 12), (0x70108609, .smiscSext16 66 12), (0x88908609, .smiscMulhn 68 66 12),
     (0x98908609, .smiscRot 68 66 12), (0xA8908609, .smiscAdd64 68 66 12), (0xB8908609, .smiscSub64 68 66 12),
     (0xC8908609, .smiscMad 68 66 12), (0xD8908609, .smiscMad64 68 66 12)] = true := by
  decide +kernel

theorem words_Vmisc : decodesTo 32
    [(0x0890A619, .vmiscDivn 68 66 1 12), (0x1890A619, .vmiscRemn 68 66 1 12), (0x2010A619, .vmiscClz 66 1 12),
     (0x3010A619, .vmiscCtz 66 1 12), (0x4010A619, .vmiscPopc 66 1 12), (0x5010A619, .vmiscBrev 66 1 12),
     (0x6010A619, .vmiscSext8 66 1 12), (0x7010A619, .vmiscSext16 66 1 12), (0x8890A619, .vmiscMulhn 68 66 1 12),
     (0x9890A619, .vmiscRot 68 66 1 12), (0xA890A619, .vmiscAdd64 68 66 1 12), (0xB890A619, .vmiscSub64 68 66 1 12),
     (0xC890A619, .vmiscMad 68 66 1 12), (0xD890A619, .vmiscMad64 68 66 1 12)] = true := by
  decide +kernel

theorem words_Scmp : decodesTo 32
    [(0x0890860B, .scmpEq 68 66 12), (0x1890860B, .scmpNe 68 66 12), (0x2890860B, .scmpLt 68 66 12),
     (0x3890860B, .scmpLe 68 66 12), (0x4890860B, .scmpLtn 68 66 12), (0x5890860B, .scmpLen 68 66 12)] = true := by
  decide +kernel

theorem words_Vcmp : decodesTo 32
    [(0x0890819B, .vcmpEq 68 66 3), (0x1890819B, .vcmpNe 68 66 3), (0x2890819B, .vcmpLt 68 66 3),
     (0x3890819B, .vcmpLe 68 66 3), (0x4890819B, .vcmpLtn 68 66 3), (0x5890819B, .vcmpLen 68 66 3),
     (0x6890819B, .vcmpEq64 68 66 3), (0x7890819B, .vcmpLt64 68 66 3), (0x8890819B, .vcmpLtn64 68 66 3)] = true := by
  decide +kernel

theorem words_Pred : decodesTo 32
    [(0x0121411D, .predAnd 9 5 2), (0x1121411D, .predOr 9 5 2), (0x2121411D, .predXor 9 5 2),
     (0x3121411D, .predAndn 9 5 2), (0x4001411D, .predAny 5 2), (0x5001411D, .predAll 5 2), (0x6001411D, .predUni 5 2),
     (0x7001661D, .predBallot 5 1 12), (0x8000261D, .predTov 1 12), (0x9010801D, .predFromv 66)] = true := by
  decide +kernel

theorem words_Xch : decodesTo 32
    [(0x0890A61F, .xchShfl 68 66 1 12), (0x1890A61F, .xchShup 68 66 1 12), (0x2890A61F, .xchShdn 68 66 1 12),
     (0x3890A61F, .xchShxor 68 66 1 12), (0x4010A61F, .xchBcast 66 1 12), (0x5010A61F, .xchRadd 66 1 12),
     (0x6010A61F, .xchRmin 66 1 12), (0x7010A61F, .xchRmax 66 1 12), (0x8010A61F, .xchRminn 66 1 12),
     (0x9010A61F, .xchRmaxn 66 1 12), (0xA010A61F, .xchRand 66 1 12), (0xB010A61F, .xchRior 66 1 12),
     (0xC010A61F, .xchRxor 66 1 12), (0xD010A61F, .xchRfadd 66 1 12), (0xE010A61F, .xchRfmin 66 1 12),
     (0xF010A61F, .xchRfmax 66 1 12)] = true := by
  decide +kernel

theorem words_Ctrl : decodesTo 32
    [(0x00000029, .ctrlNop), (0x10000029, .ctrlExit), (0x20000029, .ctrlYield), (0x30204029, .ctrlBrk 1 1),
     (0x40204029, .ctrlTrap 1 1), (0x50000629, .ctrlClk 12)] = true := by
  decide +kernel

theorem words_Falu : decodesTo 32
    [(0x0890A631, .faluAdd 68 66 1 12), (0x1890A631, .faluSub 68 66 1 12), (0x2890A631, .faluMul 68 66 1 12),
     (0x3890A631, .faluMin 68 66 1 12), (0x4890A631, .faluMax 68 66 1 12), (0x5890A631, .faluCpys 68 66 1 12),
     (0x6010A631, .faluAbs 66 1 12), (0x7010A631, .faluNeg 66 1 12), (0x8890A631, .faluAddFtz 68 66 1 12),
     (0x9890A631, .faluSubFtz 68 66 1 12), (0xA890A631, .faluMulFtz 68 66 1 12), (0xB890A631, .faluMinFtz 68 66 1 12),
     (0xC890A631, .faluMaxFtz 68 66 1 12)] = true := by
  decide +kernel

theorem words_Ffma : decodesTo 32
    [(0x0890A633, .ffmaFma 68 66 1 12), (0x1890A633, .ffmaFms 68 66 1 12), (0x2890A633, .ffmaFnma 68 66 1 12),
     (0x3890A633, .ffmaFnms 68 66 1 12), (0x8890A633, .ffmaFmaFtz 68 66 1 12), (0x9890A633, .ffmaFmsFtz 68 66 1 12),
     (0xA890A633, .ffmaFnmaFtz 68 66 1 12), (0xB890A633, .ffmaFnmsFtz 68 66 1 12)] = true := by
  decide +kernel

theorem words_Fcmp : decodesTo 32
    [(0x089081B5, .fcmpEq 68 66 3), (0x189081B5, .fcmpNe 68 66 3), (0x289081B5, .fcmpLt 68 66 3),
     (0x389081B5, .fcmpLe 68 66 3), (0x489081B5, .fcmpUn 68 66 3), (0x889081B5, .fcmpDeq 68 66 3),
     (0x989081B5, .fcmpDne 68 66 3), (0xA89081B5, .fcmpDlt 68 66 3), (0xB89081B5, .fcmpDle 68 66 3),
     (0xC89081B5, .fcmpDun 68 66 3)] = true := by
  decide +kernel

theorem words_Fspec : decodesTo 32
    [(0x0010A637, .fspecRcp 66 1 12), (0x1010A637, .fspecRsqrt 66 1 12), (0x2010A637, .fspecSqrt 66 1 12),
     (0x3010A637, .fspecExp2 66 1 12), (0x4010A637, .fspecLog2 66 1 12), (0x5010A637, .fspecSin 66 1 12),
     (0x6010A637, .fspecCos 66 1 12), (0x7010A637, .fspecTanh 66 1 12),
     (0x8890A637, .fspecDiv 68 66 1 12)] = true := by
  decide +kernel

theorem words_Dalu : decodesTo 32
    [(0x0890A639, .daluAdd 68 66 1 12), (0x1890A639, .daluSub 68 66 1 12), (0x2890A639, .daluMul 68 66 1 12),
     (0x3890A639, .daluMin 68 66 1 12), (0x4890A639, .daluMax 68 66 1 12), (0x5890A639, .daluDiv 68 66 1 12),
     (0x6010A639, .daluSqrt 66 1 12), (0x8890A639, .daluAddFtz 68 66 1 12), (0x9890A639, .daluSubFtz 68 66 1 12),
     (0xA890A639, .daluMulFtz 68 66 1 12), (0xB890A639, .daluMinFtz 68 66 1 12), (0xC890A639, .daluMaxFtz 68 66 1 12),
     (0xD890A639, .daluDivFtz 68 66 1 12), (0xE010A639, .daluSqrtFtz 66 1 12)] = true := by
  decide +kernel

theorem words_Dfma : decodesTo 32
    [(0x0890A63B, .dfmaFma 68 66 1 12), (0x1890A63B, .dfmaFms 68 66 1 12), (0x2890A63B, .dfmaFnma 68 66 1 12),
     (0x3890A63B, .dfmaFnms 68 66 1 12), (0x8890A63B, .dfmaFmaFtz 68 66 1 12), (0x9890A63B, .dfmaFmsFtz 68 66 1 12),
     (0xA890A63B, .dfmaFnmaFtz 68 66 1 12), (0xB890A63B, .dfmaFnmsFtz 68 66 1 12)] = true := by
  decide +kernel

theorem words_Fcvt : decodesTo 32
    [(0x0030A63D, .fcvtF32F64 1 66 1 12), (0x1010A63D, .fcvtF64F32 66 1 12), (0x2030A63D, .fcvtF16F32 1 66 1 12),
     (0x3010A63D, .fcvtF32F16 66 1 12), (0x4030A63D, .fcvtBf16F32 1 66 1 12), (0x5010A63D, .fcvtF32Bf16 66 1 12),
     (0x6030A63D, .fcvtS32F32 1 66 1 12), (0x7030A63D, .fcvtN32F32 1 66 1 12), (0x8030A63D, .fcvtF32S32 1 66 1 12),
     (0x9030A63D, .fcvtF32N32 1 66 1 12), (0xA030A63D, .fcvtS64F64 1 66 1 12), (0xB030A63D, .fcvtF64S64 1 66 1 12),
     (0xC030A63D, .fcvtS32F64 1 66 1 12), (0xD010A63D, .fcvtF64S32 66 1 12), (0xE030A63D, .fcvtN64F64 1 66 1 12),
     (0xF030A63D, .fcvtF64N64 1 66 1 12)] = true := by
  decide +kernel

theorem words_Frnd : decodesTo 32
    [(0x0030A63F, .frndRnd 1 66 1 12), (0x1010A63F, .frndCls 66 1 12), (0x2010A63F, .frndFrexpm 66 1 12),
     (0x3010A63F, .frndFrexpe 66 1 12), (0x4890A63F, .frndLdexp 68 66 1 12), (0x8030A63F, .frndRndF64 1 66 1 12),
     (0x9010A63F, .frndClsF64 66 1 12), (0xA010A63F, .frndFrexpmF64 66 1 12), (0xB010A63F, .frndFrexpeF64 66 1 12),
     (0xC890A63F, .frndLdexpF64 68 66 1 12)] = true := by
  decide +kernel

theorem words_Halu2 : decodesTo 32
    [(0x0890A641, .halu2Bf16Add 68 66 1 12), (0x1890A641, .halu2Bf16Sub 68 66 1 12),
     (0x2890A641, .halu2Bf16Mul 68 66 1 12), (0x3890A641, .halu2Bf16Fma 68 66 1 12),
     (0x4890A641, .halu2Bf16Min 68 66 1 12), (0x5890A641, .halu2Bf16Max 68 66 1 12),
     (0x6890A641, .halu2Bf16Pack 68 66 1 12), (0x8890A641, .halu2F16Add 68 66 1 12),
     (0x9890A641, .halu2F16Sub 68 66 1 12), (0xA890A641, .halu2F16Mul 68 66 1 12),
     (0xB890A641, .halu2F16Fma 68 66 1 12), (0xC890A641, .halu2F16Min 68 66 1 12),
     (0xD890A641, .halu2F16Max 68 66 1 12), (0xE890A641, .halu2F16Pack 68 66 1 12)] = true := by
  decide +kernel

theorem words_Qdec : decodesTo 32
    [(0x0890A645, .qdecE4m3nF32 68 66 1 12), (0x1890A645, .qdecE5m2nF32 68 66 1 12),
     (0x2890A645, .qdecDm8F32 68 66 1 12), (0x4890A645, .qdecE4m3nBf16 68 66 1 12),
     (0x5890A645, .qdecE5m2nBf16 68 66 1 12), (0x6890A645, .qdecDm8Bf16 68 66 1 12),
     (0x8890A645, .qdecE4m3nF16 68 66 1 12), (0x9890A645, .qdecE5m2nF16 68 66 1 12),
     (0xA890A645, .qdecDm8F16 68 66 1 12)] = true := by
  decide +kernel

theorem words_Cmpr : decodesTo 32
    [(0x0030A647, .cmprComp16 1 66 1 12), (0x1010A647, .cmprComp8 66 1 12), (0x2890A647, .cmprExp16 68 66 1 12),
     (0x3890A647, .cmprExp8 68 66 1 12), (0x4030A647, .cmprMeta16 1 66 1 12),
     (0x5010A647, .cmprMeta8 66 1 12)] = true := by
  decide +kernel

theorem words_Geo : decodesTo 32
    [(0x88922649, .geoOrient2 1 68 1 8 1 12), (0x98922649, .geoOrient3 1 68 1 8 1 12),
     (0xA8922649, .geoIncircle 1 68 1 8 1 12), (0xB8922649, .geoInsphere 1 68 1 8 1 12),
     (0x40122649, .geoSegx 1 8 1 12)] = true := by
  decide +kernel

theorem words_Amo32 : decodesTo 32
    [(0x0350865D, .amo32Add 3 2 66 12), (0x2350865D, .amo32And 3 2 66 12), (0x4350865D, .amo32Or 3 2 66 12),
     (0x6350865D, .amo32Xor 3 2 66 12), (0x8350865D, .amo32Min 3 2 66 12), (0xA350865D, .amo32Max 3 2 66 12),
     (0xC350865D, .amo32Minn 3 2 66 12), (0xE350865D, .amo32Maxn 3 2 66 12)] = true := by
  decide +kernel

theorem words_Amox : decodesTo 32
    [(0x0350865F, .amoxXchg 3 2 66 12), (0x2350865F, .amoxXchg64 3 2 66 12), (0x4350865F, .amoxCas 3 2 66 12),
     (0x6350865F, .amoxCas64 3 2 66 12), (0x8350865F, .amoxFadd 3 2 66 12),
     (0xA350865F, .amoxAdd64 3 2 66 12)] = true := by
  decide +kernel

theorem words_Spad : decodesTo 32
    [(0x08908667, .spadLd32 68 66 12), (0x18908667, .spadLd64 68 66 12), (0x28908667, .spadLd128 68 66 12),
     (0x38908667, .spadSt32 68 66 12), (0x48908667, .spadSt64 68 66 12),
     (0x58908667, .spadSt128 68 66 12)] = true := by
  decide +kernel

theorem words_Cpy : decodesTo 32
    [(0x1C3486E9, .cpyG2b 1 1 33 10 8 13), (0x3C2086E9, .cpyG2s 1 1 33 8 13), (0x5C2086E9, .cpyS2g 1 1 33 8 13),
     (0x7C2086E9, .cpyG2g 1 1 33 8 13), (0x9C3486E9, .cpyS2b 1 1 33 10 8 13),
     (0xBC2086E9, .cpyS2s 1 1 33 8 13)] = true := by
  decide +kernel

theorem words_Tsk : decodesTo 32
    [(0x001486F3, .tskSub 10 8 13), (0x200006F3, .tskWait 13), (0x400006F3, .tskBstat 13),
     (0x60140073, .tskBclr 10)] = true := by
  decide +kernel

theorem words_Kv : decodesTo 32
    [(0x1C3486F5, .kvKvg 1 1 33 10 8 13), (0x3C2086F5, .kvKvgs 1 1 33 8 13), (0x5C2086F5, .kvKvs 1 1 33 8 13),
     (0x60008075, .kvKvinv 8)] = true := by
  decide +kernel

theorem words_Col : decodesTo 32
    [(0x1C2086F7, .colSum 1 1 33 8 13), (0x3C2086F7, .colMax 1 1 33 8 13), (0x5C2086F7, .colMin 1 1 33 8 13),
     (0x7C2086F7, .colTri 1 1 33 8 13), (0x9C2086F7, .colBcast 1 1 33 8 13), (0xBC2086F7, .colGath 1 1 33 8 13),
     (0xD80086F7, .colBar 1 1 8 13)] = true := by
  decide +kernel

theorem words_Other1 : decodesTo 32
    [(0xFFF08603, .saddi 2047 66 12), (0xFFF0A613, .vaddi 2047 66 1 12), (0xAAF34607, .slih 175053 12),
     (0xAAF36617, .vlih 175053 1 12), (0xFFFF85A1, .br 2097136 1 3), (0xFFFF8023, .call 2097136),
     (0x00108025, .jrJmp 66), (0x10108625, .jrJcall 66 12), (0x20108025, .jrRet 66), (0x000003A7, .cvbArm 7),
     (0x1881C227, .cvbWait 68 7 4), (0x20204127, .cvbDrop 1 1 2), (0x6002C029, .guard 1 3),
     (0x88836643, .qcvtE4m3n 1 68 3 1 1 12), (0x98836643, .qcvtE5m2n 1 68 3 1 1 12),
     (0xA8836643, .qcvtDm8 1 68 3 1 1 12)] = true := by
  decide +kernel

theorem words_Other2 : decodesTo 32
    [(0x6350864D, .ld 3 3 2 66 12), (0x6350864F, .st 3 3 2 66 12), (0xFFD08651, .ldo32 2046 66 12),
     (0xFFD08653, .ldo64 2046 66 12), (0xFFD08655, .sto32 2046 66 12), (0xFFD08657, .sto64 2046 66 12),
     (0x43508659, .ldaq 2 3 2 66 12), (0x4350865B, .strl 2 3 2 66 12), (0x08908661, .lst 68 66 12),
     (0x18908661, .lld 68 66 12), (0x28908661, .lpoll 68 66 12), (0x000004E3, .fence 9), (0x189084E3, .cwb 68 66 9),
     (0x28908063, .cinv 68 66), (0x38908063, .discard 68 66), (0x401084E3, .zline 66 9)] = true := by
  decide +kernel

theorem words_Other3 : decodesTo 32
    [(0x0890A665, .pin 68 66 1 12), (0x1010A665, .unpin 66 1 12), (0x2010A665, .dist 66 1 12),
     (0x3890A665, .touch 68 66 1 12), (0x40108665, .demote 66 12), (0x50108665, .evict 66 12),
     (0x68908665, .rhset 68 66 12), (0x0000066B, .seal 12), (0x1010806B, .waitn 66), (0x0000866D, .tdset 2 12),
     (0x1142066D, .tdget 10 8 12), (0x018C8EEF, .mma 1 1 6 8 1 1 5), (0x01CC8EEF, .mmaz 1 1 6 8 1 1 5),
     (0x000002F1, .acq 5), (0x100002F1, .rel 5), (0x200082F1, .amov 2 5)] = true := by
  decide +kernel

theorem words_Other4 : decodesTo 32
    [(0x300002F1, .azero 5), (0x400082F1, .ast 2 5), (0x50000071, .capPass), (0x00008079, .tret 2),
     (0x10204079, .syscall 1 1), (0x20004679, .csrr 0 1 12), (0x38804079, .csrw 68 1 0), (0x48804079, .csrs 68 1 0),
     (0x58804079, .csrc 68 1 0), (0x60000679, .egyRd 12), (0x70108679, .egyReq 66 12), (0x80108679, .pwrGate 66 12),
     (0x0010807B, .rsend 66), (0x1000267B, .rrecv 1 12), (0x2080867B, .lnch 4 2 12),
     (0x308084FB, .evtSig 4 2 9)] = true := by
  decide +kernel

theorem words_Other5 : decodesTo 32
    [(0x408084FB, .evtWait 4 2 9), (0x5000007B, .barCrew), (0x6000007B, .barGang), (0x7890807B, .qenq 68 66),
     (0x8890827B, .qdeq 68 66 4), (0x9880267B, .pcrd 68 1 12), (0xA890807B, .pcwr 68 66), (0xB081C67B, .cvbrd 4 7 12),
     (0xC081C67B, .cvbwr 4 7 12)] = true := by
  decide +kernel

end Sys2Proof.Tests
end

/-! Register writes by Burdy and the host: one rule for each word that a control page or a VF page holds, what the queue,
binding and pool operations under those words come to, and the events that make the writes. -/
namespace Sys2Proof.Machine

/-! ## Words of the control page (R312, R337, R386) -/

section ControlPage
variable {s : State} {n m : Nat} {p : Partition}

theorem controlWrite_budget (hp : s.part n = some p) (x : Word) :
    s.controlWrite n none 0x0 x = s.setPart n { p with budget := x } := by
  simp [State.controlWrite, hp]

theorem controlWrite_queueCtl (hp : s.part n = some p) (hm : m < 64) (x : Word) :
    s.controlWrite n none (0x1008 + 32 * m) x = s.writeQueueCtl n p m x := by
  have hq : (0x1008 + 32 * m - 0x1000) / 32 = m := by omega
  simp (disch := omega) [State.controlWrite, hp, hq, if_pos]

/-- The host reaches a queue that its VF owns, and no other (R386). -/
theorem controlWrite_queueCtl_host (hp : s.part n = some p) (hm : m < 64) (v : Nat) (x : Word) :
    s.controlWrite n (some v) (0x1008 + 32 * m) x =
      if (p.queue m).owned = true ∧ (p.queue m).owner = v then s.writeQueueCtl n p m x else s := by
  have hq : (0x1008 + 32 * m - 0x1000) / 32 = m := by omega
  by_cases h : (p.queue m).owned = true ∧ (p.queue m).owner = v
  · simp (disch := omega) [State.controlWrite, hp, hq, if_pos, h]
  · simp (disch := omega) [State.controlWrite, hp, hq, if_pos, h]

theorem controlWrite_queueTail (hp : s.part n = some p) (hm : m < 64) (x : Word) :
    s.controlWrite n none (0x100C + 32 * m) x = s.setPart n (p.setQueue m ((p.queue m).writeTail x)) := by
  have hq : (0x100C + 32 * m - 0x1000) / 32 = m := by omega
  simp (disch := omega) [State.controlWrite, hp, hq, if_pos]

theorem controlWrite_queueOwn (hp : s.part n = some p) (hm : m < 64) (x : Word) :
    s.controlWrite n none (0x1800 + 4 * m) x = s.setPart n (p.setQueue m ((p.queue m).writeOwn p x)) := by
  have hq : (0x1800 + 4 * m - 0x1800) / 4 = m := by omega
  simp (disch := omega) only [State.controlWrite, hp, if_pos, if_neg, hq, Option.isSome, Bool.false_eq_true, if_false]

theorem controlWrite_event (hp : s.part n = some p) (hm : m < 4096) (who : Party) (x : Word) :
    s.controlWrite n who (0x4000 + 4 * m) x = s.setPart n { p with events := wput p.events m x } := by
  have hq : (0x4000 + 4 * m - 0x4000) / 4 = m := by omega
  simp (disch := omega) only [State.controlWrite, hp, if_pos, if_neg, hq]

theorem controlWrite_flctl (hp : s.part n = some p) (x : Word) :
    s.controlWrite n none 0x148 x = s.setPart n (p.writeFlctl x) := by
  simp [State.controlWrite, hp]

theorem controlWrite_flhead (hp : s.part n = some p) (who : Party) (x : Word) :
    s.controlWrite n who 0x150 x = s.setPart n { p with flhead := x } := by
  simp [State.controlWrite, hp]

theorem controlWrite_group (hp : s.part n = some p) (hm : m < 64) {word : Nat} (hw : word < 4) (x : Word) :
    s.controlWrite n none (0x400 + 16 * m + 4 * word) x = s.writeGroup n p m word x := by
  have hq : (0x400 + 16 * m + 4 * word - 0x400) / 16 = m := by omega
  have hr : (0x400 + 16 * m + 4 * word) % 16 / 4 = word := by omega
  simp (disch := omega) only [State.controlWrite, hp, if_pos, if_neg, hq, hr, Option.isSome, Bool.false_eq_true, if_false]

/-- Below the queues the host writes FLHEAD alone (R386). -/
theorem controlWrite_host_below_queues {off : Nat} (h : off < 0x1000) (hne : off ≠ 0x150) (v : Nat) (x : Word) :
    s.controlWrite n (some v) off x = s := by
  unfold State.controlWrite
  split
  · rfl
  · rw [if_neg (by omega), if_neg (by omega), if_neg hne, Option.isSome_some, if_pos rfl]

end ControlPage

/-! ## QCTL, QTAIL and QOWN (R312, R313, R386) -/

section QueueWords
variable {s : State} {n m : Nat} {p : Partition} {q : Queue} {x : Word}

theorem Queue.writeCtl_refused
    (h : 16 < bits x.toNat 0 5 ∨ (q.en = true ∧ (x.getLsbD 30 ≠ q.src ∨ bits x.toNat 0 5 ≠ q.logn))) :
    q.writeCtl x = { q with err := true } := by
  rw [Queue.writeCtl, if_pos h, Queue.refuse]

/-- The indices are cleared where EN rises, and stand otherwise. -/
theorem Queue.writeCtl_accepted (hle : bits x.toNat 0 5 ≤ 16)
    (hsame : q.en = true → x.getLsbD 30 = q.src ∧ bits x.toNat 0 5 = q.logn) :
    q.writeCtl x =
      { q with en := x.getLsbD 31, src := x.getLsbD 30, pri := bits x.toNat 16 2, logn := bits x.toNat 0 5,
               err := q.err && !x.getLsbD 29
               tail := if x.getLsbD 31 = true ∧ q.en = false then 0 else q.tail
               head := if x.getLsbD 31 = true ∧ q.en = false then 0 else q.head
               disp := if x.getLsbD 31 = true ∧ q.en = false then 0 else q.disp } := by
  have h : ¬ (16 < bits x.toNat 0 5 ∨ (q.en = true ∧ (x.getLsbD 30 ≠ q.src ∨ bits x.toNat 0 5 ≠ q.logn))) := by
    rintro (h | ⟨he, h⟩)
    · omega
    · obtain ⟨hs, hl⟩ := hsame he
      rcases h with h | h
      · exact h hs
      · exact h hl
  rw [Queue.writeCtl, if_neg h]
  simp only [Bool.and_eq_true, Bool.not_eq_true']
  split <;> rfl

theorem Queue.writeTail_refused
    (h : q.src = true ∨ (x - q.head).toNat < (q.tail - q.head).toNat ∨ 2 ^ q.logn < (x - q.head).toNat) :
    q.writeTail x = { q with err := true } := by
  unfold Queue.writeTail
  split
  · rfl
  · next hsrc =>
    have h := h.resolve_left hsrc
    rw [if_neg (by omega), Queue.refuse]

theorem Queue.writeTail_accepted (hsrc : q.src = false) (hlo : (q.tail - q.head).toNat ≤ (x - q.head).toNat)
    (hhi : (x - q.head).toNat ≤ 2 ^ q.logn) : q.writeTail x = { q with tail := x } := by
  rw [Queue.writeTail, if_neg (by simp [hsrc]), if_pos ⟨hlo, hhi⟩]

theorem Queue.writeOwn_eq (q : Queue) (p : Partition) (x : Word) :
    q.writeOwn p x =
      if q.en = true ∨ (x.getLsbD 31 = true ∧ p.vfbind.getLsbD (bits x.toNat 0 6) = false) then { q with err := true }
      else { q with owned := x.getLsbD 31, owner := bits x.toNat 0 6 } := by
  simp only [Queue.writeOwn, Queue.refuse, Bool.not_eq_true]

theorem writeQueueCtl_part (s : State) (n : Nat) (p : Partition) (m : Nat) (x : Word) :
    (s.writeQueueCtl n p m x).part n = some (p.setQueue m ((p.queue m).writeCtl x)) := by
  unfold State.writeQueueCtl
  simp only
  split
  · exact State.setPart_same ..
  · exact State.setPart_same ..

/-- A write that does not raise EN leaves every launch. -/
theorem writeQueueCtl_of_not_rising (h : ((p.queue m).writeCtl x).en = false ∨ (p.queue m).en = true) :
    s.writeQueueCtl n p m x = s.setPart n (p.setQueue m ((p.queue m).writeCtl x)) := by
  rcases h with h | h
  · simp [State.writeQueueCtl, h]
  · simp [State.writeQueueCtl, h]

/-- A write that raises EN forgets the finished launches of the queue and detaches the others (log 119). -/
theorem mem_launches_writeQueueCtl_of_rising (hnew : ((p.queue m).writeCtl x).en = true) (hold : (p.queue m).en = false)
    (e : Nat × Launch) :
    e ∈ (s.writeQueueCtl n p m x).launches ↔ ∃ o ∈ s.launches, o.1 = e.1 ∧
      (o.2.part = n ∧ o.2.queue = some m → o.2.finished = false ∧ e.2 = { o.2 with detached := true }) ∧
      (¬ (o.2.part = n ∧ o.2.queue = some m) → e.2 = o.2) := by
  obtain ⟨k, l⟩ := e
  simp only [State.writeQueueCtl, hnew, hold, Bool.not_false, Bool.and_true, if_true, State.setPart_launches,
    List.mem_filterMap]
  refine exists_congr fun o => and_congr_right fun _ => ?_
  by_cases hq : o.2.part = n ∧ o.2.queue = some m
  · cases hf : o.2.finished
    · simp [hq, eq_comm (b := l)]
    · simp [hq]
  · simp [hq, Prod.ext_iff, eq_comm (b := l)]

end QueueWords

/-! ## Group records (R377) -/

theorem writeGroup_part (s : State) (n : Nat) (p : Partition) (m word : Nat) (x : Word) :
    ∃ r, (s.writeGroup n p m word x).part n = some r ∧ (r.group m).gseq = 0 ∧ (r.group m).insts = [] ∧
      (r.group m).counts = [] ∧ (word = 0 → (r.group m).gctl = x &&& 0xC00000FF) := by
  refine ⟨_, State.setPart_same .., ?_⟩
  rw [Partition.setGroup_same]
  split_ifs with h0 h1 h2 <;> simp [h0]

/-! ## Words of a VF page (R359, R361, R392) -/

section VfPage
variable {s : State} {v t : Nat} {x : Word}

theorem vfWrite_guar (ht : t < 3) (burdy : Bool) (x : Word) :
    s.vfWrite v burdy (0x14 + 16 * t) x = s.writeGuar v t x := by
  have hq : (0x14 + 16 * t - 0x10) / 16 = t := by omega
  have hw : (0x14 + 16 * t) % 16 / 4 = 1 := by omega
  simp (disch := omega) only [State.vfWrite, if_pos, if_neg, hq, hw, if_true]

theorem vfWrite_evtn (s : State) (v : Nat) (burdy : Bool) (x : Word) :
    s.vfWrite v burdy 0xC x = s.setVf v { s.vf v with evtn := x } := by
  simp [State.vfWrite, State.onVf]

theorem vfWrite_migration {off : Nat} (h : off < 64) (x : Word) :
    s.vfWrite v true (0x300 + off) x = s.writeMig v off x := by
  have h1 : ¬ (0x80 ≤ 0x300 + off ∧ 0x300 + off < 0x100) := by omega
  have h2 : 0x300 ≤ 0x300 + off ∧ 0x300 + off < 0x340 := by omega
  have h3 : 0x300 + off - 0x300 = off := by omega
  simp (disch := omega) only [State.vfWrite, if_neg, h1, h2, h3, decide_false, decide_true, Bool.and_false, Bool.and_true,
    Bool.false_eq_true, if_true, if_false, and_self]

theorem writeMig_qcnt (s : State) (v : Nat) (x : Word) : s.writeMig v 16 x = s.setVf v { s.vf v with qcnt := x } := by
  simp [State.writeMig, State.onVf]

theorem writeMig_used (ht : t < 3) (x : Word) :
    s.writeMig v (4 * t) x = s.setVf v ((s.vf v).setTier t { (s.vf v).tier t with used := x }) := by
  have hq : 4 * t / 4 = t := by omega
  simp (disch := omega) only [State.writeMig, State.onVf, if_pos, hq]

theorem writeMig_recl (ht : t < 3) (x : Word) :
    s.writeMig v (20 + 4 * t) x = s.setVf v ((s.vf v).setTier t { (s.vf v).tier t with recl := x }) := by
  have hq : (20 + 4 * t - 20) / 4 = t := by omega
  simp (disch := omega) only [State.writeMig, State.onVf, if_pos, if_neg, hq]

theorem find?_vfbind (hv : v < 64) : (s.parts.find? fun e => e.2.vfbind.getLsbD v) = s.boundTo v := by
  simp [State.boundTo, hv]

theorem writeGuar_of_unbound (hv : v < 64) (hb : s.boundTo v = none) :
    s.writeGuar v t x = s.setVf v ((s.vf v).setTier t { (s.vf v).tier t with guar := x }) := by
  simp only [State.writeGuar, find?_vfbind hv, hb, State.onVf]

/-- GUAR of a VF that is bound: within CAP, and a fall releases the VF's holds. -/
theorem writeGuar_of_bound (hv : v < 64) {k : Nat} {r : Partition} (hb : s.boundTo v = some (k, r)) :
    s.writeGuar v t x =
      let set := s.setVf v ((s.vf v).setTier t { (s.vf v).tier t with guar := x })
      if (wget r.cap t).toNat <
        ((r.vfList.filter (· != v)).map fun y => ((s.vf y).tier t).guar.toNat).sum + x.toNat then s
      else if x.toNat < ((s.vf v).tier t).guar.toNat then set.releaseHolds t v else set := by
  simp only [State.writeGuar, find?_vfbind hv, hb, State.onVf]

theorem releaseHolds_eq (s : State) (t v : Nat) :
    s.releaseHolds t v = { s with claims := s.claims.filterMap fun c =>
      let c := if c.tier = t ∧ c.vf = v then { c with held := 0 } else c
      if 0 < c.owed + c.held then some c else none } := by
  simp only [State.releaseHolds, ← List.filterMap_eq_filter, List.filterMap_map, Option.guard, Function.comp_def,
    decide_eq_true_eq]

end VfPage

/-! ## VFBIND and VFPORT (R397) -/

/-- A queue of some partition is owned by the VF. -/
def State.QueueOwnedBy (s : State) (v : Nat) : Prop :=
  ∃ e ∈ s.parts, ∃ q ∈ e.2.queues, q.2.owned = true ∧ q.2.owner = v

/-- Another partition than `n` binds the VF. -/
def State.BoundElsewhere (s : State) (n v : Nat) : Prop := ∃ e ∈ s.parts, e.1 ≠ n ∧ e.2.vfbind.getLsbD v = true

section Binding
variable {s : State} {n : Nat} {p : Partition} {x : Dword}

theorem ownsQueue_iff (s : State) (v : Nat) : s.ownsQueue v = true ↔ s.QueueOwnedBy v := by
  simp [State.ownsQueue, State.QueueOwnedBy]

theorem writeVfbind_guard_iff :
    ((List.range 64).any fun v => ((x ^^^ p.vfbind).getLsbD v && s.ownsQueue v) ||
      (x.getLsbD v && s.parts.any fun e => e.1 != n && e.2.vfbind.getLsbD v)) = true ↔
    ∃ v < 64, (x.getLsbD v ≠ p.vfbind.getLsbD v ∧ s.QueueOwnedBy v) ∨ (x.getLsbD v = true ∧ s.BoundElsewhere n v) := by
  simp only [List.any_eq_true, List.mem_range, Bool.or_eq_true, Bool.and_eq_true, ownsQueue_iff,
    BitVec.getLsbD_xor, bne_iff_ne, State.BoundElsewhere]

theorem writeVfport_guard_iff :
    ((List.range 64).any fun v => ((x ^^^ p.vfport).getLsbD v && s.ownsQueue v) ||
      ((x &&& ~~~p.vfport).getLsbD v && s.parts.any fun e => e.1 != n && e.2.vfbind.getLsbD v)) = true ↔
    ∃ v < 64, (x.getLsbD v ≠ p.vfport.getLsbD v ∧ s.QueueOwnedBy v) ∨
      (x.getLsbD v = true ∧ p.vfport.getLsbD v = false ∧ s.BoundElsewhere n v) := by
  simp only [List.any_eq_true, List.mem_range, Bool.or_eq_true, Bool.and_eq_true, ownsQueue_iff,
    BitVec.getLsbD_xor, BitVec.getLsbD_and, BitVec.getLsbD_not, bne_iff_ne, Bool.not_eq_true', decide_eq_true_eq, and_assoc,
    State.BoundElsewhere]
  refine exists_congr fun v => and_congr_right fun hv => ?_
  simp only [hv, true_and]

/-- The VFs that a write of VFBIND binds anew get the reset page; the others keep theirs. -/
theorem vf_foldl_init (f : Nat → Bool) (l : List Nat) (s : State) (v : Nat) :
    (l.foldl (fun s v => if f v then s.setVf v VfPage.init else s) s).vf v =
      if v ∈ l ∧ f v = true then VfPage.init else s.vf v := by
  induction l generalizing s with
  | nil => simp
  | cons a l ih =>
    rw [List.foldl_cons, ih]
    by_cases hv : v = a
    · subst hv; cases f v <;> simp
    · cases f a <;> simp [hv, State.setVf_other]

theorem part_foldl_init (f : Nat → Bool) (l : List Nat) (s : State) (n : Nat) :
    (l.foldl (fun s v => if f v then s.setVf v VfPage.init else s) s).part n = s.part n := by
  induction l generalizing s with
  | nil => rfl
  | cons a l ih => rw [List.foldl_cons, ih]; cases f a <;> simp

theorem writeVfbind_ignored
    (h : ∃ v < 64, (x.getLsbD v ≠ p.vfbind.getLsbD v ∧ s.QueueOwnedBy v) ∨ (x.getLsbD v = true ∧ s.BoundElsewhere n v)) :
    s.writeVfbind n p x = s := by
  rw [State.writeVfbind, if_pos (writeVfbind_guard_iff.2 h)]

theorem writeVfbind_accepted
    (h : ∀ v < 64, ¬ (x.getLsbD v ≠ p.vfbind.getLsbD v ∧ s.QueueOwnedBy v) ∧ ¬ (x.getLsbD v = true ∧ s.BoundElsewhere n v)) :
    let t := s.writeVfbind n p x
    t.part n = some { p with vfbind := x } ∧
    (∀ c, c ∈ t.claims ↔ c ∈ s.claims ∧ ¬ (x.getLsbD c.vf = true ∧ p.vfbind.getLsbD c.vf = false)) ∧
    ∀ v < 64, t.vf v = if x.getLsbD v = true ∧ p.vfbind.getLsbD v = false then VfPage.init else s.vf v := by
  have hg : ¬ ∃ v < 64, (x.getLsbD v ≠ p.vfbind.getLsbD v ∧ s.QueueOwnedBy v) ∨ (x.getLsbD v = true ∧ s.BoundElsewhere n v) := by
    rintro ⟨v, hv, hbad⟩
    exact hbad.elim (h v hv).1 (h v hv).2
  have hfresh : ∀ v, ((x ^^^ p.vfbind).getLsbD v && x.getLsbD v) = true ↔
      x.getLsbD v = true ∧ p.vfbind.getLsbD v = false := fun v => by
    rw [BitVec.getLsbD_xor]; cases x.getLsbD v <;> cases p.vfbind.getLsbD v <;> decide
  rw [State.writeVfbind, if_neg (mt writeVfbind_guard_iff.1 hg)]
  refine ⟨(part_foldl_init ..).trans (State.setPart_same ..), fun c => ?_, fun v hv => (vf_foldl_init ..).trans ?_⟩
  · simp only [List.mem_filter, Bool.not_eq_true', ← hfresh, Bool.not_eq_true]
  · simp only [List.mem_range, hv, hfresh, true_and, State.setPart_read_vf]

theorem writeVfport_ignored
    (h : ∃ v < 64, (x.getLsbD v ≠ p.vfport.getLsbD v ∧ s.QueueOwnedBy v) ∨
      (x.getLsbD v = true ∧ p.vfport.getLsbD v = false ∧ s.BoundElsewhere n v)) : s.writeVfport n p x = s := by
  rw [State.writeVfport, if_pos (writeVfport_guard_iff.2 h)]

theorem writeVfport_accepted
    (h : ∀ v < 64, ¬ ((x.getLsbD v ≠ p.vfport.getLsbD v ∧ s.QueueOwnedBy v) ∨
      (x.getLsbD v = true ∧ p.vfport.getLsbD v = false ∧ s.BoundElsewhere n v))) :
    s.writeVfport n p x = s.setPart n { p with vfport := x } := by
  rw [State.writeVfport, if_neg (mt writeVfport_guard_iff.1 ?_)]
  rintro ⟨v, hv, hbad⟩
  exact h v hv hbad

end Binding

/-! ## Writes by number (R2, R359, R385) -/

section RegisterWrite
variable {s : State}

theorem regWrite_word {off : Nat} (h : off % 4 = 0) (region n : Nat) (who : Party) (x : Dword) :
    s.regWrite region n who off 4 x = s.setRegWord region n who off (lowWord x) := by
  rw [State.regWrite, if_pos ⟨rfl, h⟩]

theorem setRegWord_controlPage (s : State) (n : Nat) (who : Party) (off : Nat) (x : Word) :
    s.setRegWord 0 n who off x = s.controlWrite n who off x := rfl

theorem setRegWord_vfPage (s : State) (v : Nat) (who : Party) (off : Nat) (x : Word) :
    s.setRegWord 1 v who off x = s.vfWrite v who.isNone off x := rfl

/-- An access of another size or alignment has no effect (log 22). -/
theorem regWrite_ignored {off size : Nat} (h : off % size ≠ 0 ∨ (size ≠ 4 ∧ size ≠ 8)) (region n : Nat) (who : Party)
    (x : Dword) : s.regWrite region n who off size x = s := by
  have h4 : ¬ (size = 4 ∧ off % 4 = 0) := by rintro ⟨rfl, h0⟩; omega
  have h8 : ¬ (size = 8 ∧ off % 8 = 0) := by rintro ⟨rfl, h0⟩; omega
  rw [State.regWrite, if_neg h4, if_neg h8]

theorem regWrite_vfbind {n : Nat} {p : Partition} (hp : s.part n = some p) (x : Dword) :
    s.regWrite 0 n none 0x30 8 x = s.writeVfbind n p x := by
  simp [State.regWrite, hp]

theorem regWrite_vfport {n : Nat} {p : Partition} (hp : s.part n = some p) (x : Dword) :
    s.regWrite 0 n none 0x38 8 x = s.writeVfport n p x := by
  simp [State.regWrite, hp]

theorem exec_registerWrite_controlPage (s : State) (n off size : Nat) (x : Dword) :
    exec (.registerWrite 1 0 n off size x) s = .next (s.regWrite 0 n none off size x) := rfl

theorem exec_registerWrite_vfPage {v : Nat} (hv : v < 64) (off size : Nat) (x : Dword) :
    exec (.registerWrite 1 1 v off size x) s = .next (s.regWrite 1 v none off size x) := by
  change Host.Outcome.next (if v < 64 then _ else _) = _
  rw [if_pos hv]

theorem exec_registerWrite_csr {n : Nat} {p : Partition} (hp : s.part n = some p) (off size : Nat) (x : Dword) :
    exec (.registerWrite 1 2 n off size x) s = .next (s.setPart n (p.writeCsr off (lowWord x))) := by
  change Host.Outcome.next (s.onPart n _) = _
  rw [State.onPart, hp]

theorem exec_registerWrite_decoder {m : Nat} (hm : m < 2) (off : Nat) (x : Dword) :
    exec (.registerWrite 1 3 m off 8 x) s =
      .next { s with decoders := tput s.decoders m ((s.decoder m).write off x) } := by
  change execRegisterWrite 1 3 m off 8 x s = _
  simp [execRegisterWrite, hm]

variable {v k : Nat} {r : Partition}

theorem exec_registerWrite_host_down (hb : s.boundTo v = some (k, r)) (hd : s.proto (bitNat (r.vfport.getLsbD v)) = 0)
    (region off size : Nat) (x : Dword) : exec (.registerWrite 0 region v off size x) s = .next s := by
  change execRegisterWrite 0 region v off size x s = _
  simp [execRegisterWrite, hb, State.vfUp, hd]

theorem exec_registerWrite_host_controlPage (hb : s.boundTo v = some (k, r))
    (hu : s.proto (bitNat (r.vfport.getLsbD v)) ≠ 0) (off size : Nat) (x : Dword) :
    exec (.registerWrite 0 0 v off size x) s = .next (s.regWrite 0 k (some v) off size x) := by
  change execRegisterWrite 0 0 v off size x s = _
  simp [execRegisterWrite, hb, State.vfUp, hu]

theorem exec_registerWrite_host_vfPage (hb : s.boundTo v = some (k, r))
    (hu : s.proto (bitNat (r.vfport.getLsbD v)) ≠ 0) (off size : Nat) (x : Dword) :
    exec (.registerWrite 0 1 v off size x) s = .next (s.regWrite 1 v (some v) off size x) := by
  change execRegisterWrite 0 1 v off size x s = _
  simp [execRegisterWrite, hb, State.vfUp, hu]

end RegisterWrite

/-! ## The events that write registers of the control page and of the VF page -/

section Events
variable {s : State} {n m : Nat} {p : Partition}

theorem exec_budgetWrite (hp : s.part n = some p) (x : Word) :
    exec (.budgetWrite n x) s = .next (s.setPart n { p with budget := x }) :=
  congrArg Host.Outcome.next (controlWrite_budget hp x)

theorem exec_qctlWrite (hp : s.part n = some p) (hm : m < 64) (x : Word) :
    exec (.qctlWrite n m x) s = .next (s.writeQueueCtl n p m x) :=
  congrArg Host.Outcome.next ((if_pos hm).trans (controlWrite_queueCtl hp hm x))

theorem exec_qtailWrite (hp : s.part n = some p) (hm : m < 64) (x : Word) :
    exec (.qtailWrite n m x) s = .next (s.setPart n (p.setQueue m ((p.queue m).writeTail x))) :=
  congrArg Host.Outcome.next ((if_pos hm).trans (controlWrite_queueTail hp hm x))

theorem exec_qownWrite (hp : s.part n = some p) (hm : m < 64) (x : Word) :
    exec (.qownWrite n m x) s = .next (s.setPart n (p.setQueue m ((p.queue m).writeOwn p x))) :=
  congrArg Host.Outcome.next ((if_pos hm).trans (controlWrite_queueOwn hp hm x))

theorem exec_eventCounterWrite (hp : s.part n = some p) (hm : m < 4096) (x : Word) :
    exec (.eventCounterWrite n m x) s = .next (s.setPart n { p with events := wput p.events m x }) :=
  congrArg Host.Outcome.next ((if_pos hm).trans (controlWrite_event hp hm none x))

theorem exec_flctlWrite (hp : s.part n = some p) (x : Word) :
    exec (.flctlWrite n x) s = .next (s.setPart n (p.writeFlctl x)) :=
  congrArg Host.Outcome.next (controlWrite_flctl hp x)

theorem exec_groupRecordWrite (hp : s.part n = some p) (hm : m < 64) {word : Nat} (hw : word < 4) (x : Word) :
    exec (.groupRecordWrite n m word x) s = .next (s.writeGroup n p m word x) :=
  congrArg Host.Outcome.next ((if_pos ⟨hm, hw⟩).trans (controlWrite_group hp hm hw x))

theorem exec_guarWrite {v tier : Nat} (hv : v < 64) (ht : tier < 3) (x : Word) :
    exec (.guarWrite v tier x) s = .next (s.writeGuar v tier x) :=
  congrArg Host.Outcome.next ((if_pos ⟨hv, ht⟩).trans (vfWrite_guar ht true x))

theorem exec_migWrite {v off : Nat} (hv : v < 64) (h : off % 4 = 0) (x : Word) :
    exec (.migWrite v off x) s = .next (s.writeMig v off x) :=
  congrArg Host.Outcome.next (if_pos ⟨hv, h⟩)

theorem exec_migWrite_unaligned {off : Nat} (h : off % 4 ≠ 0) (v : Nat) (x : Word) :
    exec (.migWrite v off x) s = .next s :=
  congrArg Host.Outcome.next (if_neg fun ⟨_, h0⟩ => h h0)

theorem exec_vfbindWrite (hp : s.part n = some p) (x : Dword) :
    exec (.vfbindWrite n x) s = .next (s.writeVfbind n p x) := by
  change execVfbindWrite n x s = _
  rw [execVfbindWrite, hp]

theorem exec_vfportWrite (hp : s.part n = some p) (x : Dword) :
    exec (.vfportWrite n x) s = .next (s.writeVfport n p x) := by
  change execVfportWrite n x s = _
  rw [execVfportWrite, hp]

end Events

/-! ## QCTL_WRITE (R312) -/

section QueueControl
variable {s : State} {n m : Nat} {p : Partition}

theorem exec_qctlWrite_refused (hp : s.part n = some p) (hm : m < 64) {x : Word}
    (h : 16 < bits x.toNat 0 5 ∨
      ((p.queue m).en = true ∧ (x.getLsbD 30 ≠ (p.queue m).src ∨ bits x.toNat 0 5 ≠ (p.queue m).logn))) :
    exec (.qctlWrite n m x) s = .next (s.setPart n (p.setQueue m { p.queue m with err := true })) := by
  have hq := Queue.writeCtl_refused h
  have hen : ((p.queue m).writeCtl x).en = false ∨ (p.queue m).en = true := by
    rw [hq]; cases (p.queue m).en <;> simp
  rw [exec_qctlWrite hp hm, writeQueueCtl_of_not_rising hen, hq]

/-- QCTL accepted: the queue's new record, the launches when EN rises, and nothing else otherwise. -/
theorem exec_qctlWrite_accepted (hp : s.part n = some p) (hm : m < 64) {x : Word} (hle : bits x.toNat 0 5 ≤ 16)
    (hsame : (p.queue m).en = true → x.getLsbD 30 = (p.queue m).src ∧ bits x.toNat 0 5 = (p.queue m).logn) :
    ∃ r t, exec (.qctlWrite n m x) s = .next t ∧ t.part n = some (p.setQueue m r) ∧
      (x.getLsbD 31 = false ∨ (p.queue m).en = true → t = s.setPart n (p.setQueue m r)) ∧
      (x.getLsbD 31 = true → (p.queue m).en = false → ∀ e, e ∈ t.launches ↔ ∃ o ∈ s.launches, o.1 = e.1 ∧
        (o.2.part = n ∧ o.2.queue = some m → o.2.finished = false ∧ e.2 = { o.2 with detached := true }) ∧
        (¬ (o.2.part = n ∧ o.2.queue = some m) → e.2 = o.2)) ∧
      r = { p.queue m with en := x.getLsbD 31, src := x.getLsbD 30, pri := bits x.toNat 16 2, logn := bits x.toNat 0 5,
                           err := (p.queue m).err && !x.getLsbD 29, tail := r.tail, head := r.head, disp := r.disp } ∧
      (r.tail, r.head, r.disp) = if x.getLsbD 31 = true ∧ (p.queue m).en = false then (0, 0, 0)
        else ((p.queue m).tail, (p.queue m).head, (p.queue m).disp) := by
  have hq := Queue.writeCtl_accepted hle hsame
  have hen : ((p.queue m).writeCtl x).en = x.getLsbD 31 := by rw [hq]
  refine ⟨_, _, exec_qctlWrite hp hm x, writeQueueCtl_part .., fun h => writeQueueCtl_of_not_rising (hen ▸ h),
    fun hx => mem_launches_writeQueueCtl_of_rising (hen.trans hx), ?_, ?_⟩
  · rw [hq]
  · rw [hq]; split <;> rfl

end QueueControl

/-- Settles O50. Each clause takes the rule of its event for the word that it writes, and then what the operation under that
word comes to. -/
theorem registerWriteEvents : Obligations.RegisterWriteEvents := by
  intro s n m p hp
  refine ⟨exec_budgetWrite hp, fun hm x => ?queue, fun hm => exec_eventCounterWrite hp hm, exec_flctlWrite hp,
    fun hm word x hw => ?group, fun v tier x hv ht => ?guar, fun v x hv => ?migration, fun x => ?vfbind, fun x => ?vfport,
    fun off x h => ?controlPage, fun off size x h => ?otherSize, fun x => ?bindingByNumber,
    fun v off x hv hoff h => ?migrationByNumber, fun size x => ?csrs, fun hm x => ?decoders,
    fun v k r off x hb hoff => ⟨?hostDown, fun hu => ?hostUp⟩⟩
  case queue =>
    refine ⟨exec_qctlWrite_refused hp hm, fun hle hsame => ?_, fun hsrc hlo hhi => ?_, fun h => ?_, ?_⟩
    · obtain ⟨r, t, ht, hpart, hset, hrest⟩ := exec_qctlWrite_accepted hp hm hle hsame
      exact ⟨r, t, ht, hpart, fun h => congrArg _ (hset h), hrest⟩
    · rw [exec_qtailWrite hp hm, Queue.writeTail_accepted hsrc hlo hhi]
    · rw [exec_qtailWrite hp hm, Queue.writeTail_refused h]
    · rw [exec_qownWrite hp hm, Queue.writeOwn_eq]
  case group =>
    obtain ⟨r, hr, hgroup⟩ := writeGroup_part s n p m word x
    exact ⟨_, r, exec_groupRecordWrite hp hm hw x, hr, hgroup⟩
  case guar =>
    rw [exec_guarWrite hv ht]
    refine ⟨fun hb => by rw [writeGuar_of_unbound hv hb], fun k r hb => ?_⟩
    rw [writeGuar_of_bound hv hb]
    refine ⟨fun h => ?_, fun hcap hle => ?_, fun hcap hlt => ?_⟩
    · rw [if_pos h]
    · rw [if_neg (Nat.not_lt.2 hcap), if_neg (Nat.not_lt.2 hle)]
    · rw [if_neg (Nat.not_lt.2 hcap), if_pos hlt, releaseHolds_eq]
  case migration =>
    refine ⟨?_, fun off h => exec_migWrite_unaligned h v x, fun tier ht => ⟨?_, ?_⟩⟩
    · rw [exec_migWrite hv rfl, writeMig_qcnt]
    · rw [exec_migWrite hv (by omega), writeMig_used ht]
    · rw [exec_migWrite hv (by omega), writeMig_recl ht]
  case vfbind =>
    rw [exec_vfbindWrite hp]
    exact ⟨fun h => congrArg _ (writeVfbind_ignored h), fun h => ⟨_, rfl, writeVfbind_accepted h⟩⟩
  case vfport =>
    rw [exec_vfportWrite hp]
    exact ⟨fun h => congrArg _ (writeVfport_ignored h), fun h => congrArg _ (writeVfport_accepted h)⟩
  case controlPage => rw [exec_registerWrite_controlPage, regWrite_word h, setRegWord_controlPage]
  case otherSize => rw [exec_registerWrite_controlPage, regWrite_ignored h]
  case bindingByNumber =>
    constructor
    · rw [exec_registerWrite_controlPage, regWrite_vfbind hp, exec_vfbindWrite hp]
    · rw [exec_registerWrite_controlPage, regWrite_vfport hp, exec_vfportWrite hp]
  case migrationByNumber =>
    rw [exec_registerWrite_vfPage hv, regWrite_word (by omega), exec_migWrite hv h, setRegWord_vfPage, Option.isNone_none,
      vfWrite_migration hoff]
  case csrs =>
    exact ⟨exec_registerWrite_csr hp 0x700 size x, exec_registerWrite_csr hp 0x701 size x,
      exec_registerWrite_csr hp 0x702 size x, exec_registerWrite_csr hp 0x703 size x⟩
  case decoders =>
    exact ⟨exec_registerWrite_decoder hm 0 x, exec_registerWrite_decoder hm 8 x, exec_registerWrite_decoder hm 16 x⟩
  case hostDown => exact fun hd region size => exec_registerWrite_host_down hb hd region off size x
  case hostUp =>
    refine ⟨fun h hne => ?_, fun hr => ?_, fun hr hm => ?_, ?_⟩
    · rw [exec_registerWrite_host_controlPage hb hu, regWrite_word hoff, setRegWord_controlPage,
        controlWrite_host_below_queues h hne]
    · rw [exec_registerWrite_host_controlPage hb hu, regWrite_word rfl, setRegWord_controlPage, controlWrite_flhead hr]
    · rw [exec_registerWrite_host_controlPage hb hu, regWrite_word (by omega), setRegWord_controlPage,
        controlWrite_queueCtl_host hr hm, exec_qctlWrite hr hm, apply_ite Host.Outcome.next]
    · rw [exec_registerWrite_host_vfPage hb hu, regWrite_word rfl, setRegWord_vfPage, vfWrite_evtn]

end Sys2Proof.Machine

/-! What the end of a launch leaves of the other launches, and what the fence of a partition leaves in its spirals: each with the
premise under which it holds, and a state without it, which the statements on the events of the distributors and of the device
do not leave out. -/
namespace Sys2Proof.Machine

/-! ## What a forgotten launch leaves of the others (R316) -/

theorem onPart_work (s : State) (k : Nat) (f : Partition → Partition) :
    (s.onPart k f).launches = s.launches ∧ (s.onPart k f).gangs = s.gangs := by
  unfold State.onPart
  split <;> exact ⟨rfl, rfl⟩

theorem commandDone_work (s : State) (core res : Nat) :
    (s.commandDone core res).launches = s.launches ∧ (s.commandDone core res).gangs = s.gangs := by
  unfold State.commandDone
  split
  · exact onPart_work ..
  · exact ⟨rfl, rfl⟩

theorem leftCore_work (s : State) (core : Nat) :
    (s.leftCore core).launches = s.launches ∧ (s.leftCore core).gangs = s.gangs := by
  unfold State.leftCore
  split
  · dsimp only
    split
    · exact commandDone_work ..
    · exact ⟨rfl, rfl⟩
  · exact ⟨rfl, rfl⟩

theorem leaveCores_work (cores : List Nat) (s : State) :
    (cores.foldl (fun s k => (s.purgeFifo k).leftCore k) s).launches = s.launches ∧
      (cores.foldl (fun s k => (s.purgeFifo k).leftCore k) s).gangs = s.gangs := by
  induction cores generalizing s with
  | nil => exact ⟨rfl, rfl⟩
  | cons c r ih =>
    obtain ⟨hl, hg⟩ := leftCore_work (s.purgeFifo c) c
    exact ⟨(ih _).1.trans hl, (ih _).2.trans hg⟩

theorem onLaunch_gangs (s : State) (k : Nat) (f : Launch → Launch) : (s.onLaunch k f).gangs = s.gangs := by
  unfold State.onLaunch
  split <;> rfl

theorem onLaunch_other (s : State) {k j : Nat} (f : Launch → Launch) (h : j ≠ k) :
    (s.onLaunch k f).launch j = s.launch j := by
  unfold State.onLaunch
  split
  · exact State.setLaunch_other _ _ _ h
  · rfl

theorem removeGang_gangs {s : State} {gk : Nat} {g : Gang} (hg : s.gang gk = some g) :
    (s.removeGang gk).gangs = tdel s.gangs gk := by
  unfold State.removeGang
  rw [hg]
  refine (leaveCores_work _ _).2.trans ?_
  exact congrArg (tdel · gk) (onLaunch_gangs ..)

/-- A gang that is taken out touches its own launch alone. -/
theorem removeGang_launch_other {s : State} {gk j : Nat} {g : Gang} (hg : s.gang gk = some g) (hj : j ≠ g.launch) :
    (s.removeGang gk).launch j = s.launch j := by
  unfold State.removeGang
  rw [hg]
  refine (congrArg (tfind · j) (leaveCores_work _ _).1).trans ?_
  exact onLaunch_other s _ hj

theorem removeGang_of_none {s : State} {gk : Nat} (hg : s.gang gk = none) : s.removeGang gk = s := by
  unfold State.removeGang
  rw [hg]

/-- A gang found after another has been taken out was there before. -/
theorem gang_of_removeGang {s : State} {gk i : Nat} {g : Gang} (h : (s.removeGang gk).gang i = some g) :
    s.gang i = some g := by
  cases hg : s.gang gk with
  | none => rwa [removeGang_of_none hg] at h
  | some x =>
    rw [State.gang, removeGang_gangs hg] at h
    by_cases hi : i = gk
    · rw [hi, tfind_tdel_same] at h
      cases h
    · rwa [tfind_tdel_other _ hi] at h

theorem removeGangs_launch_other {lk j : Nat} (hj : j ≠ lk) (ks : List Nat) (s : State)
    (hks : ∀ k ∈ ks, ∀ g, s.gang k = some g → g.launch = lk) :
    (ks.foldl State.removeGang s).launch j = s.launch j := by
  induction ks generalizing s with
  | nil => rfl
  | cons k r ih =>
    have hstep : (s.removeGang k).launch j = s.launch j := by
      cases hg : s.gang k with
      | none => rw [removeGang_of_none hg]
      | some g => exact removeGang_launch_other hg (by rw [hks k List.mem_cons_self g hg]; exact hj)
    exact (ih _ fun i hi g h => hks i (List.mem_cons_of_mem _ hi) g (gang_of_removeGang h)).trans hstep

/-- A launch that is forgotten leaves every other as it was, where the table of gangs lists no key twice. -/
theorem forget_launch_other {s : State} {lk j : Nat} (hkeys : ∀ e ∈ s.gangs, s.gang e.1 = some e.2) (hj : j ≠ lk) :
    (s.forget lk).launch j = s.launch j := by
  have howned : ∀ k ∈ (s.gangs.filter fun e => e.2.launch == lk).map Prod.fst, ∀ g, s.gang k = some g → g.launch = lk := by
    intro k hk g hg
    obtain ⟨e, he, rfl⟩ := List.mem_map.1 hk
    obtain ⟨hin, hl⟩ := List.mem_filter.1 he
    rw [hkeys e hin, Option.some.injEq] at hg
    exact hg ▸ beq_iff_eq.1 hl
  exact (tfind_tdel_other _ hj).trans (removeGangs_launch_other hj _ s howned)

/-- Refutes O48: its clause on `State.forget` lets no other launch change, in every state. Where the table of gangs lists a key
twice, for a gang of launch 0 and behind it for one of launch 1, forgetting launch 1 takes out the gang that is found under the
key, and the release of launch 0 moves on to what that gang's threads have seen. `forget_launch_other` gives the clause where no
key is listed twice, which is how the model means its tables (`Tab`). -/
theorem not_schedulerEvents : ¬ Obligations.SchedulerEvents := by
  unfold Obligations.SchedulerEvents
  intro h
  let gang : Gang := { launch := 0, index := 0, band := 0, stage := 0, crews := [0], arrived := 0, state := .running }
  let s : State :=
    { Tests.fixWith (Tests.withThreads fun th => { th with view := 1 }) with
      gangs := [(0, gang), (0, { gang with launch := 1 })] }
  obtain ⟨-, -, -, -, -, -, ⟨-, hforget, -⟩, -⟩ := h s 1 0
  have hbefore : (s.launch 0).map Launch.stamp = some 0 := by decide +kernel
  have hafter : ((s.forget 1).launch 0).map Launch.stamp = some 1 := by decide +kernel
  rw [hforget 0 (by decide), hbefore] at hafter
  exact absurd hafter (by decide)

/-! ## The spirals of a fenced partition (R395) -/

theorem unpinned_spirals (s : State) (p : Partition) (owner : Option Nat) : (s.unpinned p owner).spirals = s.spirals := by
  unfold State.unpinned
  split
  · split <;> rfl
  · rfl

theorem endPins_spirals (p : Partition) (pins : Tab Tile) (s : State) :
    (pins.foldl (fun s e => s.unpinned p e.2.owner) s).spirals = s.spirals := by
  induction pins generalizing s with
  | nil => rfl
  | cons e r ih => exact (ih _).trans (unpinned_spirals s p e.2.owner)

/-- What `State.clearSpirals` does to one band. -/
def State.clearBand (p : Partition) (s : State) (b : Nat) : State :=
  ((Spiral.of s b).pinned.foldl (fun s e => s.unpinned p e.2.owner) s).setSpiral b
    { emptySpiral with res := (Spiral.of s b).res }

theorem clearSpirals_eq (s : State) (p : Partition) : s.clearSpirals p = p.bandList.foldl (State.clearBand p) s := rfl

theorem clearBand_tiles_same (s : State) (p : Partition) (b : Nat) : (Spiral.of (s.clearBand p b) b).tiles = [] := by
  rw [State.clearBand, State.setSpiral_same]
  rfl

theorem clearBand_of_other (s : State) (p : Partition) {b c : Nat} (h : b ≠ c) :
    Spiral.of (s.clearBand p c) b = Spiral.of s b := by
  rw [State.clearBand, State.setSpiral_other _ _ _ h, Spiral.of, endPins_spirals, Spiral.of]

theorem clearBands_tiles (p : Partition) {b : Nat} (bs : List Nat) (s : State)
    (h : b ∈ bs ∨ (Spiral.of s b).tiles = []) : (Spiral.of (bs.foldl (State.clearBand p) s) b).tiles = [] := by
  induction bs generalizing s with
  | nil => simpa using h
  | cons c r ih =>
    refine ih _ ?_
    by_cases hc : b = c
    · exact .inr (hc ▸ clearBand_tiles_same s p b)
    · exact h.imp (fun hm => (List.mem_cons.1 hm).resolve_left hc) fun ht => by rwa [clearBand_of_other s p hc]

theorem onPart_of (s : State) (k : Nat) (f : Partition → Partition) (b : Nat) :
    Spiral.of (s.onPart k f) b = Spiral.of s b := by
  unfold State.onPart
  split <;> rfl

/-- The fence of a partition empties the spiral of each of the 64 bands of the package (R6) that it holds. -/
theorem fencePart_tiles (s : State) (n : Nat) {p : Partition} {b : Nat} (hband : b < 64) (hold : p.holds b = true) :
    (Spiral.of (s.fencePart n p) b).tiles = [] := by
  rw [State.fencePart, onPart_of, clearSpirals_eq]
  exact clearBands_tiles p _ _ (.inl (List.mem_filter.2 ⟨List.mem_range.2 hband, hold⟩))

/-- A rectangle of which Burdy may make a partition (R371) holds bands of the package only. -/
theorem band_of_mayCreate {s : State} {p : Partition} {b : Nat} (hmay : s.mayCreate p = true) (hold : p.holds b = true) :
    b < 64 := by
  simp only [State.mayCreate, Bool.and_eq_true, decide_eq_true_eq] at hmay
  simp only [Partition.holds, Bool.and_eq_true, decide_eq_true_eq] at hold
  obtain ⟨⟨⟨-, hbot, -, -⟩, -⟩, -⟩ := hmay
  obtain ⟨⟨⟨-, hrow⟩, -⟩, -⟩ := hold
  rw [gridRow] at hrow
  omega

/-- Refutes O52: its clause on `State.fencePart` empties the spiral of every number that the partition's rectangle holds, in every
state. The rectangle of rows 0 to 4 and column 0 reaches below the grid of R9 and holds the number 64, which is no band of the
package: `Partition.bandList` does not list it, and its spiral keeps its tile. `fencePart_tiles` gives the clause for the 64 bands,
and a partition that may be made holds no other number (`band_of_mayCreate`). -/
theorem not_deviceEvents : ¬ Obligations.DeviceEvents := by
  unfold Obligations.DeviceEvents
  intro h
  let p := Partition.make 0 4 0 0
  let tile : Tile := { tile := 0, handle := 0, dirty := false, owner := none }
  let s : State := { State.reset with parts := [(0, p)], spirals := [(64, { emptySpiral with order := [tile] })] }
  obtain ⟨-, -, -, -, -, -, -, -, -, -, -, -, hfence, -⟩ := h s 0
  obtain ⟨hempty, -⟩ := hfence p rfl
  have hstays : (Spiral.of (s.fencePart 0 p) 64).tiles = [tile] := by decide +kernel
  rw [hempty 64 (by decide)] at hstays
  exact absurd hstays (by decide)

end Sys2Proof.Machine

/-! What accesses to memory leave alone: the levels of work and the issue. Every operation over tiles, clocks, copies, homes and
lattice pages keeps them, and so do a translation and the fetch of an instruction. -/
namespace Sys2Proof.Machine

/-- The levels of work, the issue being executed and the rest of it: what no access to memory changes. -/
def State.work (s : State) : Tab Launch × Tab Gang × Tab Crew × Tab Warp × Option Cur × Option Rest :=
  (s.launches, s.gangs, s.crews, s.warps, s.cur, s.rest)

theorem warps_of_work {s t : State} (h : t.work = s.work) : t.warps = s.warps := congrArg (fun x => x.2.2.2.1) h

theorem warp_of_work {s t : State} (h : t.work = s.work) (k : Nat) : t.warp k = s.warp k := by
  rw [State.warp, State.warp, warps_of_work h]

/-- A fold each step of which keeps the work keeps it. -/
theorem foldl_work {α : Type} {f : State → α → State} (hf : ∀ s a, (f s a).work = s.work) (l : List α) (s : State) :
    (l.foldl f s).work = s.work := by
  induction l generalizing s with
  | nil => rfl
  | cons a r ih => exact (ih _).trans (hf s a)

/-! ## Tiles and bytes -/

theorem drawn_work (s : State) : s.drawn.work = s.work := rfl

theorem touchTarget_work (s : State) (b : Bool) (t : Target) (handle : Nat) :
    (s.touchTarget b t handle).work = s.work := by
  unfold State.touchTarget
  split <;> rfl

theorem putBytes_work (s : State) (d : Bool) (a : Nat) (bs : List Byte) : (s.putBytes d a bs).work = s.work := by
  induction bs generalizing s a with
  | nil => rfl
  | cons b r ih => exact ih ..

theorem putSealed_work (s : State) (key a : Nat) (bs : List Byte) : (s.putSealed key a bs).work = s.work :=
  putBytes_work s false a bs

theorem putHome_work (s : State) (t : Target) (bs : List Byte) : (s.putHome t bs).work = s.work := by
  unfold State.putHome
  split
  · dsimp only
    split <;> exact putBytes_work ..
  · exact putBytes_work ..
  · exact putSealed_work ..
  · rfl
  · rfl
  · rfl

theorem findLine_work (s : State) (t : Target) : (s.findLine t).work = s.work := by
  unfold State.findLine
  split <;> rfl

theorem loseLine_work (s : State) (t : Target) : (s.loseLine t).work = s.work := by
  unfold State.loseLine
  split <;> rfl

theorem poisonTarget_work (s : State) (t : Target) (n : Nat) : (s.poisonTarget t n).work = s.work := by
  unfold State.poisonTarget
  split <;> rfl

/-! ## Clocks, owners and copies -/

theorem tick_work (s : State) (slice : Nat) (v : Dword) : (s.tick slice v).work = s.work := rfl
theorem probe_work (s : State) (keep : Nat) (ws : List Nat) : (s.probe keep ws).work = s.work := rfl

theorem writeTime_work (s : State) (ws : List Nat) (v : Dword) : (s.writeTime ws v).1.work = s.work := by
  suffices h : ∀ acc : State × Dword, (ws.foldl (fun acc w =>
      let c := acc.1.clockOf w
      let vt := laterOf acc.2 (laterOf (c.wts + 1) (c.rts + 1))
      (acc.1.setClock w { c with wts := vt }, vt)) acc).1.work = acc.1.work from h (s, v)
  induction ws with
  | nil => exact fun _ => rfl
  | cons w r ih => exact fun acc => ih _

theorem giveBack_work (s : State) (w : Nat) : (s.giveBack w).work = s.work := by
  unfold State.giveBack
  dsimp only
  split
  · split <;> rfl
  · rfl

theorem recall_work (s : State) (core : Nat) (ws : List Nat) : (s.recall core ws).work = s.work := by
  refine foldl_work (fun s w => ?_) ws s
  split
  · split
    · rfl
    · exact giveBack_work ..
  · rfl

theorem recallAll_work (s : State) (ws : List Nat) : (s.recallAll ws).work = s.work := by
  unfold State.recallAll
  refine foldl_work (fun s e => ?_) _ s
  exact giveBack_work s e.1

theorem writeHome_work (s : State) (v : Dword) (t : Target) (bs : List Byte) : (s.writeHome v t bs).1.work = s.work := by
  have htime : ((s.recallAll (t.words bs.length)).writeTime (t.words bs.length) v).1.work = s.work :=
    (writeTime_work ..).trans (recallAll_work ..)
  unfold State.writeHome State.writeKeep
  dsimp only
  split
  case h_6 => rfl
  all_goals rw [putHome_work, probe_work, tick_work, htime]

/-! ## Translation (R343 to R348) and lattice pages (R123) -/

theorem markLeaf_work {s t : State} {va : Dword} {c : Cached} {l : Leaf} {d : Nat} (h : s.markLeaf va c l d = .ok t) :
    t.work = s.work := by
  unfold State.markLeaf at h
  generalize (if c.entry ||| 64 ||| d = c.entry then 0 else 64 ||| d) = b at h
  dsimp only at h
  split at h
  · cases h
    rfl
  · split at h
    · cases h
    · cases h
    · cases h
      exact writeHome_work ..

theorem ask_work (s : State) (l : List Sent) : (s.ask l).work = s.work := by
  unfold State.ask
  split <;> rfl

theorem fill_work (s : State) (c : Cached) : (s.fill c).work = s.work := by
  unfold State.fill
  split <;> rfl

theorem through_work {s : State} {core : Nat} {sup : Bool} {need : Need} {va : Dword} {c : Cached} {l : Leaf}
    {r : State × Site} (h : s.through core sup need va c l = .ok r) : r.1.work = s.work := by
  unfold State.through at h
  split at h
  · cases h
  · obtain ⟨t, hmark, h⟩ := andThen_ok h
    cases h
    calc (t.fill _).work = t.work := fill_work ..
      _ = ((s.recallAll l.words).ask l.asked).work := markLeaf_work hmark
      _ = s.work := (ask_work ..).trans (recallAll_work ..)

theorem translate_work {s : State} {p : Partition} {core : Nat} {sup : Bool} {need : Need} {va : Dword} {r : State × Site}
    (h : s.translate p core sup need va = .ok r) : r.1.work = s.work := by
  unfold State.translate at h
  split at h
  · cases h
  · dsimp only at h
    split at h
    · obtain ⟨l, -, h⟩ := andThen_ok h
      exact through_work h
    · split at h
      · obtain ⟨q, hq, h⟩ := andThen_ok h
        cases h
        exact (through_work hq :)
      · obtain ⟨q, hq, h⟩ := andThen_ok h
        cases h
        obtain ⟨l, -, hq⟩ := andThen_ok hq
        exact (through_work hq :)

theorem enterLattice_work (s : State) (p : Partition) (core pa a lt : Nat) : (s.enterLattice p core pa a lt).work = s.work := by
  unfold State.enterLattice
  extract_lets tiles s0 reps lost hurt clocks s1
  have h0 : s0.work = s.work := foldl_work (fun s x => recallAll_work s _) tiles s
  calc s1.work = (tiles.foldl (fun s x => s.cleanse (x.2.words 2048)) s0).work :=
        foldl_work (fun s l => findLine_work s l.2) lost _
    _ = s0.work := foldl_work (fun _ _ => rfl) tiles s0
    _ = s.work := h0

theorem leaveLattice_work (s : State) (p : Partition) (core pa a lt : Nat) : (s.leaveLattice p core pa a lt).work = s.work := by
  unfold State.leaveLattice
  extract_lets fenced mine timed written hurt tiles s1 s2 s3
  have h1 : s1.work = s.work := foldl_work (fun s x =>
    foldl_work (fun s o => writeHome_work ..) _ s) tiles s
  have h2 : s2.work = s1.work := by
    refine foldl_work (fun s x => foldl_work (fun s i => ?_) _ s) tiles s1
    split
    · exact loseLine_work ..
    · rfl
  have h3 : s3.work = s2.work := foldl_work (fun s x =>
    foldl_work (fun s o => poisonTarget_work ..) _ s) tiles s2
  exact h3.trans (h2.trans h1)

theorem settlePage_work (s : State) (p : Partition) (core : Nat) (x : Site) : (s.settlePage p core x).1.work = s.work := by
  unfold State.settlePage
  dsimp only
  split
  · rfl
  · rfl
  · split
    · rfl
    · exact leaveLattice_work ..
    · exact enterLattice_work ..
    · dsimp only
      split
      · rfl
      · exact (enterLattice_work ..).trans (leaveLattice_work ..)

theorem site_work {s : State} {w : Who} {va : Dword} {n : Nat} {need : Need} {r : State × Site × Target}
    (h : s.site w va n need = .ok r) : r.1.work = s.work := by
  unfold State.site at h
  split at h
  · split at h
    · cases h
    · cases h
      rfl
  · split at h
    · cases h
    · split at h
      · cases h
      · split at h
        · cases h
        · obtain ⟨q, hq, h⟩ := andThen_ok h
          cases h
          exact (settlePage_work ..).trans (translate_work hq)

/-! ## Instruction fetch (R129, R130) -/

theorem keepCode_work (s : State) (core place half : Nat) : (s.keepCode core place half).work = s.work := by
  unfold State.keepCode
  dsimp only
  split <;> rfl

theorem peerLoad_work {s : State} {kind : Kind} {dev port off n : Nat} {v va : Dword} {r : State × Dword × List Byte}
    (h : s.peerLoad kind dev port off n v va = .ok r) : r.1.work = s.work := by
  unfold State.peerLoad at h
  dsimp only at h
  split at h
  · cases h
  · cases h
    rfl

theorem fetchAt_work {s : State} {core place now : Nat} {fresh : Answer State} {r : State × Nat}
    (hfresh : ∀ t, fresh = .ok t → t.work = s.work) (h : s.fetchAt core place now fresh = .ok r) : r.1.work = s.work := by
  have hread : ∀ q, (fresh.andThen fun t => .ok (t.keepCode core place now, now)) = .ok q → q.1.work = s.work := by
    intro q hq
    obtain ⟨t, ht, hq⟩ := andThen_ok hq
    cases hq
    exact (keepCode_work ..).trans (hfresh t ht)
  unfold State.fetchAt at h
  dsimp only at h
  split at h
  · exact hread r h
  · split at h
    · cases h
      rfl
    · obtain ⟨q, hq, h⟩ := andThen_ok h
      cases h
      exact hread q hq

theorem fetchHalf_work {s : State} {core : Nat} {sup : Bool} {va : Dword} {r : State × Nat}
    (h : s.fetchHalf core sup va = .ok r) : r.1.work = s.work := by
  unfold State.fetchHalf at h
  obtain ⟨q, hq, h⟩ := andThen_ok h
  rw [← site_work hq]
  extract_lets place read at h
  have hread : ∀ t, read t = .ok r → r.1.work = q.1.work := by
    intro t ht
    refine fetchAt_work (fun u hu => ?_) ht
    split at hu
    · cases hu
    · split at hu
      · cases hu
      · cases hu
        rw [touchTarget_work, recall_work, drawn_work]
  split at h
  · exact hread _ h
  · cases h
  · cases h
  · obtain ⟨u, hu, h⟩ := andThen_ok h
    cases h
    exact (peerLoad_work hu :)
  · cases h
    rfl
  · cases h
    rfl
  · exact hread _ h

theorem fetchWord_work {s : State} {core : Nat} {sup : Bool} {va : Dword} {r : State × Nat × Nat}
    (h : s.fetchWord core sup va = .ok r) : r.1.work = s.work := by
  unfold State.fetchWord at h
  obtain ⟨q, hq, h⟩ := andThen_ok h
  split at h
  · cases h
    exact fetchHalf_work hq
  · obtain ⟨u, hu, h⟩ := andThen_ok h
    cases h
    exact (fetchHalf_work hu).trans (fetchHalf_work hq)

end Sys2Proof.Machine

/-! No instruction of the machine faults and none is refused: a word goes on wherever a warp issues, an event everywhere; and what
the machine plans is an event, or a word for the warp that it has named. -/
namespace Sys2Proof.Machine

/-- An outcome that names a next state. -/
def GoesOn (o : Host.Outcome State Fault Refusal) : Prop := ∃ t, o = .next t

theorem goesOn_next (t : State) : GoesOn (.next t) := ⟨t, rfl⟩

theorem goesOn_onIssue {s : State} {c : Cur} {w : Warp} (hi : Issuing s c w) (f : Cur → Warp → State) : GoesOn (onIssue s f) :=
  ⟨_, onIssue_issuing hi⟩

/-- The guard leaves its warp issuing, with the threads whose predicate holds (R139). -/
theorem exec_guard {s : State} {c : Cur} {w : Warp} (hi : Issuing s c w) (n : BitVec 1) (p : BitVec 3) :
    exec (.guard n p) s =
      .next { s with cur := some (c.takes w (c.group &&& w.where_ fun th => th.pred p.toNat ^^ (n == 1))) } :=
  onIssue_issuing hi

/-! ## Events -/

/-- A word goes on where a warp issues (R24); an event goes on in every state. -/
theorem exec_goesOn (i : Instr) (s : State) (h : isEvent i = false → ∃ c w, Issuing s c w) : GoesOn (exec i s) := by
  cases i with
  | lxschedWrite | smapUnmap | shdwReserveRing8 | shdwReserveRings78 | shdwRelease | powerAlarm | budgetWrite | qctlWrite |
    qtailWrite | qownWrite | eventCounterWrite | launchBegin | gangSteal | pcmdVacate | pcmdReturn | phlimExpiry | tinvcPage |
    tinvcAll | tinvcComplete | flctlWrite | coreGateOff | corePowerRestored | routerPowerDown | routerWakeSignal |
    routerPowerRestored | groupRecordWrite | guarWrite | migWrite | reset | bootctlGo | firmwareCheckDone | partitionCreate |
    stackFence | securityAlarm | writebackAccepted | onlyCopyUncorrectableError | powerAlarmEnd => exact goesOn_next _
  | watchdog | cvbTimeout | lldTimeout | trapEntry | nestedTrapEntry | taskStart | taskComplete | rangeOpComplete |
    demoteEvictStatus | latticeRound | smapMap | smapWritebackDone | spiralUncorrectableError | energyWindow | gangDispatch |
    crewFinish | launchCompletion | heldStop | preemptSaveEntry | preemptRestoreEntry | jalefLinkChange | hostPortLinkChange |
    hostAccess | peerAccess | poolAdmit | poolGrow | poolRet | vfbindWrite | vfportWrite | raiseFullService |
    partitionDestroy | pbootGo | peerCollectiveMessage | registerWrite =>
    dsimp only [exec, execWatchdog, execCvbTimeout, execLldTimeout, execTrapEntry, execNestedTrapEntry, execTaskStart,
    execTaskComplete, execRangeOpComplete, execDemoteEvictStatus, execLatticeRound, execSmapMap, execSmapWritebackDone,
    execSpiralUncorrectableError, execEnergyWindow, execGangDispatch, execCrewFinish, execLaunchCompletion, execHeldStop,
    execPreemptSaveEntry, execPreemptRestoreEntry, execJalefLinkChange, execHostPortLinkChange, execHostAccess, execPeerAccess,
    execPoolAdmit, execPoolGrow, execPoolRet, execVfbindWrite, execVfportWrite, execRaiseFullService, execPartitionDestroy,
    execPbootGo, execPeerCollectiveMessage, execRegisterWrite, poolOp]
    repeat' split
    all_goals exact goesOn_next _
  | _ =>
    obtain ⟨c, w, hi⟩ := h rfl
    exact goesOn_onIssue hi _

/-! ## Plans -/

/-- A plan that can be carried out: it executes nothing, an event, or a word where a warp issues, before which at most a guard
stands. -/
def Plan.Fits (p : Plan) : Prop :=
  (p.guard = none ∧ ∀ i, p.instr = some i → isEvent i = true) ∨
    ((∃ c w, Issuing p.state c w) ∧ ∀ g, p.guard = some g → ∃ n k, g = .guard n k)

theorem Plan.still_fits (s : State) : (Plan.still s).Fits := .inl ⟨rfl, fun _ h => by cases h⟩

theorem Plan.event_fits {i : Instr} (s : State) (h : isEvent i = true) :
    ({ state := s, guard := none, instr := some i } : Plan).Fits :=
  .inl ⟨rfl, fun j hj => by cases hj; exact h⟩

theorem Plan.run_goesOn {p : Plan} (h : p.Fits) : GoesOn p.run := by
  obtain ⟨s, g, i⟩ := p
  cases i with
  | none => exact goesOn_next s
  | some i =>
    rcases h with ⟨hg, hi⟩ | ⟨⟨c, w, hi⟩, hg⟩
    · cases hg
      exact exec_goesOn i s fun hw => absurd (hi i rfl) (by rw [hw]; decide)
    · cases g with
      | none => exact exec_goesOn i s fun _ => ⟨c, w, hi⟩
      | some g =>
        obtain ⟨n, k, rfl⟩ := hg g rfl
        dsimp only [Plan.run]
        rw [exec_guard hi n k]
        exact exec_goesOn i _ fun _ => ⟨_, w, rfl, hi.2⟩

/-- A word that is a guard decodes to one (R139). -/
theorem decode32_of_isGuard {b : Bool} {x : Nat} {g : Instr} (hx : isGuard x = true) (h : decode32 b x = .ok g) :
    ∃ n k, g = .guard n k := by
  simp only [isGuard, Bool.and_eq_true, beq_iff_eq] at hx
  obtain ⟨⟨-, hmajor⟩, hfun⟩ := hx
  have hpick : pick x = some ⟨[(7, 6), (18, 10)], true, .guard (field x 17 1) (field x 14 3)⟩ := by
    simp only [pick, hmajor, pick14, hfun]
  unfold decode32 at h
  rw [hpick] at h
  dsimp only at h
  split at h
  · split at h
    · cases h
    · cases h
      exact ⟨_, _, rfl⟩
  · cases h

theorem planGroup_fits (s : State) (wk : Nat) (m : Word) (pc clk : Dword) : (s.planGroup wk m pc clk).Fits := by
  unfold State.planGroup
  split
  · exact Plan.still_fits s
  · rename_i w hw
    dsimp only
    split
    · exact Plan.still_fits _
    · exact Plan.still_fits _
    · rename_i f hf
      have hf' : f.1.warp wk = some w := (warp_of_work (fetchWord_work hf) wk).trans hw
      split
      · rename_i hguard
        split
        · exact .inr ⟨⟨_, w, rfl, hf'⟩, fun _ h => by cases h⟩
        · rename_i g hg
          split
          · exact Plan.still_fits _
          · exact Plan.still_fits _
          · rename_i h hh
            refine .inr ⟨⟨_, w, rfl, (warp_of_work (fetchWord_work hh) wk).trans hf'⟩, fun g' hg' => ?_⟩
            cases hg'
            exact decode32_of_isGuard hguard.2 hg
      · exact .inr ⟨⟨_, w, rfl, hf'⟩, fun _ h => by cases h⟩

theorem planIssue_fits {s : State} {wk : Nat} {p : Plan} (h : s.planIssue wk = some p) : p.Fits := by
  unfold State.planIssue at h
  split at h
  · cases h
  · dsimp only at h
    split at h
    · cases h
    · split at h <;> cases h <;> exact planGroup_fits ..

theorem planB_fits (s : State) (r : Rest) (m : Word) (pc : Dword) : (s.planB r m pc).Fits := by
  unfold State.planB
  dsimp only
  split
  · exact Plan.still_fits _
  · split
    · exact Plan.still_fits _
    · exact planGroup_fits ..

theorem planTurn_fits (s : State) (t : Turn) : (s.planTurn t).Fits := by
  cases t with
  | event i =>
    dsimp only [State.planTurn]
    split
    · next h => exact Plan.event_fits s h
    · exact Plan.still_fits s
  | issue wk =>
    dsimp only [State.planTurn]
    cases h : s.planIssue wk with
    | none => exact Plan.still_fits s
    | some p => exact planIssue_fits h
  | _ => exact Plan.still_fits _


/-! ## What the default scheduler takes -/

theorem forall_mem_orElse {α : Type} {P : α → Prop} {a : Option α} {b : Unit → Option α} (ha : ∀ x ∈ a, P x)
    (hb : ∀ x ∈ b (), P x) : ∀ x ∈ a.orElse b, P x := by
  cases a with
  | none => exact hb
  | some y => exact ha

theorem forall_mem_findSome? {α β : Type} {P : β → Prop} {f : α → Option β} {l : List α} (h : ∀ a, ∀ x ∈ f a, P x) :
    ∀ x ∈ l.findSome? f, P x := by
  intro x hx
  obtain ⟨a, -, ha⟩ := List.exists_of_findSome?_eq_some hx
  exact h a x ha

theorem forall_mem_map {α β : Type} {P : β → Prop} {f : α → β} {o : Option α} (h : ∀ a, P (f a)) : ∀ x ∈ o.map f, P x := by
  intro x hx
  obtain ⟨a, -, rfl⟩ := Option.mem_map.1 hx
  exact h a

theorem dueWork_isEvent (s : State) : ∀ i ∈ s.dueWork, isEvent i = true := by
  unfold State.dueWork
  refine forall_mem_orElse (forall_mem_findSome? fun _ => forall_mem_findSome? fun _ => forall_mem_map fun _ => rfl) ?_
  refine forall_mem_orElse (forall_mem_findSome? fun _ => forall_mem_findSome? fun _ => forall_mem_map fun _ => rfl) ?_
  iterate 4 refine forall_mem_orElse (forall_mem_map fun _ => rfl) ?_
  exact forall_mem_map fun _ => rfl

theorem dueThread_isEvent (s : State) : ∀ i ∈ s.dueThread, isEvent i = true := by
  unfold State.dueThread
  iterate 6 refine forall_mem_orElse (forall_mem_map fun _ => rfl) ?_
  refine forall_mem_orElse (forall_mem_findSome? fun _ => forall_mem_map fun _ => rfl) ?_
  exact forall_mem_orElse (forall_mem_map fun _ => rfl) (forall_mem_map fun _ => rfl)

theorem dueCommand_isEvent (s : State) : ∀ i ∈ s.dueCommand, isEvent i = true := by
  intro i hi
  obtain ⟨e, -, he⟩ := Option.mem_bind_iff.1 hi
  obtain ⟨x, -, rfl⟩ := Option.mem_map.1 he
  split <;> rfl

theorem dueDevice_isEvent (s : State) : ∀ i ∈ s.dueDevice, isEvent i = true := by
  unfold State.dueDevice
  refine forall_mem_orElse (dueCommand_isEvent s) ?_
  iterate 9 refine forall_mem_orElse (forall_mem_map fun _ => rfl) ?_
  exact forall_mem_map fun _ => rfl

theorem dueEvent_isEvent (s : State) : ∀ i ∈ s.dueEvent, isEvent i = true :=
  forall_mem_orElse (dueWork_isEvent s) (forall_mem_orElse (dueThread_isEvent s) (dueDevice_isEvent s))

theorem planDefault_fits (s : State) : s.planDefault.Fits := by
  have hgetD : ∀ {o : Option Plan} (t : State), (∀ p ∈ o, p.Fits) → (o.getD (Plan.still t)).Fits := by
    intro o t h
    cases o with
    | none => exact Plan.still_fits t
    | some p => exact h p rfl
  have hissue : ∀ t : State, ∀ p ∈ t.dueIssue, p.Fits := fun t => forall_mem_findSome? fun e p hp => planIssue_fits hp
  have hevent : ∀ t : State, ∀ p ∈ s.dueEvent.map fun i => ({ state := t, guard := none, instr := some i } : Plan), p.Fits := by
    intro t p hp
    obtain ⟨i, hi, rfl⟩ := Option.mem_map.1 hp
    exact Plan.event_fits t (dueEvent_isEvent s i hi)
  unfold State.planDefault
  dsimp only
  split
  · exact hgetD _ (forall_mem_orElse (hevent _) (hissue _))
  · exact hgetD _ (forall_mem_orElse (hissue _) (hevent _))

theorem plan_fits (s : State) : s.plan.Fits := by
  unfold State.plan
  split
  · exact planB_fits ..
  · dsimp only
    split
    · exact planTurn_fits ..
    · exact planDefault_fits _

/-- A step ends what its plan comes to (R24, R28, R30). -/
theorem step_eq_finish {s t : State} (h : step s = .next t) : ∃ u, s.plan.run = .next u ∧ t = u.finish := by
  unfold step settle at h
  split at h
  · next u hu =>
    cases h
    exact ⟨u, hu, rfl⟩
  · cases h
  · cases h

/-- The end of a step leaves no instruction half done, and of an issue that goes on its group B (R28, R30). -/
theorem finish_boundary (s : State) :
    s.finish.cur = none ∧ (∀ r, s.finish.rest = some r → r.groupB.isSome = true) ∧ (s.finish.rest = none → s.finish.switch = false) := by
  unfold State.finish
  split
  · next h =>
    refine ⟨rfl, ?_, fun _ => rfl⟩
    intro r hr
    exact absurd (h.symm.trans hr) (by simp)
  · next r hr =>
    split
    · next hb =>
      refine ⟨rfl, ?_, ?_⟩
      · intro x hx
        cases hr.symm.trans hx
        exact hb
      · intro hx
        exact absurd (hr.symm.trans hx) (by simp)
    · refine ⟨rfl, ?_, fun _ => rfl⟩
      intro x hx
      exact absurd hx (by simp)


/-- Settles O58. What a step plans can be carried out (`plan_fits`): it is an event, which goes on in every state, or a word for the
warp that issues, after at most a guard, which leaves that warp issuing. -/
theorem everyStepGoesOn : Obligations.EveryStepGoesOn := by
  unfold Obligations.EveryStepGoesOn
  intro s
  obtain ⟨t, ht⟩ := Plan.run_goesOn (plan_fits s)
  exact ⟨t.finish, by rw [step, ht]; rfl⟩

/-- Settles O59: a step ends by `State.finish`, whatever its plan has done. -/
theorem stepsEndAtBoundaries : Obligations.StepsEndAtBoundaries := by
  unfold Obligations.StepsEndAtBoundaries
  intro s t h
  obtain ⟨u, -, rfl⟩ := step_eq_finish h
  exact finish_boundary u

end Sys2Proof.Machine

/-! Branches, calls and jumps (R186 to R188): what each leaves of the warp that issues it, the threads with an odd target apart. -/
namespace Sys2Proof.Machine

section Branches
variable {s : State} {c : Cur} {w : Warp}

theorem exec_br (hi : Issuing s c w) (i : BitVec 21) (n : BitVec 1) (p : BitVec 3) :
    exec (.br i n p) s = .next ((s.setWarp c.warp (w.onThreads c.group fun th =>
      { th with pc := if th.branches n p then branchTarget c.pc i else c.next })).switchIf
        ((threadsOf c.group).any fun t => (w.thread t).branches n p)) :=
  onIssue_issuing hi

theorem exec_call (hi : Issuing s c w) (hc : Clear c w (useV 62 2)) (i : BitVec 21) :
    exec (.call i) s = .next (s.switched.setWarp c.warp (w.onThreads c.group fun th =>
      { th.setVs 62 [lowWord c.next, highWord c.next] with pc := branchTarget c.pc i })) := by
  refine (onIssue_issuing hi).trans ?_
  rw [gated_clear hc, switchIf_true]

/-- A jump some of whose threads have an odd target: they trap, and the others jump (R129, R188). -/
theorem jump_odd {a : BitVec 7} {link : Option (BitVec 6)} (hi : Issuing s c w) (hc : Clear c w (linkUses a link))
    (hh : c.held = none) (ho : (threadsOf c.taking).filter (fun t => (s.val64 c w false t a).getLsbD 0) ≠ []) :
    jump s a link = .next (((s.setWarp c.warp (w.mapThreads fun t th =>
      if inMask c.taking t then (if (s.val64 c w false t a).getLsbD 0 then th else
        { th.linked link c.next with pc := s.val64 c w false t a })
      else if inMask c.group t then { th with pc := c.next } else th)).switchIf
        ((threadsOf c.taking).any fun t => !(s.val64 c w false t a).getLsbD 0)).raise c
      (((threadsOf c.taking).filter fun t => (s.val64 c w false t a).getLsbD 0).map fun t =>
        (t, trapAt 4 2 (s.val64 c w false t a)))) := by
  refine (onIssue_issuing hi).trans ?_
  rw [gated_clear hc, switchIf_false, ctx_plain hh]
  refine congrArg Host.Outcome.next (if_neg fun h => ho ?_)
  exact List.map_eq_nil_iff.1 (List.isEmpty_iff.1 h)

end Branches

/-- Settles O17: `exec_br` and `exec_call`, and for a jump `jump_done` where every target is even and `jump_odd` where one is not. -/
theorem branchResults : Obligations.BranchResults := by
  unfold Obligations.BranchResults
  refine ⟨⟨fun s c w i n p hi => exec_br hi i n p, fun s c w i hi hc => exec_call hi hc i⟩, ?_⟩
  intro s c w a link i hlink hi hc hh target bad linked jumped
  have hexec : exec i s = jump s a link := by
    rcases hlink with ⟨rfl, rfl | rfl⟩ | ⟨d, rfl, rfl⟩ <;> rfl
  rw [hexec]
  refine ⟨fun hbad => ?_, fun hbad => jump_odd hi hc hh hbad⟩
  have heven : ∀ t < 32, inMask c.taking t = true → (target t).getLsbD 0 = false := by
    intro t ht hm
    have := List.filter_eq_nil_iff.1 hbad t (mem_threadsOf.2 ⟨ht, hm⟩)
    simpa using this
  rw [jump_done hi hc hh heven]
  refine congrArg (fun x => Host.Outcome.next (s.switched.setWarp c.warp x)) (mapThreads_congr fun t ht => ?_)
  split
  · next hm => rw [if_neg (by rw [heven t ht hm]; decide)]; rfl
  · rfl

end Sys2Proof.Machine

/-! What the guard and the uniform forms change besides what their statements name: the operands that an issue has read before, and
the completion codes that a warp's registers hold. -/
namespace Sys2Proof.Machine

/-! ## The guard (R139) -/

/-- A guard takes with it what the lowest thread that it lets take part has read before, none where it lets no thread (R233). -/
theorem takes_held_of_none (c : Cur) (w : Warp) : (c.takes w 0).held = none := rfl

/-- Refutes O18: its clause on the guard keeps what the issue has read (`Cur.held`), in every state. Threads 0 to 3 of
a warp that has just started issue again after a wait of thread 0, which has read its operands; p0 is false in all of them, so that
the guard lets no thread take part and nothing that has been read stays with the issue (`exec_guard`, `takes_held_of_none`). -/
theorem not_controlResults : ¬ Obligations.ControlResults := by
  unfold Obligations.ControlResults
  rintro ⟨⟨-, hguard⟩, -⟩
  let read : Held := { s := [], clk := 0, l0 := none, l1 := none, l2 := none, l3 := none }
  let w : Warp := (Warp.start 0 0 0 0 64 32 0x10000 0 0 true).onThreads 1 fun th => { th with held := some read }
  let c : Cur :=
    { warp := 0, group := 0xF, taking := 0xF, pc := 0x10000, next := 0x10008, word := 0, clk := 0, held := some read }
  let s : State := { State.reset with warps := [(0, w)], cur := some c }
  have hi : Issuing s c w := ⟨rfl, rfl⟩
  have heq := Host.Outcome.next.inj ((exec_guard hi 0 0).symm.trans (hguard s c w 0 0 hi))
  have hnone : c.group &&& w.where_ (fun th => th.pred 0 ^^ (0 == (1 : BitVec 1))) = 0 := by decide +kernel
  have hheld : (c.takes w 0).held = some read := by
    rw [← hnone]
    exact congrArg (fun t : State => t.cur.bind Cur.held) heq
  exact absurd hheld (by rw [takes_held_of_none]; simp)

/-! ## Uniform results (R117, R171) -/

theorem tdel_of_tfind_none {α : Type} {t : Tab α} {k : Nat} (h : tfind t k = none) : tdel t k = t := by
  induction t with
  | nil => rfl
  | cons e r ih =>
    obtain ⟨j, b⟩ := e
    by_cases hj : j = k
    · simp [tfind, hj] at h
    · have hr : tfind r k = none := by simpa [tfind, hj] using h
      have hne : (j != k) = true := by simp [hj]
      simpa [tdel, List.filter, hne] using ih hr

/-- A uniform result leaves its warp but for its register, where that held no completion code that a read would acquire (R117). -/
theorem setS_frame {w : Warp} {d : Nat} (h : tfind w.seals d = none) (x : Word) : w.setS d x = { w with s := wput w.s d x } := by
  rw [Warp.setS, tdel_of_tfind_none h]

/-- Refutes O54: its clause on uniform instructions lets nothing of the warp change but its scalar registers and its threads, in
every state. Where s3 holds the completion code of a command that released, `salu.add` with D = 3 ends that: a later read of s3
acquires nothing (`Warp.setS`), and the entry of `seals` goes. `setS_frame` gives what holds where s3 holds none. -/
theorem not_registerFrames : ¬ Obligations.RegisterFrames := by
  unfold Obligations.RegisterFrames
  rintro ⟨-, -, huniform⟩
  let w : Warp := { Warp.start 0 0 0 0 64 32 0x10000 0 0 true with seals := [(3, 1)] }
  let c : Cur :=
    { warp := 0, group := 0xF, taking := 0xF, pc := 0x10000, next := 0x10004, word := 0, clk := 0, held := none }
  let s : State := { State.reset with warps := [(0, w)], cur := some c }
  have hi : Issuing s c w := ⟨rfl, rfl⟩
  have hc : Clear c w (uniUses2 0 0 3 1 1) := ⟨by decide, by decide, by decide, by decide, by decide⟩
  obtain ⟨t, w', hexec, -, hw, hkept, -⟩ := huniform .saluAdd (by simp) s c w 0 0 3 hi hc
  have hdone : exec (.saluAdd 0 0 3) s = _ := uni2_done hi hc
  rw [hdone] at hexec
  have hseals : w'.seals = [] := by
    have h := Host.Outcome.next.inj hexec
    rw [← h, uniformDone, State.setWarp_same] at hw
    cases hw
    rfl
  rw [hkept] at hseals
  exact List.cons_ne_nil _ _ hseals

end Sys2Proof.Machine

/-! Loads (R227 to R229): each form is `loadOp` for its kind and size. -/
namespace Sys2Proof.Machine

/-- Settles O20: each form of load is `loadOp` for its kind and size, and `load_done` gives what the threads' turns leave. -/
theorem loadResults : Obligations.LoadResults := by
  unfold Obligations.LoadResults
  intro s c w a d t hi ha
  exact ⟨fun z o q hd ht => load_done hi (clear_and ha hd) ht, fun z o q hd ht => load_done hi (clear_and ha hd) ht,
    fun f hd ht => load_done hi (clear_and ha hd) ht, fun f hd ht => load_done hi (clear_and ha hd) ht⟩

end Sys2Proof.Machine

/-! The queues of a staged launch (R41, R299, R300): what `qenq` and `qdeq` do in one thread, when its turn succeeds and when it
waits. -/
namespace Sys2Proof.Machine

/-- A turn of an access that names one address in its trap is done like any other. -/
theorem turn_act_atAddress {α : Type} {c : Cur} {x : Answer α} {va : Dword} {after : α → State} {f : α → Thread → Thread}
    {n : Nat} {s t : State} (h : turn c n x after f = some t) :
    (x.atAddress va).act s (fun r => (after r).wrote c n (f r)) = .done t := by
  cases x with
  | trap y => cases h
  | ok _ => exact turn_act h
  | wait _ => cases h

theorem address_of_src64 {x : Ctx} {t : Nat} {th : Thread} {a : BitVec 7} {va : Dword} (h : x.src64 false t th a = some va) :
    x.address t th a = va := by
  rw [Ctx.address, h]
  rfl

theorem toNat_ofNat_word {n : Nat} (h : n < 2 ^ 32) : (BitVec.ofNat 32 n).toNat = n := by
  rw [BitVec.toNat_ofNat, Nat.mod_eq_of_lt h]

/-- `qenq` acts in turn: a thread whose turn succeeds is done, and one whose queue is open and full waits. -/
theorem exec_qenq (b a : BitVec 7) : ∃ f : State → Cur → Warp → Nat → Act,
    (∀ s, exec (.qenq b a) s = inTurnOp s ((useSrc a 2).and (useSrc b 1)) none true f) ∧
    (∀ c s w i t, enqTurn c b a s w i = some t → f s c w i = .done t) ∧
    ∀ c s w i, enqWaits c b a s w i = true → f s c w i = .wait s (.enqueue (s.placeOf w).stg) := by
  refine ⟨_, fun s => rfl, fun c s w i t h => ?_, fun c s w i h => ?_⟩
  · simp only [enqTurn, Option.bind_eq_some_iff] at h
    obtain ⟨l, hl, st, hst, h⟩ := h
    split at h
    · next hall =>
      obtain ⟨hstages, hq, hlt, hsize, hopen, hroom, haddr⟩ := hall
      obtain ⟨va, hva⟩ := Option.isSome_iff_exists.1 haddr
      rw [State.addressOf, address_of_src64 hva] at h
      have hfull : ¬ st.capacity ≤ st.entries.length := by omega
      simp only [Warp.reader] at hq hva
      simp only [hl, hq, hva, hstages, hst, toNat_ofNat_word hlt, hsize, hopen, hfull, ne_eq, not_true_eq_false, or_self,
        if_false, Bool.false_eq_true]
      exact turn_act_atAddress h
    · cases h
  · simp only [enqWaits, Option.any_eq_true, Bool.and_eq_true, beq_iff_eq, decide_eq_true_eq, Bool.not_eq_true',
      bne_iff_ne] at h
    obtain ⟨l, hl, st, hst, ⟨⟨⟨⟨⟨hstages, hq⟩, hlt⟩, hsize⟩, hopen⟩, hfull⟩, haddr⟩ := h
    obtain ⟨va, hva⟩ := Option.isSome_iff_exists.1 haddr
    simp only [Warp.reader] at hq hva
    simp only [hl, hq, hva, hstages, hst, toNat_ofNat_word hlt, hsize, hopen, hfull, ne_eq, not_true_eq_false, or_self,
      if_false, if_true, Bool.false_eq_true]

/-- `qdeq` acts in turn: a thread whose turn succeeds is done, and one whose queue is open and empty waits. -/
theorem exec_qdeq (b a : BitVec 7) (k : BitVec 3) : ∃ f : State → Cur → Warp → Nat → Act,
    (∀ s, exec (.qdeq b a k) s = inTurnOp s ((useSrc a 2).and (useSrc b 1)) none true f) ∧
    (∀ c s w i t, deqTurn c b a k s w i = some t → f s c w i = .done t) ∧
    ∀ c s w i, deqWaits c b a s w i = true → f s c w i = .wait s (.dequeue ((s.placeOf w).stg - 1)) := by
  refine ⟨_, fun s => rfl, fun c s w i t h => ?_, fun c s w i h => ?_⟩
  · simp only [deqTurn, Option.bind_eq_some_iff] at h
    obtain ⟨l, hl, st, hst, h⟩ := h
    split at h
    · next hall =>
      obtain ⟨hstages, hstg, hlt, hq, haddr⟩ := hall
      obtain ⟨va, hva⟩ := Option.isSome_iff_exists.1 haddr
      have hq' := toNat_ofNat_word (n := (s.placeOf w).stg - 1) (by omega)
      simp only [Warp.reader] at hq
      have hva' := hva
      simp only [Warp.reader] at hva'
      simp only [hl, hq, hva', hstages, hst, hstg, hq', ne_eq, not_true_eq_false, or_self, if_false, Bool.false_eq_true,
        Option.map_some]
      split at h
      · next e rest he =>
        rw [State.addressOf, address_of_src64 hva] at h
        rw [he]
        exact turn_act_atAddress h
      · next he =>
        rw [he]
        split at h
        · next hclosed =>
          cases h
          simp only [hclosed, if_true]
        · cases h
    · cases h
  · simp only [deqWaits, Option.any_eq_true, Bool.and_eq_true, beq_iff_eq, decide_eq_true_eq, Bool.not_eq_true',
      bne_iff_ne, List.isEmpty_iff] at h
    obtain ⟨l, hl, st, hst, ⟨⟨⟨⟨⟨hstages, hstg⟩, hlt⟩, hq⟩, hempty⟩, hopen⟩, haddr⟩ := h
    obtain ⟨va, hva⟩ := Option.isSome_iff_exists.1 haddr
    have hq' := toNat_ofNat_word (n := (s.placeOf w).stg - 1) (by omega)
    simp only [Warp.reader] at hq hva
    simp only [hl, hq, hva, hstages, hst, hstg, hq', hempty, hopen, ne_eq, not_true_eq_false, or_self, if_false,
      Bool.false_eq_true, Option.map_some]

/-- Settles O39: both forms act in turn (`exec_qenq`, `exec_qdeq`), so that `inTurnOp_done` gives what they leave when every thread's
turn succeeds, and `inTurnOp_waits` what they leave at the first thread that waits. -/
theorem stageQueueResults : Obligations.StageQueueResults := by
  unfold Obligations.StageQueueResults
  intro s c w b a k t hi hc
  obtain ⟨enq, hexecEnq, henq, henqWait⟩ := exec_qenq b a
  obtain ⟨deq, hexecDeq, hdeq, hdeqWait⟩ := exec_qdeq b a k
  simp only [hexecEnq, hexecDeq]
  rw [← switchIf_true]
  refine ⟨inTurnOp_done hi hc (henq c), inTurnOp_done hi hc (hdeq c), fun done i rest w1 hl hw => ⟨fun ht hwait => ?_, fun ht hwait => ?_⟩⟩
  · exact inTurnOp_waits hi hc (henq c) hl ht hw (henqWait c t w1 i hwait)
  · exact inTurnOp_waits hi hc (hdeq c) hl ht hw (hdeqWait c t w1 i hwait)

end Sys2Proof.Machine

/-! The barriers of crews and gangs (R36, R298): the marks of those that have arrived, when a barrier is complete, and the threads
that it releases. -/
namespace Sys2Proof.Machine

/-! ## A change of one warp -/

section OnWarp
variable (s : State) (f : Warp → Warp)

theorem onWarp_same (k : Nat) : (s.onWarp k f).warp k = (s.warp k).map f := by
  unfold State.onWarp
  split
  · next w h => rw [State.setWarp_same, h]; rfl
  · next h => rw [h]; rfl

theorem onWarp_other {k j : Nat} (h : j ≠ k) : (s.onWarp k f).warp j = s.warp j := by
  unfold State.onWarp
  split
  · exact State.setWarp_other _ _ _ h
  · rfl

theorem onWarp_crew (k j : Nat) : (s.onWarp k f).crew j = s.crew j := by
  unfold State.onWarp
  split <;> rfl

theorem advance_crew (c : Cur) (m : Word) (j : Nat) : (s.advance c m).crew j = s.crew j := onWarp_crew ..

end OnWarp

/-! ## Marks of those that have arrived -/

theorem getLsbD_setBit_true (m : Word) (n : Nat) {k : Nat} (hk : k < 32) :
    (setBit m n true).getLsbD k = (m.getLsbD k || n == k) := by
  simp only [setBit, if_true, BitVec.getLsbD_or, BitVec.getLsbD_ofNat, Nat.testBit_two_pow, hk, decide_true, Bool.true_and]
  rfl

/-- A mark stands where it stood before, or where one of a list that has arrived sets it. -/
theorem getLsbD_marks {α : Type} (p : α → Bool) (ix : α → Nat) {k : Nat} (hk : k < 32) (l : List α) (m : Word) :
    (l.foldl (fun m e => if p e then setBit m (ix e) true else m) m).getLsbD k =
      (m.getLsbD k || l.any fun e => p e && ix e == k) := by
  induction l generalizing m with
  | nil => simp
  | cons e r ih =>
    rw [List.foldl_cons, ih, List.any_cons]
    cases hp : p e with
    | false => simp
    | true => simp [getLsbD_setBit_true m (ix e) hk, Bool.or_assoc]

/-! ## Complete barriers -/

/-- Every unfinished warp of the crew has arrived: its barrier is complete. -/
theorem settleCrew_complete {s : State} {ck : Nat} {k : Crew} (hk : s.crew ck = some k)
    (hlive : (s.warpsOf k).filter (fun e => e.2.unfinished != 0) ≠ [])
    (hin : ∀ e ∈ s.warpsOf k, e.2.unfinished ≠ 0 → e.2.allIn Status.inCrew = true ∧ e.2.wix < 32) :
    s.settleCrew ck = (s.setCrew ck { k with arrived := 0 }).passCrew k Status.inCrew (viewOf (s.warpsOf k)) := by
  unfold State.settleCrew
  rw [hk]
  refine if_pos ?_
  simp only [Bool.and_eq_true, Bool.not_eq_true', List.isEmpty_eq_false_iff, ne_eq, List.all_eq_true]
  refine ⟨hlive, fun e he => ?_⟩
  obtain ⟨hmem, hun⟩ := List.mem_filter.1 he
  obtain ⟨hall, hwix⟩ := hin e hmem (by simpa using hun)
  rw [getLsbD_marks (fun e : Nat × Warp => e.2.allIn Status.inCrew) (fun e => e.2.wix) hwix, Bool.or_eq_true]
  exact .inr (List.any_eq_true.2 ⟨e, hmem, by simp [hall]⟩)

/-- The crews of a gang that have not finished, and whether one of them stands at the gang barrier. -/
def State.liveCrews (s : State) (g : Gang) : List Crew :=
  (g.crews.filterMap fun k => s.crew k).filter fun c => c.state != .finished && (s.warpsOf c).any fun e => e.2.unfinished != 0
def State.atGang (s : State) (c : Crew) : Bool :=
  s.crewHere c && (s.warpsOf c).all fun e => e.2.unfinished == 0 || e.2.allIn Status.inGang

theorem atGang_iff (s : State) (c : Crew) : s.atGang c = true ↔
    s.crewHere c = true ∧ ∀ e ∈ s.warpsOf c, e.2.unfinished ≠ 0 → e.2.allIn Status.inGang = true := by
  simp only [State.atGang, Bool.and_eq_true, List.all_eq_true, Bool.or_eq_true, beq_iff_eq, or_iff_not_imp_left, ne_eq]

/-- The marks at a gang barrier once the crews that stand there have arrived. -/
def State.gangMarks (s : State) (g : Gang) : Word :=
  (s.liveCrews g).foldl (fun m c => if s.atGang c then setBit m c.cix true else m) g.arrived

theorem getLsbD_gangMarks (s : State) (g : Gang) {k : Nat} (hk : k < 32) :
    (s.gangMarks g).getLsbD k = (g.arrived.getLsbD k || (s.liveCrews g).any fun c => s.atGang c && c.cix == k) :=
  getLsbD_marks s.atGang Crew.cix hk _ _

theorem settleGang_eq {s : State} {gk : Nat} {g : Gang} (hg : s.gang gk = some g) : s.settleGang gk =
    if !(s.liveCrews g).isEmpty && (s.liveCrews g).all fun c => s.crewHere c && (s.gangMarks g).getLsbD c.cix then
      (g.crews.filterMap fun k => s.crew k).foldl (fun t c => t.passCrew c Status.inGang
        (viewOf ((g.crews.filterMap fun k => s.crew k).flatMap s.warpsOf))) (s.setGang gk { g with arrived := 0 })
    else s.setGang gk { g with arrived := s.gangMarks g } := by
  unfold State.settleGang
  rw [hg]
  rfl

/-! ## Released threads -/

theorem pass_pass (th : Thread) (f : Status → Bool) (v : Dword) : (th.pass f v).pass f v = th.pass f v := by
  cases hf : f th.status with
  | false => simp [Thread.pass, hf]
  | true => cases hs : th.status <;> simp [Thread.pass, hs, hs ▸ hf]

theorem passCrew_thread_passed {f : Status → Bool} {v : Dword} {wk i : Nat} {th : Thread} (hi : i < 32)
    (hth : th.pass f v = th) (l : List Nat) (s : State) (h : (s.warp wk).map (fun w => w.thread i) = some th) :
    ((l.foldl (fun s k => s.onWarp k fun w => w.mapThreads fun _ th => th.pass f v) s).warp wk).map (fun w => w.thread i) =
      some th := by
  induction l generalizing s with
  | nil => exact h
  | cons k r ih =>
    refine ih _ ?_
    by_cases hk : wk = k
    · subst hk
      obtain ⟨w, hw, rfl⟩ := Option.map_eq_some_iff.1 h
      rw [onWarp_same, hw]
      simp [thread_mapThreads w _ hi, hth]
    · rwa [onWarp_other _ _ hk]

/-- Each thread of a crew's warps passes once, however often the crew lists its warp. -/
theorem passCrew_thread {f : Status → Bool} {v : Dword} {wk i : Nat} {w : Warp} (hi : i < 32) (l : List Nat) (s : State)
    (hmem : wk ∈ l) (hw : s.warp wk = some w) :
    ((l.foldl (fun s k => s.onWarp k fun w => w.mapThreads fun _ th => th.pass f v) s).warp wk).map (fun w => w.thread i) =
      some ((w.thread i).pass f v) := by
  induction l generalizing s with
  | nil => cases hmem
  | cons k r ih =>
    by_cases hk : wk = k
    · subst hk
      refine passCrew_thread_passed hi (pass_pass ..) r _ ?_
      rw [onWarp_same, hw]
      simp [thread_mapThreads w _ hi]
    · refine ih _ ((List.mem_cons.1 hmem).resolve_left hk) ?_
      rwa [onWarp_other _ _ hk]

theorem pass_of_gangBarrier {th : Thread} {next : Dword} (h : th.status = .gangBarrier next) (v : Dword) :
    th.pass Status.inGang v = { th with status := .ready, pc := next, view := laterOf th.view v } := by
  simp [Thread.pass, h, Status.inGang]

theorem pass_of_crewBarrier {th : Thread} {next : Dword} (h : th.status = .crewBarrier next) (v : Dword) :
    th.pass Status.inCrew v = { th with status := .ready, pc := next, view := laterOf th.view v } := by
  simp [Thread.pass, h, Status.inCrew]

theorem pass_of_not {th : Thread} {f : Status → Bool} (h : f th.status = false) (v : Dword) : th.pass f v = th := by
  simp [Thread.pass, h]

/-! ## The barrier forms -/

theorem exec_barCrew {s : State} {c : Cur} {w : Warp} (hi : Issuing s c w) (hc : Clear c w Uses.none) :
    exec .barCrew s = .next (((s.switched.advance c (c.group &&& ~~~c.taking)).onWarp c.warp fun w => w.onThreads c.taking
      fun th => { th with status := .crewBarrier c.next, pc := c.pc, since := s.cycle }).settleCrew w.crew) := by
  refine (onIssue_issuing hi).trans ?_
  rw [gated_clear hc, switchIf_true]
  rfl

theorem exec_barGang {s : State} {c : Cur} {w : Warp} {k : Crew} (hi : Issuing s c w) (hc : Clear c w Uses.none)
    (hk : s.crewOf w = some k) :
    exec .barGang s = .next (((s.switched.advance c (c.group &&& ~~~c.taking)).onWarp c.warp fun w => w.onThreads c.taking
      fun th => { th with status := .gangBarrier c.next, pc := c.pc, since := s.cycle }).settleGang k.gang) := by
  refine (onIssue_issuing hi).trans ?_
  rw [gated_clear hc, switchIf_true]
  dsimp only
  rw [onWarp_crew, advance_crew, State.switched_read_crew, show s.crew w.crew = some k from hk]
  rfl

/-- Settles O38: the forms by `exec_barCrew` and `exec_barGang`, a complete crew barrier by `settleCrew_complete`, a gang barrier by
its marks (`settleGang_eq`, `getLsbD_gangMarks`), and a released thread by `passCrew_thread`. -/
theorem barrierResults : Obligations.BarrierResults := by
  unfold Obligations.BarrierResults
  refine ⟨fun s c w k hi hc hk => ⟨exec_barCrew hi hc, exec_barGang hi hc hk⟩,
    fun s ck k hk hlive hin => settleCrew_complete hk hlive hin, ?_, ?_⟩
  · intro s gk g hg crews live here hix
    rw [settleGang_eq hg]
    refine ⟨fun hlive hall => if_pos ?_, fun c hc hbit hnone => ⟨s.gangMarks g, if_neg ?_, fun d hd hhere => ?_⟩⟩
    · simp only [Bool.and_eq_true, Bool.not_eq_true', List.isEmpty_eq_false_iff, ne_eq, List.all_eq_true]
      refine ⟨hlive, fun c hc => ⟨(hall c hc).1, ?_⟩⟩
      rw [getLsbD_gangMarks s g (hix c hc), Bool.or_eq_true]
      exact .inr (List.any_eq_true.2 ⟨c, hc, by simp [(atGang_iff s c).2 (hall c hc)]⟩)
    · simp only [Bool.and_eq_true, List.all_eq_true, not_and]
      intro _ hall
      have hmark := (hall c hc).2
      rw [getLsbD_gangMarks s g (hix c hc), hbit, Bool.false_or] at hmark
      obtain ⟨d, hd, hat⟩ := List.any_eq_true.1 hmark
      simp only [Bool.and_eq_true, beq_iff_eq] at hat
      exact hnone d hd hat.2 ((atGang_iff s d).1 hat.1)
    · rw [getLsbD_gangMarks s g (hix d hd), Bool.or_eq_true]
      exact .inr (List.any_eq_true.2 ⟨d, hd, by simp [(atGang_iff s d).2 hhere]⟩)
  · intro s c wk w v i hmem hw hi th after
    have hafter : ∀ f, after f = some (th.pass f v) := fun f => passCrew_thread hi c.warps s hmem hw
    refine ⟨fun next => ⟨fun h => ?_, fun h => ?_⟩, fun f h => ?_⟩
    · rw [hafter, pass_of_gangBarrier h]
    · rw [hafter, pass_of_crewBarrier h]
    · rw [hafter, pass_of_not h]

end Sys2Proof.Machine

/-! Events that end a wait (R33, R127, R237, R243), and the watchdog (R336). -/
namespace Sys2Proof.Machine

/-! ## Masks -/

/-- The sum that a mask of `n` threads is made of, and its bits. -/
theorem maskSum_bits (f : Nat → Bool) (n : Nat) : (List.range n).foldl (fun m t => m + bitNat (f t) * 2 ^ t) 0 < 2 ^ n ∧
    ∀ k < n, ((List.range n).foldl (fun m t => m + bitNat (f t) * 2 ^ t) 0).testBit k = f k := by
  induction n with
  | zero => exact ⟨by simp, fun k hk => absurd hk (by omega)⟩
  | succ n ih =>
    obtain ⟨hlt, hbits⟩ := ih
    rw [List.range_succ, List.foldl_append, List.foldl_cons, List.foldl_nil]
    generalize (List.range n).foldl (fun m t => m + bitNat (f t) * 2 ^ t) 0 = m at hlt hbits ⊢
    rw [Nat.pow_succ]
    cases hf : f n with
    | false =>
      simp only [bitNat, Nat.zero_mul, Nat.add_zero, Bool.false_eq_true, if_false]
      refine ⟨by omega, fun k hk => ?_⟩
      rcases Nat.lt_succ_iff_lt_or_eq.1 hk with h | rfl
      · exact hbits k h
      · rw [hf, Nat.testBit_lt_two_pow hlt]
    | true =>
      simp only [bitNat, Nat.one_mul, if_true]
      refine ⟨by omega, fun k hk => ?_⟩
      rw [Nat.add_comm]
      rcases Nat.lt_succ_iff_lt_or_eq.1 hk with h | rfl
      · rw [Nat.testBit_two_pow_add_gt h, hbits k h]
      · rw [Nat.testBit_two_pow_add_eq, Nat.testBit_lt_two_pow hlt, hf]
        rfl

theorem inMask_maskOf (f : Nat → Bool) {t : Nat} (ht : t < 32) : inMask (maskOf f) t = f t := by
  rw [inMask, maskOf, BitVec.getLsbD_ofNat, (maskSum_bits f 32).2 t ht]
  simp [ht]

/-! ## The ends of waits -/

theorem stands_of_runs {s : State} {w : Warp} (h : s.runs w = true) : s.stands w = true := (Bool.and_eq_true_iff.1 h).1

section Waking
variable {s : State} {wk t : Nat} {w : Warp}

/-- CVB_TIMEOUT: the thread leaves Z and goes on with predicate true. -/
theorem exec_cvbTimeout (hw : s.warp wk = some w) (hruns : s.runs w = true) {n k e : Nat} {next : Dword}
    (hst : (w.thread t).status = .converge n k next) (he : tfind (w.bar n).expiry t = some e) (hpast : e < s.cycle) :
    exec (.cvbTimeout wk t) s = .next (s.setWarp wk ((w.mapThreads fun i th =>
      if i = t then { th.setP k true with status := .ready, pc := next } else th).setBar n
        { w.bar n with z := setBit (w.bar n).z t false, expiry := tdel (w.bar n).expiry t })) := by
  have hdue : s.cvbDue w t = true := by simp [State.cvbDue, hst, stands_of_runs hruns, he, hpast]
  show execCvbTimeout wk t s = _
  simp only [execCvbTimeout, hw, hdue, hst, Bool.not_true, Bool.false_eq_true, if_false]

/-- LLD_TIMEOUT: the thread issues its `lld` again. -/
theorem exec_lldTimeout (hw : s.warp wk = some w) (hruns : s.runs w = true) {a st lt : Nat} {x : Dword}
    (hst : (w.thread t).status = .waiting (.lattice a st lt x)) (hne : (w.thread t).timeout ≠ 0)
    (hpast : (w.thread t).timeout < s.cycle) :
    exec (.lldTimeout wk t) s =
      .next (s.setWarp wk (w.mapThreads fun i th => if i = t then { th with status := .ready } else th)) := by
  have hdue : s.lldDue w t = true := by simp [State.lldDue, hst, stands_of_runs hruns, hne, hpast]
  show execLldTimeout wk t s = _
  simp only [execLldTimeout, hw, hdue, if_true, State.onThread, State.onWarp]

/-- RANGE_OP_COMPLETE: the thread goes on to its next instruction. -/
theorem exec_rangeOpComplete (hw : s.warp wk = some w) (hruns : s.runs w = true) {ids : List Nat} {next : Dword}
    (hst : (w.thread t).status = .waiting (.range ids next)) (hdone : s.settled ids = true) :
    exec (.rangeOpComplete wk t) s = .next (s.setWarp wk (w.mapThreads fun i th =>
      if i = t then { th with status := .ready, pc := next, held := none } else th)) := by
  have hdue : s.rangeDue w t = true := by simp [State.rangeDue, hst, hruns, hdone]
  show execRangeOpComplete wk t s = _
  simp only [execRangeOpComplete, hw, hdue, hst, Bool.not_true, Bool.false_eq_true, if_false, State.onThread, State.onWarp]

/-- DEMOTE_EVICT_STATUS: status 0 enters the register, which is pending no more. -/
theorem exec_demoteEvictStatus (hw : s.warp wk = some w) {d : Nat} {ids : List Nat} (hp : tfind w.pend d = some (.spiral ids))
    (hdone : s.settled ids = true) :
    exec (.demoteEvictStatus wk d) s = .next (s.setWarp wk { w.setS d 0 with pend := tdel w.pend d }) := by
  have hdue : s.statusDue w d = true := by simp [State.statusDue, hp, hdone]
  show execDemoteEvictStatus wk d s = _
  simp only [execDemoteEvictStatus, hw, hdue, if_true]
  rfl

/-! ## The watchdog -/

theorem onCrew_warp (s : State) (k : Nat) (f : Crew → Crew) (j : Nat) : (s.onCrew k f).warp j = s.warp j := by
  unfold State.onCrew
  split <;> rfl

theorem onGang_warp (s : State) (k : Nat) (f : Gang → Gang) (j : Nat) : (s.onGang k f).warp j = s.warp j := by
  unfold State.onGang
  split <;> rfl

/-- The withdrawal of arrivals leaves its warp in the state. -/
theorem withdraw_warp (hw : s.warp wk = some w) (x : Warp) (m : Word) : ∃ w', (s.withdraw wk x m).warp wk = some w' := by
  unfold State.withdraw
  extract_lets crew gang s1 s2
  have h1 : ∃ w', s1.warp wk = some w' := ⟨_, by rw [onWarp_same, hw]; rfl⟩
  have h2 : s2.warp wk = s1.warp wk := by
    dsimp only [s2]
    split
    · exact onCrew_warp ..
    · rfl
  split
  · split
    · rwa [onGang_warp, h2]
    · rwa [h2]
  · rwa [h2]

theorem trapBlocked_eq (hw : s.warp wk = some w) (m : Word) (pc : Dword) (x : Trap) :
    ∃ c, s.trapBlocked wk m pc x = s.drawn.raiseAll c m x ∧ c.warp = wk ∧ c.pc = pc := by
  unfold State.trapBlocked
  rw [hw]
  exact ⟨_, rfl, rfl, rfl⟩

/-- WATCHDOG: the threads that are due at the PC of thread `t` trap together. -/
theorem exec_watchdog (hw : s.warp wk = some w) (hdue : s.dogDue wk w t = true) : ∃ c x, exec (.watchdog wk t) s =
      .next ((s.withdraw wk w x).drawn.raiseAll c x (trapAt 0x14 0 0)) ∧ c.warp = wk ∧ c.pc = (w.thread t).pc ∧
    ∀ i < 32, inMask x i = ((w.thread i).pc == (w.thread t).pc && s.dogDue wk w i) := by
  let x := maskOf fun i => (w.thread i).pc == (w.thread t).pc && s.dogDue wk w i
  obtain ⟨w', hw'⟩ := withdraw_warp hw w x
  obtain ⟨c, htrap, hwarp, hpc⟩ := trapBlocked_eq hw' x (w.thread t).pc (trapAt 0x14 0 0)
  refine ⟨c, x, ?_, hwarp, hpc, fun i hi => inMask_maskOf _ hi⟩
  rw [← htrap]
  show execWatchdog wk t s = _
  simp only [execWatchdog, hw, hdue, Bool.not_true, Bool.false_eq_true, if_false]
  rfl

end Waking

/-- Settles O44: one rule for each event that wakes threads, and `exec_watchdog`. -/
theorem wakingEvents : Obligations.WakingEvents := by
  unfold Obligations.WakingEvents
  intro s wk w t hw hruns
  exact ⟨fun n k next e hst he hpast => exec_cvbTimeout hw hruns hst he hpast,
    fun a st lt x hst hne hpast => exec_lldTimeout hw hruns hst hne hpast,
    fun ids next hst hdone => exec_rangeOpComplete hw hruns hst hdone,
    fun d ids hp hdone => exec_demoteEvictStatus hw hp hdone, fun hdue => exec_watchdog hw hdue⟩

end Sys2Proof.Machine

/-! The entry of a trap handler and of a nested one (R328 to R332). -/
namespace Sys2Proof.Machine

section HandlerEntry
variable {s : State} {wk k : Nat} {w : Warp} {l : Launch} {p : Partition} {t : State × Dword}

/-- The largest view time of some threads. -/
def Warp.viewOver (w : Warp) (m : Word) : Dword := (threadsOf m).foldl (fun v t => laterOf v (w.thread t).view) 0

/-- The warp as its handler starts: s31 names the frame, every latch is invalid, and the threads of the mask run at an address with
what the write of the frame has seen. -/
def Warp.entered (w : Warp) (o : Nat) (m : Word) (h : Thread → Handler) (vec v : Dword) : Warp :=
  { (w.setS 31 (BitVec.ofNat 32 o)).mapThreads (fun t th =>
      let th := th.clearLatches
      if inMask m t then th.enters (h th) vec v else th) with stuck := none }

theorem enterHandler_written {off : Nat} {m : Word} {h : Thread → Handler} {f : Frame} (hw : s.warp wk = some w)
    (hl : s.launchOf w = some (k, l)) (hp : s.part l.part = some p)
    (ht : s.slotWrite (s.coreOf w) wk (w.viewOver m) (p.savebase + BitVec.ofNat 64 (s.slotOf w + off))
      (dwordsOf { f with mask := m, view := w.viewOver m, s31 := w.sreg 31 }.bytes) = .ok t) :
    s.enterHandler wk off m h f =
      (t.1.freeLane wk).onWarp wk fun x => x.entered (s.slotOf w + off) m h p.trapvec t.2 := by
  unfold State.enterHandler
  rw [hw]
  dsimp only
  rw [hl]
  dsimp only
  rw [hp]
  dsimp only
  rw [show (threadsOf m).foldl (fun v t => laterOf v (w.thread t).view) 0 = w.viewOver m from rfl, ht]
  rfl

/-- An entry whose frame has been written is made: the access to the save slot is over. -/
theorem unlessStuck_entered (t : State) (o : Nat) (m : Word) (h : Thread → Handler) (vec v : Dword) :
    s.unlessStuck wk (t.onWarp wk fun w => w.entered o m h vec v) = t.onWarp wk fun w => w.entered o m h vec v := by
  unfold State.unlessStuck
  rw [onWarp_same]
  cases t.warp wk <;> rfl

end HandlerEntry

/-- Settles O45: both entries go through `State.enterHandler`, which `enterHandler_written` describes once the frame is written. -/
theorem handlerEntry : Obligations.HandlerEntry := by
  unfold Obligations.HandlerEntry
  intro s wk w x k l p t hw hl hp hframed enters
  have henter : ∀ (nested : Bool) (h : Thread → Handler),
      let off := if nested then 192 else 0
      let s1 := s.setWarp wk { w with subs := dropSub nested w.subs, stuck := none }
      s1.slotWrite (s.coreOf w) wk (w.viewOver x.mask) (p.savebase + BitVec.ofNat 64 (s.slotOf w + off))
        (dwordsOf { x.frame with view := w.viewOver x.mask, s31 := w.sreg 31 }.bytes) = .ok t →
      s.unlessStuck wk (s1.enterHandler wk off x.mask h x.frame) =
        (t.1.freeLane wk).onWarp wk fun v => v.entered (s.slotOf w + off) x.mask h p.trapvec t.2 := by
    intro nested h off s1 ht
    rw [enterHandler_written (s := s1) (State.setWarp_same ..) hl hp ht]
    exact unlessStuck_entered ..
  refine ⟨fun hnext ht => ?_, fun hnext ht => ?_, by rw [State.freeLane, hw]; rfl⟩
  · show execTrapEntry wk s = _
    simp only [execTrapEntry, hw, hnext, hframed, Bool.false_eq_true, if_false, State.onWarp]
    exact congrArg _ (henter false _ ht)
  · show execNestedTrapEntry wk s = _
    simp only [execNestedTrapEntry, hw, hnext, State.onWarp]
    exact congrArg _ (henter true _ ht)

end Sys2Proof.Machine

/-! A step in which a warp issues (R24, R28): the warp that its lane serves, the state in which its issue begins, and the plan of
its group. -/
namespace Sys2Proof.Machine

/-! ## Lanes -/

theorem mem_of_tfind {α : Type} {t : Tab α} {k : Nat} {a : α} (h : tfind t k = some a) : (k, a) ∈ t := by
  induction t with
  | nil => cases h
  | cons e r ih =>
    obtain ⟨j, b⟩ := e
    simp only [tfind] at h
    split at h
    · next hj =>
      cases h
      exact hj ▸ List.mem_cons_self
    · exact List.mem_cons_of_mem _ (ih h)

/-- A lane serves the warp that keeps it (R28; log 93). -/
theorem laneChoice_of_keeps {s : State} {wk : Nat} {w : Warp} (hw : s.warp wk = some w) (hruns : s.runs w = true)
    (hun : w.unfinished ≠ 0) (hkeeps : (s.lane (s.laneOf w)).keeps = some wk) : s.laneChoice (s.laneOf w) = some wk := by
  have hmem : (wk, w) ∈ s.laneWarps (s.laneOf w) :=
    List.mem_filter.2 ⟨mem_of_tfind hw, by simpa [hruns] using hun⟩
  have hfind : ((s.laneWarps (s.laneOf w)).find? fun e => e.1 == wk).isSome = true :=
    List.find?_isSome.2 ⟨_, hmem, by simp⟩
  obtain ⟨e, he⟩ := Option.isSome_iff_exists.1 hfind
  have hkey : e.1 = wk := by simpa using List.find?_some he
  simp only [State.laneChoice, hkeeps, Option.bind_some, he, hkey]

/-- A warp that its lane does not serve issues nothing (R28). -/
theorem planIssue_of_not_served {s : State} {wk : Nat} {w : Warp} (hw : s.warp wk = some w)
    (hlane : s.laneChoice (s.laneOf w) ≠ some wk) : s.planIssue wk = none := by
  unfold State.planIssue
  rw [hw]
  exact if_pos (by simp [hlane])

/-! ## The begin of an issue -/

theorem startGang_warp (s : State) (w : Warp) (j : Nat) : (s.startGang w).warp j = s.warp j := by
  unfold State.startGang
  split
  · exact onGang_warp ..
  · rfl

theorem startGang_crew (s : State) (w : Warp) (j : Nat) : (s.startGang w).crew j = s.crew j := by
  unfold State.startGang
  split
  · unfold State.onGang
    split <;> rfl
  · rfl

theorem beginIssue_warp (s : State) (wk : Nat) (w : Warp) (ready chosen : Word) (b : Option Group1) :
    (s.beginIssue wk w ready chosen b).warp wk = some (w.count ready chosen) :=
  (startGang_warp ..).trans (State.setWarp_same ..)

theorem beginIssue_coreOf (s : State) (wk : Nat) (w v : Warp) (ready chosen : Word) (b : Option Group1) :
    (s.beginIssue wk w ready chosen b).coreOf v = s.coreOf v := by
  have h : (s.beginIssue wk w ready chosen b).crew v.crew = s.crew v.crew := startGang_crew ..
  rw [State.coreOf, State.coreOf, h]

/-- Counting changes no thread's mode and nothing that it has read (R25). -/
theorem count_thread (w : Warp) (ready chosen : Word) {t : Nat} (ht : t < 32) :
    ((w.count ready chosen).thread t).held = (w.thread t).held ∧ ((w.count ready chosen).thread t).sup = (w.thread t).sup := by
  rw [Warp.count, thread_mapThreads w _ ht]
  split
  · exact ⟨rfl, rfl⟩
  · split <;> exact ⟨rfl, rfl⟩

theorem lt_of_lowestOf {m : Word} {t : Nat} (h : lowestOf m = some t) : t < 32 :=
  (mem_threadsOf.1 (List.mem_of_mem_head? h)).1

theorem count_supIn (w : Warp) (ready chosen m : Word) : (w.count ready chosen).supIn m = w.supIn m := by
  unfold Warp.supIn
  cases h : lowestOf m with
  | none => rfl
  | some t => exact (count_thread w ready chosen (lt_of_lowestOf h)).2

/-- What the lowest of some threads has read before it waited. -/
def Warp.heldIn (w : Warp) (m : Word) : Option Held := ((lowestOf m).map fun t => w.thread t).bind Thread.held

theorem count_heldIn (w : Warp) (ready chosen m : Word) : (w.count ready chosen).heldIn m = w.heldIn m := by
  unfold Warp.heldIn
  cases h : lowestOf m with
  | none => rfl
  | some t => exact (count_thread w ready chosen (lt_of_lowestOf h)).1

/-! ## The plan of a group (R129, R139) -/

/-- The issue of a group, of an instruction fetched at its PC that ends at an address. -/
def Warp.issueOf (w : Warp) (wk : Nat) (m : Word) (pc next clk : Dword) (word : Nat) : Cur :=
  { warp := wk, group := m, taking := m, pc := pc, next := next, word := BitVec.ofNat 32 word, clk := clk, held := w.heldIn m }

section PlanGroup
variable {s : State} {wk : Nat} {w : Warp} {m : Word} {pc clk : Dword} {f h : State × Nat × Nat} {i g : Instr}

theorem fetched_of_decodeFetched {b : Bool} {x len : Nat} (hd : decodeFetched b x len = .ok i) : fetched b x len = i := by
  rw [fetched, hd]

/-- The plan of a group whose word is no guard. -/
theorem planGroup_plain (hw : s.warp wk = some w) (hf : s.fetchWord (s.coreOf w) (w.supIn m) pc = .ok f)
    (hplain : ¬ (f.2.2 = 4 ∧ isGuard f.2.1 = true)) (hd : decodeFetched false f.2.1 f.2.2 = .ok i) :
    s.planGroup wk m pc clk =
      { state := { f.1 with cur := some (w.issueOf wk m pc (pc + BitVec.ofNat 64 f.2.2) clk f.2.1) }, guard := none,
        instr := some i } := by
  unfold State.planGroup
  rw [hw]
  dsimp only
  rw [hf]
  dsimp only
  rw [if_neg hplain, fetched_of_decodeFetched hd]
  rfl

/-- The plan of a group whose word is a guard, and of the instruction after it. -/
theorem planGroup_guarded (hw : s.warp wk = some w) (hf : s.fetchWord (s.coreOf w) (w.supIn m) pc = .ok f)
    (hlen : f.2.2 = 4) (hguard : isGuard f.2.1 = true) (hg : decodeFetched false f.2.1 4 = .ok g)
    (hh : f.1.fetchWord (s.coreOf w) (w.supIn m) (pc + 4) = .ok h) (hd : decodeFetched true h.2.1 h.2.2 = .ok i) :
    s.planGroup wk m pc clk =
      { state := { h.1 with cur := some (w.issueOf wk m pc (pc + 4 + BitVec.ofNat 64 h.2.2) clk h.2.1) }, guard := some g,
        instr := some i } := by
  have hg' : decode32 false f.2.1 = .ok g := hg
  unfold State.planGroup
  rw [hw]
  dsimp only
  rw [hf]
  dsimp only
  rw [if_pos ⟨hlen, hguard⟩, hg']
  dsimp only
  rw [hh]
  dsimp only
  rw [fetched_of_decodeFetched hd]
  rfl

end PlanGroup

/-! ## The plan of a step -/

section PlanStep
variable {s : State} {wk : Nat} {w : Warp} {rest : List Turn}

/-- Where no issue has begun, the agenda's issue of a warp is planned. -/
theorem plan_of_issue (hrest : s.rest = none) (hag : s.agenda = .issue wk :: rest) :
    s.plan = (State.planIssue { s with rest := none, cur := none, agenda := rest } wk).getD
      (Plan.still { s with rest := none, cur := none, agenda := rest }) := by
  unfold State.plan
  rw [hrest, hag]
  rfl

theorem planIssue_of_one {g : Group1} (hw : s.warp wk = some w) (hruns : s.runs w = true)
    (hlane : s.laneChoice (s.laneOf w) = some wk) (hsel : w.select (s.readyMask wk w) = [g]) :
    s.planIssue wk = some ((s.beginIssue wk w (s.readyMask wk w) g.mask none).planGroup wk g.mask g.pc (BitVec.ofNat 64 s.cycle)) := by
  unfold State.planIssue
  rw [hw]
  dsimp only
  rw [if_neg (by simp [hruns, hlane]), hsel]

end PlanStep

/-- Settles O55: a warp that its lane does not serve plans nothing (`planIssue_of_not_served`), a lane serves the warp that keeps it
(`laneChoice_of_keeps`), and of a warp with one group the plan is that of the group's word (`planGroup_plain`) or of its guard and the
word after it (`planGroup_guarded`). -/
theorem stepRunsDecoded : Obligations.StepRunsDecoded := by
  unfold Obligations.StepRunsDecoded
  refine ⟨?_, fun s wk w hw hruns hun hkeeps => laneChoice_of_keeps hw hruns hun hkeeps, ?_⟩
  · intro s wk w rest hrest hag s0 hw hlane
    rw [step, plan_of_issue hrest hag, planIssue_of_not_served hw hlane]
    rfl
  · intro s wk w g rest f i hrest hag s0 hw hruns hlane hsel s1 sup issue hf
    have hplan : s.plan = s1.planGroup wk g.mask g.pc (BitVec.ofNat 64 s.cycle) := by
      rw [plan_of_issue hrest hag, planIssue_of_one hw hruns hlane hsel]
      rfl
    have hw1 : s1.warp wk = some (w.count (s0.readyMask wk w) g.mask) := beginIssue_warp ..
    have hcore : s1.coreOf (w.count (s0.readyMask wk w) g.mask) = s.coreOf w := beginIssue_coreOf ..
    have hsup : (w.count (s0.readyMask wk w) g.mask).supIn g.mask = sup := count_supIn ..
    have hissue : ∀ next word, (w.count (s0.readyMask wk w) g.mask).issueOf wk g.mask g.pc next (BitVec.ofNat 64 s.cycle) word =
        issue next word := by
      intro next word
      rw [Warp.issueOf, count_heldIn]
      rfl
    rw [← hcore, ← hsup] at hf
    refine ⟨fun hplain hd => ?_, fun n p h t hg hlen hguard hh hd hexec => ?_⟩
    · rw [step, hplan, planGroup_plain hw1 hf hplain hd, hissue]
      rfl
    · rw [← hcore, ← hsup] at hh
      rw [step, hplan, planGroup_guarded hw1 hf hlen hguard hg hh hd, hissue]
      dsimp only [Plan.run]
      rw [hexec]

end Sys2Proof.Machine

/-! What an issue leaves of the threads of its group that do not take part, where what is checked before the effect stops it in the
others. -/
namespace Sys2Proof.Machine

/-- Thread `t` of warp 0 holds operands that it has read before it blocked, after an outcome. -/
def holdsRead (t : Nat) (o : Host.Outcome State Fault Refusal) : Bool :=
  match o with
  | .next s => match s.warp 0 with
    | some w => (w.thread t).held.isSome
    | none => false
  | _ => false

/-- Refutes O43: its clause on `geo.segx` has every thread of the group that does not take part forget what it has read
(`State.advance`). Threads 0 and 1 of a warp issue, and only thread 0, whose x0 is infinite, takes part: the lane form moves thread 1
on (R147) and leaves it what it has read before it blocked (R233). -/
theorem not_issueChecks : ¬ Obligations.IssueChecks := by
  unfold Obligations.IssueChecks
  intro h
  let read : Held := { s := [], clk := 0, l0 := none, l1 := none, l2 := none, l3 := none }
  let w : Warp := ((Warp.start 0 0 0 0 64 32 0x10000 0 0 true).onThreads 1 fun th => { th with v := [(0, 0x7F800000)] }).onThreads 2
    fun th => { th with held := some read }
  let c : Cur :=
    { warp := 0, group := 0x3, taking := 0x1, pc := 0x10000, next := 0x10004, word := 0, clk := 0, held := none }
  let s : State := { State.reset with warps := [(0, w)], cur := some c }
  have hi : Issuing s c w := ⟨rfl, rfl⟩
  obtain ⟨-, -, -, -, -, -, -, -, -, -, hsegx, -, -⟩ := h s c w hi
  have hc : Clear c w (geoUses 0 0 0 0 8 8) :=
    ⟨by decide +kernel, by decide +kernel, by decide +kernel, by decide +kernel, by decide +kernel⟩
  have hodd : ∀ t < 32, inMask c.taking t = true → (coordinates (w.thread t) 0 0 8).any Option.isNone = true := by decide +kernel
  have hexec := hsegx 0 0 0 8 hc (fun hx => absurd hx (by decide)) hodd
  have hmodel : holdsRead 1 (exec (.geoSegx 0 0 0 8) s) = true := by decide +kernel
  have hclaim : holdsRead 1 (.next ((s.advance c (c.group &&& ~~~c.taking)).raise c ((threadsOf c.taking).map fun t =>
      (t, trapAt 9 ((coordinates (w.thread t) 0 0 8).findIdx Option.isNone * if (0 : BitVec 1) = 1 then 2 else 1) 0)))) = false := by
    decide +kernel
  rw [hexec, hclaim] at hmodel
  exact Bool.false_ne_true hmodel

end Sys2Proof.Machine

/-! The lane forms of floating-point arithmetic (R198, R199, R203, R208, R209) and the reductions (R68, R184): each form is one of the
shapes of `Laws.Lane` for its operation. -/
namespace Sys2Proof.Machine

/-- Settles O7: each form is `fp2` or `fp3` for its operation, which `fp2_done` and `fp3_done` give; a form on FP16 does not trap
where the stack runs at full service (`reduced_none`). -/
theorem floatLaneResults : Obligations.FloatLaneResults := by
  unfold Obligations.FloatLaneResults
  refine ⟨⟨fun e he s c w b a nw d hi hc hr => ?_, fun e he s c w b a nw d hi hc hr hf => ?_, fun s c w b a nw d hi hc hr => ?_⟩,
    fun e he s c w b a nw d hi hc hr => ?_, fun s c w b a nw d hi hc hr hf => ?_⟩
  · have hexec : exec (e.1 b a nw d) s = fp2 s none b a nw d e.2 := by fin_cases he <;> rfl
    exact hexec.trans (fp2_done hi hc hr)
  · have hexec : exec (e.1 b a nw d) s = fp2 s s.reduced b a nw d e.2 := by fin_cases he <;> rfl
    rw [hexec, reduced_none hi hf]
    exact fp2_done hi hc hr
  · exact lane2_done hi hc hr
  · have hexec : exec (e.1 b a nw d) s = fp3 s none b a nw d e.2 := by fin_cases he <;> rfl
    exact hexec.trans (fp3_done hi hc hr)
  · have hexec : exec (.halu2F16Fma b a nw d) s = fp3 s s.reduced b a nw d (packed3 (fp16.fma false false false)) := rfl
    rw [hexec, reduced_none hi hf]
    exact fp3_done hi hc hr

/-- A reduction whose result is delivered in the form that `fin` gives it. -/
theorem reduce_delivered {s : State} {c : Cur} {w : Warp} {a : BitVec 7} {nw : BitVec 1} {d : BitVec 6}
    {f : Word → Word → Word × Raised} {fin : Word → Word} (hi : Issuing s c w) (hc : Clear c w (uses1 a d 1 1))
    (hr : Readable s c w [a]) :
    reduce s a nw d f fin = .next (laneDone s c w fun t th =>
      let r := (butterfly (fun (p q : Word × Raised) => ((f p.1 q.1).1, (p.2.or q.2).or (f p.1 q.1).2))
        ((List.range 32).map fun k => if inMask c.taking k then some (s.val c w k a, Raised.none) else none)).getD
          (s.val c w t a, Raised.none)
      (th.result (nw == 1) d.toNat [fin r.1], r.2)) := by
  refine (exchangeOp_done (fun t => s.val c w t a) hi hc fun t ht hm => readable_src hr ht hm (by simp)).trans ?_
  simp only [map_flagged]

theorem canonicalWord_eq (x : Word) : canonicalWord x = if (fp32.value x.toNat).isNan then 0x7FC00000 else x := by
  unfold canonicalWord canonical32
  split
  · rfl
  · exact BitVec.ofNat_toNat ..

/-- Settles O15: an integer form is `reduce` for a combination that raises no flag (`reduce_plain`), and a floating-point form
delivers the result of its step with a NaN in canonical form (`reduce_delivered`, `canonicalWord_eq`). -/
theorem reductionResults : Obligations.ReductionResults := by
  unfold Obligations.ReductionResults
  refine ⟨fun e he s c w a nw d hi hc hr => ?_, fun e he s c w a nw d hi hc hr => ?_⟩
  · have hexec : exec (e.1 a nw d) s = reduce s a nw d (plain e.2) := by fin_cases he <;> rfl
    exact hexec.trans (reduce_plain hi hc hr)
  · have hexec : exec (e.1 a nw d) s = reduce s a nw d (fpStep e.2) canonicalWord := by fin_cases he <;> rfl
    refine (hexec.trans (reduce_delivered hi hc hr)).trans ?_
    simp only [canonicalWord_eq]
    rfl

end Sys2Proof.Machine

/-! The lattice forms (R72, R127, R233 to R235): what joins and deliveries leave, and what the clocks, owners and copies of words leave
as it was. -/
namespace Sys2Proof.Machine

/-! ## What stands in memory and in the replicas -/

/-- The bytes of memory and the cells of the replicas: what no tile, clock, owner or copy of a word changes. -/
def State.contents (s : State) : Memory × Tab Dword := (s.mem, s.reps)

theorem mem_of_contents {s t : State} (h : t.contents = s.contents) : t.mem = s.mem := congrArg (·.1) h
theorem reps_of_contents {s t : State} (h : t.contents = s.contents) : t.reps = s.reps := congrArg (·.2) h

/-- A fold each step of which keeps a part of what it folds over keeps it. -/
theorem foldl_keeps {α β γ : Type} {f : β → α → β} (g : β → γ) (hf : ∀ b a, g (f b a) = g b) (l : List α) (b : β) :
    g (l.foldl f b) = g b := by
  induction l generalizing b with
  | nil => rfl
  | cons a r ih => exact (ih _).trans (hf b a)

theorem giveBack_contents (s : State) (w : Nat) : (s.giveBack w).contents = s.contents := by
  unfold State.giveBack
  dsimp only
  split
  · split <;> rfl
  · rfl

theorem recallAll_contents (s : State) (ws : List Nat) : (s.recallAll ws).contents = s.contents := by
  unfold State.recallAll
  refine foldl_keeps State.contents (fun s e => ?_) _ s
  exact giveBack_contents s e.1

theorem sendHome_contents (s : State) (mine : Nat → Bool) : (s.sendHome mine).contents = s.contents := by
  unfold State.sendHome
  refine foldl_keeps State.contents (fun s e => ?_) _ s
  exact giveBack_contents s e.1

theorem released_contents (s : State) (w : Who) (b : Bool) : (s.released w b).contents = s.contents := by
  unfold State.released
  split
  · exact sendHome_contents ..
  · rfl

theorem touchRep_contents (s : State) (b : Bool) (p : Partition) (stack pa : Nat) :
    (s.touchRep b p stack pa).contents = s.contents := rfl

theorem writeTime_contents (s : State) (ws : List Nat) (v : Dword) : (s.writeTime ws v).1.contents = s.contents := by
  unfold State.writeTime
  refine foldl_keeps (fun x : State × Dword => x.1.contents) (fun x w => ?_) ws (s, v)
  rfl

theorem tick_contents (s : State) (k : Nat) (v : Dword) : (s.tick k v).contents = s.contents := rfl
theorem probe_contents (s : State) (keep : Nat) (ws : List Nat) : (s.probe keep ws).contents = s.contents := rfl

theorem refresh_contents (s : State) (key core : Nat) (ws : List Nat) : (s.refresh key core ws).contents = s.contents := by
  refine foldl_keeps State.contents (fun s w => ?_) ws s
  split <;> rfl

/-- A write of a replica puts its bytes at their home, once owners are recalled and the clocks have advanced. -/
theorem writeKeep_rep (s : State) (keep : Nat) (v : Dword) (p : Partition) (pa a st : Nat) (bs : List Byte) :
    ∃ r : State, r.contents = s.contents ∧ (s.writeKeep keep v (.rep p pa a st) bs).1 = r.putHome (.rep p pa a st) bs := by
  refine ⟨_, ?_, rfl⟩
  rw [probe_contents, tick_contents, writeTime_contents, recallAll_contents]

/-! ## Joins (R72) -/

theorem bytesNat_natBytes (n x : Nat) (h : x < 256 ^ n) : bytesNat (natBytes n x) = x := by
  induction n generalizing x with
  | zero => simp only [Nat.pow_zero] at h; simp only [natBytes, bytesNat]; omega
  | succ n ih =>
    rw [natBytes, bytesNat, ih (x / 256) (by rw [Nat.pow_succ] at h; omega), BitVec.toNat_ofNat]
    omega

@[simp] theorem length_natBytes (n x : Nat) : (natBytes n x).length = n := by
  induction n generalizing x with
  | zero => rfl
  | succ n ih => rw [natBytes, List.length_cons, ih]

theorem lowWord_pairOf_zero (x : Word) : lowWord (pairOf x 0) = x := by
  apply BitVec.eq_of_toNat_eq
  simp [pairOf]

theorem highWord_pairOf_zero (x : Word) : highWord (pairOf x 0) = 0 := by
  have := x.isLt
  apply BitVec.eq_of_toNat_eq
  simp [pairOf]
  omega

theorem floatRank_nan {x : Word} (h : 0x7F800000 < x.toNat % 2 ^ 31) : floatRank x = 2 ^ 32 := if_pos h

theorem floatRank_lt {x : Word} (h : ¬ 0x7F800000 < x.toNat % 2 ^ 31) : floatRank x < 2 ^ 32 := by
  simp only [floatRank, h, if_false]
  split <;> omega

/-- An FP32 word with a NaN in its canonical form. -/
def floatKept (w : Word) : Word := if 0x7F800000 < w.toNat % 2 ^ 31 then 0x7FC00000 else w
/-- The word that a join of type 4 keeps. -/
def floatJoin (x y : Word) : Word := floatKept (if floatRank x < floatRank y then y else x)

theorem join_four (x y : Dword) : join 4 x y = pairOf (floatJoin (lowWord x) (lowWord y)) 0 := rfl

theorem floatRank_floatKept (w : Word) : floatRank (floatKept w) = floatRank w := by
  unfold floatKept
  split
  · next h => rw [floatRank_nan h]; decide
  · rfl

theorem floatRank_floatJoin (x y : Word) : floatRank (floatJoin x y) = max (floatRank x) (floatRank y) := by
  rw [floatJoin, floatRank_floatKept]
  split <;> omega

theorem floatKept_nan {w : Word} (h : floatRank (floatKept w) = 2 ^ 32) : floatKept w = 0x7FC00000 := by
  rw [floatRank_floatKept] at h
  refine if_pos (not_not.1 fun hn => ?_)
  exact absurd h (floatRank_lt hn).ne

/-- What the join is for each type code. -/
theorem join_cases (x y : Dword) : (join 0 x y).toNat = max x.toNat y.toNat ∧ (join 1 x y).toInt = max x.toInt y.toInt ∧
    (join 2 x y).toNat = min x.toNat y.toNat ∧ join 3 x y = x ||| y ∧ (join 5 x y).toNat = max x.toNat y.toNat ∧
    highWord (join 4 x y) = 0 ∧
    floatRank (lowWord (join 4 x y)) = max (floatRank (lowWord x)) (floatRank (lowWord y)) ∧
    (floatRank (lowWord (join 4 x y)) = 2 ^ 32 → lowWord (join 4 x y) = 0x7FC00000) := by
  simp only [join_four, lowWord_pairOf_zero, highWord_pairOf_zero]
  refine ⟨?_, ?_, ?_, rfl, ?_, trivial, floatRank_floatJoin .., floatKept_nan⟩
  all_goals
    simp only [join]
    split <;> omega

/-! ## Accesses to cells (R233 to R235) -/

section Cells
variable {s s1 : State} {w : Who} {va : Dword} {need : Need} {q : Site} {p : Partition} {pa a lt : Nat}

theorem cellSite_dead (h : s.site w va 8 need = .ok (s1, q, .cells p pa a lt)) (hd : s1.repDead p a w.stack = true) :
    s.cellSite w va need = .trap (trapAt 0xB 0 va) := by
  obtain ⟨k, hk⟩ := Option.isSome_iff_exists.1 (site_cells h)
  simp only [State.cellSite, h, Answer.andThen, hk, hd, if_true]

theorem cellSite_poison (h : s.site w va 8 need = .ok (s1, q, .cells p pa a lt)) (hd : s1.repDead p a w.stack = false)
    (hm : s1.repMarked a w.stack 8 = true) : s.cellSite w va need = .trap (trapAt 0xA 0 va) := by
  obtain ⟨k, hk⟩ := Option.isSome_iff_exists.1 (site_cells h)
  simp only [State.cellSite, h, Answer.andThen, hk, hd, hm, if_true, if_false, Bool.false_eq_true]

theorem cellSite_ok (h : s.site w va 8 need = .ok (s1, q, .cells p pa a lt)) (hd : s1.repDead p a w.stack = false)
    (hm : s1.repMarked a w.stack 8 = false) : s.cellSite w va need = .ok (s1, p, pa, a, lt) := by
  obtain ⟨k, hk⟩ := Option.isSome_iff_exists.1 (site_cells h)
  simp only [State.cellSite, h, Answer.andThen, hk, hd, hm, if_false, Bool.false_eq_true]

theorem cellSite_plain {r : Target} (h : s.site w va 8 need = .ok (s1, q, r)) (hq : q.lat = none) :
    s.cellSite w va need = .trap (trapAt 6 8 va) := by
  simp only [State.cellSite, h, Answer.andThen, hq]

end Cells

/-- One cell put into a replica. -/
theorem putCells_one (s : State) (a stack : Nat) (x : Dword) :
    (s.putCells a stack (natBytes 8 x.toNat)).reps = wput s.reps (repKey a stack) x := by
  have hx : bytesNat ((natBytes 8 x.toNat).take 8) = x.toNat := by
    rw [List.take_of_length_le (by simp), bytesNat_natBytes 8 _ x.isLt]
  simp [State.putCells, hx]

/-- A join of one value writes the cell of the stack's replica. -/
theorem joinCells_one (s : State) (p : Partition) (stack pa a lt writer : Nat) (v x : Dword) :
    (s.joinCells p stack pa a lt writer v [x]).1.mem = s.mem ∧
    (s.joinCells p stack pa a lt writer v [x]).1.reps = wput s.reps (repKey a stack) (join lt (s.replica a stack) x) := by
  obtain ⟨r, hr, hput⟩ := writeKeep_rep s writer v p pa a stack (natBytes 8 (join lt (s.replica a stack) x).toNat)
  have hc : (s.joinCells p stack pa a lt writer v [x]).1.contents =
      (r.putHome (.rep p pa a stack) (natBytes 8 (join lt (s.replica a stack) x).toNat)).contents :=
    (refresh_contents ..).trans (congrArg State.contents hput)
  rw [mem_of_contents hc, reps_of_contents hc, ← mem_of_contents hr, ← reps_of_contents hr]
  exact ⟨rfl, putCells_one ..⟩

/-- `lst` of a live cell joins its value into the stack's replica, and leaves every other cell. -/
theorem threadJoin_ok {s s1 : State} {w : Who} {va x : Dword} {p : Partition} {pa a lt : Nat}
    (h : s.cellSite w va needBoth = .ok (s1, p, pa, a, lt)) : ∃ r, s.threadJoin w va x = .ok r ∧
      r.1.replica a w.stack = join lt (s1.replica a w.stack) x ∧ r.1.mem = s1.mem ∧
      ∀ k, k ≠ repKey a w.stack → wget r.1.reps k = wget s1.reps k := by
  have hreps : ((s1.released w (w.obs != 0)).touchRep true p w.stack pa).contents = s1.contents := released_contents ..
  obtain ⟨hm, hr⟩ := joinCells_one ((s1.released w (w.obs != 0)).touchRep true p w.stack pa) p w.stack pa a lt w.core w.view x
  rw [State.replica, reps_of_contents hreps] at hr
  rw [mem_of_contents hreps] at hm
  refine ⟨_, by rw [State.threadJoin, h]; rfl, ?_, hm, fun k hk => ?_⟩
  · rw [State.replica, hr, wget_wput_same, State.replica]
  · rw [hr, wget_wput_other _ _ hk]

/-! ## What a delivery leaves (R235) -/

theorem onThread_thread {s : State} {wk t : Nat} {w : Warp} (hw : s.warp wk = some w) (ht : t < 32) (f : Thread → Thread) :
    ((s.onThread wk t f).warp wk).map (fun w => w.thread t) = some (f (w.thread t)) := by
  rw [State.onThread, onWarp_same, hw]
  simp [thread_mapThreads w _ ht]

theorem deliverCell_thread {s : State} {c : Cur} {w : Warp} {t : Nat} (p : Partition) (stack pa a : Nat) (cell : Dword)
    (d : BitVec 6) (k : Nat) (b : Bool) (hw : s.warp c.warp = some w) (ht : t < 32) :
    ((s.deliverCell c t p stack pa a cell d k b).warp c.warp).map (fun w => w.thread t) =
      some { ((w.thread t).result false d.toNat [lowWord cell, highWord cell]).setP k b with
        view := s.cellTime stack a 8 (w.thread t).view, timeout := 0, pc := c.next, status := .ready, held := none } :=
  onThread_thread (s := s.touchRep true p stack pa) hw ht _

/-! ## The forms -/

theorem lst_done {s : State} {c : Cur} {w : Warp} {b a : BitVec 7} {d : BitVec 6} {t : State} (hi : Issuing s c w)
    (hc : Clear c w (latticeUses b a d)) (ht : turns c (joinTurn c b a d) (threadsOf c.taking) (s.passed c) = some t) :
    exec (.lst b a d) s = .next t := by
  refine eachOp_done (g := joinTurn c b a d) hi hc ?_ (by rwa [switchIf_false])
  intro s w i t h
  exact turn_act h

theorem result_eq_some {α : Type} {x : Answer α} {r : α} (h : x.result = some r) : x = .ok r := by
  cases x with
  | ok a => exact congrArg Answer.ok (Option.some.inj h)
  | trap e => cases h
  | wait e => cases h

theorem lpoll_done {s : State} {c : Cur} {w : Warp} {b a : BitVec 7} {d : BitVec 6} {t : State} (hi : Issuing s c w)
    (hc : Clear c w (latticeUses b a d))
    (ht : turns c (pollTurn c b a d false) (threadsOf c.taking) (s.switched.passed c) = some t) :
    exec (.lpoll b a d) s = .next t := by
  refine eachOp_done (g := pollTurn c b a d false) hi hc ?_ (by rwa [switchIf_true])
  intro s w i t h
  obtain ⟨r, hr, h⟩ := Option.bind_eq_some_iff.1 h
  simp only [result_eq_some hr]
  exact congrArg Act.done (Option.some.inj h)

/-- A thread goes on in `lld` once its cell satisfies its threshold, or once its timeout has expired. -/
theorem lld_done {s : State} {c : Cur} {w : Warp} {b a : BitVec 7} {d : BitVec 6} {t : State} (hi : Issuing s c w)
    (hc : Clear c w (latticeUses b a d))
    (ht : turns c (pollTurn c b a d true) (threadsOf c.taking) (s.switched.passed c) = some t) :
    exec (.lld b a d) s = .next t := by
  refine eachOp_done (g := pollTurn c b a d true) hi hc ?_ (by rwa [switchIf_true])
  intro s w i t h
  obtain ⟨r, hr, h⟩ := Option.bind_eq_some_iff.1 h
  simp only [Bool.not_true, Bool.false_eq_true, if_false] at h
  simp only [result_eq_some hr]
  split at h
  · next hsat =>
    rw [if_pos hsat]
    exact congrArg Act.done (Option.some.inj h)
  · next hsat =>
    rw [if_neg hsat]
    split at h
    · next hexpired =>
      rw [if_pos hexpired]
      exact congrArg Act.done (Option.some.inj h)
    · cases h

/-- Settles O23: the forms act thread by thread (`lst_done`, `lpoll_done`, `lld_done`), the joins are `join_cases`, an access to a cell
goes by `cellSite`, and a delivery leaves what `deliverCell_thread` says. -/
theorem latticeFormResults : Obligations.LatticeFormResults := by
  unfold Obligations.LatticeFormResults
  refine ⟨fun s c w b a d t hi hc => ⟨lst_done hi hc, lpoll_done hi hc, lld_done hi hc⟩, join_cases,
    fun s s1 w va x q p pa a lt => ⟨fun h => ⟨fun hd => ?_, fun hd hm => ?_, fun hd hm => threadJoin_ok (cellSite_ok h hd hm)⟩,
      fun h hd hm => ?_, fun r hq => ⟨fun h => ?_, fun h => ?_⟩⟩,
    fun s c w t stack pa a k p cell d b hw ht => deliverCell_thread p stack pa a cell d k b hw ht⟩
  · rw [State.threadJoin, cellSite_dead h hd]
    rfl
  · rw [State.threadJoin, cellSite_poison h hd hm]
    rfl
  · rw [State.threadCell, cellSite_ok h hd hm]
    rfl
  · rw [State.threadCell, cellSite_plain h hq]
    rfl
  · rw [State.threadJoin, cellSite_plain h hq]
    rfl

end Sys2Proof.Machine

/-! A barrier of a group (R277, R378, R379): what the end of an instance of `bar` leaves at its members. -/
namespace Sys2Proof.Machine

theorem onWarp_parts (s : State) (k : Nat) (f : Warp → Warp) : (s.onWarp k f).parts = s.parts := by
  unfold State.onWarp
  split <;> rfl

theorem onLaunch_parts (s : State) (k : Nat) (f : Launch → Launch) : (s.onLaunch k f).parts = s.parts := by
  unfold State.onLaunch
  split <;> rfl

/-- A completion changes no partition. -/
theorem complete_part (s : State) (core ent code : Nat) (stamp : Dword) (k : Nat) :
    (s.complete core ent code stamp).part k = s.part k := by
  have hparts : (s.complete core ent code stamp).parts = s.parts := by
    unfold State.complete
    dsimp only
    split
    · rfl
    · rw [onLaunch_parts]
      split
      · rw [onWarp_parts]
        rfl
      · rfl
  rw [State.part, State.part, hparts]

/-- The completion of a started collective ends its instance. -/
theorem taskComplete_col {s : State} {core ent : Nat} {t : Task} {crew : Crew} {f : Nat} {td td2 : Desc} {g : Word}
    (ht : ((s.core core).entry ent).task = some t) (hn : t.cancelled = false) (hs : t.started = true)
    (hk : s.crew t.crew = some crew) (h : t.cmd = .col f td td2 g) :
    exec (.taskComplete core ent) s = .next (s.endInstance core t) := by
  have hexec : exec (.taskComplete core ent) s = execTaskComplete core ent s := rfl
  rw [hexec, execTaskComplete]
  simp only [ht, hn, hs, hk, h, Bool.not_true, Bool.false_eq_true, if_false]

/-- The latest of the times that the members of an instance pass on. -/
def latestStamp (ms : List Member) : Dword := ms.foldl (fun v m => laterOf v m.task.stamp) 0

/-- An instance of `bar` that this device alone holds ends with code 1 at every member. -/
theorem runInstance_bar {s : State} {ms : List Member} (hms : ms ≠ []) (hcmd : ∀ m ∈ ms, m.cmd = (6, [], [])) :
    s.runInstance ms ms.length =
      .inl { state := s.drawn, codes := ms.map fun _ => (1, trapAt 0 0 0), view := latestStamp ms } := by
  obtain ⟨m0, rest, rfl⟩ := List.exists_cons_of_ne_nil hms
  have h0 := hcmd m0 (by simp)
  have hsame : ((m0 :: rest).any fun m => m.cmd.1 != 6 || !suits 6 m.cmd.2.1 m.cmd.2.2 || !sameShape [] m.cmd.2.1) = false := by
    rw [List.any_eq_false]
    intro m hm
    rw [hcmd m hm]
    decide
  unfold State.runInstance
  simp only [List.head?_cons, h0, hsame, Nat.lt_irrefl, decide_false, Bool.false_and, Bool.or_false, Bool.false_eq_true, if_false,
    if_true]
  rfl

/-- The end of an instance of `bar`: each member completes with code 1 at the latest time that any of them passes on, and the
instance is gone from its group. -/
theorem endInstance_bar {s : State} {core : Nat} {t : Task} {k n : Nat} {p : Partition} {i : Inst}
    (hi : s.instanceOf core t = some (k, p, n, i)) (hp : s.part k = some p)
    (hlen : (s.members i).length = (p.group n).participants)
    (hm : ∀ m ∈ s.members i, m.task.started = true ∧ m.cmd = (6, [], [])) :
    s.endInstance core t =
      ((s.members i).foldl (fun u m => u.complete m.core m.ent 1 (latestStamp (s.members i))) s.drawn).setPart k
        (p.setGroup n { p.group n with gseq := (p.group n).gseq + 1,
                                       insts := (p.group n).insts.filter fun j => j.k != i.k }) := by
  generalize hms : s.members i = ms at hlen hm ⊢
  have hne : ms ≠ [] := by
    rintro rfl
    rw [Group.participants, List.length_nil] at hlen
    omega
  have hstarted : (ms.all fun m => m.task.started) = true := List.all_eq_true.2 fun m h => (hm m h).1
  have hfold : ∀ (v : Dword) (l : List Member) (u : State),
      (l.zip (l.map fun _ => ((1, trapAt 0 0 0) : Nat × Trap))).foldl (fun s x =>
        (if 3 ≤ x.2.1 then s.engineFault x.1.core 4 x.1.task.launch x.2.2 else s).complete x.1.core x.1.ent x.2.1 v) u =
      l.foldl (fun u m => u.complete m.core m.ent 1 v) u := by
    intro v l
    induction l with
    | nil => exact fun _ => rfl
    | cons m r ih => exact fun u => ih _
  have hpart : (ms.foldl (fun u m => u.complete m.core m.ent 1 (latestStamp ms)) s.drawn).part k = some p :=
    (foldl_keeps (fun s : State => s.part k) (fun s m => complete_part ..) ms s.drawn).trans hp
  unfold State.endInstance
  simp only [hi, hms, hstarted, Bool.not_true, Bool.false_eq_true, if_false, ← hlen, runInstance_bar hne fun m h => (hm m h).2,
    hfold, State.onPart, hpart]

/-- Refutes O46: in its clause on the `bar` of a whole instance, the time at which a member completes is taken over
`s.members i` under the binder of the fold, so that `s` is the state in which the members before it have completed already and
count no more. Two ranks meet in an instance: the one on core 0 passes on the time 1, and the one on core 1, which releases,
the time 0. The model completes both at 1 (`endInstance_bar`, which is the clause with the time of all members), and the clause
completes the second at 0. -/
theorem not_engineEvents : ¬ Obligations.EngineEvents := by
  unfold Obligations.EngineEvents
  rintro ⟨hevents, -⟩
  let i : Inst := { k := 0, joined := [{ rank := 0, core := 0, ent := 63 }, { rank := 1, core := 1, ent := 63 }] }
  let p : Partition := { Partition.placed with groups := [(63, { Group.init with gctl := 0x80000001, insts := [i] })] }
  let bar : Task := { Tests.task with cmd := .col 6 [] [] 63, started := true, inst := some 0 }
  let first : Task := { bar with stamp := 1 }
  let second : Task := { bar with rel := true }
  let s : State :=
    { Tests.withPart p with
      cores := [(0, { Core.init with entries := [(63, { Entry.init with task := some first })] }),
                (1, { Core.init with entries := [(63, { Entry.init with task := some second })] })] }
  have ht : ((s.core 0).entry 63).task = some first := by decide +kernel
  obtain ⟨-, -, -, -, -, hcrew⟩ := hevents s 0 63 first ht
  obtain ⟨crew, hk⟩ : ∃ crew, s.crew first.crew = some crew := ⟨_, rfl⟩
  obtain ⟨-, -, -, -, -, -, -, hbar⟩ := hcrew crew rfl rfl hk
  have hi : s.instanceOf 0 first = some (0, p, 63, i) := by decide +kernel
  have hp : s.part 0 = some p := by decide +kernel
  have hlen : (s.members i).length = (p.group 63).participants := by decide +kernel
  have hm : ∀ m ∈ s.members i, m.task.started = true ∧ m.cmd = (6, [], []) := by decide +kernel
  have hclause := hbar [] [] 63 0 p 63 i rfl hi hp hlen hm
  rw [taskComplete_col ht rfl rfl hk rfl, endInstance_bar hi hp hlen hm] at hclause
  have hstamps := congrArg (fun u : State => ((u.core 1).entry 63).stamp) (Host.Outcome.next.inj hclause)
  simp only [State.setPart_read_core] at hstamps
  have hmodel : ((((s.members i).foldl (fun u m => u.complete m.core m.ent 1 (latestStamp (s.members i))) s.drawn).core 1).entry
      63).stamp = 1 := by decide +kernel
  have hstated : ((((s.members i).foldl (fun s m => s.complete m.core m.ent 1
      ((s.members i).foldl (fun v m => laterOf v m.task.stamp) 0)) s.drawn).core 1).entry 63).stamp = 0 := by decide +kernel
  rw [hmodel, hstated] at hstamps
  exact absurd hstamps (by decide)

end Sys2Proof.Machine

/-! Control and status registers (R286 to R288): who reaches one, what each reads, and what a write of it leaves. -/
namespace Sys2Proof.Machine

section Csr
variable {s : State} {c : Cur} {w : Warp}

/-! ## Who reaches a CSR (R147, R283, R287) -/

theorem preemptOnly_saving (hi : Issuing s c w) (h : Saving c w) : s.preemptOnly = none := by
  have hh : (s.cur.bind fun c => (s.warp c.warp).map fun w => w.handlerIn c.group) = some (w.handlerIn c.group) := by
    simp [hi.1, hi.2]
  unfold State.preemptOnly
  rw [hh]
  rcases h with h | h <;> rw [h]

theorem privileged_of_sup (hi : Issuing s c w) (h : Privileged c w) : s.privileged = none := by
  have hh : (s.cur.bind fun c => (s.warp c.warp).map fun w => w.supIn c.group) = some true := by
    simp only [hi.1, Option.bind_some, hi.2, Option.map_some]
    exact congrArg some h
  unfold State.privileged
  rw [hh]

/-- A form of the warp whose further decoding condition is met has its effect. -/
theorem unitOp_allowed {u : Uses} {extra : Option (Nat × Nat)} {f : State → Cur → Warp → Act} {t : State} (hi : Issuing s c w)
    (hc : Clear c w u) (he : extra = none) (h : f s c w = .done t) :
    unitOp s u extra false f = .next (t.advance c c.group) := by
  subst he
  exact unitOp_done hi hc (by rwa [switchIf_false])

/-- `csrr` of a CSR that its threads reach writes the register with the CSR's value. -/
theorem csrr_done {h : BitVec 5} {l : BitVec 7} {d : BitVec 6} (hi : Issuing s c w) (hc : Clear c w (useD d.toNat 1))
    (hsave : csrNumber h l = 0x020 → Saving c w) (hsup : csrHidden (csrNumber h l) = true → Privileged c w) :
    exec (.csrr h l d) s =
      .next ((s.setWarp c.warp (w.setS d.toNat (s.csrRead w (s.coreOf w) (csrNumber h l)))).advance c c.group) := by
  change execCsrr h l d s = _
  unfold execCsrr
  refine unitOp_allowed hi hc ?_ rfl
  by_cases hn : csrNumber h l = 0x020
  · rw [if_pos hn]
    exact preemptOnly_saving hi (hsave hn)
  · rw [if_neg hn]
    refine if_neg fun hboth => ?_
    obtain ⟨huser, hhid⟩ := Bool.and_eq_true_iff.1 hboth
    rw [privileged_of_sup hi (hsup hhid)] at huser
    cases huser

/-- What a write of a CSR comes to, for the value that it computes: nothing where every field is read-only, the write, or
cause 0x0E. -/
def State.csrDone (s : State) (c : Cur) (w : Warp) (n : Nat) (x : Word) : State :=
  if csrReadOnly n then s.advance c c.group
  else match s.csrWrite c.warp w (s.coreOf w) n x with
    | some t => t.advance c c.group
    | none => (s.drawn.advance c (c.group &&& ~~~c.taking)).raiseAll c c.taking
        (trapAt 0xE (lowWord (Config.freeDword s.draws 0)).toNat 0)

theorem gated_allowed {u : Uses} {extra : Option (Nat × Nat)} {f : Cur → Warp → State → State} (hc : Clear c w u)
    (he : extra = none) : gated s c w u extra false f = f c w s := by
  rw [he, gated_clear hc, switchIf_false]

/-- A write of a CSR that its threads reach, with a value that its fields hold. -/
theorem csrOp_done {b l : BitVec 7} {h : BitVec 5} {f : Word → Word → Word} (hi : Issuing s c w)
    (hc : Clear c w (useUni b 1)) {x : Word} (hx : f (s.csrRead w (s.coreOf w) (csrNumber h l)) ((s.ctx c w).usrc b) = x)
    (hsave : csrNumber h l = 0x020 → Saving c w) (hres : csrReserved (csrNumber h l) x = false)
    (hsup : csrGuarded (csrNumber h l) = true → Privileged c w)
    (hband : csrNumber h l = 0x7E0 → shdwCore (s.coreOf w) x = true) :
    csrOp s b l h f = .next (s.csrDone c w (csrNumber h l) x) := by
  have huser : (!w.supIn c.group && csrGuarded (csrNumber h l)) = false := by
    cases hg : csrGuarded (csrNumber h l) with
    | false => exact Bool.and_false _
    | true => rw [show w.supIn c.group = true from hsup hg]; rfl
  have hcore : ¬ (csrNumber h l = 0x7E0 ∧ shdwCore (s.coreOf w) x = false) := fun ⟨hn, hf⟩ =>
    Bool.false_ne_true (hf.symm.trans (hband hn))
  subst hx
  refine (onIssue_issuing hi).trans (congrArg Host.Outcome.next (gated_allowed hc ?_))
  by_cases hn : csrNumber h l = 0x020
  · rw [if_pos hn]
    exact preemptOnly_saving hi (hsave hn)
  · rw [if_neg hn, if_neg fun hboth => Bool.false_ne_true (hres.symm.trans (Bool.and_eq_true_iff.1 hboth).2),
      if_neg (by rw [huser]; exact Bool.false_ne_true), if_neg hcore]

/-! ## What a CSR reads -/

theorem csrRead_smapWord (s : State) (w : Warp) (core : Nat) {n : Nat} (hlo : 0x7C0 ≤ n) (hhi : n < 0x7E0) :
    s.csrRead w core n = if n % 2 = 0 then (s.smapOf (coreCluster core) ((n - 0x7C0) / 2)).low
      else (s.smapOf (coreCluster core) ((n - 0x7C0) / 2)).high := by
  simp (disch := omega) only [State.csrRead, if_neg, if_pos]

/-- The number of a mapping entry's word, and the entry and the half that the number gives. -/
theorem smapWord_entry {i : Nat} (hi : i < 16) :
    (0x7C0 + 2 * i < 0x7E0 ∧ (0x7C0 + 2 * i) % 2 = 0 ∧ (0x7C0 + 2 * i - 0x7C0) / 2 = i) ∧
      0x7C1 + 2 * i < 0x7E0 ∧ (0x7C1 + 2 * i) % 2 ≠ 0 ∧ (0x7C1 + 2 * i - 0x7C0) / 2 = i := by
  omega

theorem csrRead_smap (s : State) (w : Warp) (core : Nat) {i : Nat} (hi : i < 16) :
    s.csrRead w core (0x7C0 + 2 * i) = (s.smapOf (coreCluster core) i).low ∧
      s.csrRead w core (0x7C1 + 2 * i) = (s.smapOf (coreCluster core) i).high := by
  obtain ⟨⟨hlow, heven, hentry⟩, hhigh, hodd, hentry'⟩ := smapWord_entry hi
  constructor
  · rw [csrRead_smapWord s w core (Nat.le_add_right ..) hlow, if_pos heven, hentry]
  · rw [csrRead_smapWord s w core (by omega) hhigh, if_neg hodd, hentry']

theorem devid_eq (stack : Nat) : devid stack = BitVec.ofNat 32 (0x86000001 + (if Config.fabSecond stack then 2 else 1) * 2 ^ 16 +
    Config.stepping.toNat * 2 ^ 8) := by
  exact congrArg (BitVec.ofNat 32) (by omega)

/-- The values that do not depend on a partition. -/
theorem csrRead_values (s : State) (w : Warp) (core : Nat) :
    s.csrRead w core 1 = w.fflags.setWidth 32 ∧ s.csrRead w core 2 = w.frm.setWidth 32 ∧
      s.csrRead w core 0x011 = BitVec.ofNat 32 (16 - (s.core (lowerCore core)).fifo.length) ∧
      (∀ k, s.crew w.crew = some k → s.csrRead w core 0x020 = k.arrived) ∧
      s.csrRead w core 0x7E0 = s.shdwWord ∧ s.csrRead w core 0xFC0 = devid (coreStack core) ∧
      s.csrRead w core 0xFC1 = BitVec.ofNat 32 (s.stack (coreStack core)).lvl := by
  refine ⟨rfl, rfl, rfl, fun k hk => ?_, rfl, rfl, rfl⟩
  change ((s.crew w.crew).map Crew.arrived).getD 0 = k.arrived
  rw [hk]
  rfl

theorem narrow_eq {core k : Nat} {p : Partition} (hp : s.partOfCore core = some (k, p)) :
    s.narrow core = decide (s.alarm = true ∨ p.rem < 0 ∧ ∀ e ∈ s.crewsOn core, e.2.cover = 0) := by
  unfold State.narrow
  rw [hp]
  simp only [List.all_eq, beq_iff_eq, Bool.decide_or, Bool.decide_and, Bool.decide_eq_true]

/-- The values that the core's partition gives. -/
theorem csrRead_partition (w : Warp) {core k : Nat} {p : Partition} (hp : s.partOfCore core = some (k, p)) :
    s.csrRead w core 0x010 = BitVec.ofNat 32 (wrapInt 32 p.rem) ∧
      s.csrRead w core 0x700 = lowWord p.trapvec ∧ s.csrRead w core 0x701 = highWord p.trapvec ∧
      s.csrRead w core 0x702 = lowWord p.savebase ∧ s.csrRead w core 0x703 = highWord p.savebase ∧
      s.csrRead w core 0x7E8 = p.lxsched := by
  simp [State.csrRead, hp]

/-! ## What a write leaves -/

theorem onPart_of_part {k : Nat} {p : Partition} (hp : s.part k = some p) (f : Partition → Partition) :
    s.onPart k f = s.setPart k (f p) := by
  rw [State.onPart, hp]

theorem csrWrite_warp (hi : Issuing s c w) (core : Nat) (x : Word) :
    s.csrWrite c.warp w core 1 x = some (s.setWarp c.warp { w with fflags := x.setWidth 5 }) ∧
      s.csrWrite c.warp w core 2 x = some (s.setWarp c.warp { w with frm := x.setWidth 2 }) :=
  ⟨congrArg some (onWarp_issuing hi), congrArg some (onWarp_issuing hi)⟩

theorem csrWrite_arrived {q : Crew} (hq : s.crew w.crew = some q) (wk core : Nat) (x : Word) :
    s.csrWrite wk w core 0x020 x = some (s.setCrew w.crew { q with arrived := x }) := by
  change some (s.onCrew w.crew fun c => { c with arrived := x }) = _
  rw [State.onCrew, hq]

/-- The writes that go to the core's partition. -/
theorem csrWrite_partition {core k : Nat} {p : Partition} (hc : s.partOfCore core = some (k, p)) (hp : s.part k = some p)
    (wk : Nat) (w : Warp) (x : Word) :
    s.csrWrite wk w core 0x700 x = some (s.setPart k { p with trapvec := pairOf (x &&& 0xFFFFFFFE) (highWord p.trapvec) }) ∧
      s.csrWrite wk w core 0x701 x = some (s.setPart k { p with trapvec := pairOf (lowWord p.trapvec) x }) ∧
      s.csrWrite wk w core 0x702 x = some (s.setPart k { p with savebase := pairOf (x &&& 0xFFFFFF00) (highWord p.savebase) }) ∧
      s.csrWrite wk w core 0x703 x = some (s.setPart k { p with savebase := pairOf (lowWord p.savebase) x }) ∧
      s.csrWrite wk w core 0x7E8 x = some (s.setPart k { p with nextPer := x.toNat % 512 }) := by
  simp [State.csrWrite, hc, onPart_of_part hp]

theorem csrWrite_smapWord {core k : Nat} {p : Partition} (hc : s.partOfCore core = some (k, p)) (wk : Nat) (w : Warp) (x : Word)
    {n : Nat} (hlo : 0x7C0 ≤ n) (hhi : n < 0x7E0) :
    s.csrWrite wk w core n x = if n % 2 = 0 then s.smapLow p (coreCluster core) ((n - 0x7C0) / 2) x
      else s.smapHigh (coreCluster core) ((n - 0x7C0) / 2) x := by
  simp (disch := omega) only [State.csrWrite, if_neg, if_pos, hc]

/-- The writes of a mapping entry (R91). -/
theorem csrWrite_smap {core k : Nat} {p : Partition} (hc : s.partOfCore core = some (k, p)) (wk : Nat) (w : Warp) (x : Word)
    {i : Nat} (hi : i < 16) :
    s.csrWrite wk w core (0x7C0 + 2 * i) x = s.smapLow p (coreCluster core) i x ∧
      s.csrWrite wk w core (0x7C1 + 2 * i) x = s.smapHigh (coreCluster core) i x := by
  obtain ⟨⟨hlow, heven, hentry⟩, hhigh, hodd, hentry'⟩ := smapWord_entry hi
  constructor
  · rw [csrWrite_smapWord hc wk w x (Nat.le_add_right ..) hlow, if_pos heven, hentry]
  · rw [csrWrite_smapWord hc wk w x (by omega) hhigh, if_neg hodd, hentry']

theorem smapHigh_valid {cluster i : Nat} (h : (s.smapOf cluster i).v = true) (x : Word) : s.smapHigh cluster i x = none :=
  if_pos h

theorem smapHigh_invalid {cluster i : Nat} (h : (s.smapOf cluster i).v = false) (x : Word) :
    s.smapHigh cluster i x = some (s.setSmap cluster i { s.smapOf cluster i with gtn := x.toNat }) :=
  if_neg (by rw [h]; exact Bool.false_ne_true)

theorem smapLow_invalid {cluster i : Nat} (h : (s.smapOf cluster i).v = false) (p : Partition) {x : Word}
    (hx : x.getLsbD 31 = false) :
    s.smapLow p cluster i x =
      some (s.setSmap cluster i { s.smapOf cluster i with nt := bits x.toNat 20 10, soff := bits x.toNat 10 10 }) := by
  simp only [State.smapLow, h, hx, Bool.false_and, Bool.false_eq_true, if_false, Bool.not_false, if_true]

end Csr

/-- Settles O34: `csrr_done` and `csrOp_done` for a CSR that the threads reach, `csrRead_values`, `csrRead_smap` and
`csrRead_partition` for what one reads, and the rules of `State.csrWrite` for what a write leaves. -/
theorem csrResults : Obligations.CsrResults := by
  unfold Obligations.CsrResults
  intro s c w h l hi
  obtain ⟨hflags, hmode, hfifo, harrived, hshdw, hid, hlevel⟩ := csrRead_values s w (s.coreOf w)
  refine ⟨fun d hd hsave hsup => csrr_done hi hd hsave hsup,
    ⟨hflags, hmode, hfifo, harrived, fun i hlt => csrRead_smap s w _ hlt, hshdw, hid.trans (devid_eq _), hlevel⟩,
    fun k p hp => ⟨?narrow, csrRead_partition w hp⟩, fun e he b hb => ?write, fun x k p hc hp => ?effect⟩
  case narrow =>
    change BitVec.ofNat 32 (bitNat (s.narrow (s.coreOf w))) = _
    rw [narrow_eq hp]
    by_cases hn : s.alarm = true ∨ p.rem < 0 ∧ ∀ e ∈ s.crewsOn (s.coreOf w), e.2.cover = 0
    · rw [if_pos hn, decide_eq_true hn]
      rfl
    · rw [if_neg hn, decide_eq_false hn]
      rfl
  case write =>
    intro x hsave hres hsup hband
    have hexec : exec (e.1 b l h) s = .next (s.csrDone c w (csrNumber h l) x) := by
      have hop : exec (e.1 b l h) s = csrOp s b l h e.2 := by
        simp only [List.mem_cons, List.not_mem_nil, or_false] at he
        rcases he with rfl | rfl | rfl <;> rfl
      exact hop.trans (csrOp_done hi hb rfl hsave hres hsup hband)
    rw [hexec, State.csrDone]
    refine ⟨fun hro => ?_, fun t hro hw => ?_, fun hro hw => ⟨(lowWord (Config.freeDword s.draws 0)).toNat, ?_⟩⟩
    · rw [if_pos hro]
    · rw [if_neg (by rw [hro]; exact Bool.false_ne_true), hw]
    · rw [if_neg (by rw [hro]; exact Bool.false_ne_true), hw]
  case effect =>
    obtain ⟨hvec, hvecHigh, hbase, hbaseHigh, hper⟩ := csrWrite_partition hc hp c.warp w x
    refine ⟨(csrWrite_warp hi _ x).1, (csrWrite_warp hi _ x).2, fun q hq => csrWrite_arrived hq _ _ x, hvec, hvecHigh, hbase,
      hper, fun i hlt => ?_, hbaseHigh⟩
    obtain ⟨hlow, hhigh⟩ := csrWrite_smap hc c.warp w x hlt
    rw [hlow, hhigh]
    exact ⟨fun hv => smapHigh_valid hv x, fun hv => smapHigh_invalid hv x, fun hv hx => smapLow_invalid hv p hx⟩

end Sys2Proof.Machine

/-! The tiles of a band (R73 to R87): what an operation on them leaves besides, where a tile stands after a touch, a pin and an
unpin, and the spiral forms on the tile of an address (R242). -/
namespace Sys2Proof.Machine

/-! ## What tiles, write-backs and pools do not touch -/

/-- The state without its tiles, what waits to be written back, what cores own, and the pools: all that a tile that moves, leaves or
goes home, and a pin that ends, keep. -/
def State.ground (s : State) : State :=
  { s with spirals := [], wbq := [], fresh := 0, under := [], owned := [], homes := [], vfs := [], claims := [] }

theorem queueBack_ground (s : State) (band pri : Nat) (bs : List Host.Cell) :
    (s.queueBack band pri bs).1.ground = s.ground ∧ (s.queueBack band pri bs).1.spirals = s.spirals ∧
      (s.queueBack band pri bs).1.owned = s.owned := by
  unfold State.queueBack
  split <;> exact ⟨rfl, rfl, rfl⟩

/-- Tiles that leave queue write-backs, and no more: no tile moves, and no word changes its owner. -/
theorem leave_ground (s : State) (p : Partition) (band : Nat) (ts : List Tile) :
    (s.leave p band ts).1.ground = s.ground ∧ (s.leave p band ts).1.spirals = s.spirals ∧
      (s.leave p band ts).1.owned = s.owned := by
  have hkeeps : ((s.leave p band ts).1.ground, (s.leave p band ts).1.spirals, (s.leave p band ts).1.owned) =
      (s.ground, s.spirals, s.owned) := by
    unfold State.leave
    refine foldl_keeps (fun x : State × List Nat => (x.1.ground, x.1.spirals, x.1.owned)) (fun x t => ?_) _ (s, [])
    obtain ⟨hground, hspirals, howned⟩ :=
      queueBack_ground x.1 band (p.priorityOf t.handle) (x.1.staleBytes (p.toPackage (2048 * t.tile)) 2048)
    exact Prod.ext hground (Prod.ext hspirals howned)
  obtain ⟨hground, hrest⟩ := Prod.mk.inj hkeeps
  exact ⟨hground, Prod.mk.inj hrest⟩

theorem leave_of (s : State) (p : Partition) (band : Nat) (ts : List Tile) (b : Nat) :
    Spiral.of (s.leave p band ts).1 b = Spiral.of s b :=
  congrArg (fun x => (tfind x b).getD emptySpiral) (leave_ground s p band ts).2.1

theorem unpinned_ground (s : State) (p : Partition) (owner : Option Nat) : (s.unpinned p owner).ground = s.ground := by
  unfold State.unpinned
  split
  · split <;> rfl
  · rfl

theorem unpinned_of (s : State) (p : Partition) (owner : Option Nat) (b : Nat) :
    Spiral.of (s.unpinned p owner) b = Spiral.of s b :=
  congrArg (fun x => (tfind x b).getD emptySpiral) (unpinned_spirals s p owner)

theorem onSpiral_same (s : State) (b : Nat) (f : Spiral → Spiral) : Spiral.of (s.onSpiral b f) b = f (Spiral.of s b) :=
  State.setSpiral_same ..

theorem onSpiral_other (s : State) {b c : Nat} (f : Spiral → Spiral) (h : c ≠ b) :
    Spiral.of (s.onSpiral b f) c = Spiral.of s c := State.setSpiral_other _ _ _ h

/-! ## Positions (R77) -/

theorem le_nthFree (l : List Nat) (p : Nat) : p ≤ nthFree l p := by
  induction l generalizing p with
  | nil => exact Nat.le_refl p
  | cons q r ih =>
    rw [nthFree]
    split
    · exact Nat.le_of_succ_le (ih (p + 1))
    · exact Nat.le_refl p

/-- A tile that is less recent stands further out, whichever positions are pinned. -/
theorem nthFree_strictMono (l : List Nat) : StrictMono (nthFree l) := by
  induction l with
  | nil => exact strictMono_id
  | cons q r ih =>
    intro a b hab
    simp only [nthFree]
    split
    · next ha => rw [if_pos (Nat.le_trans ha hab.le)]; exact ih (Nat.add_lt_add_right hab 1)
    · next ha =>
      split
      · exact Nat.lt_of_lt_of_le (Nat.lt_succ_of_lt hab) (le_nthFree r (b + 1))
      · exact hab

/-- The unpinned tiles below a position are the first ones in recency. -/
theorem filter_range_lt {f : Nat → Nat} (hf : StrictMono f) (i n : Nat) : ∀ j, j < n →
    (j < ((List.range n).filter fun j => f j < i).length ↔ f j < i) := by
  induction n with
  | zero => exact fun j hj => absurd hj (Nat.not_lt_zero j)
  | succ n ih =>
    intro j hj
    rw [List.range_succ, List.filter_append, List.length_append]
    by_cases hn : f n < i
    · have hall : (List.range n).filter (fun j => f j < i) = List.range n :=
        List.filter_eq_self.2 fun k hk => decide_eq_true ((hf (List.mem_range.1 hk)).trans hn)
      have hj' : f j < i := (hf.monotone (Nat.le_of_lt_succ hj)).trans_lt hn
      simp [hall, hn, hj, hj']
    · rcases Nat.lt_succ_iff_lt_or_eq.1 hj with hlt | rfl
      · simpa [hn] using ih j hlt
      · have hle := List.length_filter_le (fun j => decide (f j < i)) (List.range j)
        rw [List.length_range] at hle
        simpa [hn] using hle

theorem pinnedAt_eq_none {l : Tab Tile} {tile : Nat} : pinnedAt l tile = none ↔ ∀ e ∈ l, e.2.tile ≠ tile := by
  induction l with
  | nil => simp [pinnedAt]
  | cons e r ih =>
    obtain ⟨p, t⟩ := e
    rw [pinnedAt]
    split <;> simp_all

theorem exists_of_pinnedAt {l : Tab Tile} {tile i : Nat} (h : pinnedAt l tile = some i) : ∃ t, (i, t) ∈ l ∧ t.tile = tile := by
  induction l with
  | nil => cases h
  | cons e r ih =>
    obtain ⟨p, t⟩ := e
    rw [pinnedAt] at h
    split at h
    · next ht => exact ⟨t, by simp [Option.some.inj h], ht⟩
    · obtain ⟨u, hu, htile⟩ := ih h
      exact ⟨u, List.mem_cons_of_mem _ hu, htile⟩

/-- A tile put under a pin among tiles that are others stands where it was put. -/
theorem pinnedAt_tput {l : Tab Tile} {tile : Nat} (h : pinnedAt l tile = none) (i : Nat) {t : Tile} (ht : t.tile = tile) :
    pinnedAt (tput l i t) tile = some i := by
  induction l with
  | nil => simp [tput, pinnedAt, ht]
  | cons e r ih =>
    obtain ⟨p, u⟩ := e
    have hu : u.tile ≠ tile := pinnedAt_eq_none.1 h (p, u) List.mem_cons_self
    have hr : pinnedAt r tile = none := by simpa [pinnedAt, hu] using h
    rw [tput]
    split
    · simp [pinnedAt, hu, ih hr]
    · split <;> simp [pinnedAt, ht]

theorem recencyOf_eq_none {l : List Tile} {tile : Nat} : recencyOf l tile = none ↔ ∀ t ∈ l, t.tile ≠ tile := by
  induction l with
  | nil => simp [recencyOf]
  | cons t r ih =>
    rw [recencyOf]
    split <;> simp_all

section Position
variable {sp : Spiral} {tile i : Nat}

theorem position_pinned (h : pinnedAt sp.pinned tile = some i) : sp.position tile = some (i, true) := by
  rw [Spiral.position, h]

theorem position_free (h : pinnedAt sp.pinned tile = none) :
    sp.position tile = (recencyOf sp.order tile).map fun i => (nthFree (sp.pinned.map Prod.fst) i, false) := by
  rw [Spiral.position, h]

theorem pinnedAt_of_position (h : sp.position tile = some (i, true)) : pinnedAt sp.pinned tile = some i := by
  cases hp : pinnedAt sp.pinned tile with
  | some j =>
    rw [position_pinned hp] at h
    cases h
    rfl
  | none =>
    rw [position_free hp] at h
    obtain ⟨j, -, hj⟩ := Option.map_eq_some_iff.1 h
    cases hj

theorem pinnedAt_of_free (h : ∀ i, sp.position tile ≠ some (i, true)) : pinnedAt sp.pinned tile = none := by
  cases hp : pinnedAt sp.pinned tile with
  | none => rfl
  | some j => exact absurd (position_pinned hp) (h j)

/-- The record of a tile among the unpinned ones is its own. -/
theorem record_of_order (h : recencyOf sp.order tile ≠ none) : ∃ t, sp.record tile = some t ∧ t.tile = tile := by
  have hex : ∃ t ∈ sp.order, t.tile = tile := by
    by_contra hno
    exact h (recencyOf_eq_none.2 fun t ht he => hno ⟨t, ht, he⟩)
  obtain ⟨u, hu, htile⟩ := hex
  obtain ⟨t, ht⟩ := Option.isSome_iff_exists.1
    (List.find?_isSome (p := fun t : Tile => t.tile == tile).2 ⟨u, hu, beq_iff_eq.2 htile⟩)
  refine ⟨t, ?_, beq_iff_eq.1 (List.find?_some (p := fun t : Tile => t.tile == tile) ht)⟩
  rw [Spiral.record, ht]

/-! ## Touches (R73, R79, R84) -/

theorem touch_pinned (h : pinnedAt sp.pinned tile = some i) (handle : Nat) : sp.touch tile handle = (sp, []) := by
  rw [Spiral.touch, h]

/-- A touch brings a tile that is not pinned to the front of recency. -/
theorem touch_free (h : pinnedAt sp.pinned tile = none) (hroom : 0 < sp.room) (handle : Nat) :
    ∃ t r, t.tile = tile ∧ (sp.touch tile handle).1 = { sp with order := t :: r } := by
  obtain ⟨k, hk⟩ := Nat.exists_eq_add_of_lt hroom
  rw [Nat.zero_add] at hk
  have hold : ((sp.order.find? fun t => t.tile == tile).getD
      { tile := tile, handle := handle, dirty := false, owner := none }).tile = tile := by
    cases hf : sp.order.find? fun t => t.tile == tile with
    | none => rfl
    | some t => exact beq_iff_eq.1 (List.find?_some (p := fun t : Tile => t.tile == tile) hf)
  rw [Spiral.touch, h]
  simp only [overflow, hk, List.take_succ_cons]
  refine ⟨_, _, ?_, rfl⟩
  split
  · exact hold
  · exact hold

theorem touch_position (h : pinnedAt sp.pinned tile = none) (hroom : 0 < sp.room) (handle : Nat) :
    (sp.touch tile handle).1.position tile = some (nthFree (sp.pinned.map Prod.fst) 0, false) := by
  obtain ⟨t, r, ht, htouch⟩ := touch_free h hroom handle
  rw [htouch, position_free (sp := { sp with order := t :: r }) h]
  simp [recencyOf, ht]

/-! ## Pins (R81) -/

/-- A hatpin holds its tile where it stands. -/
theorem pinResident_position (h : sp.position tile = some (i, false)) (owner : Option Nat) :
    (sp.pinResident tile owner).position tile = some (i, true) := by
  have hfree : pinnedAt sp.pinned tile = none := pinnedAt_of_free fun j hj => by rw [h] at hj; cases hj
  have hin : recencyOf sp.order tile ≠ none := fun hnone => by
    rw [position_free hfree, hnone] at h
    cases h
  obtain ⟨t, ht, htile⟩ := record_of_order hin
  refine position_pinned ?_
  rw [Spiral.pinResident, h, ht]
  exact pinnedAt_tput hfree i (t := { t with owner := owner }) htile

/-- A tile whose pin ends, and which stands once, takes its place after the unpinned tiles at lower positions (R81). -/
theorem unpin_order (h : sp.position tile = some (i, true)) (horder : ∀ u ∈ sp.order, u.tile ≠ tile)
    (honce : ∀ e ∈ sp.pinned, e.2.tile = tile → e.1 = i) : ∃ k u, u.tile = tile ∧ u.owner = none ∧
      (sp.unpin tile).order = sp.order.take k ++ u :: sp.order.drop k ∧ (∀ e ∈ (sp.unpin tile).pinned, e.2.tile ≠ tile) ∧
      ∀ j, j < sp.order.length → (j < k ↔ nthFree (sp.pinned.map Prod.fst) j < i) := by
  obtain ⟨t, ht, htile⟩ := exists_of_pinnedAt (pinnedAt_of_position h)
  have hnone : sp.order.find? (fun t => t.tile == tile) = none :=
    List.find?_eq_none.2 fun u hu => by simpa using horder u hu
  obtain ⟨e, he⟩ := Option.isSome_iff_exists.1
    (List.find?_isSome (p := fun e : Nat × Tile => e.2.tile == tile).2 ⟨(i, t), ht, beq_iff_eq.2 htile⟩)
  have hrecord : sp.record tile = some e.2 := by rw [Spiral.record, hnone, he]; rfl
  refine ⟨_, { e.2 with owner := none }, beq_iff_eq.1 (List.find?_some (p := fun e : Nat × Tile => e.2.tile == tile) he), rfl,
    by rw [Spiral.unpin, h, hrecord], fun f hf hftile => ?_, filter_range_lt (nthFree_strictMono _) i _⟩
  rw [Spiral.unpin, h, hrecord] at hf
  obtain ⟨hin, hkey⟩ := List.mem_filter.1 hf
  exact absurd (honce f hin hftile) (by simpa using hkey)

/-! ## `dist` (R82) -/

theorem ringOf_lt (h : i < 65536) : ringOf i < 16 := by
  unfold ringOf
  split
  · decide
  · have : Nat.log2 i < 16 := (Nat.log2_lt (by omega)).2 h
    omega

/-- The fields of a word that is the sum of a bit 30, a ring and a position (R82). -/
theorem distFields {x : Word} {b r : Nat} (hb : b < 2) (hr : r < 16) (hi : i < 65536) (hx : x.toNat = b * 2 ^ 30 + r * 2 ^ 16 + i) :
    x.extractLsb' 0 16 = BitVec.ofNat 16 i ∧ x.extractLsb' 16 4 = BitVec.ofNat 4 r ∧ x.getLsbD 30 = decide (b = 1) ∧
      x.extractLsb' 20 10 = 0 ∧ x.getLsbD 31 = false := by
  refine ⟨BitVec.eq_of_toNat_eq ?_, BitVec.eq_of_toNat_eq ?_, ?_, BitVec.eq_of_toNat_eq ?_, ?_⟩
  · rw [BitVec.extractLsb'_toNat, hx, BitVec.toNat_ofNat, Nat.shiftRight_zero]
    omega
  · rw [BitVec.extractLsb'_toNat, hx, BitVec.toNat_ofNat, Nat.shiftRight_eq_div_pow]
    omega
  · rw [BitVec.getLsbD, hx, Nat.testBit_eq_decide_div_mod_eq]
    exact decide_eq_decide.2 (by omega)
  · rw [BitVec.extractLsb'_toNat, hx, Nat.shiftRight_eq_div_pow]
    change _ = 0
    omega
  · rw [BitVec.getLsbD, hx, Nat.testBit_eq_decide_div_mod_eq]
    exact decide_eq_false (by omega)

theorem distWord_resident {pin : Bool} (h : sp.position tile = some (i, pin)) (hi : i < 65536) :
    (sp.distWord tile).extractLsb' 0 16 = BitVec.ofNat 16 i ∧
      (sp.distWord tile).extractLsb' 16 4 = BitVec.ofNat 4 (ringOf i) ∧ (sp.distWord tile).getLsbD 30 = pin ∧
      (sp.distWord tile).extractLsb' 20 10 = 0 ∧ (sp.distWord tile).getLsbD 31 = false := by
  rw [Spiral.distWord, h]
  have hring := ringOf_lt hi
  have hbit : bitNat pin < 2 := by cases pin <;> decide
  have hlt : bitNat pin * 2 ^ 30 + ringOf i * 2 ^ 16 + i < 2 ^ 32 := by omega
  have hpin : decide (bitNat pin = 1) = pin := by cases pin <;> rfl
  have hfields := distFields hbit hring hi ((BitVec.toNat_ofNat ..).trans (Nat.mod_eq_of_lt hlt))
  rwa [hpin] at hfields

end Position

/-! ## Touches, pins and unpins at a band (R78, R81) -/

section Band
variable {s : State} {p : Partition} {band tile : Nat}

/-- A touch moves tiles of its band alone. -/
theorem touch_of (s : State) (p : Partition) (band tile handle b : Nat) : Spiral.of (s.touch p band tile handle) b =
    if b = band then ((Spiral.of s band).touch tile handle).1 else Spiral.of s b := by
  rw [State.touch, leave_of]
  split
  · next hb => rw [hb, State.setSpiral_same]
  · next hb => rw [State.setSpiral_other _ _ _ hb]

theorem pinTile_pinned {i : Nat} (h : (Spiral.of s band).position tile = some (i, true)) (k handle : Nat) (vf : Option Nat) :
    s.pinTile k p band tile handle vf = (s, 1) := by
  simp only [State.pinTile, h]

/-- What `pin` does with a tile that is not pinned, for a launch that acts for no VF. -/
theorem pinTile_free (h : pinnedAt (Spiral.of s band).pinned tile = none) (k handle : Nat) (vf : Option Nat) :
    ((Spiral.of s band).room < 1025 → s.pinTile k p band tile handle vf = (s, 2)) ∧
      (1025 ≤ (Spiral.of s band).room → 1 ≤ s.freeOf p 0 → s.pinTile k p band tile handle none =
        ((if ((Spiral.of s band).position tile).isSome then s else s.touch p band tile handle).onSpiral band
          (Spiral.pinResident · tile none), 0)) := by
  have hno : ∀ i, (Spiral.of s band).position tile ≠ some (i, true) := fun i hi => by
    rw [pinnedAt_of_position hi] at h
    cases h
  constructor
  · intro hroom
    unfold State.pinTile
    dsimp only
    split
    · next i hi => exact absurd hi (hno i)
    · rw [if_pos hroom]
  · intro hroom hfree
    unfold State.pinTile
    dsimp only
    split
    · next i hi => exact absurd hi (hno i)
    · rw [if_neg (Nat.not_lt.2 hroom), if_neg (Int.not_lt.2 hfree), if_neg (not_not.2 rfl)]

/-- `pin` of a tile that is not pinned holds it where it stands, or at the lowest position that is not pinned. -/
theorem pinTile_position (h : pinnedAt (Spiral.of s band).pinned tile = none) (hroom : 1025 ≤ (Spiral.of s band).room)
    (hfree : 1 ≤ s.freeOf p 0) (k handle : Nat) :
    (Spiral.of (s.pinTile k p band tile handle none).1 band).position tile =
      some ((((Spiral.of s band).position tile).map Prod.fst).getD (nthFree ((Spiral.of s band).pinned.map Prod.fst) 0), true) := by
  rw [(pinTile_free h k handle none).2 hroom hfree, onSpiral_same]
  refine pinResident_position ?_ none
  rcases hpos : (Spiral.of s band).position tile with _ | ⟨i, b⟩
  · rw [if_neg (by simp), touch_of, if_pos rfl]
    exact touch_position h (by omega) handle
  · rw [if_pos (by rfl)]
    cases b with
    | false => exact hpos
    | true =>
      rw [pinnedAt_of_position hpos] at h
      cases h

theorem unpinTile_free (h : pinnedAt (Spiral.of s band).pinned tile = none) (p : Partition) :
    s.unpinTile p band tile = (s, 1) := by
  unfold State.unpinTile
  dsimp only
  split
  · next i hi =>
    rw [pinnedAt_of_position hi] at h
    cases h
  · rfl

theorem unpinTile_pinned {i : Nat} (h : (Spiral.of s band).position tile = some (i, true)) (p : Partition) :
    (s.unpinTile p band tile).2 = 0 ∧
      Spiral.of (s.unpinTile p band tile).1 band = (Spiral.of s band).unpin tile := by
  simp only [State.unpinTile, h, unpinned_of, State.setSpiral_same, and_self]

end Band

/-- Settles O26: the forms act thread by thread (`tile_done`); where a tile stands after a pin is `pinTile_position`, after an
unpin `unpin_order`, and after a touch `touch_position`; the word of `dist` is `distWord_resident`. -/
theorem spiralFormResults : Obligations.SpiralFormResults := by
  unfold Obligations.SpiralFormResults
  refine ⟨fun s c w b a nw d t hi hc => ⟨fun ht => ?pinForm, fun ht => ?touchForm⟩,
    fun s c w a nw d t hi hc => ⟨fun ht => ?unpinForm, fun ht => ?distForm⟩, fun s k p band tile h vf => ⟨?pinned, ?pin⟩,
    fun s p band tile => ⟨?absent, ?unpin⟩, fun s p band tile h => ⟨?held, ?moved, ?others⟩, fun sp tile => ⟨?away, ?resident⟩⟩
  case pinForm =>
    change execPin b a nw d s = _
    unfold execPin
    refine tile_done hi hc ?_ ht
    exact fun _ _ _ _ => rfl
  case touchForm =>
    change execTouch b a nw d s = _
    unfold execTouch
    refine tile_done hi hc ?_ ht
    exact fun _ _ _ _ => rfl
  case unpinForm =>
    change execUnpin a nw d s = _
    unfold execUnpin
    refine tile_done hi (clear_and (clear_none hc) hc) ?_ ht
    exact fun _ _ _ _ => rfl
  case distForm =>
    change execDist a nw d s = _
    unfold execDist
    refine tile_done hi (clear_and (clear_none hc) hc) ?_ ht
    exact fun _ _ _ _ => rfl
  case pinned => exact fun i hi => pinTile_pinned hi k h vf
  case pin =>
    intro hno
    have hfree := pinnedAt_of_free hno
    exact ⟨(pinTile_free hfree k h vf).1, fun hroom hpages =>
      ⟨congrArg Prod.snd ((pinTile_free hfree k h none).2 hroom hpages), pinTile_position hfree hroom hpages k h⟩⟩
  case absent => exact fun hno => unpinTile_free (pinnedAt_of_free hno) p
  case unpin =>
    intro i hi horder honce
    obtain ⟨hstatus, hspiral⟩ := unpinTile_pinned hi p
    rw [hspiral]
    exact ⟨hstatus, unpin_order hi horder honce⟩
  case held =>
    intro i hi
    rw [touch_of, if_pos rfl, touch_pinned (pinnedAt_of_position hi)]
  case moved =>
    intro hno hroom
    rw [touch_of, if_pos rfl]
    exact touch_position (pinnedAt_of_free hno) hroom h
  case others =>
    intro b hb
    rw [touch_of, if_neg hb]
  case away =>
    intro h
    rw [Spiral.distWord, h]
  case resident => exact fun i pin h hi => distWord_resident h hi

end Sys2Proof.Machine

/-! `demote`, `evict` and `rhset` of a residency handle (R85 to R87, R243): the statuses known at once, and what the bands of the
partition do. -/
namespace Sys2Proof.Machine

section Handle
variable {s : State} {c : Cur} {w : Warp} {a : BitVec 7} {d : BitVec 6}

/-! ## Statuses known at once -/

theorem handleOp_large {f : State → Partition → Nat → State × List Nat} (hi : Issuing s c w) (hc : Clear c w (uniUses1 a d 1 1))
    (h : 255 < (s.uarg c w a).toNat) :
    handleOp s a d f = .next ((s.setWarp c.warp (w.setS d.toNat 4)).advance c c.group) := by
  unfold handleOp
  refine unitOp_done hi hc ?_
  rw [switchIf_false]
  exact (if_pos h).trans (congrArg Act.done (onWarp_issuing hi))

theorem handleOp_zero {f : State → Partition → Nat → State × List Nat} (hi : Issuing s c w) (hc : Clear c w (uniUses1 a d 1 1))
    (h : (s.uarg c w a).toNat = 0) :
    handleOp s a d f = .next ((s.setWarp c.warp (w.setS d.toNat 1)).advance c c.group) := by
  unfold handleOp
  refine unitOp_done hi hc ?_
  rw [switchIf_false]
  exact (if_neg (by rw [State.uarg] at h; omega)).trans ((if_pos h).trans (congrArg Act.done (onWarp_issuing hi)))

/-- Otherwise the partition acts, and the register is pending until the write-backs are done. -/
theorem handleOp_acts {f : State → Partition → Nat → State × List Nat} {k : Nat} {p : Partition} (hi : Issuing s c w)
    (hc : Clear c w (uniUses1 a d 1 1)) (hp : s.partOfCore (s.coreOf w) = some (k, p)) (hpos : 0 < (s.uarg c w a).toNat)
    (hle : (s.uarg c w a).toNat ≤ 255) :
    handleOp s a d f = .next (((f s p (s.uarg c w a).toNat).1.onWarp c.warp fun x =>
      { x with pend := tput x.pend d.toNat (.spiral (f s p (s.uarg c w a).toNat).2) }).advance c c.group) := by
  unfold handleOp
  refine unitOp_done hi hc ?_
  rw [switchIf_false]
  refine (if_neg (Nat.not_lt.2 hle)).trans ((if_neg (Nat.pos_iff_ne_zero.1 hpos)).trans ?_)
  rw [hp]
  rfl

/-! ## `demote` (R85) -/

/-- One band demotes a handle. -/
def State.demoteBand (h : Nat) (s : State) (b : Nat) : State := s.setSpiral b ((Spiral.of s b).demote h)

theorem eachBand_demote (s : State) (p : Partition) (h : Nat) :
    s.eachBand p (fun s b => (s.setSpiral b ((Spiral.of s b).demote h), [])) =
      (p.bandList.foldl (State.demoteBand h) s, []) := by
  unfold State.eachBand
  generalize p.bandList = bs
  induction bs generalizing s with
  | nil => rfl
  | cons b r ih => exact ih (s.demoteBand h b)

theorem demoteBands_frame (h : Nat) (bs : List Nat) (s : State) :
    bs.foldl (State.demoteBand h) s = { s with spirals := (bs.foldl (State.demoteBand h) s).spirals } := by
  induction bs generalizing s with
  | nil => rfl
  | cons b r ih => exact ih (s.demoteBand h b)

/-- Each of some bands, listed once, demotes the handle, and every other band stays as it is. -/
theorem demoteBands_of (h : Nat) {bs : List Nat} (hbs : bs.Nodup) (s : State) (b : Nat) :
    Spiral.of (bs.foldl (State.demoteBand h) s) b =
      if b ∈ bs then (Spiral.of s b).demote h else Spiral.of s b := by
  induction bs generalizing s with
  | nil => rfl
  | cons x r ih =>
    obtain ⟨hx, hr⟩ := List.nodup_cons.1 hbs
    rw [List.foldl_cons, ih hr, State.demoteBand]
    by_cases hb : b = x
    · subst hb
      rw [if_neg hx, if_pos List.mem_cons_self, State.setSpiral_same]
    · rw [State.setSpiral_other _ _ _ hb]
      simp only [List.mem_cons, hb, false_or]

theorem bandList_nodup (p : Partition) : p.bandList.Nodup := List.nodup_range.filter _

/-! ## `rhset` (R87) -/

theorem rhset_done {b : BitVec 7} {k : Nat} {p : Partition} (hi : Issuing s c w) (hc : Clear c w (uniUses2 b a d 1 1))
    (hp : s.partOfCore (s.coreOf w) = some (k, p)) :
    exec (.rhset b a d) s = .next ((if 255 < (s.uarg c w a).toNat then s.setWarp c.warp (w.setS d.toNat 4)
      else if 15 < (s.uarg c w b).toNat then s.setWarp c.warp (w.setS d.toNat 5)
      else (s.onPart k fun p => { p with priority := tput p.priority (s.uarg c w a).toNat (s.uarg c w b).toNat }).setWarp c.warp
        (w.setS d.toNat 0)).advance c c.group) := by
  have hput : ∀ f : Partition → Partition, (s.onPart k f).onWarp c.warp (fun w => w.setS d.toNat 0) =
      (s.onPart k f).setWarp c.warp (w.setS d.toNat 0) := by
    intro f
    have hw : (s.onPart k f).warp c.warp = some w := by
      rw [← hi.2, State.onPart]
      split <;> rfl
    rw [State.onWarp, hw]
  change execRhset b a d s = _
  unfold execRhset
  refine unitOp_done hi hc ?_
  rw [switchIf_false]
  by_cases hh : 255 < (s.uarg c w a).toNat
  · rw [if_pos hh]
    exact (if_pos hh).trans (congrArg Act.done (onWarp_issuing hi))
  · rw [if_neg hh]
    refine (if_neg hh).trans ?_
    by_cases hx : 15 < (s.uarg c w b).toNat
    · rw [if_pos hx]
      exact (if_pos hx).trans (congrArg Act.done (onWarp_issuing hi))
    · rw [if_neg hx]
      refine (if_neg hx).trans ?_
      rw [hp]
      exact congrArg Act.done (hput _)

end Handle

theorem exec_demote (a : BitVec 7) (d : BitVec 6) (s : State) : exec (.demote a d) s = execDemote a d s := rfl
theorem exec_evict (a : BitVec 7) (d : BitVec 6) (s : State) : exec (.evict a d) s = execEvict a d s := rfl

/-- Settles O27: `handleOp_large` and `handleOp_zero` for the statuses known at once, `handleOp_acts` for the action, in which
`demoteBands_of` says what each band does, and `rhset_done`. -/
theorem handleFormResults : Obligations.HandleFormResults := by
  unfold Obligations.HandleFormResults
  intro s c w a d k p hi hp
  refine ⟨fun hc => ⟨⟨fun h => ?_, fun h => ?_⟩, ⟨fun h => ?_, fun h => ?_⟩,
    fun ⟨hpos, hle⟩ => ?demote, fun ⟨hpos, hle⟩ => ?evict⟩, fun b hc => rhset_done hi hc hp⟩
  · exact (exec_demote ..).trans (handleOp_large hi hc h)
  · exact (exec_demote ..).trans (handleOp_zero hi hc h)
  · exact (exec_evict ..).trans (handleOp_large hi hc h)
  · exact (exec_evict ..).trans (handleOp_zero hi hc h)
  case demote =>
    refine ⟨p.bandList.foldl (State.demoteBand (s.uarg c w a).toNat) s, ?_, demoteBands_frame .., fun b => ?_⟩
    · rw [exec_demote, execDemote, handleOp_acts hi hc hp hpos hle, eachBand_demote]
    · exact demoteBands_of _ (bandList_nodup p) s b
  case evict =>
    rw [exec_evict, execEvict, handleOp_acts hi hc hp hpos hle]
    rfl

end Sys2Proof.Machine

/-! An access of a thread to DRAM (R89, R122, R223, R227, R230): the bytes of memory that it reads, writes and leaves, and what stops
it. -/
namespace Sys2Proof.Machine

/-! ## What leaves the bytes of memory as they are -/

theorem recall_contents (s : State) (core : Nat) (ws : List Nat) : (s.recall core ws).contents = s.contents := by
  refine foldl_keeps State.contents (fun s w => ?_) ws s
  split
  · split
    · rfl
    · exact giveBack_contents ..
  · rfl

theorem touchTarget_contents (s : State) (b : Bool) (t : Target) (handle : Nat) :
    (s.touchTarget b t handle).contents = s.contents := by
  unfold State.touchTarget
  split <;> rfl

theorem obtain_contents (s : State) (core : Nat) (ws : List Nat) : (s.obtain core ws).contents = s.contents := by
  refine foldl_keeps State.contents (fun s w => ?_) ws s
  split <;> rfl

theorem grant_contents (s : State) (key slice core : Nat) (ws : List Nat) (v : Dword) :
    (s.grant key slice core ws v).1.contents = s.contents := by
  unfold State.grant
  refine foldl_keeps (fun x : State × Dword => x.1.contents) (fun x w => ?_) ws (s, v)
  rfl

theorem own_contents (s : State) (core id : Nat) (ws : List Nat) : (s.own core id ws).contents = s.contents := by
  unfold State.own
  refine foldl_keeps State.contents (fun s w => ?_) ws _
  rfl

theorem meet_contents (s : State) (w : Who) (t : Dword) : (s.meet w t).contents = s.contents := by
  unfold State.meet
  split
  · rw [State.onWarp]
    split <;> rfl
  · rfl

/-- A load leaves memory and the replicas as they are, whatever serves it. -/
theorem load_contents (s : State) (core rq : Nat) (acq : Bool) (after : Nat) (v : Dword) (t : Target) (n : Nat) :
    (s.load core rq acq after v t n).1.contents = s.contents := by
  unfold State.load
  dsimp only
  split
  · exact (touchTarget_contents ..).trans (recallAll_contents ..)
  · split
    · rfl
    · split
      · exact (obtain_contents ..).trans ((touchTarget_contents ..).trans (recall_contents ..))
      · split
        · rfl
        · split
          · exact (grant_contents ..).trans ((touchTarget_contents ..).trans (recallAll_contents ..))
          · exact recallAll_contents ..

/-! ## Bytes put -/

theorem putBytes_mem (s : State) (d : Bool) (a : Nat) (bs : List Byte) : (s.putBytes d a bs).mem = memPut s.mem a bs := by
  induction bs generalizing s a with
  | nil => rfl
  | cons b r ih => exact ih ..

theorem putHome_dram_mem (s : State) (p : Partition) (pa a : Nat) (bs : List Byte) :
    (s.putHome (.dram p pa a) bs).mem = memPut s.mem a bs := by
  unfold State.putHome
  dsimp only
  split <;> exact putBytes_mem ..

/-- A write performed at the home slice puts its bytes at their address. -/
theorem writeKeep_dram_mem (s : State) (keep : Nat) (v : Dword) (p : Partition) (pa a : Nat) (bs : List Byte) :
    (s.writeKeep keep v (.dram p pa a) bs).1.mem = memPut s.mem a bs := by
  refine (putHome_dram_mem ..).trans (congrArg (memPut · a bs) (mem_of_contents ?_))
  exact (writeTime_contents ..).trans (recallAll_contents ..)

theorem store_dram_mem (s : State) (core id rq : Nat) (v : Dword) (p : Partition) (pa a : Nat) (bs : List Byte) :
    (s.store core id rq v (.dram p pa a) bs).1.mem = memPut s.mem a bs := by
  unfold State.store
  dsimp only
  split
  · have howned : ∀ hit ws us, (((((((s.recall core ws).touchTarget hit (.dram p pa a) 0).writeTime ws v).1.tick
        (Target.slice (.dram p pa a)) (((s.recall core ws).touchTarget hit (.dram p pa a) 0).writeTime ws v).2).cleanse us).own
          core id ws).putBytes true a bs).mem = memPut s.mem a bs := by
      intro hit ws us
      refine (putBytes_mem ..).trans (congrArg (memPut · a bs) (mem_of_contents ?_))
      refine (own_contents ..).trans ?_
      exact (writeTime_contents ..).trans ((touchTarget_contents ..).trans (recall_contents ..))
    split <;> exact howned ..
  · have hhome : ∀ keep, ((s.touchTarget (decide (rq ≠ 4)) (.dram p pa a) 0).writeKeep keep v (.dram p pa a) bs).1.mem =
        memPut s.mem a bs := fun keep =>
      (writeKeep_dram_mem ..).trans (congrArg (memPut · a bs) (mem_of_contents (touchTarget_contents ..)))
    dsimp only
    split
    · exact hhome _
    · exact (mem_of_contents (refresh_contents ..)).trans (hhome _)

/-- A number put as bytes: they read as they were put, and every other byte as before. -/
theorem memPut_natBytes (m : Memory) (a n x : Nat) : memBytes (memPut m a (natBytes n x)) a n = natBytes n x ∧
    ∀ b, b < a ∨ a + n ≤ b → wget (memPut m a (natBytes n x)) b = wget m b := by
  have hput := memBytes_memPut m a (natBytes n x)
  rw [length_natBytes] at hput
  exact ⟨hput, fun b hb => wget_memPut_outside _ _ _ (by rwa [length_natBytes])⟩

/-! ## Poison (R89) -/

theorem mem_wordsOf {a n b : Nat} (ha : a ≤ b) (hn : b < a + n) : b / 4 ∈ wordsOf a n := by
  rw [wordsOf, List.mem_map]
  exact ⟨b / 4 - a / 4, List.mem_range.2 (by omega), by omega⟩

section Poison
variable {s : State} {core n a pa : Nat} {p : Partition}

theorem marked_iff {α : Type} {t : Tab α} {a n : Nat} : marked t a n = true ↔ ∃ e ∈ t, a ≤ e.1 ∧ e.1 < a + n := by
  simp [marked]

theorem poisonPast_iff : s.poisonPast core (.dram p pa a) n = true ↔
    ∃ e ∈ s.poison, (a ≤ e.1 ∧ e.1 < a + n) ∧ tfind s.shared (4096 * (e.1 / 4) + core) = none := by
  simp [State.poisonPast]

theorem poisonPast_clean (h : s.poisonAt (.dram p pa a) n = false) : s.poisonPast core (.dram p pa a) n = false := by
  rw [← Bool.not_eq_true, poisonPast_iff]
  rintro ⟨e, he, hrange, -⟩
  rw [show s.poisonAt (.dram p pa a) n = true from marked_iff.2 ⟨e, he, hrange⟩] at h
  cases h

/-- A core that holds an OW copy of each word of an access finds no poison. -/
theorem poisonPast_shared (h : ∀ k ∈ wordsOf a n, (tfind s.shared (4096 * k + core)).isSome = true) :
    s.poisonPast core (.dram p pa a) n = false := by
  rw [← Bool.not_eq_true, poisonPast_iff]
  rintro ⟨e, -, ⟨hlo, hhi⟩, hnone⟩
  have hsome := h _ (mem_wordsOf hlo hhi)
  rw [hnone] at hsome
  cases hsome

/-- A load of poison finds it where the core holds no copy. -/
theorem loadPoison_uncached {rq after : Nat} {acq : Bool} {v : Dword} (hpoison : s.poisonAt (.dram p pa a) n = true)
    (h : ∀ k ∈ wordsOf a n, tfind s.copies (4096 * k + core) = none ∧ tfind s.shared (4096 * k + core) = none) :
    s.loadPoison core rq acq after v (.dram p pa a) n = true := by
  obtain ⟨e, he, hlo, hhi⟩ := marked_iff.1 hpoison
  have hin := mem_wordsOf hlo hhi
  have hpast : s.poisonPast core (.dram p pa a) n = true := poisonPast_iff.2 ⟨e, he, ⟨hlo, hhi⟩, (h _ hin).2⟩
  have hlease : s.leaseServes core acq after v (wordsOf a n) = false := by
    have hleased : s.leased core v after (wordsOf a n) = false :=
      List.all_eq_false.2 ⟨_, hin, by simp [(h _ hin).1]⟩
    simp [State.leaseServes, hleased]
  change (if rq = 3 then s.poisonAt (.dram p pa a) n
    else if decide (2 ≤ rq) && s.leaseServes core acq after v (wordsOf a n) then false else s.poisonPast core (.dram p pa a) n) = true
  rw [hpoison, hpast, hlease, Bool.and_false]
  split <;> rfl

theorem loadPoison_clean (h : s.poisonAt (.dram p pa a) n = false) (rq : Nat) (acq : Bool) (after : Nat) (v : Dword) :
    s.loadPoison core rq acq after v (.dram p pa a) n = false := by
  unfold State.loadPoison
  rw [h, poisonPast_clean h]
  split
  · rfl
  · split <;> rfl

theorem loadPoison_shared {rq : Nat} (hrq : rq ≤ 1) (h : ∀ k ∈ wordsOf a n, (tfind s.shared (4096 * k + core)).isSome = true)
    (acq : Bool) (after : Nat) (v : Dword) : s.loadPoison core rq acq after v (.dram p pa a) n = false := by
  have hne : ¬ Target.typeOf (.dram p pa a) rq = 3 := by change ¬ rq = 3; omega
  unfold State.loadPoison
  rw [if_neg hne, poisonPast_shared h]
  split <;> rfl

end Poison

/-! ## Loads -/

/-- Where what stands in some bytes stands under the holder's key, or under none, the holder reads memory as it is (R390). -/
theorem plainBytes_readable {s : State} {key a n : Nat}
    (h : ∀ b, a ≤ b → b < a + n → s.standsUnder b = none ∨ s.standsUnder b = some key) :
    s.plainBytes key a n = memBytes s.mem a n := by
  unfold State.plainBytes
  split
  · rfl
  · rw [memBytes_map]
    refine List.map_congr_left fun i hi => ?_
    have hlt := List.mem_range.1 hi
    rcases h (a + i) (Nat.le_add_right ..) (Nat.add_lt_add_left hlt a) with e | e <;> simp [e]

/-- A load that no lease serves delivers what stands at its target. -/
theorem load_bytes {s : State} {core rq after n : Nat} {acq : Bool} {v : Dword} {p : Partition} {pa a : Nat}
    (h : rq ≤ 1 ∨ rq = 3 ∨ acq = true ∨ ∃ k ∈ wordsOf a n, tfind s.copies (4096 * k + core) = none) :
    (s.load core rq acq after v (.dram p pa a) n).2.2.1 = s.bytesAt (.dram p pa a) n := by
  unfold State.load
  dsimp only
  by_cases h3 : rq = 3
  · rw [if_pos (show Target.typeOf (.dram p pa a) rq = 3 from h3)]
  rw [if_neg (show ¬ Target.typeOf (.dram p pa a) rq = 3 from h3)]
  split
  · rfl
  · by_cases h1 : rq ≤ 1
    · rw [if_pos (show Target.typeOf (.dram p pa a) rq ≤ 1 from h1)]
    rw [if_neg (show ¬ Target.typeOf (.dram p pa a) rq ≤ 1 from h1)]
    have hlease : s.leaseServes core acq after v (wordsOf a n) = false := by
      rcases h with h | h | h | ⟨k, hk, hnone⟩
      · exact absurd h h1
      · exact absurd h h3
      · rw [State.leaseServes, h]
        rfl
      · have hleased : s.leased core v after (wordsOf a n) = false := List.all_eq_false.2 ⟨k, hk, by simp [hnone]⟩
        simp [State.leaseServes, hleased]
    rw [if_neg (show ¬ s.leaseServes core acq after v (Target.words (.dram p pa a) n) = true by
      change ¬ s.leaseServes core acq after v (wordsOf a n) = true
      rw [hlease]
      exact Bool.false_ne_true)]

section Dram
variable {s s1 : State} {w : Who} {rq : Nat} {va : Dword} {x : Site} {p : Partition} {pa a n : Nat}

theorem threadLoad_dram (h : s.site w va n needRead = .ok (s1, x, .dram p pa a)) :
    s.threadLoad w rq va n = s1.loadAt w rq va n (.dram p pa a) := by
  simp only [State.threadLoad, h, Answer.andThen]

theorem loadAt_lost {t : Target} (h : s1.lostTarget t = true) : s1.loadAt w rq va n t = .trap (trapAt 0xB 0 va) := if_pos h

theorem loadAt_poison {t : Target} (h : s1.lostTarget t = false)
    (hp : s1.loadPoison w.core rq w.acquires w.fenced w.view t n = true) :
    s1.loadAt w rq va n t = .trap (trapAt 0xA 0 va) := by
  rw [State.loadAt, if_neg (by rw [h]; exact Bool.false_ne_true), if_pos hp]

/-- A load that is not stopped leaves memory as it is, and delivers what `State.load` does. -/
theorem loadAt_ok {t : Target} (h : s1.lostTarget t = false)
    (hp : s1.loadPoison w.core rq w.acquires w.fenced w.view t n = false) :
    ∃ r, s1.loadAt w rq va n t = .ok r ∧ r.1.mem = s1.mem ∧
      r.2.2 = (s1.load w.core rq w.acquires w.fenced w.view t n).2.2.1 := by
  simp only [State.loadAt, h, hp, Bool.false_eq_true, if_false]
  exact ⟨_, rfl, mem_of_contents ((meet_contents ..).trans (load_contents ..)), rfl⟩

/-! ## Stores and atomics -/

theorem threadStore_lost {bs : List Byte} (h : s.site w va bs.length needWrite = .ok (s1, x, .dram p pa a))
    (hlost : s1.lostTarget (.dram p pa a) = true) : s.threadStore w rq va bs = .trap (trapAt 0xB 0 va) := by
  simp only [State.threadStore, h, Answer.andThen, hlost, if_true]

theorem threadStore_ok {bs : List Byte} (h : s.site w va bs.length needWrite = .ok (s1, x, .dram p pa a))
    (hlost : s1.lostTarget (.dram p pa a) = false) :
    ∃ r, s.threadStore w rq va bs = .ok r ∧ r.1.mem = memPut s1.mem a bs := by
  simp only [State.threadStore, h, Answer.andThen, hlost, Bool.false_eq_true, if_false]
  exact ⟨_, rfl, (store_dram_mem ..).trans (congrArg (memPut · a bs) (mem_of_contents (released_contents s1 w w.releases)))⟩

theorem threadAtomic_lost {f : Dword → Option Dword} (h : s.site w va n needBoth = .ok (s1, x, .dram p pa a))
    (hlost : s1.lostTarget (.dram p pa a) = true) : s.threadAtomic w rq va n f = .trap (trapAt 0xB 0 va) := by
  simp only [State.threadAtomic, h, Answer.andThen, hlost, if_true]

theorem threadAtomic_poison {f : Dword → Option Dword} (h : s.site w va n needBoth = .ok (s1, x, .dram p pa a))
    (hlost : s1.lostTarget (.dram p pa a) = false) (hp : s1.poisonAt (.dram p pa a) n = true) :
    s.threadAtomic w rq va n f = .trap (trapAt 0xA 0 va) := by
  simp only [State.threadAtomic, h, Answer.andThen, hlost, hp, Bool.false_eq_true, if_false, if_true]

/-- The old value of an atomic. -/
def State.oldValue (s : State) (t : Target) (n : Nat) : Dword := BitVec.ofNat 64 (bytesNat (s.bytesAt t n))

theorem threadAtomic_ok (f : Dword → Option Dword) (h : s.site w va n needBoth = .ok (s1, x, .dram p pa a))
    (hlost : s1.lostTarget (.dram p pa a) = false) (hp : s1.poisonAt (.dram p pa a) n = false) :
    ∃ r, s.threadAtomic w rq va n f = .ok r ∧ r.2.2 = s1.oldValue (.dram p pa a) n ∧
      r.1.mem = match f (s1.oldValue (.dram p pa a) n) with
        | none => s1.mem
        | some y => memPut s1.mem a (natBytes n y.toNat) := by
  have hread : ((((s1.released w (w.obs != 0)).touchTarget (rq != 4) (.dram p pa a) 0).dropCopies w.core
      (Target.words (.dram p pa a) n)).readHome w.view (.dram p pa a) n).1.mem = s1.mem := by
    refine mem_of_contents ((recallAll_contents ..).trans ?_)
    exact (touchTarget_contents ..).trans (released_contents ..)
  simp only [State.threadAtomic, h, Answer.andThen, hlost, hp, Bool.false_eq_true, if_false]
  change ∃ r, (match f (s1.oldValue (.dram p pa a) n) with | none => _ | some y => _) = Answer.ok r ∧ _
  cases f (s1.oldValue (.dram p pa a) n) with
  | none => exact ⟨_, rfl, rfl, hread⟩
  | some y => exact ⟨_, rfl, rfl, (writeKeep_dram_mem ..).trans (congrArg (memPut · a _) hread)⟩

end Dram

/-! ## Translation (R343 to R346) -/

theorem site_noncanonical {s : State} {w : Who} {va : Dword} (n : Nat) (need : Need) (hw : isSupervisorCore w.core = false)
    (h : canonical va = false) : s.site w va n need = .trap (trapAt 5 1 va) := by
  simp only [State.site, hw, h, Bool.false_eq_true, if_false, Bool.not_false, if_true]

theorem site_unaligned {s : State} {w : Who} {va : Dword} {n : Nat} (need : Need) (hw : isSupervisorCore w.core = false)
    (h : canonical va = true) (hn : va.toNat % n ≠ 0) : s.site w va n need = .trap (trapAt 4 n va) := by
  simp only [State.site, hw, h, Bool.false_eq_true, if_false, Bool.not_true, if_pos hn]

theorem entryPa_le (e : Nat) : entryPa e ≤ e :=
  calc entryPa e = e / 2 ^ 12 % 2 ^ 40 * 4096 := rfl
    _ ≤ e / 4096 * 4096 := Nat.mul_le_mul_right _ (Nat.mod_le ..)
    _ ≤ e := Nat.div_mul_le_self ..

theorem groupAgrees_le {s : State} {p : Partition} {core table i e : Nat} (h : s.groupAgrees p core table i e = true) :
    4096 * (i % 16) ≤ e := by
  simp only [State.groupAgrees, Bool.and_eq_true, decide_eq_true_eq] at h
  obtain ⟨⟨-, hle⟩, -⟩ := h
  exact hle.trans (entryPa_le e)

/-- A step of a walk finds a leaf that lies further down, or one of its own: the bits of the whole page are then those of the leaf,
but for the place of the leaf among the 16 of its page (R343). -/
theorem walk_step {s : State} {p : Partition} {core : Nat} {va : Dword} {level table : Nat} {l : Leaf}
    (h : s.walk p core va level table = .ok l) :
    (∃ n below m, level = n + 1 ∧ s.walk p core va n below = .ok m ∧ l.entry = m.entry ∧ l.whole = m.whole) ∨
      ∃ k, l.entry = l.whole + 4096 * k := by
  unfold State.walk at h
  dsimp only at h
  split at h
  · cases h
  · cases h
  · next place e _ =>
    split at h
    · cases h
    · split at h
      · cases h
      · split at h
        · split at h
          · cases h
          · next n _ =>
            obtain ⟨m, hm, h⟩ := andThen_ok h
            cases h
            exact .inl ⟨n, _, m, rfl, hm, rfl, rfl⟩
        · split at h
          · cases h
          · split at h
            · cases h
            · next hgroup =>
              split at h
              · next hc =>
                cases h
                refine .inr ⟨bits va.toNat (12 + 9 * level) 9 % 16, ?_⟩
                rw [hc, Bool.true_and, Bool.not_eq_true, Bool.or_eq_false_iff, Bool.not_eq_false'] at hgroup
                exact (Nat.sub_add_cancel (groupAgrees_le hgroup.2)).symm
              · cases h
                exact .inr ⟨0, rfl⟩

/-- A leaf that a walk finds has the low 12 bits of its whole page. -/
theorem walk_whole {s : State} {p : Partition} {core : Nat} {va : Dword} {level table : Nat} {l : Leaf}
    (h : s.walk p core va level table = .ok l) : ∃ k, l.entry = l.whole + 4096 * k := by
  induction level generalizing table l with
  | zero =>
    rcases walk_step h with ⟨n, -, -, hn, -⟩ | hk
    · cases hn
    · exact hk
  | succ n ih =>
    rcases walk_step h with ⟨m, below, q, hm, hq, hentry, hwhole⟩ | hk
    · cases hm
      rw [hentry, hwhole]
      exact ih hq
    · exact hk

theorem testBit_whole {e x k i : Nat} (h : e = x + 4096 * k) (hi : i < 12) : x.testBit i = e.testBit i := by
  have hmod : x % 2 ^ 12 = e % 2 ^ 12 := by omega
  have hbit : ∀ y : Nat, (y % 2 ^ 12).testBit i = y.testBit i := fun y => by
    rw [Nat.testBit_mod_two_pow, decide_eq_true hi, Bool.true_and]
  rw [← hbit x, hmod, hbit]

/-- A and, for a write, D: the bits that a translation sets in its leaf (R346). -/
def Need.marks (need : Need) : Nat := 64 ||| if need.write then 128 else 0

theorem marks_testBit (need : Need) (i : Nat) : need.marks.testBit i = (decide (6 = i) || need.write && decide (7 = i)) := by
  unfold Need.marks
  rw [Nat.testBit_or, show (64 : Nat) = 2 ^ 6 from rfl, show (128 : Nat) = 2 ^ 7 from rfl, Nat.testBit_two_pow]
  cases need.write
  · simp
  · rw [if_pos rfl, Nat.testBit_two_pow, Bool.true_and]

/-- A leaf has its marks when both bits that they would set stand. -/
theorem or_marks (x : Nat) (need : Need) :
    x ||| need.marks = x ↔ x.testBit 6 = true ∧ (need.write = true → x.testBit 7 = true) := by
  have hall : x ||| need.marks = x ↔ ∀ i, need.marks.testBit i = true → x.testBit i = true := by
    constructor
    · intro h i hi
      rw [← h, Nat.testBit_or, hi, Bool.or_true]
    · intro h
      refine Nat.eq_of_testBit_eq fun i => ?_
      rw [Nat.testBit_or]
      cases hi : need.marks.testBit i with
      | false => exact Bool.or_false _
      | true => rw [h i hi, Bool.or_true]
  rw [hall]
  simp only [marks_testBit, Bool.or_eq_true, Bool.and_eq_true, decide_eq_true_eq]
  constructor
  · exact fun h => ⟨h 6 (.inl rfl), fun hw => h 7 (.inr ⟨hw, rfl⟩)⟩
  · rintro ⟨h6, h7⟩ i (rfl | ⟨hw, rfl⟩)
    · exact h6
    · exact h7 hw

theorem unmarked_iff {x : Nat} {need : Need} : x ||| need.marks ≠ x ↔
    x.testBit 6 = false ∨ (need.write = true ∧ x.testBit 7 = false) := by
  rw [Ne, or_marks, not_and_or, Bool.not_eq_true, Classical.not_imp, Bool.not_eq_true]

/-- A leaf on which no atomic can be performed (R16, R345). -/
def Target.barred (t : Target) : Prop :=
  (∃ b port key, t = .host b port false key) ∨ ∃ dev port off, t = .peer dev port off

/-- The state once a leaf has its marks: as it stands when it has them, or with the leaf written by an OR. -/
def State.markedBy (s : State) (l : Leaf) (need : Need) : State :=
  if l.entry ||| need.marks = l.entry then s else (s.writeHome 0 l.place (natBytes 8 (l.entry ||| need.marks))).1

section Translate
variable {s : State} {va : Dword} {c : Cached} {l : Leaf} {need : Need}

/-- A translation sets the marks of its leaf, unless no atomic can be performed there. -/
theorem markLeaf_eq (hc : c.entry ||| need.marks = c.entry ↔ l.entry ||| need.marks = l.entry) :
    (l.entry ||| need.marks ≠ l.entry → l.place.barred →
        s.markLeaf va c l (if need.write then 128 else 0) = .trap (trapAt 6 6 va)) ∧
      (¬ (l.entry ||| need.marks ≠ l.entry ∧ l.place.barred) →
        s.markLeaf va c l (if need.write then 128 else 0) = .ok (s.markedBy l need)) := by
  have hbits : (if c.entry ||| 64 ||| (if need.write then 128 else 0) = c.entry then 0
      else 64 ||| if need.write then 128 else 0) = if l.entry ||| need.marks = l.entry then 0 else need.marks := by
    rw [Nat.or_assoc]
    exact if_congr hc rfl rfl
  unfold State.markLeaf State.markedBy
  dsimp only
  rw [hbits]
  by_cases hm : l.entry ||| need.marks = l.entry
  · rw [if_pos hm, if_pos hm, Nat.or_zero, if_pos rfl]
    exact ⟨fun h => absurd hm h, fun _ => rfl⟩
  · rw [if_neg hm, if_neg hm, if_neg hm]
    refine ⟨fun _ hbar => ?_, fun hbar => ?_⟩
    · rcases hbar with ⟨b, port, key, hp⟩ | ⟨dev, port, off, hp⟩ <;> rw [hp]
    · split
      · next hp => exact absurd ⟨hm, .inl ⟨_, _, _, hp⟩⟩ hbar
      · next hp => exact absurd ⟨hm, .inr ⟨_, _, _, hp⟩⟩ hbar
      · rfl

theorem ask_contents (s : State) (l : List Sent) : (s.ask l).contents = s.contents := by
  unfold State.ask
  split <;> rfl

/-- The memory that a leaf's marks leave. -/
theorem markedBy_mem (s : State) (l : Leaf) (need : Need) :
    (l.entry ||| need.marks = l.entry → (s.markedBy l need).mem = s.mem) ∧
      ∀ q qa b, l.place = .dram q qa b → l.entry ||| need.marks ≠ l.entry →
        (s.markedBy l need).mem = memPut s.mem b (natBytes 8 (l.entry ||| need.marks)) := by
  unfold State.markedBy
  refine ⟨fun h => by rw [if_pos h], fun q qa b hp h => ?_⟩
  rw [if_neg h, hp]
  exact writeKeep_dram_mem ..

/-- The translation that a walk of an address gives, where no TLB holds what memory no longer gives (R348). -/
theorem translate_fresh {p : Partition} {core : Nat} {sup : Bool} (h : canonical va = true)
    (hstale : s.staleLeaves p core va (s.walk p core va 4 p.troot.toNat) = []) :
    s.translate p core sup need va = (s.walk p core va 4 p.troot.toNat).andThen fun l => s.through core sup need va
      { part := p.corner, cluster := coreCluster core, base := va.toNat - va.toNat % l.size, size := l.size, leaf := l.address,
        entry := l.whole } l := by
  unfold State.translate
  rw [h]
  dsimp only
  rw [hstale]
  rfl

theorem through_denied {core k : Nat} {sup : Bool} (h : leafFault c.entry sup need = some k) :
    s.through core sup need va c l = .trap (trapAt 6 k va) := by
  rw [State.through, h]

/-- A permitted access through a leaf: its marks are set, or no atomic can be performed on it. -/
theorem through_granted {core : Nat} {sup : Bool} (h : leafFault c.entry sup need = none)
    (hc : c.entry ||| need.marks = c.entry ↔ l.entry ||| need.marks = l.entry) :
    (l.entry ||| need.marks ≠ l.entry → l.place.barred → s.through core sup need va c l = .trap (trapAt 6 6 va)) ∧
      (¬ (l.entry ||| need.marks ≠ l.entry ∧ l.place.barred) → ∃ r,
        s.through core sup need va c l = .ok (r, siteOf c.entry l.size va) ∧
          r.mem = (((s.recallAll l.words).ask l.asked).markedBy l need).mem) := by
  obtain ⟨htrap, hok⟩ := markLeaf_eq (s := (s.recallAll l.words).ask l.asked) (va := va) hc
  unfold State.through
  rw [h]
  dsimp only
  refine ⟨fun hm hbar => ?_, fun hbar => ?_⟩
  · rw [htrap hm hbar]
    rfl
  · rw [hok hbar]
    exact ⟨_, rfl, State.fill_mem ..⟩

/-- The translation by a leaf that a walk finds and whose permissions allow the access: its site, and the memory that the marks of
the leaf leave (R345, R346). -/
theorem translate_granted {p : Partition} {core : Nat} {sup : Bool} (h : canonical va = true)
    (hstale : s.staleLeaves p core va (s.walk p core va 4 p.troot.toNat) = [])
    (hwalk : s.walk p core va 4 p.troot.toNat = .ok l) (hfault : leafFault l.whole sup need = none) :
    (l.entry ||| need.marks ≠ l.entry → l.place.barred → s.translate p core sup need va = .trap (trapAt 6 6 va)) ∧
      (¬ (l.entry ||| need.marks ≠ l.entry ∧ l.place.barred) →
        ∃ r, s.translate p core sup need va = .ok (r, siteOf l.whole l.size va) ∧
          (l.entry ||| need.marks = l.entry → r.mem = s.mem) ∧
          ∀ q qa b, l.place = .dram q qa b → l.entry ||| need.marks ≠ l.entry →
            r.mem = memPut s.mem b (natBytes 8 (l.entry ||| need.marks))) := by
  have hsame : l.whole ||| need.marks = l.whole ↔ l.entry ||| need.marks = l.entry := by
    obtain ⟨k, hk⟩ := walk_whole hwalk
    rw [or_marks, or_marks, testBit_whole hk (by decide), testBit_whole hk (by decide)]
  have hmem : ((s.recallAll l.words).ask l.asked).mem = s.mem :=
    mem_of_contents ((ask_contents ..).trans (recallAll_contents ..))
  obtain ⟨hkept, hwritten⟩ := markedBy_mem ((s.recallAll l.words).ask l.asked) l need
  rw [hmem] at hkept hwritten
  rw [translate_fresh h hstale, hwalk]
  obtain ⟨htrap, hok⟩ := through_granted (s := s) (va := va) (core := core) (l := l) (c :=
    { part := p.corner, cluster := coreCluster core, base := va.toNat - va.toNat % l.size, size := l.size, leaf := l.address,
      entry := l.whole }) hfault hsame
  refine ⟨htrap, fun hno => ?_⟩
  obtain ⟨r, hr, hrmem⟩ := hok hno
  exact ⟨r, hr, fun hm => hrmem.trans (hkept hm), fun q qa b hp hm => hrmem.trans (hwritten q qa b hp hm)⟩

end Translate

/-- Settles O53: a load is `State.loadAt`, a store and an atomic put their bytes at the address (`threadStore_ok`,
`threadAtomic_ok`), and a translation is that of the walk (`translate_fresh`), whose leaf gets its marks (`through_granted`). -/
theorem memoryAccessResults : Obligations.MemoryAccessResults := by
  unfold Obligations.MemoryAccessResults
  intro s s1 w rq va x p pa a t readable
  refine ⟨fun n h => ?load, fun bs h => ⟨threadStore_lost h, fun hlost => ?store⟩,
    fun n f h => ⟨threadAtomic_lost h, threadAtomic_poison h, fun hlost hp => ?atomic⟩,
    fun n need hw => ⟨site_noncanonical n need hw, site_unaligned need hw, fun hcan hstale => ?translation⟩⟩
  case load =>
    rw [threadLoad_dram h]
    refine ⟨loadAt_lost, fun hlost hpoison hcopies => loadAt_poison hlost (loadPoison_uncached hpoison hcopies),
      fun hlost hrq hshared => ?_, fun hlost hclean => ?_⟩
    · obtain ⟨r, hr, hmem, -⟩ := loadAt_ok hlost (loadPoison_shared hrq hshared w.acquires w.fenced w.view)
      exact ⟨r, hr, hmem⟩
    · obtain ⟨r, hr, hmem, hbytes⟩ := loadAt_ok hlost (loadPoison_clean hclean rq w.acquires w.fenced w.view)
      exact ⟨r, hr, hmem, fun hserved hread => hbytes.trans ((load_bytes hserved).trans (plainBytes_readable hread))⟩
  case store =>
    obtain ⟨r, hr, hmem⟩ := threadStore_ok h hlost
    exact ⟨r, hr, by rw [hmem, memBytes_memPut], fun b hb => by rw [hmem, wget_memPut_outside _ _ _ hb]⟩
  case atomic =>
    obtain ⟨r, hr, hold, hmem⟩ := threadAtomic_ok f h hlost hp
    refine ⟨r, hr, fun hread => ?_, ?_⟩
    · rw [hold, State.oldValue]
      exact congrArg (fun bs => BitVec.ofNat 64 (bytesNat bs)) (plainBytes_readable hread)
    · rw [hold]
      cases hf : f (s1.oldValue (.dram p pa a) n) with
      | none =>
        rw [hf] at hmem
        exact hmem
      | some y =>
        rw [hf] at hmem
        dsimp only at hmem ⊢
        rw [hmem]
        exact memPut_natBytes ..
  case translation =>
    cases hwalk : s.walk p w.core va 4 p.troot.toNat with
    | trap y => rw [translate_fresh hcan hstale, hwalk]; rfl
    | wait y => rw [translate_fresh hcan hstale, hwalk]; rfl
    | ok l =>
      dsimp only
      cases hfault : leafFault l.whole w.sup need with
      | some k =>
        rw [translate_fresh hcan hstale, hwalk]
        exact through_denied hfault
      | none =>
        obtain ⟨htrap, hok⟩ := translate_granted hcan hstale hwalk hfault
        dsimp only
        rw [← unmarked_iff]
        refine ⟨htrap, fun hno => ?_⟩
        obtain ⟨r, hr, hkept, hwritten⟩ := hok hno
        refine ⟨r, hr, fun h6 h7 => hkept ((or_marks ..).2 ⟨h6, h7⟩), fun q qa b hplace hm => ?_⟩
        rw [hwritten q qa b hplace hm, Nat.or_assoc]
        exact memPut_natBytes ..

end Sys2Proof.Machine

/-! Events that strike memory without an access (R79, R89, R121, R122): a write-back that a channel accepts, and errors. -/
namespace Sys2Proof.Machine

/-! ## Accepted write-backs (R79, R121) -/

/-- No scratchpad serves the DRAM address (R92). -/
def State.unmapped (s : State) (x : Nat) : Prop :=
  ∀ k p, s.partOfBand (x / Config.bandBytes) = some (k, p) → s.mapped p (p.fromPackage x) = none

section WriteBack
variable {s : State} {x : Nat}

theorem unmapped_of_maps {t : State} (hp : t.parts = s.parts) (hm : t.smap = s.smap) (h : s.unmapped x) : t.unmapped x := by
  intro k p hk
  rw [State.partOfBand, hp] at hk
  rw [State.mapped, hm]
  exact h k p hk

/-- A byte of a write-back goes past a scratchpad that serves its address, is dropped where DRAM is newer, and else reaches DRAM. -/
theorem acceptByte_eq (s : State) (c : Host.Cell) : ∃ covered : Bool, (s.unmapped c.1 → covered = false) ∧ s.acceptByte c =
    if covered then s.putByte false c.1 c.2
    else if (tfind s.under c.1).isNone then s
    else if wget s.mem c.1 = c.2 then { s with under := tdel s.under c.1 }
    else { s with under := tput s.under c.1 c.2 } := by
  refine ⟨_, fun h => ?_, rfl⟩
  split
  · next k p hb => rw [h k p hb]; rfl
  · rfl

theorem acceptByte_maps (s : State) (c : Host.Cell) : ((s.acceptByte c).parts, (s.acceptByte c).smap, (s.acceptByte c).wbq) =
    (s.parts, s.smap, s.wbq) := by
  obtain ⟨covered, -, heq⟩ := acceptByte_eq s c
  rw [heq]
  split_ifs <;> rfl

/-- A byte of a write-back changes nothing of another byte. -/
theorem acceptByte_other (s : State) {c : Host.Cell} (h : c.1 ≠ x) :
    wget (s.acceptByte c).mem x = wget s.mem x ∧ tfind (s.acceptByte c).under x = tfind s.under x := by
  obtain ⟨covered, -, heq⟩ := acceptByte_eq s c
  rw [heq]
  split_ifs
  · exact ⟨wget_wput_other _ _ h.symm, tfind_tdel_other _ h.symm⟩
  · exact ⟨rfl, rfl⟩
  · exact ⟨rfl, tfind_tdel_other _ h.symm⟩
  · exact ⟨rfl, tfind_tput_other _ _ h.symm⟩

/-- A byte of a write-back reaches DRAM, unless DRAM holds it in its newest value already. -/
theorem acceptByte_same (h : s.unmapped x) (v : Byte) : (s.acceptByte (x, v)).mem = s.mem ∧
    (tfind (s.acceptByte (x, v)).under x).getD (wget s.mem x) = if (tfind s.under x).isSome then v else wget s.mem x := by
  obtain ⟨covered, hc, heq⟩ := acceptByte_eq s (x, v)
  rw [heq, hc h, if_neg Bool.false_ne_true]
  cases hu : tfind s.under x with
  | none =>
    rw [if_pos (by rfl), hu]
    exact ⟨rfl, rfl⟩
  | some y =>
    rw [if_neg (by simp)]
    split
    · next hv => exact ⟨rfl, by rw [tfind_tdel_same, hv]; rfl⟩
    · exact ⟨rfl, by rw [tfind_tput_same]; rfl⟩

theorem acceptBytes_mem (h : s.unmapped x) (bs : List Host.Cell) : wget (bs.foldl State.acceptByte s).mem x = wget s.mem x := by
  induction bs generalizing s with
  | nil => rfl
  | cons c r ih =>
    obtain ⟨hp, hm, -⟩ := by simpa only [Prod.mk.injEq] using acceptByte_maps s c
    refine (ih (unmapped_of_maps hp hm h)).trans ?_
    by_cases hc : c.1 = x
    · obtain ⟨y, v⟩ := c
      cases hc
      rw [(acceptByte_same h v).1]
    · exact (acceptByte_other s hc).1

theorem acceptBytes_under_none (bs : List Host.Cell) (s : State) (h : bs.filter (fun c => c.1 == x) = []) :
    tfind (bs.foldl State.acceptByte s).under x = tfind s.under x := by
  induction bs generalizing s with
  | nil => rfl
  | cons c r ih =>
    have hc : c.1 ≠ x := by simpa using List.filter_eq_nil_iff.1 h c List.mem_cons_self
    rw [List.filter_cons_of_neg (by simpa using hc)] at h
    exact (ih _ h).trans (acceptByte_other s hc).2

theorem acceptBytes_under_one (h : s.unmapped x) {v : Byte} (bs : List Host.Cell)
    (hone : bs.filter (fun c => c.1 == x) = [(x, v)]) :
    (tfind (bs.foldl State.acceptByte s).under x).getD (wget s.mem x) =
      if (tfind s.under x).isSome then v else wget s.mem x := by
  induction bs generalizing s with
  | nil => cases hone
  | cons c r ih =>
    by_cases hc : c.1 = x
    · rw [List.filter_cons_of_pos (by simpa using hc), List.cons.injEq] at hone
      obtain ⟨rfl, hrest⟩ := hone
      rw [List.foldl_cons, acceptBytes_under_none r _ hrest]
      exact (acceptByte_same h v).2
    · rw [List.filter_cons_of_neg (by simpa using hc)] at hone
      obtain ⟨hp, hm, -⟩ := by simpa only [Prod.mk.injEq] using acceptByte_maps s c
      obtain ⟨hmem, hunder⟩ := acceptByte_other s hc
      have hrest := ih (unmapped_of_maps hp hm h) hone
      rwa [hmem, hunder] at hrest

/-- The first queued write-back of a band is accepted, and those behind it stay queued. -/
theorem exec_writebackAccepted {n : Nat} {b : WriteBack} {rest : List WriteBack} (h : (tfind s.wbq n).getD [] = b :: rest) :
    ∃ t : State, exec (.writebackAccepted n) s = .next (b.bytes.foldl State.acceptByte t) ∧ t.parts = s.parts ∧ t.smap = s.smap ∧
      t.mem = s.mem ∧ t.under = s.under ∧ (tfind t.wbq n).getD [] = rest := by
  have hexec : exec (.writebackAccepted n) s = .next (s.acceptBack n) := rfl
  rw [hexec, State.acceptBack, h]
  refine ⟨_, rfl, rfl, rfl, rfl, rfl, ?_⟩
  dsimp only
  split
  · next hr => rw [tfind_tdel_same, List.isEmpty_iff.1 hr]; rfl
  · rw [tfind_tput_same]; rfl

end WriteBack

/-! ## Errors (R89, R122) -/

section Errors
variable {s : State} {n : Nat}

/-- The entries of a run of numbers, each listed unless a test spares it. -/
theorem tfind_marks (t : Tab Unit) (a : Nat) (spared : Nat → Bool) (n k : Nat) :
    tfind ((List.range n).foldl (fun t i => if spared (a + i) then t else tput t (a + i) ()) t) k =
      if (a ≤ k ∧ k < a + n) ∧ spared k = false then some () else tfind t k := by
  induction n with
  | zero => simp
  | succ n ih =>
    rw [List.range_succ, List.foldl_append, List.foldl_cons, List.foldl_nil]
    by_cases hk : k = a + n
    · subst hk
      cases hs : spared (a + n) with
      | true => simp [ih, hs]
      | false => simp [tfind_tput_same]
    · have hrange : (a ≤ k ∧ k < a + (n + 1)) ↔ (a ≤ k ∧ k < a + n) := by omega
      refine Eq.trans ?_ (ih.trans (if_congr (and_congr_left' hrange.symm) rfl rfl))
      split
      · rfl
      · exact tfind_tput_other _ _ hk

/-- An error in a resident word poisons it, but for what a core owns (log 54). -/
theorem exec_spiralError {p : Partition} {band tile : Nat} (ht : s.tileOf n = some (p, band, tile))
    (hl : tfind s.latPages (n / 4096) = none) :
    (s.resident band tile = false → exec (.spiralUncorrectableError n) s = .next s) ∧
      (s.resident band tile = true → ∃ t : State, exec (.spiralUncorrectableError n) s = .next t ∧
        t = { s with poison := t.poison } ∧ ∀ k, tfind t.poison k =
          if (n / 16 * 16 ≤ k ∧ k < n / 16 * 16 + 16) ∧ (tfind s.owned (k / 4)).isSome = false then some () else tfind s.poison k) := by
  have hexec : exec (.spiralUncorrectableError n) s = execSpiralUncorrectableError n s := rfl
  rw [hexec, execSpiralUncorrectableError, ht]
  dsimp only
  rw [hl, if_neg (by simp)]
  refine ⟨fun hr => by rw [hr]; rfl, fun hr => ?_⟩
  rw [if_pos hr]
  exact ⟨_, rfl, rfl, tfind_marks s.poison (n / 16 * 16) (fun k => (tfind s.owned (k / 4)).isSome) 16⟩

theorem chooseFrom_mem {l : List Nat} (h : l ≠ []) (x : Nat) : chooseFrom l x ∈ l := by
  have hlen := List.length_pos_iff.2 h
  have hlt : x % max l.length 1 < l.length := by
    rw [Nat.max_eq_left hlen]
    exact Nat.mod_lt _ hlen
  rw [chooseFrom, List.getD_eq_getElem _ _ hlt]
  exact List.getElem_mem hlt

/-- An error in a lattice page loses the line of one stack's replica. -/
theorem exec_spiralError_lattice {p : Partition} {band tile : Nat} (ht : s.tileOf n = some (p, band, tile))
    (hl : (tfind s.latPages (n / 4096)).isSome = true) (hst : p.stackList ≠ []) :
    ∃ st ∈ p.stackList, exec (.spiralUncorrectableError n) s =
      .next { s.drawn with repLost := tput s.repLost (8 * (n / 128) + st) () } := by
  have hexec : exec (.spiralUncorrectableError n) s = execSpiralUncorrectableError n s := rfl
  rw [hexec, execSpiralUncorrectableError, ht]
  dsimp only
  rw [if_pos hl]
  exact ⟨_, chooseFrom_mem hst _, rfl⟩

theorem exec_onlyCopyError {o : Owned} (ho : tfind s.owned (n / 4) = some o) (m : Nat) :
    exec (.onlyCopyUncorrectableError m n) s = .next (if o.core = m then
      { s with owned := tdel s.owned (n / 4), homes := tdel s.homes (n / 4), lost := tput s.lost (n / 4 / 32) () } else s) := by
  have hexec : exec (.onlyCopyUncorrectableError m n) s =
      .next (if s.owns m (n / 4) then s.loseWord (n / 4) else s) := rfl
  rw [hexec, State.owns, ho]
  simp only [beq_iff_eq]
  rfl

end Errors

end Sys2Proof.Machine

/-! Invalidations of translations (R348), and the words that go home before they are done. -/
namespace Sys2Proof.Machine

section Ground
variable {s t : State}

theorem mem_of_ground (h : t.ground = s.ground) : t.mem = s.mem := (congrArg State.mem h :)
theorem spad_of_ground (h : t.ground = s.ground) : t.spad = s.spad := (congrArg State.spad h :)
theorem smap_of_ground (h : t.ground = s.ground) : t.smap = s.smap := (congrArg State.smap h :)
theorem tlb_of_ground (h : t.ground = s.ground) : t.tlb = s.tlb := (congrArg State.tlb h :)

theorem atReduced_of_ground (h : t.ground = s.ground) (band : Nat) : t.atReduced band = s.atReduced band :=
  (congrArg (fun x : State => x.atReduced band) h :)

end Ground

/-! ## Words that go home -/

/-- Tiles become dirty, or DRAM takes the bytes, and no more, when an owned word goes home. -/
theorem giveBack_ground (s : State) (w : Nat) :
    (s.giveBack w).ground = s.ground ∧ (s.giveBack w).owned = tdel s.owned w := by
  unfold State.giveBack
  dsimp only
  split
  · split <;> exact ⟨rfl, rfl⟩
  · exact ⟨rfl, rfl⟩

theorem giveBacks_ground (l : Tab Owned) (s : State) :
    (l.foldl (fun s e => s.giveBack e.1) s).ground = s.ground := by
  refine foldl_keeps State.ground (fun s e => ?_) l s
  exact (giveBack_ground s e.1).1

/-- Words that have gone home are owned no more, and no other word becomes owned. -/
theorem mem_owned_giveBacks (l : Tab Owned) (s : State) {e : Nat × Owned} :
    e ∈ (l.foldl (fun s e => s.giveBack e.1) s).owned ↔ e ∈ s.owned ∧ ∀ x ∈ l, x.1 ≠ e.1 := by
  induction l generalizing s with
  | nil => simp
  | cons x r ih =>
    rw [List.foldl_cons, ih, (giveBack_ground s x.1).2]
    simp only [tdel, List.mem_filter, bne_iff_ne, List.mem_cons, forall_eq_or_imp, and_assoc, ne_comm]

/-! ## Translations (R348) -/

section Invalidation
variable {s : State} {n : Nat} {p : Partition}

theorem controlWrite_tinvc (hp : s.part n = some p) (x : Word) :
    s.controlWrite n none 0x128 x = s.setPart n (p.writeTinvc x) := by
  simp [State.controlWrite, hp]

/-- GO reads 1 once it has been written, whatever it read before. -/
theorem writeTinvc_go (p : Partition) {x : Word} (h : x.getLsbD 31 = true) : p.writeTinvc x =
    { p with tinvc := (x &&& 0x40000000) ||| 0x80000000,
             tinvDue := p.tinvDue ++ [if x.getLsbD 30 then none else some p.tinva] } := by
  have hgo : (x ||| p.tinvc) &&& 0x80000000 = 0x80000000 := by
    refine BitVec.eq_of_getLsbD_eq fun i hi => ?_
    have hbit : (0x80000000 : Word).getLsbD i = decide (i = 31) := by revert i; decide
    rw [BitVec.getLsbD_and, BitVec.getLsbD_or, hbit]
    by_cases h31 : i = 31
    · rw [h31, h]; rfl
    · rw [decide_eq_false h31, Bool.and_false]
  rw [Partition.writeTinvc, hgo, if_pos h]

theorem exec_tinvcPage (hp : s.part n = some p) : exec (.tinvcPage n) s =
    .next (s.setPart n { p with tinvc := 0x80000000, tinvDue := p.tinvDue ++ [some p.tinva] }) := by
  have hexec : exec (.tinvcPage n) s = .next (s.controlWrite n none 0x128 0x80000000) := rfl
  rw [hexec, controlWrite_tinvc hp, writeTinvc_go p (by decide)]
  rfl

theorem exec_tinvcAll (hp : s.part n = some p) : exec (.tinvcAll n) s =
    .next (s.setPart n { p with tinvc := 0xC0000000, tinvDue := p.tinvDue ++ [none] }) := by
  have hexec : exec (.tinvcAll n) s = .next (s.controlWrite n none 0x128 0xC0000000) := rfl
  rw [hexec, controlWrite_tinvc hp, writeTinvc_go p (by decide)]
  rfl

/-- Whether an invalidation names a translation. -/
def Cached.named (c : Cached) (v : Option Dword) : Bool :=
  match v with
  | none => true
  | some v => decide (c.base ≤ v.toNat ∧ v.toNat < c.base + c.size)

/-- What the end of the invalidations that were asked for leaves. -/
theorem invalidate_eq (hp : s.part n = some p) : ∃ t : State, t.ground = s.ground ∧
    (p.tinvDue ≠ [] → ∀ e ∈ t.owned, p.holdsCore e.2.core = false) ∧
    s.invalidate n = { t.setPart n { p with tinvc := p.tinvc &&& 0x40000000, tinvDue := [] } with
      tlb := t.tlb.filter fun c => c.part != n || !p.tinvDue.any c.named } := by
  unfold State.invalidate
  rw [hp]
  refine ⟨if p.tinvDue.isEmpty then s else s.sendPart p, ?_, fun hdue e he => ?_, rfl⟩
  · split
    · rfl
    · exact giveBacks_ground ..
  · rw [if_neg (by simpa using hdue), State.sendPart, mem_owned_giveBacks] at he
    obtain ⟨hin, hout⟩ := he
    cases hcore : p.holdsCore e.2.core with
    | false => rfl
    | true => exact absurd rfl (hout e (List.mem_filter.2 ⟨hin, hcore⟩))

/-- TINVC_COMPLETE (R348, R393): GO reads 0, no TLB holds a translation of the pages named, and nothing else is dropped. -/
theorem exec_tinvcComplete (hp : s.part n = some p) : ∃ t, exec (.tinvcComplete n) s = .next t ∧
    (t.part n).map (fun q => (q.tinvc, q.tinvDue)) = some (p.tinvc &&& 0x40000000, []) ∧
    (∀ c, c ∈ t.tlb → c ∈ s.tlb) ∧ t.mem = s.mem ∧
    (p.tinvDue ≠ [] → ∀ e ∈ t.owned, p.holdsCore e.2.core = false) ∧
    ∀ v ∈ p.tinvDue, ∀ c, c ∈ t.tlb → c.part = n → c.named v = false := by
  obtain ⟨t, hground, howned, heq⟩ := invalidate_eq hp
  have htlb := tlb_of_ground hground
  have hmem := mem_of_ground hground
  have hexec : exec (.tinvcComplete n) s = .next (s.invalidate n) := rfl
  rw [hexec, heq, htlb]
  refine ⟨_, rfl, ?_, fun c hc => (List.mem_filter.1 hc).1, hmem, howned, fun v hv c hc hn => ?_⟩
  · change (tfind (tput t.parts n _) n).map _ = _
    rw [tfind_tput_same]
    rfl
  · have hkept := (List.mem_filter.1 hc).2
    rw [hn, bne_self_eq_false, Bool.false_or, Bool.not_eq_true', List.any_eq_false] at hkept
    exact Bool.eq_false_iff.2 (hkept v hv)

end Invalidation

end Sys2Proof.Machine

/-! Ranges of DRAM that a scratchpad serves (R90 to R93), and reserved rings (R94, R95). -/
namespace Sys2Proof.Machine

/-! ## Tiles that leave a mapped range (R92) -/

/-- No tile of an entry's range stands in a spiral. -/
def Spiral.clearOf (sp : Spiral) (e : Smap) : Prop := ∀ t ∈ sp.tiles, ¬ (e.gtn ≤ t.tile ∧ t.tile ≤ e.gtn + e.nt)

/-- A spiral without some tiles. -/
def Spiral.without (sp : Spiral) (ts : List Tile) : Spiral := ts.foldl (fun sp t => sp.remove t.tile) sp

theorem mem_without {ts : List Tile} {sp : Spiral} {u : Tile} :
    u ∈ (sp.without ts).tiles ↔ u ∈ sp.tiles ∧ ∀ t ∈ ts, t.tile ≠ u.tile := by
  induction ts generalizing sp with
  | nil => simp [Spiral.without]
  | cons t r ih =>
    have hremove : u ∈ (sp.remove t.tile).tiles ↔ u ∈ sp.tiles ∧ t.tile ≠ u.tile := by
      simp only [Spiral.remove, Spiral.tiles, List.mem_append, List.mem_map, List.mem_filter, bne_iff_ne, ne_comm (a := t.tile)]
      constructor
      · rintro (h | ⟨e, ⟨he, hne⟩, rfl⟩)
        · exact ⟨.inl h.1, h.2⟩
        · exact ⟨.inr ⟨e, he, rfl⟩, hne⟩
      · rintro ⟨h | ⟨e, he, rfl⟩, hne⟩
        · exact .inl ⟨h, hne⟩
        · exact .inr ⟨e, ⟨he, hne⟩, rfl⟩
    rw [Spiral.without, List.foldl_cons]
    refine (ih (sp := sp.remove t.tile)).trans ?_
    rw [hremove, and_assoc, List.forall_mem_cons]

theorem removeTiles_of (ts : List Tile) (band b : Nat) (s : State) :
    Spiral.of (ts.foldl (fun s t => s.onSpiral band (Spiral.remove · t.tile)) s) b =
      if b = band then (Spiral.of s band).without ts else Spiral.of s b := by
  induction ts generalizing s with
  | nil => split <;> simp_all [Spiral.without]
  | cons t r ih =>
    rw [List.foldl_cons, ih]
    split
    · rw [onSpiral_same]
      rfl
    · next hb => exact onSpiral_other s _ hb

theorem endPins_of (p : Partition) (pins : List Tile) (s : State) (b : Nat) :
    (pins.foldl (fun s t => s.unpinned p t.owner) s).ground = s.ground ∧
      Spiral.of (pins.foldl (fun s t => s.unpinned p t.owner) s) b = Spiral.of s b := by
  induction pins generalizing s with
  | nil => exact ⟨rfl, rfl⟩
  | cons t r ih =>
    obtain ⟨hground, hof⟩ := ih (s.unpinned p t.owner)
    exact ⟨hground.trans (unpinned_ground ..), hof.trans (unpinned_of ..)⟩

/-- The tiles of an entry's range in a spiral. -/
def Spiral.within (sp : Spiral) (e : Smap) : List Tile :=
  (sp.pinned.map Prod.snd).filter (fun t => decide (e.gtn ≤ t.tile ∧ t.tile ≤ e.gtn + e.nt)) ++
    sp.order.filter fun t => decide (e.gtn ≤ t.tile ∧ t.tile ≤ e.gtn + e.nt)

theorem mem_within {sp : Spiral} {e : Smap} {t : Tile} :
    t ∈ sp.within e ↔ t ∈ sp.tiles ∧ e.gtn ≤ t.tile ∧ t.tile ≤ e.gtn + e.nt := by
  simp only [Spiral.within, Spiral.tiles, List.mem_append, List.mem_filter, decide_eq_true_eq]
  tauto

/-- At full service the tiles of a mapped range leave the band, and no other tile of the package. -/
theorem expelRange_of (s : State) (p : Partition) (e : Smap) (band b : Nat) :
    (s.expelRange p e band).ground = s.ground ∧ Spiral.of (s.expelRange p e band) b =
      if b = band ∧ s.atReduced band = false then (Spiral.of s band).without ((Spiral.of s band).within e)
      else Spiral.of s b := by
  unfold State.expelRange
  extract_lets sp inside pins loose s1
  have hs1 : s1.ground = s.ground := by
    refine foldl_keeps State.ground (fun _ _ => ?_) _ s
    rfl
  by_cases hcond : (s.atReduced band || (pins ++ loose).isEmpty) = true
  · rw [if_pos hcond]
    refine ⟨rfl, ?_⟩
    split
    · next hb =>
      rw [hb.2, Bool.false_or, List.isEmpty_iff] at hcond
      rw [hb.1, show (Spiral.of s band).within e = [] from hcond]
      rfl
    · rfl
  · rw [if_neg hcond]
    rw [Bool.or_eq_true, not_or, Bool.not_eq_true] at hcond
    obtain ⟨hground, hof⟩ := endPins_of p pins (s1.leave p band (pins ++ loose.reverse)).1 b
    refine ⟨hground.trans ((leave_ground ..).1.trans hs1), hof.trans ((leave_of ..).trans ?_)⟩
    refine (removeTiles_of _ band b s).trans ?_
    simp only [hcond.1, and_true]
    rfl

theorem clearOf_without_within (sp : Spiral) (e : Smap) : (sp.without (sp.within e)).clearOf e := by
  intro u hu hin
  obtain ⟨hmem, hout⟩ := mem_without.1 hu
  exact hout u (mem_within.2 ⟨hmem, hin⟩) rfl

theorem clearOf_without {sp : Spiral} {e : Smap} (h : sp.clearOf e) (ts : List Tile) : (sp.without ts).clearOf e :=
  fun u hu => h u (mem_without.1 hu).1

theorem expelRanges_ground (p : Partition) (e : Smap) (bs : List Nat) (s : State) :
    (bs.foldl (fun s b => s.expelRange p e b) s).ground = s.ground := by
  refine foldl_keeps State.ground (fun s b => ?_) bs s
  exact (expelRange_of s p e b b).1

/-- Once each band of a list has given up a range, none of those at full service holds a tile of it. -/
theorem expelRanges_clear (p : Partition) (e : Smap) {b : Nat} (bs : List Nat) (s : State) (hfull : s.atReduced b = false)
    (h : b ∈ bs ∨ (Spiral.of s b).clearOf e) : (Spiral.of (bs.foldl (fun s b => s.expelRange p e b) s) b).clearOf e := by
  induction bs generalizing s with
  | nil => exact h.resolve_left List.not_mem_nil
  | cons c r ih =>
    obtain ⟨hground, hof⟩ := expelRange_of s p e c b
    refine ih (s.expelRange p e c) ((atReduced_of_ground hground b).trans hfull) ?_
    rw [hof]
    by_cases hb : b = c
    · subst hb
      rw [if_pos ⟨rfl, hfull⟩]
      exact .inr (clearOf_without_within _ e)
    · rw [if_neg fun hc => hb hc.1]
      exact h.imp_left fun hin => (List.mem_cons.1 hin).resolve_left hb

theorem resident_of_clearOf {s : State} {b x : Nat} {e : Smap} (h : (Spiral.of s b).clearOf e) (hlo : e.gtn ≤ x)
    (hhi : x ≤ e.gtn + e.nt) : s.resident b x = false := by
  have hout : ∀ t ∈ (Spiral.of s b).tiles, t.tile ≠ x := fun t ht hx => h t ht (hx ▸ ⟨hlo, hhi⟩)
  have hpin : pinnedAt (Spiral.of s b).pinned x = none :=
    pinnedAt_eq_none.2 fun f hf => hout _ (List.mem_append_right _ (List.mem_map_of_mem hf))
  have hloose : recencyOf (Spiral.of s b).order x = none :=
    recencyOf_eq_none.2 fun t ht => hout t (List.mem_append_left _ ht)
  rw [State.resident, position_free hpin, hloose]
  rfl

/-! ## A range that becomes mapped (R91, R92) -/

theorem find?_tput {α : Type} {f : Nat × α → Bool} {l : Tab α} {k : Nat} {a : α} (hl : l.find? f = none) (ha : f (k, a) = true) :
    (tput l k a).find? f = some (k, a) := by
  induction l with
  | nil => simp [tput, ha]
  | cons x r ih =>
    obtain ⟨j, b⟩ := x
    have hx : f (j, b) = false := Bool.eq_false_iff.2 (List.find?_eq_none.1 hl _ List.mem_cons_self)
    have hr : r.find? f = none := List.find?_eq_none.2 fun y hy => List.find?_eq_none.1 hl y (List.mem_cons_of_mem _ hy)
    rw [tput]
    split
    · rw [List.find?_cons, hx, ih hr]
    · split <;> rw [List.find?_cons, ha]

section Mapping
variable {s t : State} {n m : Nat} {p : Partition}

theorem mapped_of_entry {e : Smap} {a : Nat} (hsmap : t.smap = tput s.smap (16 * n + m) e) (hm : m < 16)
    (hband : p.holds (n / 8) = true) (hv : e.v = true) (hnone : s.mapped p a = none) (hlo : e.gtn ≤ a / 2048)
    (hhi : a / 2048 ≤ e.gtn + e.nt) :
    t.mapped p a = some (2097152 * n + 2048 * (e.soff + (a / 2048 - e.gtn)) + a % 2048) := by
  have hkey : (16 * n + m) / 16 = n := by omega
  unfold State.mapped
  rw [hsmap, find?_tput (Option.map_eq_none_iff.1 hnone) (by simp [hv, hkey, hband, hlo, hhi]), Option.map_some, hkey]

theorem smapOf_setSmap (s : State) (n m : Nat) (e : Smap) : (s.setSmap n m e).smapOf n m = e := by
  rw [State.smapOf, State.setSmap, tfind_tput_same]
  rfl

theorem holds_of_partOfBand {b k : Nat} (h : s.partOfBand b = some (k, p)) : p.holds b = true :=
  List.find?_some (p := fun e : Nat × Partition => e.2.holds b) h

/-- What a range that becomes mapped leaves: its tiles have left, and the entry is valid. -/
theorem smapOn_eq (s : State) (p : Partition) (n m : Nat) (e : Smap) : ∃ u : State, u.ground = s.ground ∧
    (∀ b ∈ p.bandList, s.atReduced b = false → (Spiral.of u b).clearOf e) ∧ (s.smapOn p n m e).spirals = u.spirals ∧
    (s.smapOn p n m e).mem = u.mem ∧ (s.smapOn p n m e).spad = u.spad ∧
    (s.smapOn p n m e).smap = tput u.smap (16 * n + m) { e with v := true, wb := false } := by
  unfold State.smapOn
  extract_lets gone s0 s1
  have h0 : s0.ground = s.ground := giveBacks_ground ..
  exact ⟨s1, (expelRanges_ground p e p.bandList s0).trans h0,
    fun b hb hfull => expelRanges_clear p e p.bandList s0 ((atReduced_of_ground h0 b).trans hfull) (.inl hb), rfl, rfl, rfl, rfl⟩

/-- SMAP_MAP of an entry that R91 lets become valid: its tiles have left the bands at full service, and the scratchpad serves its
range. -/
theorem exec_smapMap {k : Nat} (hb : s.partOfBand (n / 8) = some (k, p)) (hm : m < 16) {e : Smap} (he : s.smapOf n m = e)
    (hv : e.v = false) (hbad : s.smapBad p n m e = false) : ∃ t, exec (.smapMap n m) s = .next t ∧
      t.smapOf n m = { e with v := true, wb := false } ∧ t.mem = s.mem ∧ t.spad = s.spad ∧
      (∀ b ∈ p.bandList, s.atReduced b = false → ∀ x, e.gtn ≤ x → x ≤ e.gtn + e.nt → t.resident b x = false) ∧
      ∀ a, s.mapped p a = none → e.gtn ≤ a / 2048 → a / 2048 ≤ e.gtn + e.nt →
        t.mapped p a = some (2097152 * n + 2048 * (e.soff + (a / 2048 - e.gtn)) + a % 2048) := by
  have hexec : exec (.smapMap n m) s = execSmapMap n m s := rfl
  obtain ⟨u, hground, hclear, hspirals, hmem, hspad, hsmap⟩ := smapOn_eq s p n m e
  rw [smap_of_ground hground] at hsmap
  refine ⟨s.smapOn p n m e, ?_, ?_, hmem.trans (mem_of_ground hground), hspad.trans (spad_of_ground hground),
    fun b hin hfull x hlo hhi => ?_, fun a hnone hlo hhi => mapped_of_entry (e := { e with v := true, wb := false }) hsmap hm
      (holds_of_partOfBand hb) rfl hnone hlo hhi⟩
  · rw [hexec, execSmapMap, hb]
    dsimp only
    rw [he, hv, hbad, Bool.false_or, Bool.or_false, if_neg (by simpa using hm)]
  · rw [State.smapOf, hsmap, tfind_tput_same]
    rfl
  · refine resident_of_clearOf (e := e) ?_ hlo hhi
    rw [Spiral.of, hspirals]
    exact hclear b hin hfull

theorem exec_smapMap_refused {k : Nat} (hb : s.partOfBand (n / 8) = some (k, p))
    (h : (s.smapOf n m).v = true ∨ s.smapBad p n m (s.smapOf n m) = true) : exec (.smapMap n m) s = .next s := by
  have hexec : exec (.smapMap n m) s = execSmapMap n m s := rfl
  rw [hexec, execSmapMap, hb]
  dsimp only
  rw [if_pos]
  rcases h with h | h <;> rw [h]
  · rfl
  · exact Bool.or_true _

theorem exec_smapUnmap (s : State) (n m : Nat) : exec (.smapUnmap n m) s =
    .next (if (s.smapOf n m).v then s.setSmap n m { s.smapOf n m with wb := true } else s) := rfl

end Mapping

/-! ## The write-back of a range (R93) -/

theorem tfind_filter {α : Type} (t : Tab α) (f : Nat → Bool) (k : Nat) :
    tfind (t.filter fun e => f e.1) k = if f k then tfind t k else none := by
  induction t with
  | nil => simp [tfind]
  | cons e r ih =>
    obtain ⟨j, a⟩ := e
    by_cases hj : j = k
    · subst hj
      cases hf : f j <;> simp [hf, tfind, ih]
    · cases hf : f j <;> simp [hf, tfind, ih, hj]

theorem wget_puts_other {dest : Nat → Nat} {y : Nat} (l : List Host.Cell) (m : Memory) (h : ∀ c ∈ l, dest c.1 ≠ y) :
    wget (l.foldl (fun m c => wput m (dest c.1) c.2) m) y = wget m y := by
  induction l generalizing m with
  | nil => rfl
  | cons c r ih =>
    rw [List.foldl_cons, ih _ fun d hd => h d (List.mem_cons_of_mem _ hd), wget_wput_other _ _ (h c List.mem_cons_self).symm]

/-- Bytes put at other places, one at each: the byte put at a place is the one listed for it. -/
theorem wget_puts_one {dest : Nat → Nat} {x : Nat} {v : Byte} (l : List Host.Cell) (m : Memory)
    (hinj : ∀ c ∈ l, dest c.1 = dest x → c.1 = x) (hone : l.filter (fun c => c.1 == x) = [(x, v)]) :
    wget (l.foldl (fun m c => wput m (dest c.1) c.2) m) (dest x) = v := by
  induction l generalizing m with
  | nil => cases hone
  | cons c r ih =>
    have hr : ∀ d ∈ r, dest d.1 = dest x → d.1 = x := fun d hd => hinj d (List.mem_cons_of_mem _ hd)
    by_cases hc : c.1 = x
    · rw [List.filter_cons_of_pos (by simpa using hc), List.cons.injEq] at hone
      obtain ⟨rfl, hrest⟩ := hone
      rw [List.foldl_cons, wget_puts_other r _ fun d hd hdx => ?_, wget_wput_same]
      simpa using List.filter_eq_nil_iff.1 hrest d hd (by simpa using hr d hd hdx)
    · rw [List.filter_cons_of_neg (by simpa using hc)] at hone
      exact ih _ hr hone

/-- An address of a partition's DRAM and its package address (R14). -/
theorem fromPackage_toPackage {p : Partition} {pa : Nat} (h : pa < Config.bandBytes * p.bandList.length) :
    p.fromPackage (p.toPackage pa) = pa ∧ p.holds (p.toPackage pa / Config.bandBytes) = true := by
  have hpos : 0 < Config.bandBytes := by decide
  have hlt : pa / Config.bandBytes < p.bandList.length := Nat.div_lt_of_lt_mul h
  have hband : p.toPackage pa / Config.bandBytes = p.bandList[pa / Config.bandBytes] := by
    rw [Partition.toPackage, List.getD_eq_getElem _ _ hlt, Nat.mul_add_div hpos, Nat.div_eq_of_lt (Nat.mod_lt _ hpos), Nat.add_zero]
  have hmod : p.toPackage pa % Config.bandBytes = pa % Config.bandBytes := by
    rw [Partition.toPackage, Nat.mul_add_mod, Nat.mod_mod]
  constructor
  · have hfind : p.bandList.findIdx (· == p.bandList[pa / Config.bandBytes]) = pa / Config.bandBytes :=
      (bandList_nodup p).idxOf_getElem _ hlt
    rw [Partition.fromPackage, hband, hmod, hfind, Nat.div_add_mod]
  · rw [hband]
    exact (List.mem_filter.1 (List.getElem_mem hlt)).2

theorem covers_toPackage {p : Partition} {e : Smap} {o : Nat} (ho : o < 2048 * (e.nt + 1))
    (h : 2048 * (e.gtn + e.nt + 1) ≤ Config.bandBytes * p.bandList.length) :
    e.covers p (p.toPackage (2048 * e.gtn + o)) = true := by
  obtain ⟨hback, hholds⟩ := fromPackage_toPackage (p := p) (pa := 2048 * e.gtn + o) (by omega)
  have hlo : e.gtn ≤ (2048 * e.gtn + o) / 2048 := by omega
  have hhi : (2048 * e.gtn + o) / 2048 ≤ e.gtn + e.nt := by omega
  rw [Smap.covers, hback, hholds]
  simp [hlo, hhi]

section WriteBack
variable {s : State} {n m k : Nat} {p : Partition} {e : Smap}

/-- Where the write-back of a range puts a byte of the scratchpad. -/
def padPlace (p : Partition) (n : Nat) (e : Smap) (x : Nat) : Nat :=
  p.toPackage (2048 * e.gtn + (x - (2097152 * n + 2048 * e.soff)))

/-- The bytes of the scratchpad in a range. -/
def State.padRangeBytes (s : State) (n : Nat) (e : Smap) : List Host.Cell :=
  s.spad.filter fun c => decide (2097152 * n + 2048 * e.soff ≤ c.1) &&
    decide (c.1 < 2097152 * n + 2048 * e.soff + 2048 * (e.nt + 1))

/-- What the write-back of a range leaves of memory and of its entry. -/
theorem smapDone_eq (he : s.smapOf n m = e) (p : Partition) : (s.smapDone p n m).spad = s.spad ∧
    (s.smapDone p n m).smapOf n m = { e with v := false, wb := false } ∧
    (s.smapDone p n m).mem = (s.padRangeBytes n e).foldl (fun m c => wput m (padPlace p n e c.1) c.2)
      (s.mem.filter fun c => !e.covers p c.1) := by
  subst he
  unfold State.smapDone
  extract_lets e k len dest mine word s1 mem poison moved dead clocks
  have h1 : s1.ground = s.ground := giveBacks_ground ..
  have hspad := spad_of_ground h1
  have hbytes := mem_of_ground h1
  refine ⟨hspad, smapOf_setSmap .., ?_⟩
  change mem = _
  have hmem : mem = (s1.spad.filter fun c => mine c.1).foldl (fun m c => wput m (dest c.1) c.2)
      (s1.mem.filter fun c => !e.covers p c.1) := rfl
  rw [hmem, hspad, hbytes]
  rfl

theorem mem_padRangeBytes {c : Host.Cell} : c ∈ s.padRangeBytes n e ↔ c ∈ s.spad ∧ 2097152 * n + 2048 * e.soff ≤ c.1 ∧
    c.1 < 2097152 * n + 2048 * e.soff + 2048 * (e.nt + 1) := by
  rw [State.padRangeBytes, List.mem_filter, Bool.and_eq_true, decide_eq_true_iff, decide_eq_true_iff]

section Range
variable (hlen : 2048 * (e.gtn + e.nt + 1) ≤ Config.bandBytes * p.bandList.length)
include hlen

/-- The write-back of a range takes each of its bytes to a place of its own in the mapped range of DRAM. -/
theorem padPlace_covered {c : Host.Cell} (hc : c ∈ s.padRangeBytes n e) : e.covers p (padPlace p n e c.1) = true := by
  obtain ⟨-, hlo, hhi⟩ := mem_padRangeBytes.1 hc
  exact covers_toPackage (by omega) hlen

theorem padPlace_inj {c : Host.Cell} (hc : c ∈ s.padRangeBytes n e) {o : Nat} (ho : o < 2048 * (e.nt + 1))
    (h : padPlace p n e c.1 = p.toPackage (2048 * e.gtn + o)) : c.1 = 2097152 * n + 2048 * e.soff + o := by
  obtain ⟨-, hlo, hhi⟩ := mem_padRangeBytes.1 hc
  have hback := congrArg p.fromPackage h
  rw [padPlace, (fromPackage_toPackage (by omega)).1, (fromPackage_toPackage (by omega)).1] at hback
  omega

theorem smapDone_other (he : s.smapOf n m = e) {a : Nat} (ha : e.covers p a = false) :
    wget (s.smapDone p n m).mem a = wget s.mem a := by
  have hother : ∀ c ∈ s.padRangeBytes n e, padPlace p n e c.1 ≠ a := fun c hc heq =>
    Bool.false_ne_true (ha.symm.trans (heq ▸ padPlace_covered hlen hc))
  rw [(smapDone_eq he p).2.2, wget_puts_other _ _ hother, wget, tfind_filter _ (fun x => !e.covers p x), ha]
  rfl

theorem smapDone_range (he : s.smapOf n m = e) {o : Nat} (ho : o < 2048 * (e.nt + 1)) :
    (s.spad.filter (fun c => c.1 == 2097152 * n + 2048 * e.soff + o) = [] →
      wget (s.smapDone p n m).mem (p.toPackage (2048 * e.gtn + o)) = 0) ∧
    ∀ v, s.spad.filter (fun c => c.1 == 2097152 * n + 2048 * e.soff + o) = [(2097152 * n + 2048 * e.soff + o, v)] →
      wget (s.smapDone p n m).mem (p.toPackage (2048 * e.gtn + o)) = v := by
  rw [(smapDone_eq he p).2.2]
  constructor
  · intro hnone
    rw [wget_puts_other _ _ fun c hc heq => ?_, wget, tfind_filter _ (fun x => !e.covers p x), covers_toPackage ho hlen]
    · rfl
    · exact List.filter_eq_nil_iff.1 hnone c (mem_padRangeBytes.1 hc).1 (beq_iff_eq.2 (padPlace_inj hlen hc ho heq))
  · intro v hone
    have hplace : padPlace p n e (2097152 * n + 2048 * e.soff + o) = p.toPackage (2048 * e.gtn + o) := by
      rw [padPlace, Nat.add_sub_cancel_left]
    rw [← hplace]
    refine wget_puts_one _ _ (fun c hc heq => padPlace_inj hlen hc ho (heq.trans hplace)) (Eq.trans ?_ hone)
    rw [State.padRangeBytes, List.filter_filter]
    refine List.filter_congr fun c _ => ?_
    by_cases hc : c.1 = 2097152 * n + 2048 * e.soff + o
    · rw [hc, decide_eq_true (Nat.le_add_right _ _), decide_eq_true (Nat.add_lt_add_left ho _)]
      exact Bool.and_true _
    · rw [beq_false_of_ne hc, Bool.false_and]

end Range

theorem exec_smapWritebackDone (hb : s.partOfBand (n / 8) = some (k, p)) (hwb : (s.smapOf n m).wb = true) :
    exec (.smapWritebackDone n m) s = .next (s.smapDone p n m) := by
  have hexec : exec (.smapWritebackDone n m) s = execSmapWritebackDone n m s := rfl
  rw [hexec, execSmapWritebackDone, hb]
  exact congrArg Host.Outcome.next (if_pos hwb)

end WriteBack

/-! ## Reserved rings (R94, R95) -/

/-- The status of a change of a band's reservation, the spiral that it leaves, and the package's BAND and ST. -/
theorem reserveBand_eq (s : State) (b res lim : Nat) (hlim : ∀ sp : Spiral, Spiral.limit { sp with res := res } = lim) :
    (s.reserveBand b res).shdwBand = b ∧ (s.reserveBand b res).mem = s.mem ∧
    if s.atReduced b = true ∧ res ≠ 0 then (s.reserveBand b res).shdwSt = 2 ∧ (s.reserveBand b res).spirals = s.spirals
    else if lim < (Spiral.of s b).limit ∧ ∃ e ∈ (Spiral.of s b).pinned, lim ≤ e.1 then
      (s.reserveBand b res).shdwSt = 1 ∧ Spiral.of (s.reserveBand b res) b = Spiral.of s b
    else if lim < (Spiral.of s b).limit ∧ lim - (Spiral.of s b).pinned.length < 1024 then
      (s.reserveBand b res).shdwSt = 2 ∧ Spiral.of (s.reserveBand b res) b = Spiral.of s b
    else (s.reserveBand b res).shdwSt = 0 ∧ Spiral.of (s.reserveBand b res) b =
      { Spiral.of s b with res := res, order := (Spiral.of s b).order.take (lim - (Spiral.of s b).pinned.length) } := by
  by_cases hred : s.atReduced b = true ∧ res ≠ 0
  · have heq : s.reserveBand b res = { s with shdwBand := b, shdwSt := 2 } := if_pos (by simpa using hred)
    rw [heq, if_pos hred]
    exact ⟨rfl, rfl, rfl, rfl⟩
  · rw [if_neg hred]
    obtain ⟨hband, hmem, hst, hof⟩ : (s.reserveBand b res).shdwBand = b ∧ (s.reserveBand b res).mem = s.mem ∧
        (s.reserveBand b res).shdwSt = ((Spiral.of s b).reserve res).1 ∧
        Spiral.of (s.reserveBand b res) b = ((Spiral.of s b).reserve res).2.1 := by
      rw [State.reserveBand, if_neg (by simpa using hred)]
      extract_lets r s1
      split
      · next k p hp =>
        have hground := (leave_ground s1 p b r.2.2).1
        exact ⟨(congrArg State.shdwBand hground :), (congrArg State.mem hground :), (congrArg State.shdwSt hground :),
          (leave_of ..).trans (State.setSpiral_same ..)⟩
      · exact ⟨rfl, rfl, rfl, State.setSpiral_same ..⟩
    refine ⟨hband, hmem, ?_⟩
    rw [hst, hof, Spiral.reserve]
    dsimp only
    rw [hlim]
    simp only [Bool.and_eq_true, decide_eq_true_eq, List.any_eq_true]
    split
    · exact ⟨rfl, rfl⟩
    · split <;> exact ⟨rfl, rfl⟩

theorem limit_ring8 (sp : Spiral) : Spiral.limit { sp with res := 1 } = 32768 := rfl
theorem limit_rings78 (sp : Spiral) : Spiral.limit { sp with res := 2 } = 16384 := rfl
theorem limit_free (sp : Spiral) : Spiral.limit { sp with res := 0 } = 65536 := rfl

end Sys2Proof.Machine

/-! A round of the lattice (R125, R126, R128): what it does to each pair of replicas, and what it leaves. -/
namespace Sys2Proof.Machine

/-! ## Lists whose elements act once -/

theorem nodup_eraseDups : ∀ l : List Nat, l.eraseDups.Nodup
  | [] => List.nodup_nil
  | a :: l => by
    rw [List.eraseDups_cons, List.nodup_cons]
    exact ⟨by simp [List.mem_eraseDups], nodup_eraseDups _⟩
termination_by l => l.length
decreasing_by exact Nat.lt_succ_of_le (List.length_filter_le _ _)

theorem foldl_keeps_on {α β γ : Type} {f : β → α → β} (g : β → γ) (l : List α) (hf : ∀ b, ∀ a ∈ l, g (f b a) = g b) (b : β) :
    g (l.foldl f b) = g b := by
  induction l generalizing b with
  | nil => rfl
  | cons a r ih => exact (ih (fun b c hc => hf b c (List.mem_cons_of_mem _ hc)) _).trans (hf b a List.mem_cons_self)

/-- A fold in which one element alone acts on a part of what it folds over, and acts once, does to that part what that element
does. -/
theorem foldl_once {α β γ : Type} {f : β → α → β} (g : β → γ) {R : γ → γ → Prop} {I : β → Prop} {l : List α} {x : α} (hx : x ∈ l)
    (hl : l.Nodup) (hI : ∀ b a, I b → I (f b a)) (hother : ∀ b, ∀ a ∈ l, a ≠ x → g (f b a) = g b)
    (hstep : ∀ b, I b → R (g b) (g (f b x))) {b : β} (hb : I b) : R (g b) (g (l.foldl f b)) := by
  induction l generalizing b with
  | nil => cases hx
  | cons a r ih =>
    obtain ⟨har, hr⟩ := List.nodup_cons.1 hl
    have hrest : ∀ b, ∀ c ∈ r, c ≠ x → g (f b c) = g b := fun b c hc => hother b c (List.mem_cons_of_mem _ hc)
    rw [List.foldl_cons]
    by_cases hax : a = x
    · subst hax
      rw [foldl_keeps_on g r fun b c hc => hrest b c hc fun h => har (h ▸ hc)]
      exact hstep b hb
    · rw [← hother b a List.mem_cons_self hax]
      exact ih ((List.mem_cons.1 hx).resolve_left (Ne.symm hax)) hr hrest (hI b a hb)

/-! ## Cells of replicas (R125) -/

/-- Whether a line of a stack's replica is lost (R128). -/
def State.lineLost (s : State) (l st : Nat) : Bool := (tfind s.repLost (8 * l + st)).isSome

/-- A cell of a stack's replica, and whether its line there is lost. -/
def State.cell (s : State) (c st : Nat) : Dword × Bool := (wget s.reps (8 * c + st), s.lineLost (c / 16) st)

/-- What a round keeps: all but the replicas, their clocks and copies, and the tiles that become dirty. -/
def State.roundFrame (s : State) : State :=
  { s with reps := [], repLost := [], repPoison := [], clocks := [], shared := [], spirals := [] }

theorem exchanged_keeps (s : State) (w : Nat) (changed : Bool) (x : Dword) :
    ((s.exchanged w changed x).roundFrame, (s.exchanged w changed x).reps, (s.exchanged w changed x).repLost) =
      (s.roundFrame, s.reps, s.repLost) := by
  unfold State.exchanged
  dsimp only
  split_ifs <;> rfl

theorem replica_cell (s : State) (c st : Nat) : s.replica (8 * c) st = (s.cell c st).1 := by
  rw [State.replica, repKey, Nat.mul_div_cancel_left _ (by decide)]
  rfl

section Exchange
variable {s : State} {c i k : Nat}

/-- What one cell of two replicas becomes: both take the value, and nothing else of the replicas changes. -/
theorem setPair_keeps (s : State) (c i k : Nat) (x : Dword) : ((s.setPair c i k x).roundFrame, (s.setPair c i k x).reps,
    (s.setPair c i k x).repLost) = (s.roundFrame, wput (wput s.reps (8 * c + i) x) (8 * c + k) x, s.repLost) := by
  have hkey : ∀ st, repKey (8 * c) st = 8 * c + st := fun st => by rw [repKey, Nat.mul_div_cancel_left _ (by decide)]
  unfold State.setPair
  extract_lets ci ck s1
  refine (foldl_keeps (fun t : State => (t.roundFrame, t.reps, t.repLost)) (fun t a => ?_) _ s1).trans ?_
  · exact (exchanged_keeps ..).trans (exchanged_keeps ..)
  · rw [← hkey i, ← hkey k]
    rfl

theorem setPair_frame (s : State) (c i k : Nat) (x : Dword) : (s.setPair c i k x).roundFrame = s.roundFrame :=
  congrArg Prod.fst (setPair_keeps s c i k x)

theorem cell_setPair (s : State) (c i k : Nat) (x : Dword) (b st : Nat) : (s.setPair c i k x).cell b st =
    (wget (wput (wput s.reps (8 * c + i) x) (8 * c + k) x) (8 * b + st), (s.cell b st).2) := by
  obtain ⟨-, hreps, hlost⟩ : _ ∧ (s.setPair c i k x).reps = _ ∧ (s.setPair c i k x).repLost = _ := by
    simpa only [Prod.mk.injEq] using setPair_keeps s c i k x
  rw [State.cell, State.lineLost, hreps, hlost]
  rfl

theorem setPair_other {b st : Nat} (hi : i < 8) (hk : k < 8) (hst : st < 8) (h : b ≠ c ∨ (st ≠ i ∧ st ≠ k)) (x : Dword) :
    (s.setPair c i k x).cell b st = s.cell b st := by
  rw [cell_setPair, wget_wput_other _ _ (by omega), wget_wput_other _ _ (by omega)]
  rfl

theorem setPair_left (x : Dword) : (s.setPair c i k x).cell c i = (x, (s.cell c i).2) := by
  rw [cell_setPair]
  by_cases hik : i = k
  · rw [hik, wget_wput_same]
  · rw [wget_wput_other _ _ (by omega), wget_wput_same]

theorem setPair_right (x : Dword) : (s.setPair c i k x).cell c k = (x, (s.cell c k).2) := by
  rw [cell_setPair, wget_wput_same]

/-! ## Lines of two replicas (R125, R128) -/

/-- The cells of a line of two replicas that an exchange works on. -/
def State.lineCells (s : State) (l i k : Nat) : List Nat :=
  let held := (s.reps.filter fun e => e.1 / 8 / 16 == l && (e.1 % 8 == i || e.1 % 8 == k)).map fun e => e.1 / 8
  let timed := (s.clocks.filter fun e => decide (2 ^ 61 ≤ e.1) && repAddress e.1 / 128 == l &&
    (repStack e.1 == i || repStack e.1 == k)).map fun e => repAddress e.1 / 8
  (held ++ timed).eraseDups

/-- What two replicas of a cell become: the value of the other where one's line is lost, else the join (R128). -/
def paired (lt : Nat) (di dk : Bool) (xi xk : Dword) : Dword := if di then xk else if dk then xi else join lt xi xk

/-- The exchange of one cell of a line. -/
def State.pairCell (s : State) (lt : Nat) (di dk : Bool) (i k c : Nat) : State :=
  s.setPair c i k (paired lt di dk (s.cell c i).1 (s.cell c k).1)

/-- The exchange of the cells of a line. -/
def State.pairCells (s : State) (lt l i k : Nat) : State :=
  (s.lineCells l i k).foldl (fun t c => t.pairCell lt (s.lineLost l i) (s.lineLost l k) i k c) s

theorem line_of_lineCells {l : Nat} (h : c ∈ s.lineCells l i k) : c / 16 = l := by
  rw [State.lineCells, List.mem_eraseDups, List.mem_append] at h
  rcases h with h | h
  · obtain ⟨e, he, rfl⟩ := List.mem_map.1 h
    have hcond := (List.mem_filter.1 he).2
    simp only [Bool.and_eq_true, beq_iff_eq] at hcond
    exact hcond.1
  · obtain ⟨e, he, rfl⟩ := List.mem_map.1 h
    have hcond := (List.mem_filter.1 he).2
    rw [Bool.and_eq_true, Bool.and_eq_true, beq_iff_eq] at hcond
    obtain ⟨⟨-, hline⟩, -⟩ := hcond
    rw [Nat.div_div_eq_div_mul]
    exact hline

/-- A cell that an exchange does not work on is 0 in both replicas. -/
theorem zero_of_lineCells {st : Nat} (h : c ∉ s.lineCells (c / 16) i k) (hi : i < 8) (hk : k < 8) (hst : st = i ∨ st = k) :
    (s.cell c st).1 = 0 := by
  rw [State.lineCells, List.mem_eraseDups, List.mem_append, not_or] at h
  have hnone : tfind s.reps (8 * c + st) = none := by
    refine Option.eq_none_iff_forall_ne_some.2 fun x hx => h.1 (List.mem_map.2 ⟨_, List.mem_filter.2 ⟨mem_of_tfind hx, ?_⟩, ?_⟩)
    · have hdiv : (8 * c + st) / 8 / 16 = c / 16 := by omega
      have hmod : (8 * c + st) % 8 = st := by omega
      simpa [hdiv, hmod] using hst
    · change (8 * c + st) / 8 = c
      omega
  rw [State.cell, wget, hnone]
  rfl

theorem pairLine_eq (s : State) (lt l i k : Nat) : ∃ poison : Tab Unit, s.pairLine lt l i k =
    if s.lineLost l i && s.lineLost l k then s
    else { s.pairCells lt l i k with
      repLost := tdel (tdel (s.pairCells lt l i k).repLost (8 * l + i)) (8 * l + k), repPoison := poison } := by
  have hcell : ∀ (t : State) (di dk : Bool) (c : Nat), t.pairCell lt di dk i k c = t.setPair c i k
      (if di then t.replica (8 * c) k else if dk then t.replica (8 * c) i else join lt (t.replica (8 * c) i) (t.replica (8 * c) k)) :=
    fun t di dk c => by rw [replica_cell, replica_cell]; rfl
  simp only [State.pairCells, hcell]
  exact ⟨_, rfl⟩

end Exchange

theorem join_zero : ∀ lt : Nat, join lt 0 0 = 0
  | 0 => by decide
  | 1 => by decide
  | 2 => by decide
  | 3 => by decide
  | 4 => by decide
  | _ + 5 => rfl

/-- A line of two replicas that a round pairs: both take the join where neither is lost, the lost one is repaired from the other, and
two lost ones stay as they were. -/
def Paired (lt : Nat) (old new : (Dword × Bool) × (Dword × Bool)) : Prop :=
  (old.1.2 = false → old.2.2 = false → new.1.1 = join lt old.1.1 old.2.1 ∧ new.2.1 = join lt old.1.1 old.2.1) ∧
  (old.1.2 = true → old.2.2 = false → new.1.1 = old.2.1 ∧ new.2.1 = old.2.1 ∧ new.1.2 = false) ∧
  (old.1.2 = false → old.2.2 = true → new.1.1 = old.1.1 ∧ new.2.1 = old.1.1 ∧ new.2.2 = false) ∧
  (old.1.2 = true → old.2.2 = true → new.1.2 = true ∧ new.2.2 = true)

section Lines
variable {s : State} {lt l i k c : Nat}

theorem pairCells_keeps (s : State) (lt l i k : Nat) :
    ((s.pairCells lt l i k).roundFrame, (s.pairCells lt l i k).repLost) = (s.roundFrame, s.repLost) := by
  refine foldl_keeps (fun t : State => (t.roundFrame, t.repLost)) (fun t c => ?_) (s.lineCells l i k) s
  have hkeeps := setPair_keeps t c i k (paired lt (s.lineLost l i) (s.lineLost l k) (t.cell c i).1 (t.cell c k).1)
  simp only [Prod.mk.injEq] at hkeeps
  exact Prod.ext hkeeps.1 hkeeps.2.2

/-- A cell of another line, or of another replica, stays as it was. -/
theorem pairCells_other (hi : i < 8) (hk : k < 8) {st : Nat} (hst : st < 8) (h : c ∉ s.lineCells l i k ∨ (st ≠ i ∧ st ≠ k)) :
    (s.pairCells lt l i k).cell c st = s.cell c st :=
  foldl_keeps_on (·.cell c st) _ (fun _ b hb => setPair_other hi hk hst (h.imp_left fun hc (heq : c = b) => hc (heq ▸ hb)) _) s

/-- The cells of a line take their joint values. -/
theorem pairCells_same (lt : Nat) (hi : i < 8) (hk : k < 8) (hl : c / 16 = l) :
    ((s.pairCells lt l i k).cell c i).1 = paired lt (s.lineLost l i) (s.lineLost l k) (s.cell c i).1 (s.cell c k).1 ∧
      ((s.pairCells lt l i k).cell c k).1 = paired lt (s.lineLost l i) (s.lineLost l k) (s.cell c i).1 (s.cell c k).1 := by
  by_cases hc : c ∈ s.lineCells l i k
  · refine foldl_once (fun t : State => (t.cell c i, t.cell c k)) (R := fun old new =>
      new.1.1 = paired lt (s.lineLost l i) (s.lineLost l k) old.1.1 old.2.1 ∧
        new.2.1 = paired lt (s.lineLost l i) (s.lineLost l k) old.1.1 old.2.1) (I := fun _ => True) hc (nodup_eraseDups _)
      (fun _ _ h => h) (fun t b _ hb => ?_) (fun t _ => ?_) trivial
    · exact Prod.ext (setPair_other hi hk hi (.inl hb.symm) _) (setPair_other hi hk hk (.inl hb.symm) _)
    · exact ⟨congrArg Prod.fst (setPair_left _), congrArg Prod.fst (setPair_right _)⟩
  · have hpaired : paired lt (s.lineLost l i) (s.lineLost l k) 0 0 = 0 := by
      unfold paired
      split_ifs
      exacts [rfl, rfl, join_zero lt]
    rw [pairCells_other hi hk hi (.inl hc), pairCells_other hi hk hk (.inl hc), zero_of_lineCells (hl ▸ hc) hi hk (.inl rfl),
      zero_of_lineCells (hl ▸ hc) hi hk (.inr rfl), hpaired]
    exact ⟨rfl, rfl⟩

theorem pairLine_frame (s : State) (lt l i k : Nat) : (s.pairLine lt l i k).roundFrame = s.roundFrame := by
  obtain ⟨poison, heq⟩ := pairLine_eq s lt l i k
  rw [heq]
  split
  · rfl
  · exact congrArg Prod.fst (pairCells_keeps s lt l i k)

/-- A cell of another line, or of another replica, stays as it was. -/
theorem pairLine_other (hi : i < 8) (hk : k < 8) {st : Nat} (hst : st < 8) (h : c / 16 ≠ l ∨ (st ≠ i ∧ st ≠ k)) :
    (s.pairLine lt l i k).cell c st = s.cell c st := by
  obtain ⟨poison, heq⟩ := pairLine_eq s lt l i k
  rw [heq]
  split
  · rfl
  · have hcell := pairCells_other (s := s) (lt := lt) hi hk hst (h.imp_left fun hc hin => hc (line_of_lineCells hin))
    rw [← hcell]
    generalize s.pairCells lt l i k = t
    refine Prod.ext rfl ?_
    change (tfind (tdel (tdel t.repLost _) _) _).isSome = _
    rw [tfind_tdel_other _ (by omega), tfind_tdel_other _ (by omega)]
    rfl

theorem tfind_tdel_tdel {α : Type} (t : Tab α) (a b : Nat) :
    tfind (tdel (tdel t a) b) a = none ∧ tfind (tdel (tdel t a) b) b = none := by
  refine ⟨?_, tfind_tdel_same _ b⟩
  by_cases h : a = b
  · rw [h, tfind_tdel_same]
  · rw [tfind_tdel_other _ h, tfind_tdel_same]

theorem paired_of_values {xi xk : Dword} {di dk : Bool} {new : (Dword × Bool) × (Dword × Bool)} (hdead : ¬(di && dk) = true)
    (hi : new.1.1 = paired lt di dk xi xk) (hk : new.2.1 = paired lt di dk xi xk) (hli : new.1.2 = false) (hlk : new.2.2 = false) :
    Paired lt ((xi, di), (xk, dk)) new := by
  cases di <;> cases dk <;> simp_all [Paired, paired]

theorem pairLine_paired (s : State) (lt : Nat) (hi : i < 8) (hk : k < 8) (hl : c / 16 = l) :
    Paired lt (s.cell c i, s.cell c k) ((s.pairLine lt l i k).cell c i, (s.pairLine lt l i k).cell c k) := by
  obtain ⟨poison, heq⟩ := pairLine_eq s lt l i k
  obtain ⟨hxi, hxk⟩ := pairCells_same (s := s) lt hi hk hl
  subst hl
  rw [heq]
  by_cases hdead : (s.lineLost (c / 16) i && s.lineLost (c / 16) k) = true
  · rw [if_pos hdead]
    rw [Bool.and_eq_true] at hdead
    obtain ⟨hdi, hdk⟩ := hdead
    simp [Paired, State.cell, hdi, hdk]
  · rw [if_neg hdead]
    generalize s.pairCells lt (c / 16) i k = t at hxi hxk ⊢
    obtain ⟨hli, hlk⟩ := tfind_tdel_tdel t.repLost (8 * (c / 16) + i) (8 * (c / 16) + k)
    exact paired_of_values hdead hxi hxk (congrArg Option.isSome hli) (congrArg Option.isSome hlk)

end Lines

/-! ## Pages (R125, R126) -/

/-- The exchange of a page between two replicas. -/
def State.pairStacks (s : State) (p : Partition) (page lt a b : Nat) : State :=
  (((List.range 32).foldl (fun s l => s.pairLine lt (32 * page + l) a b) s).soilReplica p page a).soilReplica p page b

/-- The exchange of a page that a round lets the stack at a place of the partition take part in, unless a stack is fenced. -/
def State.pairAt (s : State) (p : Partition) (page lt d i : Nat) : State :=
  let k := i ^^^ d
  let a := p.stackList.getD i 0
  let b := p.stackList.getD k 0
  if i < k ∧ k < p.stackList.length ∧ !(s.stack a).fenced ∧ !(s.stack b).fenced then s.pairStacks p page lt a b else s

theorem pairPage_eq (s : State) (p : Partition) (page lt d : Nat) :
    s.pairPage p page lt d = (List.range p.stackList.length).foldl (fun s i => s.pairAt p page lt d i) s := rfl

theorem stackList_nodup (p : Partition) : p.stackList.Nodup := List.nodup_range.filter _

theorem stackList_lt (p : Partition) (i : Nat) : p.stackList.getD i 0 < 8 := by
  by_cases h : i < p.stackList.length
  · rw [List.getD_eq_getElem _ _ h]
    exact List.mem_range.1 (List.mem_filter.1 (List.getElem_mem h)).1
  · rw [List.getD_eq_default _ _ (Nat.not_lt.1 h)]
    decide

theorem stackList_inj {p : Partition} {i k : Nat} (hi : i < p.stackList.length) (hk : k < p.stackList.length) (h : i ≠ k) :
    p.stackList.getD i 0 ≠ p.stackList.getD k 0 := by
  rw [List.getD_eq_getElem _ _ hi, List.getD_eq_getElem _ _ hk]
  exact fun heq => h ((stackList_nodup p).getElem_inj_iff.1 heq)

section Pages
variable {s : State} {p : Partition} {page lt d i k c st : Nat}

theorem soilReplica_keeps (s : State) (p : Partition) (page st : Nat) : ((s.soilReplica p page st).roundFrame,
    (s.soilReplica p page st).reps, (s.soilReplica p page st).repLost) = (s.roundFrame, s.reps, s.repLost) := by
  refine foldl_keeps (fun t : State => (t.roundFrame, t.reps, t.repLost)) (fun t h => ?_) (List.range 2) s
  dsimp only
  split <;> rfl

theorem soilReplica_cell (s : State) (p : Partition) (page a : Nat) (c st : Nat) :
    (s.soilReplica p page a).cell c st = s.cell c st :=
  congrArg (fun x : State × Tab Dword × Tab Unit => (wget x.2.1 (8 * c + st), (tfind x.2.2 (8 * (c / 16) + st)).isSome))
    (soilReplica_keeps s p page a)

theorem pairStacks_frame (s : State) (p : Partition) (page lt a b : Nat) :
    (s.pairStacks p page lt a b).roundFrame = s.roundFrame := by
  refine (congrArg Prod.fst (soilReplica_keeps ..)).trans ((congrArg Prod.fst (soilReplica_keeps ..)).trans ?_)
  refine foldl_keeps State.roundFrame (fun t l => ?_) (List.range 32) s
  exact pairLine_frame ..

theorem pairStacks_other {a b : Nat} (ha : a < 8) (hb : b < 8) (hst : st < 8) (h : c / 512 ≠ page ∨ (st ≠ a ∧ st ≠ b)) :
    (s.pairStacks p page lt a b).cell c st = s.cell c st := by
  refine (soilReplica_cell ..).trans ((soilReplica_cell ..).trans ?_)
  refine foldl_keeps_on (·.cell c st) (List.range 32) (fun t l hl => pairLine_other ha hb hst (h.imp_left fun hc => ?_)) s
  have hlt := List.mem_range.1 hl
  omega

theorem pairStacks_paired {a b : Nat} (ha : a < 8) (hb : b < 8) (hc : c / 512 = page) :
    Paired lt (s.cell c a, s.cell c b) ((s.pairStacks p page lt a b).cell c a, (s.pairStacks p page lt a b).cell c b) := by
  rw [State.pairStacks, soilReplica_cell, soilReplica_cell, soilReplica_cell, soilReplica_cell]
  refine foldl_once (fun t : State => (t.cell c a, t.cell c b)) (I := fun _ => True) (x := c / 16 % 32)
    (List.mem_range.2 (Nat.mod_lt _ (by decide))) List.nodup_range (fun _ _ h => h) (fun t l hl hne => ?_)
    (fun t _ => pairLine_paired t lt ha hb (by omega)) trivial
  have hlt := List.mem_range.1 hl
  have hline : c / 16 ≠ 32 * page + l := by omega
  exact Prod.ext (pairLine_other ha hb ha (.inl hline)) (pairLine_other ha hb hb (.inl hline))

theorem pairAt_frame (s : State) (p : Partition) (page lt d i : Nat) : (s.pairAt p page lt d i).roundFrame = s.roundFrame := by
  unfold State.pairAt
  dsimp only
  split
  · exact pairStacks_frame ..
  · rfl

/-- A stack that is neither of the two keeps its replica, and so does every stack of another page. -/
theorem pairAt_other (hst : st < 8) (h : c / 512 ≠ page ∨ (i < i ^^^ d → i ^^^ d < p.stackList.length →
      st ≠ p.stackList.getD i 0 ∧ st ≠ p.stackList.getD (i ^^^ d) 0)) : (s.pairAt p page lt d i).cell c st = s.cell c st := by
  unfold State.pairAt
  dsimp only
  split
  · next hcond =>
    obtain ⟨hlt, hlen, -, -⟩ := hcond
    exact pairStacks_other (stackList_lt p _) (stackList_lt p _) hst (h.imp_right fun h => h hlt hlen)
  · rfl

theorem pairPage_frame (s : State) (p : Partition) (page lt d : Nat) : (s.pairPage p page lt d).roundFrame = s.roundFrame := by
  rw [pairPage_eq]
  refine foldl_keeps State.roundFrame (fun t i => ?_) _ s
  exact pairAt_frame ..

theorem pairPage_other (hst : st < 8) (h : c / 512 ≠ page) : (s.pairPage p page lt d).cell c st = s.cell c st :=
  foldl_keeps_on (·.cell c st) (List.range p.stackList.length) (fun _ _ _ => pairAt_other hst (.inl h)) s

/-- Each stack is in one pair of a round (R126): two places that a round pairs are paired with no other. -/
theorem pairPage_paired (hik : i < k) (hd : k = i ^^^ d) (hk : k < p.stackList.length)
    (ha : (s.stack (p.stackList.getD i 0)).fenced = false) (hb : (s.stack (p.stackList.getD k 0)).fenced = false)
    (hc : c / 512 = page) : Paired lt (s.cell c (p.stackList.getD i 0), s.cell c (p.stackList.getD k 0))
      ((s.pairPage p page lt d).cell c (p.stackList.getD i 0), (s.pairPage p page lt d).cell c (p.stackList.getD k 0)) := by
  have hi : i < p.stackList.length := hik.trans hk
  have hkd : k ^^^ d = i := by rw [hd, Nat.xor_xor_cancel_right]
  refine foldl_once (fun t : State => (t.cell c (p.stackList.getD i 0), t.cell c (p.stackList.getD k 0)))
    (I := fun t => t.roundFrame = s.roundFrame) (x := i) (List.mem_range.2 hi) List.nodup_range
    (fun t j ht => (pairAt_frame ..).trans ht) (fun t j hj hne => ?_) (fun t ht => ?_) rfl
  · have hj := List.mem_range.1 hj
    have hjk : j < j ^^^ d → j ≠ k := fun hlt heq => by
      rw [heq, hkd] at hlt
      omega
    have hleft : j ^^^ d ≠ k := fun heq => hne (Nat.xor_left_inj.1 (heq.trans hd))
    have hright : j ≠ k → j ^^^ d ≠ i := fun hjk heq => hjk (Nat.xor_left_inj.1 (heq.trans hkd.symm))
    refine Prod.ext (pairAt_other (stackList_lt p _) (.inr fun hlt hlen => ?_)) (pairAt_other (stackList_lt p _) (.inr fun hlt hlen => ?_))
    · exact ⟨stackList_inj hi hj hne.symm, stackList_inj hi hlen (hright (hjk hlt)).symm⟩
    · exact ⟨stackList_inj hk hj (hjk hlt).symm, stackList_inj hk hlen hleft.symm⟩
  · have hstack : ∀ b, t.stack b = s.stack b := fun b => (congrArg (fun x : State => x.stack b) ht :)
    have hpair : t.pairAt p page lt d i = t.pairStacks p page lt (p.stackList.getD i 0) (p.stackList.getD k 0) := by
      subst hd
      exact if_pos ⟨hik, hk, by rw [hstack, ha]; rfl, by rw [hstack, hb]; rfl⟩
    rw [hpair]
    exact pairStacks_paired (stackList_lt p _) (stackList_lt p _) hc

end Pages

/-! ## Rounds (R125, R126) -/

theorem key_ne_of_tfind_none {α : Type} {t : Tab α} {k : Nat} (h : tfind t k = none) : ∀ e ∈ t, e.1 ≠ k := by
  induction t with
  | nil => exact fun e he => nomatch he
  | cons x r ih =>
    rw [tfind] at h
    split at h
    · cases h
    · next hx => exact List.forall_mem_cons.2 ⟨hx, ih h⟩

/-- The exchanges of a round of a partition. -/
def State.roundPages (s : State) (p : Partition) : State :=
  if ceilLog2 p.stackList.length = 0 then s
  else (s.latPages.filter fun e => p.ownsCells e.1).foldl
    (fun s e => s.pairPage p e.1 e.2 (2 ^ (p.round % max (ceilLog2 p.stackList.length) 1))) s

section Rounds
variable {s : State} {p : Partition} {n : Nat}

theorem roundPages_frame (s : State) (p : Partition) : (s.roundPages p).roundFrame = s.roundFrame := by
  unfold State.roundPages
  split
  · rfl
  · refine foldl_keeps State.roundFrame (fun t e => ?_) _ s
    exact pairPage_frame ..

/-- A round of a partition exchanges its pages, and advances its counters. -/
theorem exec_latticeRound (hp : s.part n = some p) : exec (.latticeRound n) s =
    .next ((s.roundPages p).setPart n { p with round := p.round + 1, rnd := p.rnd + 1, per := p.nextPer }) := by
  have hexec : exec (.latticeRound n) s = execLatticeRound n s := rfl
  have hpart : (s.roundPages p).part n = some p := (congrArg (fun x : State => x.part n) (roundPages_frame s p)).trans hp
  rw [hexec, execLatticeRound, hp]
  exact congrArg Host.Outcome.next (onPart_of_part hpart _)

theorem roundPages_other {c st : Nat} (hc : tfind s.latPages (c / 512) = none) (hst : st < 8) :
    (s.roundPages p).cell c st = s.cell c st := by
  unfold State.roundPages
  split
  · rfl
  · refine foldl_keeps_on (·.cell c st) _ (fun t e he => pairPage_other hst fun hpage => ?_) s
    exact key_ne_of_tfind_none hc e (List.mem_filter.1 he).1 hpage.symm

theorem roundPages_paired (hkeys : (s.latPages.map Prod.fst).Nodup) (hq : ceilLog2 p.stackList.length ≠ 0) {page lt : Nat}
    (hpage : (page, lt) ∈ s.latPages) (hown : p.ownsCells page = true) {i k c : Nat} (hik : i < k)
    (hd : k = i ^^^ 2 ^ (p.round % ceilLog2 p.stackList.length)) (hk : k < p.stackList.length)
    (ha : (s.stack (p.stackList.getD i 0)).fenced = false) (hb : (s.stack (p.stackList.getD k 0)).fenced = false)
    (hc : c / 512 = page) : Paired lt (s.cell c (p.stackList.getD i 0), s.cell c (p.stackList.getD k 0))
      ((s.roundPages p).cell c (p.stackList.getD i 0), (s.roundPages p).cell c (p.stackList.getD k 0)) := by
  rw [State.roundPages, if_neg hq, Nat.max_eq_left (Nat.one_le_iff_ne_zero.2 hq)]
  refine foldl_once (fun t : State => (t.cell c (p.stackList.getD i 0), t.cell c (p.stackList.getD k 0)))
    (I := fun t => t.roundFrame = s.roundFrame) (x := (page, lt)) (List.mem_filter.2 ⟨hpage, hown⟩) (hkeys.of_map.filter _)
    (fun t e ht => (pairPage_frame ..).trans ht) (fun t e he hne => ?_) (fun t ht => ?_) rfl
  · have hother : c / 512 ≠ e.1 := fun heq => hne
      (List.inj_on_of_nodup_map hkeys (List.mem_filter.1 he).1 hpage (heq.symm.trans hc))
    exact Prod.ext (pairPage_other (stackList_lt p _) hother) (pairPage_other (stackList_lt p _) hother)
  · have hstack : ∀ b, t.stack b = s.stack b := fun b => (congrArg (fun x : State => x.stack b) ht :)
    exact pairPage_paired hik hd hk (by rw [hstack, ha]) (by rw [hstack, hb]) hc

end Rounds

end Sys2Proof.Machine

/-! The events that strike memory without an access (R79, R87, R89 to R95, R121, R122, R125, R126, R128, R348). -/
namespace Sys2Proof.Machine

theorem exec_lxschedWrite {s : State} {n : Nat} {p : Partition} (hp : s.part n = some p) (x : BitVec 32) :
    exec (.lxschedWrite n x) s =
      .next (if x.toNat % 512 = 0 ∨ 256 < x.toNat % 512 then s else s.setPart n { p with nextPer := x.toNat % 512 }) := by
  have hexec : exec (.lxschedWrite n x) s = execLxschedWrite n x s := rfl
  rw [hexec, execLxschedWrite, onPart_of_part hp]

/-- A queued write-back reaches DRAM in turn, past no scratchpad and over no newer byte (R121). -/
theorem writebackAccepted_bytes {s : State} {n : Nat} {b : WriteBack} {rest : List WriteBack}
    (h : (tfind s.wbq n).getD [] = b :: rest) : ∃ t, exec (.writebackAccepted n) s = .next t ∧ (tfind t.wbq n).getD [] = rest ∧
      ∀ x, s.unmapped x → wget t.mem x = wget s.mem x ∧
        (b.bytes.filter (fun c => c.1 == x) = [] → tfind t.under x = tfind s.under x) ∧
        ∀ v, b.bytes.filter (fun c => c.1 == x) = [(x, v)] →
          (tfind t.under x).getD (wget t.mem x) = if (tfind s.under x).isSome then v else wget s.mem x := by
  obtain ⟨u, hexec, hparts, hsmap, hmem, hunder, hwbq⟩ := exec_writebackAccepted h
  have hqueue : (b.bytes.foldl State.acceptByte u).wbq = u.wbq := by
    refine foldl_keeps State.wbq (fun t c => ?_) b.bytes u
    exact congrArg (fun x => x.2.2) (acceptByte_maps t c)
  refine ⟨_, hexec, by rw [hqueue, hwbq], fun x hx => ?_⟩
  have hxu : u.unmapped x := unmapped_of_maps hparts hsmap hx
  rw [acceptBytes_mem hxu, hmem, ← hunder]
  refine ⟨rfl, acceptBytes_under_none b.bytes u, fun v hone => ?_⟩
  rw [← hmem]
  exact acceptBytes_under_one hxu b.bytes hone

/-- An error of a resident 16-byte word poisons the bytes of it that no core owns (R89). -/
theorem spiralError_word {s t : State} {n : Nat} (h : ∀ k, tfind t.poison k =
      if (n / 16 * 16 ≤ k ∧ k < n / 16 * 16 + 16) ∧ (tfind s.owned (k / 4)).isSome = false then some () else tfind s.poison k) :
    (∀ i < 16, tfind t.poison (n / 16 * 16 + i) = if (tfind s.owned ((n / 16 * 16 + i) / 4)).isSome
      then tfind s.poison (n / 16 * 16 + i) else some ()) ∧
      ∀ x, x < n / 16 * 16 ∨ n / 16 * 16 + 16 ≤ x → tfind t.poison x = tfind s.poison x := by
  constructor
  · intro i hi
    rw [h]
    cases (tfind s.owned ((n / 16 * 16 + i) / 4)).isSome <;> simp [hi]
  · intro x hx
    rw [h, if_neg fun hin => by omega]

/-- A round advances its counters, leaves the cells of no page as they were, and pairs the replicas of each page (R125, R126, R128). -/
theorem latticeRound_replicas {s : State} {n : Nat} {p : Partition} (hp : s.part n = some p) :
    ∃ t, exec (.latticeRound n) s = .next t ∧
      (t.part n).map (fun q => (q.round, q.rnd, q.per)) = some (p.round + 1, p.rnd + 1, p.nextPer) ∧
      (∀ c, tfind s.latPages (c / 512) = none → ∀ st < 8, wget t.reps (8 * c + st) = wget s.reps (8 * c + st)) ∧
      ((s.latPages.map Prod.fst).Nodup → ceilLog2 p.stackList.length ≠ 0 → ∀ page lt, (page, lt) ∈ s.latPages →
        p.ownsCells page = true → ∀ i k, i < k → k = i ^^^ 2 ^ (p.round % ceilLog2 p.stackList.length) → k < p.stackList.length →
        (s.stack (p.stackList.getD i 0)).fenced = false → (s.stack (p.stackList.getD k 0)).fenced = false → ∀ c, c / 512 = page →
        Paired lt (s.cell c (p.stackList.getD i 0), s.cell c (p.stackList.getD k 0))
          (t.cell c (p.stackList.getD i 0), t.cell c (p.stackList.getD k 0))) := by
  have hunlisted := fun c (hc : tfind s.latPages (c / 512) = none) st (hst : st < 8) =>
    congrArg Prod.fst (roundPages_other (p := p) hc hst)
  refine ⟨_, exec_latticeRound hp, ?_, hunlisted, ?_⟩
  · rw [State.setPart_same]
    rfl
  · intro hkeys hq page lt hpage hown i k hik hd hk ha hb c hc
    exact roundPages_paired hkeys hq hpage hown hik hd hk ha hb hc

/-- Settles O47: each event by the lemma that says what it leaves; a round of the lattice is a fold in which one step alone acts on a
cell of two replicas. -/
theorem memoryEvents : Obligations.MemoryEvents := by
  unfold Obligations.MemoryEvents
  intro s n m
  refine ⟨fun b rest h => writebackAccepted_bytes h, fun p band tile ht => ⟨fun hl => ?_, fun hl hst => exec_spiralError_lattice ht hl hst⟩,
    fun o ho => exec_onlyCopyError ho m, fun p hp => ?_, fun x p hp => exec_lxschedWrite hp x, fun k p hb hm => ?_,
    exec_smapUnmap s n m, fun i hi => ?_, fun p hp => ⟨exec_tinvcPage hp, exec_tinvcAll hp, ?_⟩⟩
  case refine_1 =>
    obtain ⟨habsent, hresident⟩ := exec_spiralError ht hl
    refine ⟨habsent, fun hr => ?_⟩
    obtain ⟨t, hexec, hstate, hpoison⟩ := hresident hr
    exact ⟨t, hexec, hstate, spiralError_word hpoison⟩
  case refine_2 => exact latticeRound_replicas hp
  case refine_3 =>
    refine ⟨fun hv hbad => ?_, exec_smapMap_refused hb, fun hwb hlen => ?_⟩
    · obtain ⟨t, hexec, hentry, hmem, hspad, hgone, hmapped⟩ := exec_smapMap hb hm rfl hv hbad
      refine ⟨t, hexec, hentry, hmem, hspad, fun b hin hfull x hx => ?_, fun a hnone ha => hmapped a hnone ha.1 ha.2⟩
      obtain ⟨hlo, hhi⟩ := hx
      rw [Nat.mul_div_cancel_left _ (by decide)] at hlo hhi
      exact hgone b hin hfull x hlo hhi
    · obtain ⟨hspad, hentry, -⟩ := smapDone_eq (s := s) (n := n) (m := m) rfl p
      exact ⟨_, exec_smapWritebackDone hb hwb, hentry, hspad, fun o ho => smapDone_range hlen rfl ho,
        fun a ha => smapDone_other hlen rfl ha⟩
  case refine_4 =>
    simp only [List.mem_cons, List.not_mem_nil, or_false] at hi
    rcases hi with rfl | rfl | rfl
    · exact ⟨_, rfl, reserveBand_eq s (n % 64) 1 32768 limit_ring8⟩
    · exact ⟨_, rfl, reserveBand_eq s (n % 64) 2 16384 limit_rings78⟩
    · exact ⟨_, rfl, reserveBand_eq s (n % 64) 0 65536 limit_free⟩
  case refine_5 =>
    obtain ⟨t, hexec, hpart, htlb, hmem, howned, hnamed⟩ := exec_tinvcComplete hp
    refine ⟨t, hexec, hpart, htlb, hmem, howned, fun hall c hc hn => ?_, fun v hv c hc hn => ?_⟩
    · exact Bool.false_ne_true (hnamed none hall c hc hn).symm
    · have hout := of_decide_eq_false (hnamed (some v) hv c hc hn)
      omega

end Sys2Proof.Machine

namespace Sys2Proof.Machine

/-! Stores (R227 to R229): each form is `storeOp` for its kind and size. -/

/-- Settles O21: each form of store is `storeOp` for its kind and size, and `store_done` gives what the threads' turns leave. -/
theorem storeResults : Obligations.StoreResults := by
  unfold Obligations.StoreResults
  intro s c w a d t hi ha
  exact ⟨fun z o q hd ht => store_done hi (clear_and ha hd) ht, fun z o q hd ht => store_done hi (clear_and ha hd) ht,
    fun f hd ht => store_done hi (clear_and ha hd) ht, fun f hd ht => store_done hi (clear_and ha hd) ht⟩

end Sys2Proof.Machine

namespace Sys2Proof.Machine

/-! The submission of an engine command (R116, R246 to R250): the entry that it takes, its task and its token. -/

/-! ## View times of a mask (R101, R116) -/

theorem toNat_laterOf (a b : Dword) : (laterOf a b).toNat = max a.toNat b.toNat := by
  unfold laterOf
  split <;> omega

theorem le_foldl_laterOf {α : Type} (f : α → Dword) (l : List α) (v : Dword) :
    v.toNat ≤ (l.foldl (fun v x => laterOf v (f x)) v).toNat ∧
      ∀ x ∈ l, (f x).toNat ≤ (l.foldl (fun v x => laterOf v (f x)) v).toNat := by
  induction l generalizing v with
  | nil => simp
  | cons y r ih =>
    obtain ⟨hbase, hrest⟩ := ih (laterOf v (f y))
    rw [toNat_laterOf] at hbase
    simp only [List.foldl_cons, List.forall_mem_cons]
    exact ⟨by omega, by omega, hrest⟩

/-- What threads have seen is no later than the view time of their mask. -/
theorem view_le_viewIn (w : Warp) {m : Word} {i : Nat} (hi : i < 32) (hm : inMask m i = true) :
    (w.thread i).view.toNat ≤ (w.viewIn m).toNat :=
  (le_foldl_laterOf (fun t => (w.thread t).view) (threadsOf m) 0).2 i (mem_threadsOf.2 ⟨hi, hm⟩)

/-- A command with ACQ for x, and one behind a fence that names x, is ordered before its accesses (R116). -/
theorem orders_of_acquire {w : Warp} {m : Word} {acq : Bool} {cmd : Command} (hq : cmd.queue ≠ 1)
    (h : acq = true ∧ cmd.obs.testBit 1 = true ∨
      ∃ i < 32, inMask m i = true ∧ (w.thread i).fences.getLsbD 1 = true) : w.orders m acq cmd = true := by
  unfold Warp.orders
  rcases h with ⟨hacq, hobs⟩ | ⟨i, hi, hm, hfence⟩
  · simp [hacq, hobs]
  · have hany : ((threadsOf m).any fun t => (w.thread t).fences.getLsbD 1) = true :=
      List.any_eq_true.2 ⟨i, mem_threadsOf.2 ⟨hi, hm⟩, hfence⟩
    rw [hany, bne_iff_ne.2 hq, Bool.and_true, Bool.or_true]

/-! ## The entry and the token (R246, R250) -/

theorem pickEntry_mem {s : State} {k : Core} (h : k.freeEntries ≠ []) : s.pickEntry k ∈ k.freeEntries := by
  have hlt := Nat.mod_lt (Config.freeDword s.draws 0).toNat (List.length_pos_iff.2 h)
  rw [State.pickEntry, List.getD_eq_getElem _ _ hlt]
  exact List.getElem_mem hlt

theorem joinBatch_sreg (w : Warp) (fresh n : Nat) : (w.joinBatch fresh).1.sreg n = w.sreg n := by
  unfold Warp.joinBatch
  split <;> rfl

/-- A warp whose token register, if a form has one, has got a token. -/
def Warp.tokened (w : Warp) (tk : Option Nat) (x : Word) : Warp := match tk with | some n => w.setS n x | none => w

theorem tokened_same (w : Warp) (n : Nat) (x : Word) : (w.tokened (some n) x).sreg n = x := Warp.setS_same ..

theorem tokened_other (w : Warp) {tk : Option Nat} {n : Nat} (x : Word) (h : tk ≠ some n) : (w.tokened tk x).sreg n = w.sreg n := by
  cases tk with
  | none => rfl
  | some k => exact Warp.setS_other _ _ _ fun hn => h (by rw [hn])

/-- What a submission leaves of the core and of the warp, and the task that its entry holds. -/
theorem submit_eq {s : State} {c : Cur} {w : Warp} (tk : Option Nat) (batched acq rel : Bool) (cmd : Command)
    (h : (s.core (s.coreOf w)).freeEntries ≠ []) :
    let k := s.core (s.coreOf w)
    let ent := s.pickEntry k
    ∃ (t : State) (w1 : Warp) (task : Task), s.submit c w tk batched acq rel cmd = .done t ∧
      t.core (s.coreOf w) =
        { k.setEntry ent { k.entry ent with seq := (k.entry ent).seq + 1, task := some task } with submitted := k.submitted + 1 } ∧
      t.warp c.warp = some (w1.tokened tk (tokenOf ((k.entry ent).seq + 1) ent)) ∧ (∀ n, w1.sreg n = w.sreg n) ∧
      task.cmd = cmd ∧ task.order = k.submitted ∧ task.started = false ∧ task.warp = c.warp ∧ task.crew = w.crew ∧
      task.acq = acq ∧ task.rel = rel ∧ task.stamp = if w.orders c.taking acq cmd then w.viewIn c.taking else 0 := by
  intro k ent
  have hjoin : ∀ n, (if batched then w.joinBatch s.fresh else (w, 0)).1.sreg n = w.sreg n := by
    intro n
    split
    · exact joinBatch_sreg ..
    · rfl
  unfold State.submit
  dsimp only
  rw [if_neg (by simpa using h)]
  refine ⟨_, _, _, rfl, State.setCore_same .., ?_, hjoin, rfl, rfl, rfl, rfl, rfl, rfl, rfl, rfl⟩
  exact State.setWarp_same ..

/-- Settles O28: `submit_eq` says what a submission leaves of its core and its warp; the entry is a free one (`pickEntry_mem`), and
an ordered command starts from the view time of its threads (`orders_of_acquire`, `view_le_viewIn`). -/
theorem submissionResults : Obligations.SubmissionResults := by
  unfold Obligations.SubmissionResults
  intro s c w tk batched acq rel cmd hfree hw k ent
  obtain ⟨t, w1, task, hsubmit, hcore, hwarp, hregs, hcmd, horder, hstarted, htw, htc, hacq, hrel, hstamp⟩ :=
    submit_eq (c := c) tk batched acq rel cmd hfree
  refine ⟨pickEntry_mem hfree, t, task, hsubmit, ?_, hcmd, horder, hstarted, htw, htc, hacq, hrel,
    fun hq hordered i hi hm => ?_, ?_, fun e he => ?_, fun n hn _ => ?_, fun n hn => ?_⟩
  · rw [hcore]
    exact Core.setEntry_same ..
  · rw [hstamp, if_pos (orders_of_acquire hq hordered)]
    exact view_le_viewIn w hi hm
  · rw [hcore]
  · rw [hcore]
    exact Core.setEntry_other _ _ _ he
  · rw [hwarp, hn, Option.map_some, tokened_same]
  · rw [hwarp, Option.map_some, tokened_other _ _ hn, hregs]

end Sys2Proof.Machine

namespace Sys2Proof.Machine

/-! Task and batch forms (R250 to R256, R273): what each leaves when it goes on, and what it waits for. -/

section Forms
variable {s : State} {c : Cur} {w : Warp} {k : Crew} {u : Uses}

/-- A form of the warp that waits: its threads wait, and the others of the group pass by. -/
theorem unitOp_waits {sw : Bool} {f : State → Cur → Warp → Act} {t : State} {x : Wait} (hi : Issuing s c w) (hc : Clear c w u)
    (h : f (s.switchIf sw) c w = .wait t x) :
    unitOp s u none sw f = .next ((t.advance c (c.group &&& ~~~c.taking)).await c c.taking x) := by
  unfold unitOp
  rw [onIssue_issuing hi, gated_clear hc]
  simp only [h]

/-- The same for a form of a crew. -/
theorem engineOp_waits {sw : Bool} {f : State → Cur → Warp → Crew → Answer Act} {x : Wait} (hi : Issuing s c w)
    (hk : s.crewOf w = some k) (hc : Clear c w u) (h : f (s.switchIf sw) c w k = .wait x) :
    engineOp s u sw f = .next (((s.switchIf sw).advance c (c.group &&& ~~~c.taking)).await c c.taking x) := by
  refine unitOp_waits hi hc ?_
  have hk' : (s.switchIf sw).crewOf w = some k := hk
  simp only [hk', h]

/-- What threads see once they have acquired a time (R102, R117). -/
theorem acquire_issuing (hi : Issuing s c w) (m : Word) (v : Dword) : s.acquire c.warp m v =
    if v = 0 then s else s.setWarp c.warp (w.onThreads m fun th => { th with view := laterOf th.view v }) := by
  unfold State.acquire
  split
  · rfl
  · exact onWarp_issuing hi

theorem issuing_switched (hi : Issuing s c w) : Issuing s.switched c w := hi

/-! ## TSK (R273) -/

theorem exec_tskSub {x : BitVec 4} {a tk : BitVec 5} (hi : Issuing s c w) (hk : s.crewOf w = some k)
    (hc : Clear c w ((useS a.toNat 1).and (useD tk.toNat 1))) (hlo : 1 ≤ (w.sreg a.toNat).toNat) (hhi : (w.sreg a.toNat).toNat ≤ 16)
    (hfull : ((s.core (s.coreOf w)).logical x.toNat).full = true) {t : State}
    (ht : s.submit c w (some tk.toNat) false false false (.hold x.toNat (w.sreg a.toNat).toNat) = .done t) :
    exec (.tskSub x a tk) s = .next (t.advance c c.group) := by
  have hcount : ¬ ((w.sreg a.toNat).toNat = 0 ∨ 16 < (w.sreg a.toNat).toNat) := by omega
  refine engineOp_done hi hk hc ?_
  rw [switchIf_false]
  simp only [if_neg hcount, hfull, Bool.not_true, Bool.false_eq_true, if_false, ht]

theorem exec_tskWait {tk : BitVec 5} (hi : Issuing s c w) (hk : s.crewOf w = some k) (hc : Clear c w (useS tk.toNat 1)) :
    let n := ((c.sees w).sreg tk.toNat).toNat
    let e := s.core (s.coreOf w)
    (e.finished (n / 64) (n % 64) = true → exec (.tskWait tk) s =
      .next ((s.switched.acquire c.warp c.taking (e.entry (n % 64)).stamp).advance c c.group)) ∧
    (e.finished (n / 64) (n % 64) = false → exec (.tskWait tk) s =
      .next ((s.switched.advance c (c.group &&& ~~~c.taking)).block c c.taking (.task (n % 64) (n / 64)))) := by
  intro n e
  refine ⟨fun h => ?_, fun h => ?_⟩
  · refine engineOp_done hi hk hc ?_
    rw [switchIf_true]
    exact if_pos h
  · rw [← switchIf_true]
    refine engineOp_waits (x := .task (n % 64) (n / 64)) hi hk hc ?_
    rw [switchIf_true]
    exact if_neg (Bool.eq_false_iff.1 h)

theorem exec_tskBstat {d : BitVec 5} (hi : Issuing s c w) (hk : s.crewOf w = some k) (hc : Clear c w (useD d.toNat 1)) :
    exec (.tskBstat d) s = .next ((s.setWarp c.warp (w.setS d.toNat (maskOf fun t =>
      if t < 16 then ((s.core (s.coreOf w)).buf t).full else if t < 24 then ((s.core (s.coreOf w)).acc (t - 16)).defined
      else ((s.core (s.coreOf w)).acc (t - 24)).mitt == some c.warp))).advance c c.group) := by
  change execTskBstat d s = _
  exact engineOp_done hi hk hc (by rw [switchIf_false])

theorem exec_tskBclr {x : BitVec 4} (hi : Issuing s c w) (hk : s.crewOf w = some k) (hc : Clear c w Uses.none)
    (h : ∀ t ∈ (s.core (s.coreOf w)).tasks, x.toNat ∉ t.cmd.names) : exec (.tskBclr x) s =
      .next ((s.setCore (s.coreOf w) ((s.core (s.coreOf w)).setBuf x.toNat Buf.init)).advance c c.group) := by
  have hfree : ((s.core (s.coreOf w)).tasks.any fun t => t.cmd.names.contains x.toNat) = false :=
    List.any_eq_false.2 fun t ht => by simpa using h t ht
  refine engineOp_done hi hk hc ?_
  rw [switchIf_false]
  exact if_neg (Bool.eq_false_iff.1 hfree)

/-! ## SEAL (R251, R252) -/

theorem exec_seal_empty {d : BitVec 6} (hi : Issuing s c w) (hc : Clear c w (useD d.toNat 1)) (h : w.openBatch = none) :
    exec (.seal d) s = .next ((s.setWarp c.warp (w.setS d.toNat 1)).advance c c.group) := by
  refine unitOp_done hi hc ?_
  rw [switchIf_false, h]

theorem exec_seal_closes {d : BitVec 6} {b : Batch} (hi : Issuing s c w) (hc : Clear c w (useD d.toNat 1))
    (h : w.openBatch = some b) (hroom : w.sealedCount < 16) : exec (.seal d) s = .next ((s.setWarp c.warp
      (Warp.finishBatch { w.closeBatch (some d.toNat) with pend := tput w.pend d.toNat (.batch b.id) } b.id)).advance c c.group) := by
  refine unitOp_done hi hc ?_
  rw [switchIf_false, h]
  exact if_neg (Nat.not_le.2 hroom)

theorem exec_seal_waits {d : BitVec 6} {b : Batch} (hi : Issuing s c w) (hc : Clear c w (useD d.toNat 1))
    (h : w.openBatch = some b) (hfull : 16 ≤ w.sealedCount) : exec (.seal d) s =
      .next ((s.advance c (c.group &&& ~~~c.taking)).stall c c.taking .sealLimit) := by
  refine unitOp_waits (x := .sealLimit) (t := s) hi hc ?_
  rw [switchIf_false, h]
  exact if_pos hfull

theorem exec_waitn {a : BitVec 7} (hi : Issuing s c w) (hc : Clear c w Uses.none) :
    (w.sealedCount ≤ a.toNat →
      exec (.waitn a) s = .next ((s.switched.acquire c.warp c.taking w.ended).advance c c.group)) ∧
    (a.toNat < w.sealedCount → exec (.waitn a) s =
      .next ((s.switched.advance c (c.group &&& ~~~c.taking)).block c c.taking (.batches a.toNat))) := by
  refine ⟨fun h => ?_, fun h => ?_⟩
  · refine unitOp_done hi hc ?_
    rw [switchIf_true]
    exact if_pos h
  · refine unitOp_waits (x := .batches a.toNat) (t := s.switched) hi hc ?_
    rw [switchIf_true]
    exact if_neg (Nat.not_le.2 h)

/-! ## TD (R254, R255) -/

theorem onCrew_crew (s : State) {n : Nat} {k : Crew} (f : Crew → Crew) (h : s.crew n = some k) :
    (s.onCrew n f).crew n = some (f k) := by
  rw [State.onCrew, h]
  exact State.setCrew_same ..

theorem onPart_crew (s : State) (n : Nat) (f : Partition → Partition) (j : Nat) : (s.onPart n f).crew j = s.crew j := by
  unfold State.onPart
  split <;> rfl

/-- A valid record that `tdset` reads becomes the descriptor of its number in the crew of the warp (R255). -/
theorem exec_tdset {a : BitVec 7} {d : BitVec 6} {r : State × Dword × List Byte} (hi : Issuing s c w)
    (hc : Clear c w (useUni a 2))
    (hread : s.threadLoad { core := s.coreOf w, sup := w.supIn c.taking, view := w.viewIn c.taking } 0 (s.uarg64 c w a) 64 = .ok r)
    (hvalid : Desc.valid (registersOf r.2.2) = true) : ∃ t : State, exec (.tdset a d) s = .next (t.advance c c.group) ∧
      ∀ n, t.crew n = (r.1.onCrew w.crew fun k => { k with td := tput k.td d.toNat (registersOf r.2.2) }).crew n := by
  have hread' : s.threadLoad { core := s.coreOf w, sup := w.supIn c.taking, view := w.viewIn c.taking } 0
      ((s.ctx c w).usrc64 a) 64 = .ok r := hread
  change ∃ t : State, execTdset a d s = _ ∧ _
  refine ⟨?_, unitOp_done hi hc ?_, ?_⟩
  rotate_left
  · rw [switchIf_false]
    dsimp only
    rw [hread']
    dsimp only
    rw [if_neg (by rw [hvalid]; simp)]
  · intro n
    split
    · split
      · rw [onPart_crew, onWarp_crew]
      · exact onWarp_crew ..
    · exact onWarp_crew ..

theorem exec_tdget {x : BitVec 4} {a d : BitVec 6} (hi : Issuing s c w) (hk : s.crewOf w = some k)
    (hc : Clear c w (useD d.toNat 1)) : exec (.tdget x a d) s =
      .next ((s.setWarp c.warp (w.setS d.toNat (Desc.word ((tfind k.td a.toNat).getD []) x.toNat))).advance c c.group) := by
  change execTdget x a d s = _
  refine unitOp_done hi hc ?_
  rw [switchIf_false, hk]
  rfl

end Forms

/-- Settles O33: each form by the lemma that says what it comes to; what a wait acquires is `acquire_issuing`. -/
theorem taskForms : Obligations.TaskForms := by
  unfold Obligations.TaskForms
  intro s c w crew hi hk core k goes sees others
  have hsees : ∀ v, s.switched.acquire c.warp c.taking v = sees v := acquire_issuing (issuing_switched hi) c.taking
  refine ⟨fun x a tk hc => ?_, fun tk hc => ?_, fun d hc => exec_tskBstat hi hk hc,
    fun x hc hnamed => exec_tskBclr hi hk hc hnamed,
    fun d hc => ⟨exec_seal_empty hi hc, fun b hb => ⟨exec_seal_closes hi hc hb, exec_seal_waits hi hc hb⟩⟩, fun a hc => ?_,
    fun a d r hc hread hvalid => ?_, fun x a d hc => exec_tdget hi hk hc⟩
  · intro n hn hfull hfree
    obtain ⟨t, ht⟩ := submit_done (c := c) (tk := some tk.toNat) (batched := false) (acq := false) (rel := false)
      (cmd := .hold x.toNat n) hfree
    exact ⟨t, ht, exec_tskSub hi hk hc hn.1 hn.2 hfull ht⟩
  · intro tok
    rw [← hsees]
    exact exec_tskWait hi hk hc
  · rw [← hsees]
    exact exec_waitn hi hc
  · obtain ⟨t, hexec, hcrew⟩ := exec_tdset (d := d) hi hc hread hvalid
    refine ⟨t, hexec, fun hkept => ?_⟩
    rw [hcrew, onCrew_crew _ _ hkept]
    exact tfind_tput_same ..

end Sys2Proof.Machine

namespace Sys2Proof.Machine

/-! Fences, range maintenance and `zline` (R105, R118 to R121, R236 to R238): the forms, and what each does to a line of DRAM. -/

/-! ## Fences (R105, R118) -/

theorem exec_fence {s : State} {c : Cur} {w : Warp} (hi : Issuing s c w) (hc : Clear c w Uses.none) (m : BitVec 5) :
    exec (.fence m) s = .next (if m = 0 then s.advance c c.group else
      (({ s with draws := s.draws + 1 }).onWarp c.warp fun w => w.onThreads c.taking (Thread.fence m s.draws)).advance c c.group) := by
  have hexec : exec (.fence m) s = execFence m s := rfl
  have hdrawn : Issuing s.drawn c w := hi
  rw [hexec, execFence, onIssue_issuing hi, gated_clear hc, switchIf_false]
  split
  · rfl
  · rw [onWarp_issuing hi]
    have hafter : s.drawn.onWarp c.warp (fun w => w.onThreads c.taking (Thread.fence m s.draws)) =
        s.drawn.setWarp c.warp (w.onThreads c.taking (Thread.fence m s.draws)) := onWarp_issuing hdrawn
    exact congrArg (fun t : State => Host.Outcome.next (t.advance c c.group)) hafter.symm

/-- A `zline` in one thread (R238). -/
def zeroTurn (c : Cur) (a : BitVec 7) (m : BitVec 5) (s : State) (w : Warp) (t : Nat) : Option State :=
  turn c t (s.threadZero ((s.whoIs c w t).as (kindOf m .strong) m) (s.addressOf c w t a)) (fun r => r.1) fun r th =>
    { th with view := r.2 }

theorem exec_zline {s t : State} {c : Cur} {w : Warp} {a : BitVec 7} {m : BitVec 5} (hi : Issuing s c w)
    (hc : Clear c w (useSrc a 2)) (ht : turns c (zeroTurn c a m) (threadsOf c.taking) (s.passed c) = some t) :
    exec (.zline a m) s = .next t := by
  refine eachOp_done (sw := false) (g := zeroTurn c a m) hi hc (fun s w i t' h => ?_) (by rwa [switchIf_false])
  exact turn_act h

/-! ## Lost lines and stacks -/

/-- What decides whether a line of DRAM is lost (R122, R319): the lost lines and the stacks. -/
def State.fate (s : State) : Tab Unit × Tab Stack := (s.lost, s.stackTab)

theorem fate_of_ground {s t : State} (h : t.ground = s.ground) : t.fate = s.fate := (congrArg State.fate h :)

theorem lost_of_fate {s t : State} (h : t.fate = s.fate) : t.lost = s.lost := congrArg (·.1) h

theorem deadHome_of_fate {s t : State} (h : t.fate = s.fate) (p : Partition) (pa a : Nat) :
    t.deadHome (.dram p pa a) = s.deadHome (.dram p pa a) := by
  have hstacks : t.stackTab = s.stackTab := congrArg (·.2) h
  simp only [State.deadHome, State.stack, hstacks]

theorem released_fate (s : State) (w : Who) (b : Bool) : (s.released w b).fate = s.fate := by
  unfold State.released
  split
  · exact fate_of_ground (giveBacks_ground ..)
  · rfl

theorem touchTarget_ground (s : State) (b : Bool) (t : Target) (handle : Nat) : (s.touchTarget b t handle).ground = s.ground := by
  unfold State.touchTarget
  split <;> rfl

theorem writeTime_fate (s : State) (ws : List Nat) (v : Dword) : (s.writeTime ws v).1.fate = s.fate := by
  unfold State.writeTime
  refine foldl_keeps (fun x : State × Dword => x.1.fate) (fun x w => ?_) ws (s, v)
  rfl

theorem putBytes_fate (s : State) (d : Bool) (a : Nat) (bs : List Byte) : (s.putBytes d a bs).fate = s.fate := by
  induction bs generalizing s a with
  | nil => rfl
  | cons b r ih => exact ih ..

theorem refresh_fate (s : State) (key core : Nat) (ws : List Nat) : (s.refresh key core ws).fate = s.fate := by
  refine foldl_keeps State.fate (fun s w => ?_) ws s
  split <;> rfl

theorem writeKeep_dram_fate (s : State) (keep : Nat) (v : Dword) (p : Partition) (pa a : Nat) (bs : List Byte) :
    (s.writeKeep keep v (.dram p pa a) bs).1.fate = s.fate := by
  have htime : ∀ ws, ((s.recallAll ws).writeTime ws v).1.fate = s.fate := fun ws =>
    (writeTime_fate ..).trans (fate_of_ground (giveBacks_ground ..))
  unfold State.writeKeep State.putHome
  dsimp only
  split <;> exact (putBytes_fate ..).trans (htime _)

/-- A store that is performed at its home slice loses no line and finds none. -/
theorem store_dram_fate (s : State) (core id : Nat) {rq : Nat} (hrq : rq ≠ 0) (v : Dword) (p : Partition) (pa a : Nat)
    (bs : List Byte) : (s.store core id rq v (.dram p pa a) bs).1.fate = s.fate := by
  have hhome : ∀ keep, ((s.touchTarget (decide (rq ≠ 4)) (.dram p pa a) 0).writeKeep keep v (.dram p pa a) bs).1.fate = s.fate :=
    fun keep => (writeKeep_dram_fate ..).trans (fate_of_ground (touchTarget_ground ..))
  unfold State.store
  dsimp only
  rw [if_neg (show ¬ Target.typeOf (.dram p pa a) rq = 0 from hrq)]
  dsimp only
  split
  · exact hhome _
  · exact (refresh_fate ..).trans (hhome _)

/-! ## A line that `zline` writes (R238) -/

theorem threadZero_dram {s s1 : State} {w : Who} {va : Dword} {x : Site} {p : Partition} {pa a : Nat}
    (h : s.site w va 128 needWrite = .ok (s1, x, .dram p pa a)) (hdead : s1.deadHome (.dram p pa a) = false) :
    ∃ r, s.threadZero w va = .ok r ∧ r.1.mem = memPut s1.mem a (List.replicate 128 0) ∧ r.1.lost = tdel s1.lost (a / 128) := by
  have hrel := released_fate s1 w w.releases
  have hdead' : ¬ (s1.released w w.releases).deadHome (.dram p pa a) = true := by
    rw [deadHome_of_fate hrel, hdead]
    exact Bool.false_ne_true
  simp only [State.threadZero, h, Answer.andThen, if_neg hdead']
  refine ⟨_, rfl, (store_dram_mem ..).trans ?_, (lost_of_fate (store_dram_fate _ _ _ one_ne_zero ..)).trans ?_⟩
  · exact congrArg (memPut · a _) (mem_of_contents (released_contents s1 w w.releases) :)
  · exact congrArg (tdel · (a / 128)) (lost_of_fate hrel)

/-! ## Words of a line that go home (R119, R120) -/

section Home
variable {s : State} {core k : Nat}

theorem giveBack_owns (s : State) (core w k : Nat) : (s.giveBack w).owns core k = (k != w && s.owns core k) := by
  unfold State.owns
  rw [(giveBack_ground s w).2]
  by_cases hk : k = w
  · rw [hk, tfind_tdel_same, bne_self_eq_false, Bool.false_and]
  · rw [tfind_tdel_other _ hk, bne_iff_ne.2 hk, Bool.true_and]

/-- The words of a list that a core owns go home, and no word becomes its own. -/
theorem sendOwn_owns (ws : List Nat) (s : State) :
    (ws.foldl (fun s w => if s.owns core w then s.giveBack w else s) s).owns core k = (!ws.contains k && s.owns core k) := by
  induction ws generalizing s with
  | nil => rfl
  | cons w r ih =>
    have hstep : (if s.owns core w then s.giveBack w else s).owns core k = (k != w && s.owns core k) := by
      split
      · exact giveBack_owns ..
      · next h =>
        by_cases hk : k = w
        · rw [hk, bne_self_eq_false, Bool.false_and, Bool.eq_false_iff.2 h]
        · rw [bne_iff_ne.2 hk, Bool.true_and]
    rw [List.foldl_cons, ih, hstep, List.contains_cons, Bool.not_or, bne, Bool.and_left_comm, Bool.and_assoc]

theorem lineHome_owns {t : Target} (h : k ∈ t.words 128) : (s.lineHome core t).owns core k = false := by
  unfold State.lineHome
  rw [sendOwn_owns, List.contains_iff_mem.2 h]
  rfl

theorem lineHome_contents (s : State) (core : Nat) (t : Target) : (s.lineHome core t).contents = s.contents := by
  refine foldl_keeps State.contents (fun s w => ?_) _ s
  split
  · exact giveBack_contents ..
  · rfl

/-- What `cwb` does to a line of DRAM besides sending words home is to queue a write-back. -/
theorem cleanLine_dram (s : State) (core : Nat) (p : Partition) (pa a : Nat) (far : List (Nat × Nat)) :
    (s.cleanLine core (.dram p pa a) far).1.mem = s.mem ∧
      (s.cleanLine core (.dram p pa a) far).1.owned = (s.lineHome core (.dram p pa a)).owned := by
  have hmem := mem_of_contents (lineHome_contents s core (.dram p pa a))
  unfold State.cleanLine
  dsimp only
  split
  · obtain ⟨hground, -, howned⟩ := queueBack_ground (s.lineHome core (.dram p pa a)) (p.home (pa / 2048))
      (p.priorityOf ((((Spiral.of (s.lineHome core (.dram p pa a)) (p.home (pa / 2048))).record (pa / 2048)).map
        Tile.handle).getD 0))
      (far.flatMap fun x => (s.lineHome core (.dram p pa a)).staleBytes (a - a % 2048 + x.1) x.2)
    exact ⟨(mem_of_ground hground).trans hmem, howned⟩
  · exact ⟨hmem, rfl⟩

/-- A copy that a core drops is gone from its data cache. -/
theorem dropCopies_gone (s : State) {ws : List Nat} (hcore : core < 4096) (hk : k ∈ ws) :
    tfind (s.dropCopies core ws).copies (4096 * k + core) = none ∧ tfind (s.dropCopies core ws).shared (4096 * k + core) = none := by
  have hmod : (4096 * k + core) % 4096 = core := by omega
  have hdiv : (4096 * k + core) / 4096 = k := by omega
  have hgone : (!((4096 * k + core) % 4096 == core && ws.contains ((4096 * k + core) / 4096))) = false := by
    rw [hmod, hdiv, beq_self_eq_true, List.contains_iff_mem.2 hk]
    rfl
  constructor
  all_goals
    refine (tfind_filter _ (fun j => !(j % 4096 == core && ws.contains (j / 4096))) _).trans ?_
    rw [hgone]
    rfl

end Home

/-! ## A line that `cwb` or `cinv` meets -/

section Line
variable {s s1 : State} {w : Who} {va : Dword} {n : Nat} {x : Site} {p : Partition} {pa a : Nat}

theorem eachLine_one {f : State → Dword → Answer (State × List Nat)} {r : State × List Nat} (h : f s va = .ok r) :
    State.eachLine f 1 va s [] = (r.1, r.2, none) := by
  simp only [State.eachLine, h, List.nil_append]

theorem cwbRange_line (m : BitVec 5) (hn : lineCount va n = 1)
    (h : s.lineSite w needRead (firstLine va) = .ok (s1, x, .dram p pa a)) : ∃ t ids, s.cwbRange m w va n = (t, ids, none) ∧
      t.mem = s1.mem ∧ ∀ k ∈ wordsOf a 128, t.owns w.core k = false := by
  unfold State.cwbRange
  rw [hn, eachLine_one (r := s1.cleanLine w.core (.dram p pa a) _) (by rw [h]; rfl)]
  obtain ⟨hmem, howned⟩ := cleanLine_dram s1 w.core p pa a _
  refine ⟨_, _, rfl, hmem, fun k hk => ?_⟩
  rw [State.owns, howned]
  exact lineHome_owns (t := .dram p pa a) hk

theorem cinvRange_line (hn : lineCount va n = 1) (hcore : w.core < 4096)
    (h : s.lineSite w needRead (firstLine va) = .ok (s1, x, .dram p pa a)) : ∃ t, s.cinvRange w va n = (t, [], none) ∧
      t.mem = s1.mem ∧ ∀ k ∈ wordsOf a 128, t.owns w.core k = false ∧
        tfind t.copies (4096 * k + w.core) = none ∧ tfind t.shared (4096 * k + w.core) = none := by
  unfold State.cinvRange
  rw [hn, eachLine_one (r := ((s1.dropLine w.core (.dram p pa a)).dropCode w.core x.pa, [])) (by rw [h]; rfl)]
  exact ⟨_, rfl, mem_of_contents (lineHome_contents s1 w.core (.dram p pa a)), fun k hk =>
    ⟨lineHome_owns (t := .dram p pa a) hk, dropCopies_gone _ hcore hk⟩⟩

/-! ## A line that is discarded (R121) -/

/-- A range of one line of DRAM is discarded whole. -/
theorem discardRange_line {s2 : State} (hva : va.toNat % 128 = 0) (h : s.site w va 1 needWrite = .ok (s1, x, .dram p pa a))
    (h1 : s1.site w va 1 needWrite = .ok (s2, x, .dram p pa a)) (hlost : s1.lostTarget (.dram p pa a) = false) :
    s.discardRange w va 128 = (s1.discardLine a, [], none) := by
  have haligned : ¬ (va.toNat % 128 ≠ 0 ∨ 128 % 128 ≠ 0) := by omega
  have hwhole : ((List.range 16).all fun i => [(p, pa, a)].any fun k => k.2.1 == pa + 128 * i) = false :=
    List.all_eq_false.2 ⟨1, by decide, by simp⟩
  unfold State.discardRange
  rw [if_neg haligned, show 128 / 128 = 1 from rfl, eachLine_one (r := (s1, [])) (by rw [h]; rfl)]
  have hfirst : va + BitVec.ofNat 64 (128 * 0) = va := by simp
  simp only [List.range_one, List.filterMap_cons, List.filterMap_nil, hfirst, h1, List.filter_cons, List.filter_nil, hlost, hwhole,
    Bool.and_false, Bool.not_false, Bool.false_eq_true, if_true, if_false, List.foldl_cons, List.foldl_nil]

theorem discardLine_mem_same {b : Nat} {v : Byte} (hb : b / 128 = a / 128)
    (hone : s.under.filter (fun e => e.1 == b) = [(b, v)]) : wget (s.discardLine a).mem b = v := by
  refine wget_puts_one (dest := id) _ s.mem (fun _ _ h => h) ?_
  rw [List.filter_filter, ← hone]
  refine List.filter_congr fun e _ => ?_
  by_cases he : e.1 = b
  · simp [he, hb]
  · simp [he]

theorem discardLine_mem_other {b : Nat} (hb : b / 128 ≠ a / 128 ∨ tfind s.under b = none) :
    wget (s.discardLine a).mem b = wget s.mem b := by
  refine wget_puts_other (dest := id) _ s.mem fun e he heb => ?_
  obtain ⟨hin, hline⟩ := List.mem_filter.1 he
  have heb' : e.1 = b := heb
  rcases hb with hb | hb
  · rw [heb'] at hline
    exact hb (by simpa using hline)
  · exact key_ne_of_tfind_none hb e hin heb'

theorem discardLine_gone {b : Nat} (hb : b / 128 = a / 128) :
    tfind (s.discardLine a).under b = none ∧ tfind (s.discardLine a).owned (b / 4) = none := by
  have hword : 4 * (b / 4) / 128 = a / 128 := by omega
  refine ⟨(tfind_filter s.under (fun j => !(j / 128 == a / 128)) b).trans ?_,
    (tfind_filter s.owned (fun j => !(4 * j / 128 == a / 128)) (b / 4)).trans ?_⟩
  · rw [hb, beq_self_eq_true]
    rfl
  · rw [hword, beq_self_eq_true]
    rfl

/-- No queued write-back holds a byte of a line that has been discarded. -/
theorem discardLine_wbq : ∀ e ∈ (s.discardLine a).wbq, ∀ b ∈ e.2, ∀ y ∈ b.bytes, y.1 / 128 ≠ a / 128 := by
  intro e he b hb y hy
  obtain ⟨e0, -, rfl⟩ := List.mem_map.1 he
  obtain ⟨b0, -, rfl⟩ := List.mem_map.1 (List.mem_filter.1 hb).1
  simpa using (List.mem_filter.1 hy).2

end Line

/-- Settles O24: the forms by `exec_fence`, `range_done` and `exec_zline`; a line by the lemma that says what each does to it. -/
theorem maintenanceResults : Obligations.MaintenanceResults := by
  unfold Obligations.MaintenanceResults
  refine ⟨fun s c w m hi hc => exec_fence hi hc m, fun e he s c w b a m t hi hc ht => ?_,
    fun s c w a m t hi hc ht => exec_zline hi hc ht, fun s s1 w va x p pa a h hdead => ?_,
    fun s s1 m w va n x p pa a hn hcore h => ⟨cwbRange_line m hn h, cinvRange_line hn hcore h⟩,
    fun s s1 s2 w va x p pa a hva h h1 hlost => ?_⟩
  · simp only [List.mem_cons, List.not_mem_nil, or_false] at he
    rcases he with rfl | rfl | rfl <;> exact range_done hi hc ht
  · obtain ⟨r, hr, hmem, hfound⟩ := threadZero_dram h hdead
    refine ⟨r, hr, ?_, ?_, fun b hb => ?_⟩
    · rw [hmem]
      exact memBytes_memPut ..
    · rw [hfound]
      exact tfind_tdel_same ..
    · rw [hmem]
      exact wget_memPut_outside _ _ _ (by rwa [List.length_replicate])
  · exact ⟨_, discardRange_line hva h h1 hlost, fun b v => discardLine_mem_same, fun b => discardLine_mem_other,
      fun b => discardLine_gone, discardLine_wbq⟩

end Sys2Proof.Machine

namespace Sys2Proof.Machine

/-! What the host and peer devices do to memory and registers, and pool operations (R115, R359, R360, R385 to R388, R391). -/

/-! ## Pools (R360) -/

section Pools
variable {s : State} {p : Partition} {part v t op n : Nat}

/-- A VF takes pages of a tier, and nothing stays held for it there (R360, R361). -/
def State.takePages (s : State) (v t n : Nat) : State :=
  (s.onVf v fun x => x.setTier t
    { (s.vf v).tier t with used := ((s.vf v).tier t).used + BitVec.ofNat 32 n }).releaseHolds t v

theorem takePages_tier (s : State) (v t n : Nat) : ((s.takePages v t n).vf v).tier t =
    { (s.vf v).tier t with used := ((s.vf v).tier t).used + BitVec.ofNat 32 n } := by
  have hvf : (s.takePages v t n).vf v = (s.vf v).setTier t
      { (s.vf v).tier t with used := ((s.vf v).tier t).used + BitVec.ofNat 32 n } := State.setVf_same ..
  rw [hvf, VfPage.setTier_same]

/-- What a VF that gives pages back has left in the tier, once its holds are released. -/
theorem giveUp_tier (s : State) (p : Partition) (v t n : Nat) : (((s.giveUp p v t n).releaseHolds t v).vf v).tier t =
    { (s.vf v).tier t with
      used := ((s.vf v).tier t).used - BitVec.ofNat 32 n,
      recl := ((s.vf v).tier t).recl - BitVec.ofNat 32 (min n ((s.vf v).tier t).recl.toNat) } := by
  have hvf : ((s.giveUp p v t n).releaseHolds t v).vf v = (s.vf v).setTier t
      { (s.vf v).tier t with
        used := ((s.vf v).tier t).used - BitVec.ofNat 32 n,
        recl := ((s.vf v).tier t).recl - BitVec.ofNat 32 (min n ((s.vf v).tier t).recl.toNat) } := State.setVf_same ..
  rw [hvf, VfPage.setTier_same]

theorem pool_indebted (h : ((s.vf v).tier t).recl ≠ 0) (hop : op ≠ 2) : s.pool part p v t op n = (s, 3) := by
  rw [State.pool, if_pos ⟨h, hop⟩]

theorem pool_ret (part : Nat) (s : State) (p : Partition) (v t n : Nat) : s.pool part p v t 2 n =
    if ((s.vf v).tier t).used.toNat < n then (s, 2) else ((s.giveUp p v t n).releaseHolds t v, 0) := by
  rw [State.pool, if_neg (by simp), if_pos rfl]

/-- An operation that takes pages of a VF that owes none (R360). -/
theorem pool_takes (part : Nat) (p : Partition) (h : ((s.vf v).tier t).recl = 0) (hop : op ≠ 2) (n : Nat) : s.pool part p v t op n =
    if ((s.vf v).tier t).slack < n then (s, 2)
    else if op = 0 ∧ ((s.vf v).tier t).slack - n < ((s.vf v).tier t).rsv.toNat then (s, 1)
    else if ((s.vf v).tier t).used.toNat + n ≤ ((s.vf v).tier t).guar.toNat then
      if (n : Int) ≤ s.freeOf p t + s.holdOf t v then (s.takePages v t n, 0)
      else (s.claim part p v t (n - s.freeOf p t - s.holdOf t v).toNat, 4)
    else if (n : Int) ≤ s.freeOf p t then (s.takePages v t n, 0)
    else (s, 2) := by
  rw [State.pool, if_neg (fun hd => hd.1 h), if_neg hop]
  rfl

/-- The same, when what it asks for may be taken. -/
theorem pool_may (part : Nat) (p : Partition) (h : ((s.vf v).tier t).recl = 0) (hop : op ≠ 2)
    (hn : (n : Int) ≤ ((s.vf v).tier t).slack) (hrsv : op = 0 → (((s.vf v).tier t).rsv.toNat : Int) ≤ ((s.vf v).tier t).slack - n) :
    s.pool part p v t op n =
      if ((s.vf v).tier t).used.toNat + n ≤ ((s.vf v).tier t).guar.toNat then
        if (n : Int) ≤ s.freeOf p t + s.holdOf t v then (s.takePages v t n, 0)
        else (s.claim part p v t (n - s.freeOf p t - s.holdOf t v).toNat, 4)
      else if (n : Int) ≤ s.freeOf p t then (s.takePages v t n, 0)
      else (s, 2) := by
  rw [pool_takes part p h hop, if_neg (Int.not_lt.2 hn), if_neg fun hd => Int.not_lt.2 (hrsv hd.1) hd.2]

theorem poolOp_bound {k : Nat} (hb : s.boundTo v = some (k, p)) (ht : t = 1 ∨ t = 2) (hlo : 1 ≤ n) (hhi : n ≤ 64) (op : Nat) :
    poolOp s v t op n = .next { (s.pool k p v t op n).1 with
      delivered := (s.pool k p v t op n).1.poolPair v t (s.pool k p v t op n).2 } := by
  simp only [poolOp, hb, if_pos ht, if_pos (And.intro hlo hhi)]

end Pools

/-! ## Registers through a VF (R359, R385, R386) -/

section Registers
variable {s : State} {v k : Nat} {p : Partition}

theorem exec_hostAccess_down (hb : s.boundTo v = some (k, p)) (hd : s.proto (bitNat (p.vfport.getLsbD v)) = 0) {region : Nat}
    (hr : region < 2) (addr size : Nat) (wr : BitVec 1) (x : Dword) :
    exec (.hostAccess v region addr size wr x) s = .next s := by
  change execHostAccess v region addr size wr x s = _
  have h : region ≠ 5 ∧ region ≠ 3 ∧ region ≠ 6 ∧ region ≠ 2 ∧ region ≠ 4 := by omega
  simp [execHostAccess, hb, State.vfUp, hd, h]

theorem exec_hostAccess_vfPage (hb : s.boundTo v = some (k, p)) (hu : s.proto (bitNat (p.vfport.getLsbD v)) ≠ 0)
    (addr size : Nat) (wr : BitVec 1) (x : Dword) : exec (.hostAccess v 0 addr size wr x) s =
      if wr = 1 then .next (s.regWrite 1 v (some v) addr size x)
      else .next { s with delivered := s.regRead 1 v (some v) addr size } := by
  change execHostAccess v 0 addr size wr x s = _
  simp [execHostAccess, hb, State.vfUp, hu]

theorem exec_hostAccess_controlPage (hb : s.boundTo v = some (k, p)) (hu : s.proto (bitNat (p.vfport.getLsbD v)) ≠ 0)
    (addr size : Nat) (wr : BitVec 1) (x : Dword) : exec (.hostAccess v 1 addr size wr x) s =
      if wr = 1 then .next (s.regWrite 0 k (some v) addr size x)
      else .next { s with delivered := s.regRead 0 k (some v) addr size } := by
  change execHostAccess v 1 addr size wr x s = _
  simp [execHostAccess, hb, State.vfUp, hu]

theorem regRead_ignored {off size : Nat} (h : off % size ≠ 0 ∨ (size ≠ 4 ∧ size ≠ 8)) (region n : Nat) (who : Party) :
    s.regRead region n who off size = 0 := by
  have h4 : ¬ (size = 4 ∧ off % 4 = 0) := by rintro ⟨rfl, h0⟩; omega
  have h8 : ¬ (size = 8 ∧ off % 8 = 0) := by rintro ⟨rfl, h0⟩; omega
  rw [State.regRead, if_neg h4, if_neg h8]

/-- The quarantine list and the migration block are the supervisor's to write (R359). -/
theorem vfWrite_host_refused {off : Nat} (hlo : 0x80 ≤ off) (x : Word) : s.vfWrite v false off x = s := by
  have h0 : ¬ (off = 0x0 ∨ off = 0x4) := by omega
  have h8 : off ≠ 0x8 := by omega
  have hc : off ≠ 0xC := by omega
  have h10 : ¬ (0x10 ≤ off ∧ off < 0x40) := by omega
  simp only [State.vfWrite, if_neg h0, if_neg h8, if_neg hc, if_neg h10, Bool.false_and, Bool.false_eq_true, if_false]

end Registers

/-! ## Memory from outside (R115, R122, R391) -/

theorem touchTarget_false (s : State) (t : Target) (handle : Nat) : s.touchTarget false t handle = s := by
  unfold State.touchTarget
  split <;> rfl

theorem putSealed_mem (s : State) (key a : Nat) (bs : List Byte) : (s.putSealed key a bs).mem = memPut s.mem a bs :=
  putBytes_mem s false a bs

theorem writeHome_host_mem (s : State) (v : Dword) (a port : Nat) (cxl : Bool) (key : Nat) (bs : List Byte) :
    (s.writeHome v (.host a port cxl key) bs).1.mem = memPut s.mem a bs := by
  refine (putSealed_mem ..).trans (congrArg (memPut · a bs) (mem_of_contents ?_))
  exact (writeTime_contents ..).trans (recallAll_contents ..)

/-- An access from outside to bytes that a write to their target puts, and a read of it delivers. -/
theorem outside_done {x : Target} {key a : Nat} (hput : ∀ (s : State) v bs, (s.writeHome v x bs).1.mem = memPut s.mem a bs)
    (hbytes : ∀ (s : State) n, s.bytesAt x n = s.plainBytes key a n) (s : State) (size : Nat) (wr : BitVec 1) (val : Dword) :
    OutsideDone s (s.outside x size (wr == 1) val) x key a size wr val := by
  have hmem : ∀ (u : State) b, (u.touchTarget b x 0).mem = u.mem := fun u b => mem_of_contents (touchTarget_contents ..)
  unfold OutsideDone State.outside
  refine ⟨fun hw hlost => ?_, fun hw hlost => ?_, fun hw => ?_⟩
  · subst hw
    simp only [beq_self_eq_true, hlost, if_true]
    refine ⟨hmem .., ?_, ?_, fun hdead => ?_⟩
    · exact (congrArg State.lost (touchTarget_ground s (!s.deadHome x) x 0) :)
    · exact (congrArg State.poison (touchTarget_ground s (!s.deadHome x) x 0) :)
    · rw [hdead]
      exact touchTarget_false ..
  · subst hw
    simp only [beq_self_eq_true, hlost, if_true, Bool.false_eq_true, if_false]
    rw [hput, hmem]
    exact memPut_natBytes ..
  · subst hw
    have hread : (((s.readHome 0 x size).1.touchTarget true x 0)).mem = s.mem :=
      (hmem ..).trans (mem_of_contents (recallAll_contents ..))
    have hno : ((0 : BitVec 1) == 1) = false := rfl
    simp only [hno, Bool.false_eq_true, if_false]
    refine ⟨?_, fun hlost hclean hplain => ?_⟩
    · split
      · exact hmem ..
      · split <;> exact hread
    · rw [hlost, hclean, hbytes, plainBytes_readable hplain]
      rfl

theorem outside_dram (s : State) (q : Partition) (pa a size : Nat) (wr : BitVec 1) (val : Dword) :
    OutsideDone s (s.outside (.dram q pa a) size (wr == 1) val) (.dram q pa a) q.keyId a size wr val :=
  outside_done (fun _ _ _ => writeKeep_dram_mem ..) (fun _ _ => rfl) ..

theorem outside_host (s : State) (a port : Nat) (cxl : Bool) (key size : Nat) (wr : BitVec 1) (val : Dword) :
    OutsideDone s (s.outside (.host a port cxl key) size (wr == 1) val) (.host a port cxl key) key a size wr val :=
  outside_done (fun _ _ _ => writeHome_host_mem ..) (fun _ _ => rfl) ..

/-! ## The host's other regions (R385, R387) -/

section Host
variable {s : State} {v : Nat}

theorem exec_hostAccess_decoder {port addr size : Nat} {r : Partition} (hsize : outsideSize addr size = true) (hp : s.proto port = 2)
    (hon : (s.decoder port).on = true) (hlen : addr + size ≤ (s.decoder port).size) (hr : s.part (s.decoder port).part = some r)
    (wr : BitVec 1) (val : Dword) : exec (.hostAccess port 2 addr size wr val) s =
      .next ((s.outsideAt r ((s.decoder port).base + addr) size (wr == 1) val).getD s) := by
  change execHostAccess port 2 addr size wr val s = _
  simp [execHostAccess, hsize, hp, hon, hlen, hr]

theorem exec_hostAccess_hidden {port addr size : Nat}
    (h : s.proto port ≠ 2 ∨ (s.decoder port).on = false ∨ (s.decoder port).size < addr + size) (wr : BitVec 1) (val : Dword) :
    exec (.hostAccess port 2 addr size wr val) s = .next s := by
  change execHostAccess port 2 addr size wr val s = _
  have hno : ¬ (s.proto port = 2 ∧ (s.decoder port).on = true ∧ addr + size ≤ (s.decoder port).size ∧
      outsideSize addr size = true) := by
    rintro ⟨hp, hon, hlen, -⟩
    rcases h with h | h | h
    · exact h hp
    · rw [h] at hon
      cases hon
    · exact Nat.not_le.2 h hlen
  simp only [execHostAccess, if_neg hno]
  rfl

theorem exec_hostAccess_memory {addr size : Nat} (hsize : outsideSize addr size = true) (ha : addr < Config.hostBase)
    (wr : BitVec 1) (val : Dword) : exec (.hostAccess v 5 addr size wr val) s =
      .next (s.outside (.host (Config.hostBase + addr) 0 true 0) size (wr == 1) val) := by
  change execHostAccess v 5 addr size wr val s = _
  simp only [execHostAccess, if_true, hsize, Nat.mod_eq_of_lt ha]

/-- BOOTCTL through a port (R387): region 3 is that of PF0, region 6 that of PF1. -/
theorem exec_hostAccess_bootctl {port : Nat} (hport : port < 2) (addr size : Nat) (wr : BitVec 1) (x : Dword) :
    exec (.hostAccess v (3 + 3 * port) addr size wr x) s =
      if s.proto port = 0 then .next s
      else if wr = 1 then .next (if port = 0 ∧ addr = 0 ∧ size = 4 ∧ x.getLsbD 31 then s.bootGoNow else s)
      else .next { s with delivered := if addr = 0 ∧ size = 4 then pairOf s.bootctl 0 else 0 } := by
  change execHostAccess v (3 + 3 * port) addr size wr x s = _
  have hcases : port = 0 ∨ port = 1 := by omega
  rcases hcases with rfl | rfl <;> simp [execHostAccess]

theorem exec_hostAccess_staging {addr size : Nat} (hup : s.proto 0 ≠ 0) (hsize : outsideSize addr size = true)
    (hlen : addr + size ≤ 67108864) (wr : BitVec 1) (x : Dword) : exec (.hostAccess v 4 addr size wr x) s =
      if wr = 1 then .next { s with staging := memPut s.staging addr (natBytes size x.toNat) }
      else .next { s with delivered := BitVec.ofNat 64 (bytesNat (memBytes s.staging addr size)) } := by
  change execHostAccess v 4 addr size wr x s = _
  simp [execHostAccess, hup, hsize, hlen]

end Host

/-! ## Peer devices (R391) -/

/-- The entry of a number among those through which peer devices reach a partition (R391). -/
def Partition.peerEntry (p : Partition) (j : Nat) : Window := (tfind p.exports j).getD Window.init

/-- An entry names an offset for a peer device. -/
def Window.exports (w : Window) (peer off : Nat) : Prop :=
  w.ctl.getLsbD 31 = true ∧ bits w.ctl.toNat 16 8 = peer ∧ off < 1073741824 * w.size.toNat

section Peer
variable {p : Partition} {peer off : Nat}

theorem exports_iff {w : Window} :
    (w.ctl.getLsbD 31 && bits w.ctl.toNat 16 8 == peer && decide (off < 1073741824 * w.size.toNat)) = true ↔
      w.exports peer off := by
  rw [Bool.and_eq_true, Bool.and_eq_true, beq_iff_eq, decide_eq_true_eq, and_assoc]
  rfl

theorem exportFor_eq (p : Partition) (peer off : Nat) : p.exportFor peer off = ((List.range 16).find? fun i =>
    (p.peerEntry i).ctl.getLsbD 31 && bits (p.peerEntry i).ctl.toNat 16 8 == peer &&
      decide (off < 1073741824 * (p.peerEntry i).size.toNat)).map p.peerEntry := List.find?_map ..

theorem exportFor_first {j : Nat} {w : Window} (hj : j < 16) (hw : p.peerEntry j = w) (h : w.exports peer off)
    (hfirst : ∀ i < j, ¬ (p.peerEntry i).exports peer off) : p.exportFor peer off = some w := by
  subst hw
  rw [exportFor_eq, List.find?_range_eq_some.2 ⟨exports_iff.2 h, List.mem_range.2 hj, fun i hi => ?_⟩, Option.map_some]
  rw [Bool.not_eq_true', ← Bool.not_eq_true]
  exact fun hi' => hfirst i hi (exports_iff.1 hi')

theorem exportFor_none (h : ∀ i < 16, ¬ (p.peerEntry i).exports peer off) : p.exportFor peer off = none := by
  rw [exportFor_eq, Option.map_eq_none_iff, List.find?_eq_none]
  exact fun i hi hexp => h i (List.mem_range.1 hi) (exports_iff.1 hexp)

/-- An access of a peer device that is well formed and arrives over a port that is up. -/
theorem exec_peerAccess {s : State} {k size kind : Nat} {peer : BitVec 8} {wr : BitVec 1} {val : Dword} (hp : s.part k = some p)
    (hsize : outsideSize off size = true) (hkind : kind ≤ 3) (hacq : kind = 2 → wr = 0) (hrel : kind = 3 → wr = 1)
    (hport : ∃ j < 16, (s.jalefPort j).up = true ∧ (s.jalefPort j).peer = peer.toNat) :
    exec (.peerAccess k peer off size kind wr val) s =
      .next (((p.exportFor peer.toNat off).bind fun w => s.outsideAt p (w.base.toNat + off) size (wr == 1) val).getD
        (s.alarmAt k 2 0xFFFF 0xFFFFFFFF)) := by
  have hup : ((List.range 16).any fun k => (s.jalefPort k).up && (s.jalefPort k).peer == peer.toNat) = true := by
    obtain ⟨j, hj, hup, hpeer⟩ := hport
    exact List.any_eq_true.2 ⟨j, List.mem_range.2 hj, by simp [hup, hpeer]⟩
  have hread : (kind == 2 && wr == 1) = false := Bool.and_eq_false_imp.2 fun h => by rw [hacq (beq_iff_eq.1 h)]; rfl
  have hwrite : (kind == 3 && wr == 0) = false := Bool.and_eq_false_imp.2 fun h => by rw [hrel (beq_iff_eq.1 h)]; rfl
  change execPeerAccess k peer off size kind wr val s = _
  simp only [execPeerAccess, hp, hup, hsize, hread, hwrite, decide_eq_false (Nat.not_lt.2 hkind), Bool.not_true, Bool.or_false,
    Bool.false_eq_true, if_false]

  cases (p.exportFor peer.toNat off).bind fun w => s.outsideAt p (w.base.toNat + off) size (wr == 1) val <;> rfl

end Peer

/-! ## The events -/

section Events
variable {s : State} {v k : Nat} {p : Partition}

/-- What a pool operation comes to (R360), case by case of what the VF owes, has and asks for. -/
theorem pool_results (part tier op n : Nat) :
    let r := s.pool part p v tier op n
    let q := (s.vf v).tier tier
    let may := q.recl = 0 ∧ op ≠ 2 ∧ (n : Int) ≤ q.slack ∧ (op = 0 → (q.rsv.toNat : Int) ≤ q.slack - n)
    (q.recl ≠ 0 → op ≠ 2 → r = (s, 3)) ∧ (op = 2 → q.used.toNat < n → r = (s, 2)) ∧
    (op = 2 → n ≤ q.used.toNat → r.2 = 0 ∧ (r.1.vf v).tier tier =
      { q with used := q.used - BitVec.ofNat 32 n, recl := q.recl - BitVec.ofNat 32 (min n q.recl.toNat) }) ∧
    (q.recl = 0 → op ≠ 2 → q.slack < n → r = (s, 2)) ∧
    (q.recl = 0 → op = 0 → (n : Int) ≤ q.slack → q.slack - n < q.rsv.toNat → r = (s, 1)) ∧
    (may → q.used.toNat + n ≤ q.guar.toNat → (n : Int) ≤ s.freeOf p tier + s.holdOf tier v →
      r.2 = 0 ∧ (r.1.vf v).tier tier = { q with used := q.used + BitVec.ofNat 32 n }) ∧
    (may → q.used.toNat + n ≤ q.guar.toNat → s.freeOf p tier + s.holdOf tier v < (n : Int) → r.2 = 4) ∧
    (may → q.guar.toNat < q.used.toNat + n → (n : Int) ≤ s.freeOf p tier →
      r.2 = 0 ∧ (r.1.vf v).tier tier = { q with used := q.used + BitVec.ofNat 32 n }) ∧
    (may → q.guar.toNat < q.used.toNat + n → s.freeOf p tier < (n : Int) → r = (s, 2)) := by
  intro r q may
  have hmay : ∀ hm : may, r = _ := fun ⟨howes, hop, hn, hrsv⟩ => pool_may part p howes hop hn hrsv
  refine ⟨pool_indebted, fun hop hn => ?_, fun hop hn => ?_, fun howes hop hn => ?_, fun howes hop hn hrsv => ?_,
    fun hm hg hf => ?_, fun hm hg hf => ?_, fun hm hg hf => ?_, fun hm hg hf => ?_⟩
  · subst hop
    exact (pool_ret ..).trans (if_pos hn)
  · subst hop
    rw [show r = _ from (pool_ret ..).trans (if_neg (Nat.not_lt.2 hn))]
    exact ⟨rfl, giveUp_tier ..⟩
  · exact (pool_takes part p howes hop n).trans (if_pos hn)
  · refine (pool_takes part p howes (by omega) n).trans ?_
    rw [if_neg (Int.not_lt.2 hn), if_pos ⟨hop, hrsv⟩]
  · rw [hmay hm, if_pos hg, if_pos hf]
    exact ⟨rfl, takePages_tier ..⟩
  · rw [hmay hm, if_pos hg, if_neg (Int.not_le.2 hf)]
  · rw [hmay hm, if_neg (Nat.not_le.2 hg), if_pos hf]
    exact ⟨rfl, takePages_tier ..⟩
  · rw [hmay hm, if_neg (Nat.not_le.2 hg), if_neg (Int.not_le.2 hf)]

/-- What the host reads and writes of a VF's registers through a port that is up (R359, R386). -/
theorem exec_hostAccess_registers (hb : s.boundTo v = some (k, p)) (hu : s.proto (bitNat (p.vfport.getLsbD v)) ≠ 0) (x : Dword) :
    exec (.hostAccess v 0 0xC 4 1 x) s = .next (s.setVf v { s.vf v with evtn := lowWord x }) ∧
    exec (.hostAccess v 0 0xC 4 0 x) s = .next { s with delivered := pairOf (s.vf v).evtn 0 } ∧
    (∀ off, 0x80 ≤ off → off < 0x340 → off % 4 = 0 → exec (.hostAccess v 0 off 4 1 x) s = .next s) ∧
    (∀ off, off % 4 = 0 → exec (.hostAccess v 1 off 4 1 x) s = exec (.registerWrite 0 0 v off 4 x) s) ∧
    ∀ region < 2, ∀ off size, off % size ≠ 0 ∨ (size ≠ 4 ∧ size ≠ 8) →
      exec (.hostAccess v region off size 1 x) s = .next s ∧
      exec (.hostAccess v region off size 0 x) s = .next { s with delivered := 0 } := by
  refine ⟨?_, ?_, fun off hlo _ hoff => ?_, fun off _ => ?_, fun region hregion off size hbad => ?_⟩
  · rw [exec_hostAccess_vfPage hb hu, if_pos rfl, regWrite_word rfl]
    rfl
  · rw [exec_hostAccess_vfPage hb hu, if_neg (by decide)]
    rfl
  · rw [exec_hostAccess_vfPage hb hu, if_pos rfl, regWrite_word hoff]
    exact congrArg Host.Outcome.next (vfWrite_host_refused hlo _)
  · rw [exec_hostAccess_controlPage hb hu, if_pos rfl, exec_registerWrite_host_controlPage hb hu]
  · have hcases : region = 0 ∨ region = 1 := by omega
    rcases hcases with rfl | rfl
    · simp only [exec_hostAccess_vfPage hb hu, regWrite_ignored hbad, regRead_ignored hbad]
      exact ⟨rfl, rfl⟩
    · simp only [exec_hostAccess_controlPage hb hu, regWrite_ignored hbad, regRead_ignored hbad]
      exact ⟨rfl, rfl⟩

end Events

/-- Settles O51: a pool operation by `pool_results`, the host's registers by `exec_hostAccess_registers`, and accesses to memory by
`outside_done`; a peer's access goes through the first entry that names its offset (`exportFor_first`). -/
theorem outsideEvents : Obligations.OutsideEvents := by
  unfold Obligations.OutsideEvents
  intro s v k p hb
  refine ⟨fun e he tier n htier hlo hhi => ?pool, fun hd region hregion addr size wr x => exec_hostAccess_down hb hd hregion ..,
    exec_hostAccess_registers hb, fun port addr size wr val r q pa a => ?decoder, fun port addr size wr val => ?hidden,
    fun addr size wr val hsize ha => ?memory, fun port hport x => ?bootctl, fun addr size x hup hsize hlen => ?staging,
    fun peer off size kind wr val hp hsize hkind hacq hrel hport =>
      ⟨fun j w hj hw hon hpeer hoff hfirst => ?entry, fun hnone => ?breach⟩⟩
  case pool =>
    refine ⟨?_, pool_results k tier e.2 n⟩
    have hexec : exec (e.1 v tier n) s = poolOp s v tier e.2 n := by
      simp only [List.mem_cons, List.not_mem_nil, or_false] at he
      rcases he with rfl | rfl | rfl <;> rfl
    exact hexec.trans (poolOp_bound hb htier hlo hhi e.2)
  case decoder =>
    intro d hsize hp hon hlen hr hreach
    refine ⟨_, exec_hostAccess_decoder hsize hp hon hlen hr wr val, ?_⟩
    rw [State.outsideAt, hreach]
    exact outside_dram ..
  case hidden => exact fun h => exec_hostAccess_hidden h wr val
  case memory => exact ⟨_, exec_hostAccess_memory hsize ha wr val, outside_host ..⟩
  case bootctl =>
    refine ⟨fun hd addr size wr => ?_, fun hu => ⟨?_, ?_⟩⟩
    · rw [exec_hostAccess_bootctl hport, if_pos hd]
    · rw [exec_hostAccess_bootctl hport, if_neg hu, if_neg (by decide), if_pos ⟨rfl, rfl⟩]
    · rw [exec_hostAccess_bootctl hport, if_neg hu, if_pos rfl]
      by_cases hgo : port = 0 ∧ x.getLsbD 31 = true
      · rw [if_pos hgo, if_pos ⟨hgo.1, rfl, rfl, hgo.2⟩]
        rfl
      · rw [if_neg hgo, if_neg fun h => hgo ⟨h.1, h.2.2.2⟩]
  case staging =>
    refine ⟨?_, ?_⟩
    · rw [exec_hostAccess_staging hup hsize hlen, if_pos rfl]
    · rw [exec_hostAccess_staging hup hsize hlen, if_neg (by decide)]
  case entry =>
    rw [exec_peerAccess hp hsize hkind hacq hrel hport, exportFor_first hj hw ⟨hon, hpeer, hoff⟩ hfirst, Option.bind_some,
      State.outsideAt]
    cases s.reach p 0 (w.base.toNat + off) with
    | dram q pa a => exact ⟨_, rfl, outside_dram ..⟩
    | _ => rfl
  case breach =>
    rw [exec_peerAccess hp hsize hkind hacq hrel hport, exportFor_none hnone]
    rfl

end Sys2Proof.Machine

/-! The integer lane and uniform forms of SALU and VALU, the lane forms of VMISC and the compares (R174 to R180, R198, R201): each form is
one of the shapes of `Laws.Lane` for its function. -/
namespace Sys2Proof.Machine

section Integer
variable {s : State} {c : Cur} {w : Warp} {b a : BitVec 7} {nw : BitVec 1} {d : BitVec 6}

/-! ## Functions as the statements write them (R177, R180) -/

theorem immH_eq (i : BitVec 18) : immH i = i.setWidth 32 <<< 14 := by
  apply BitVec.eq_of_toNat_eq
  simp [immH, Nat.shiftLeft_eq]

theorem cmpNe_eq : cmpNe = fun x y => decide (x ≠ y) := by
  funext x y
  exact (decide_not ..).symm

/-- A relation that can be decided, as the word 1 or 0 (R180). -/
theorem truth_decide (r : Word → Word → Prop) [∀ x y, Decidable (r x y)] :
    truth (fun x y => decide (r x y)) = fun x y => if r x y then 1 else 0 := by
  funext x y
  simp [truth]

/-! ## Forms with no shape of their own (R177, R179) -/

theorem vlih_done {i : BitVec 18} (hi : Issuing s c w) (hc : Clear c w (useV d.toNat 1)) :
    execVlih i nw d s = .next (laneDone s c w fun _ th => wrote nw d th [immH i]) := laneOp_done hi hc fun _ _ _ => rfl

theorem vmiscMad_done (hi : Issuing s c w) (hc : Clear c w (uses2 b a d 1 1)) (hr : Readable s c w [a, b]) :
    execVmiscMad b a nw d s = .next (laneDone s c w fun t th =>
      wrote nw d th [aluMad (th.vreg d.toNat) (s.val c w t a) (s.val c w t b)]) := by
  refine laneOp_done hi hc fun t ht hm => ?_
  rw [readable_src hr ht hm (by simp), readable_src hr ht hm (by simp)]; rfl

theorem vmiscMad64_done (hi : Issuing s c w) (hc : Clear c w (uses2 b a d 1 2)) (hr : Readable s c w [a, b]) :
    execVmiscMad64 b a nw d s = .next (laneDone s c w fun t th =>
      let r := aluMad64 (th.vpair d.toNat) (s.val c w t a) (s.val c w t b)
      wrote nw d th [lowWord r, highWord r]) := by
  refine laneOp_done hi hc fun t ht hm => ?_
  rw [readable_src hr ht hm (by simp), readable_src hr ht hm (by simp)]; rfl

end Integer

/-- Settles O1: each VALU form is `lane2` and each SALU form `uni2` for its function. -/
theorem integerAluResults : Obligations.IntegerAluResults := by
  unfold Obligations.IntegerAluResults
  refine ⟨fun e he s c w b a nw d hi hc hr => ?_, fun e he s c w b a d hi hc => ?_⟩
  · have hexec : exec (e.1 b a nw d) s = lane2 s b a nw d e.2 := by fin_cases he <;> rfl
    exact hexec.trans (lane2_done hi hc hr)
  · have hexec : exec (e.1 b a d) s = uni2 s b a d e.2 := by fin_cases he <;> rfl
    exact hexec.trans (uni2_done hi hc)

/-- Settles O2: `vaddi` and `saddi` are the unary shapes for the addition of their immediate. -/
theorem addImmediateResults : Obligations.AddImmediateResults := by
  unfold Obligations.AddImmediateResults
  refine ⟨fun s c w i a nw d hi hc hr => ?_, fun s c w i a d hi hc => ?_⟩
  · have hexec : exec (.vaddi i a nw d) s = lane1 s a nw d (aluAdd · (immS i)) := rfl
    exact hexec.trans (lane1_done hi hc hr)
  · have hexec : exec (.saddi i a d) s = uni1 s a d (aluAdd · (immS i)) := rfl
    exact hexec.trans (uni1_done hi hc)

/-- Settles O3: each form is `lane2`, `lane1` or `laneD` for its function, and `vlih` writes its immediate (`immH_eq`). -/
theorem miscLaneResults : Obligations.MiscLaneResults := by
  unfold Obligations.MiscLaneResults
  refine ⟨fun e he s c w b a nw d hi hc hr => ?_, fun e he s c w a nw d hi hc hr => ?_, fun e he s c w i nw d hi hc => ?_,
    fun s c w i nw d hi hc => ?_⟩
  · have hexec : exec (e.1 b a nw d) s = lane2 s b a nw d e.2 := by fin_cases he <;> rfl
    exact hexec.trans (lane2_done hi hc hr)
  · have hexec : exec (e.1 a nw d) s = lane1 s a nw d e.2 := by fin_cases he <;> rfl
    exact hexec.trans (lane1_done hi hc hr)
  · have hexec : exec (e.1 i nw d) s = laneD s nw d (e.2 · (i.setWidth 32)) := by fin_cases he <;> rfl
    exact hexec.trans (laneD_done hi hc)
  · have hexec : exec (.vlih i nw d) s = execVlih i nw d s := rfl
    rw [hexec, ← immH_eq]
    exact vlih_done hi hc

/-- Settles O4: the additions are `lane64` for their function; `vmiscMad_done` and `vmiscMad64_done` give the multiply-adds. -/
theorem wideLaneResults : Obligations.WideLaneResults := by
  unfold Obligations.WideLaneResults
  refine ⟨fun e he s c w b a nw d hi hc hr => ?_, fun s c w b a nw d hi hc hr => ?_,
    fun s c w b a nw d hi hc hr => ?_⟩
  · have hexec : exec (e.1 b a nw d) s = lane64 s b a nw d e.2 := by fin_cases he <;> rfl
    exact hexec.trans (lane64_done hi hc hr)
  · have hexec : exec (.vmiscMad b a nw d) s = execVmiscMad b a nw d s := rfl
    exact hexec.trans (vmiscMad_done hi hc hr)
  · have hexec : exec (.vmiscMad64 b a nw d) s = execVmiscMad64 b a nw d s := rfl
    exact hexec.trans (vmiscMad64_done hi hc hr)

/-- Settles O6: each form is `vcmp2`, `vcmp64`, `fcmp2` or `fcmp64` for its relation; a form on FP64 does not trap where the stack
runs at full service (`fcmp64_done`). -/
theorem compareResults : Obligations.CompareResults := by
  unfold Obligations.CompareResults
  refine ⟨fun e he s c w b a p hi hc hr => ?_, fun e he s c w b a p hi hc hr => ?_, fun e he s c w b a p hi hc hr => ?_,
    fun e he s c w b a p hi hc hr hf => ?_⟩
  · have hexec : exec (e.1 b a p) s = vcmp2 s b a p e.2 := by
      fin_cases he
      · rfl
      · exact congrArg (vcmp2 s b a p) cmpNe_eq
      all_goals rfl
    exact hexec.trans (vcmp2_done hi hc hr)
  · have hexec : exec (e.1 b a p) s = vcmp64 s b a p e.2 := by fin_cases he <;> rfl
    exact hexec.trans (vcmp64_done hi hc hr)
  · have hexec : exec (e.1 b a p) s = fcmp2 s b a p e.2 := by fin_cases he <;> rfl
    exact hexec.trans (fcmp2_done hi hc hr)
  · have hexec : exec (e.1 b a p) s = fcmp64 s b a p e.2 := by fin_cases he <;> rfl
    exact hexec.trans (fcmp64_done hi hc hr hf)

end Sys2Proof.Machine

/-! Votes and exchanges (R181 to R183): what the threads that take part see of each other. -/
namespace Sys2Proof.Machine

section Exchanges
variable {s : State} {c : Cur} {w : Warp} {a : BitVec 7} {x : BitVec 4} {nw : BitVec 1} {d : BitVec 6} {p : BitVec 3}

theorem vote_done {f : List Bool → Bool} (hi : Issuing s c w) (hc : Clear c w Uses.none) :
    vote s x p f = .next (laneDone s c w fun _ th =>
      (th.setP p.toNat (f ((threadsOf c.taking).map fun t => (w.thread t).selector x)), Raised.none)) := by
  refine (exchangeOp_done (fun t => (w.thread t).selector x) hi hc fun _ _ _ => rfl).trans ?_
  rw [counted_taking]

/-- A thread that takes part counts in a ballot when its selector holds. -/
theorem beq_some_true_of_if (takes holds : Bool) : ((if takes then some holds else none) == some true) = (takes && holds) := by
  cases takes <;> cases holds <;> rfl

theorem ballot_done (hi : Issuing s c w) (hc : Clear c w (useV d.toNat 1)) :
    execPredBallot x nw d s = .next (laneDone s c w fun _ th =>
      wrote nw d th [maskOf fun t => inMask c.taking t && (w.thread t).selector x]) := by
  refine (exchangeOp_done (fun t => (w.thread t).selector x) hi hc fun _ _ _ => rfl).trans ?_
  simp only [beq_some_true_of_if, wrote]

theorem predTov_done (hi : Issuing s c w) (hc : Clear c w (useV d.toNat 1)) :
    execPredTov nw d s = .next (laneDone s c w fun _ th => wrote nw d th [th.p.setWidth 32]) := laneOp_done hi hc fun _ _ _ => rfl

theorem predFromv_done (hi : Issuing s c w) (hc : Clear c w (useSrc a 1)) (hr : Readable s c w [a]) :
    execPredFromv a s = .next (laneDone s c w fun t th => ({ th with p := (s.val c w t a).setWidth 8 }, Raised.none)) := by
  refine laneOp_done hi hc fun t ht hm => ?_
  rw [readable_src hr ht hm (by simp)]

/-- A broadcast delivers the value of the lowest thread that takes part: of an issue in which one does, there is one (R183). -/
theorem bcast_done (hi : Issuing s c w) (hc : Clear c w (uses1 a d 1 1)) (hr : Readable s c w [a]) :
    execXchBcast a nw d s = .next (laneDone s c w fun _ th =>
      wrote nw d th [((lowestOf c.taking).map fun k => s.val c w k a).getD 0]) := by
  have ⟨_, _, _, htaking, _⟩ := hc
  obtain ⟨k, hk, -⟩ := lowest_taking htaking
  refine (exchangeOp_done (fun t => s.val c w t a) hi hc fun t ht hm => readable_src hr ht hm (by simp)).trans ?_
  rw [counted_taking, List.head?_map, ← lowestOf, hk]
  rfl

end Exchanges

/-- Settles O14: the predicate forms by `pred2_done`, `predTov_done` and `predFromv_done`, the votes by `vote_done` and `ballot_done`,
the shuffles by `shuffle_done` and the broadcast by `bcast_done`. -/
theorem voteAndExchangeResults : Obligations.VoteAndExchangeResults := by
  unfold Obligations.VoteAndExchangeResults
  refine ⟨⟨fun e he s c w b a p hi hc => ?and_, fun e he s c w a p hi hc => ?vote, fun s c w a nw d hi hc => ?ballot,
    fun s c w nw d hi hc => ?tov, fun s c w a hi hc hr => ?fromv⟩, fun e he s c w b a nw d hi hc hr => ?shuffle,
    fun s c w a nw d hi hc hr => ?bcast⟩
  case and_ =>
    have hexec : exec (e.1 b a p) s = pred2 s b a p e.2 := by fin_cases he <;> rfl
    exact hexec.trans (pred2_done hi hc)
  case vote =>
    have hexec : exec (e.1 a p) s = vote s a p e.2 := by fin_cases he <;> rfl
    exact hexec.trans (vote_done hi hc)
  case ballot =>
    have hexec : exec (.predBallot a nw d) s = execPredBallot a nw d s := rfl
    exact hexec.trans (ballot_done hi hc)
  case tov =>
    have hexec : exec (.predTov nw d) s = execPredTov nw d s := rfl
    exact hexec.trans (predTov_done hi hc)
  case fromv =>
    have hexec : exec (.predFromv a) s = execPredFromv a s := rfl
    exact hexec.trans (predFromv_done hi hc hr)
  case shuffle =>
    have hexec : exec (e.1 b a nw d) s = shuffle s b a nw d e.2 := by fin_cases he <;> rfl
    exact hexec.trans (shuffle_done hi hc hr)
  case bcast =>
    have hexec : exec (.xchBcast a nw d) s = execXchBcast a nw d s := rfl
    exact hexec.trans (bcast_done hi hc hr)

end Sys2Proof.Machine

/-! Uniform forms (R176 to R180, R194): each is done once for its issue. -/
namespace Sys2Proof.Machine

/-- A relation of SCMP gives the word 1 or 0 (R180). -/
theorem uni2_truth (s : State) (b a : BitVec 7) (d : BitVec 6) (r : Word → Word → Prop) [∀ x y, Decidable (r x y)] :
    uni2 s b a d (truth fun x y => decide (r x y)) = uni2 s b a d fun x y => if r x y then 1 else 0 :=
  congrArg (uni2 s b a d) (truth_decide r)

/-- Settles O16: each form of two sources is `uni2` or `uni64`, each unary one `uni1` and each logical one `uniD` for its function, a
relation as the word that it gives (`uni2_truth`); the others are done once, as every uniform form (`uniformOp_done`). -/
theorem uniformResults : Obligations.UniformResults := by
  unfold Obligations.UniformResults
  refine ⟨⟨fun e he s c w b a d hi hc => ?two, fun e he s c w a d hi hc => ?one⟩, fun e he s c w i d hi hc => ?logic,
    fun s c w i d hi hc => ?high, fun e he s c w b a d hi hc => ?wide, fun s c w b a d hi hc => ?mad,
    fun s c w b a d hi hc => ?mad64, fun s c w d hi hc => ?clk⟩
  case two =>
    have hexec : exec (e.1 b a d) s = uni2 s b a d e.2 := by
      fin_cases he
      iterate 4 · rfl
      · exact uni2_truth s b a d fun x y => x = y
      · exact (congrArg (fun r => uni2 s b a d (truth r)) cmpNe_eq).trans (uni2_truth s b a d fun x y => x ≠ y)
      · exact uni2_truth s b a d fun x y => x.toInt < y.toInt
      · exact uni2_truth s b a d fun x y => x.toInt ≤ y.toInt
      · exact uni2_truth s b a d fun x y => x.toNat < y.toNat
      · exact uni2_truth s b a d fun x y => x.toNat ≤ y.toNat
    exact hexec.trans (uni2_done hi hc)
  case one =>
    have hexec : exec (e.1 a d) s = uni1 s a d e.2 := by fin_cases he <;> rfl
    exact hexec.trans (uni1_done hi hc)
  case logic =>
    have hexec : exec (e.1 i d) s = uniD s d (e.2 · (i.setWidth 32)) := by fin_cases he <;> rfl
    exact hexec.trans (uniD_done hi hc)
  case high =>
    have hexec : exec (.slih i d) s = execSlih i d s := rfl
    rw [hexec, ← immH_eq]
    exact uniformOp_done hi hc
  case wide =>
    have hexec : exec (e.1 b a d) s = uni64 s b a d e.2 := by fin_cases he <;> rfl
    exact hexec.trans (uni64_done hi hc)
  case mad =>
    have hexec : exec (.smiscMad b a d) s = execSmiscMad b a d s := rfl
    exact hexec.trans (uniformOp_done hi hc)
  case mad64 =>
    have hexec : exec (.smiscMad64 b a d) s = execSmiscMad64 b a d s := rfl
    exact hexec.trans (uniformOp_done hi hc)
  case clk =>
    have hexec : exec (.ctrlClk d) s = execCtrlClk d s := rfl
    exact hexec.trans (uniformOp_done hi hc)

end Sys2Proof.Machine

/-! Traps that an instruction names (R193, R285): where no handler runs, the threads park as one sub-warp or go on (R330, R333, R334). -/
namespace Sys2Proof.Machine

/-- A launch that a warp's is stands under its key. -/
theorem launch_of_launchOf {s : State} {w : Warp} {k : Nat} {x : Launch} (h : s.launchOf w = some (k, x)) : s.launch k = some x := by
  unfold State.launchOf at h
  cases hcrew : s.crew w.crew with
  | none => simp [hcrew] at h
  | some q =>
    simp only [hcrew, Option.map_eq_some_iff, Prod.mk.injEq] at h
    obtain ⟨y, hy, rfl, rfl⟩ := h
    exact hy

/-- The threads of a mask park as one sub-warp, which records a trap and the PC that its frame shows (R329, R333). -/
def Warp.parkAs (w : Warp) (c : Cur) (m : Word) (t : Trap) : Warp :=
  { w.onThreads m fun th => { th with status := .parked, pc := framePc t.cause c.pc c.next, timeout := 0, held := none } with
    subs := w.subs ++ [{ mask := m, cause := t.cause, sub := t.sub, addr := t.addr, word := c.word,
                         pc := framePc t.cause c.pc c.next, origin := c.pc, detail := t.detail, nested := false, framed := false }] }

/-- The causes of `brk`, and of `trap` and `syscall`. -/
def Trap.named (t : Trap) : Prop := t.cause = 0xF ∨ t.cause = 0x10

section NamedTraps
variable {s : State} {c : Cur} {w : Warp} {k i : Nat} {x : Launch} {t : Trap}

/-- Threads that an instruction traps outside handlers: they park where the kernel enables the cause, and go on where it does not
(R334). -/
theorem raiseOne_named {m : Word} (hi : Issuing s c w) (hl : s.launchOf w = some (k, x)) (hlow : lowestOf m = some i)
    (hnone : (w.thread i).handler = .none) (hlive : x.aborted = false) (ht : t.named) :
    s.raiseOne c m t = s.setWarp c.warp (if (s.kernelOf w x).enables t then w.parkAs c m t
      else w.onThreads m fun th => { th with pc := c.next }) := by
  have ⟨_, hw⟩ := hi
  have hclean : ¬ (t.cause = 6 ∧ t.sub = 5) := by rcases ht with h | h <;> simp [h]
  have hbrk : (t.cause == 0xF || t.cause == 0x10) = true := by rcases ht with h | h <;> simp [h]
  unfold State.raiseOne
  simp only [hw, hl, if_neg hclean, launch_of_launchOf hl, hlow, Option.map_some, Option.getD_some, hlive, hnone, hbrk,
    Bool.false_eq_true, if_false, if_true, onWarp_issuing hi]
  split <;> rfl

/-- Threads that pass by stay in the handlers in which they run. -/
theorem handler_passed (w : Warp) (c : Cur) (m : Word) {i : Nat} (h : i < 32) :
    ((w.onThreads m fun th => { th with pc := c.next, held := none }).thread i).handler = (w.thread i).handler := by
  rw [Warp.onThreads, thread_mapThreads w _ h]
  split <;> rfl

theorem breakWith_outside {cause code : Nat} (hi : Issuing s c w) (hc : Clear c w Uses.none) (hl : s.launchOf w = some (k, x))
    (hlow : lowestOf c.taking = some i) (hnone : (w.thread i).handler = .none) (hlive : x.aborted = false)
    (ht : (trapAt cause code 0).named) :
    breakWith s cause code = .next ((s.advance c (c.group &&& ~~~c.taking)).onWarp c.warp fun w1 =>
      if (s.kernelOf w x).enables (trapAt cause code 0) then w1.parkAs c c.taking (trapAt cause code 0)
      else w1.onThreads c.taking fun th => { th with pc := c.next }) := by
  let w1 := w.onThreads (c.group &&& ~~~c.taking) fun th => { th with pc := c.next, held := none }
  have hi1 : Issuing (s.setWarp c.warp w1) c w1 := ⟨hi.1, State.setWarp_same ..⟩
  refine (onIssue_issuing hi).trans ?_
  rw [gated_clear hc, switchIf_false, raiseAll_once hlow, advance_issuing hi, onWarp_issuing hi1]
  exact congrArg Host.Outcome.next (raiseOne_named hi1 hl hlow ((handler_passed w c _ (lt_of_lowestOf hlow)).trans hnone) hlive ht)

end NamedTraps

/-- Settles O19: each form is `breakWith` for its cause and code, and `breakWith_outside` gives what it leaves. -/
theorem trapFormResults : Obligations.TrapFormResults := by
  unfold Obligations.TrapFormResults
  intro e he s c w h l k x i hi hc hl hin hlow hnone hlive
  have hexec : exec (e.1 h l) s = breakWith s e.2.1 (e.2.2 + h.toNat * 128 + l.toNat) := by
    rw [Nat.add_assoc]
    fin_cases he
    · exact congrArg (breakWith s _) (Nat.zero_add _).symm
    · exact congrArg (breakWith s _) (Nat.zero_add _).symm
    · rfl
  have hnamed : e.2.1 = 0xF ∨ e.2.1 = 0x10 := by fin_cases he <;> simp
  have hpc : framePc e.2.1 c.pc c.next = c.next := if_pos hnamed
  rw [hexec, breakWith_outside hi hc hl hlow hnone hlive hnamed]
  simp only [Warp.parkAs, trapAt, hpc]
  split <;> rfl

end Sys2Proof.Machine

/-! The lane forms of FP64, of special functions, of conversions and of narrow formats (R199, R200, R202 to R216), and the geometric
predicates (R217 to R222): each form is one of the shapes of `Laws.Lane`, or the shape `geo`, for its function. -/
namespace Sys2Proof.Machine

section Reals
variable {s : State} {c : Cur} {w : Warp} {b a : BitVec 7} {nw : BitVec 1} {d : BitVec 6}

/-- A form that needs full service only under a condition does not trap where the stack then has it (R389). -/
theorem reduced_none_if {p : Prop} [Decidable p] (hi : Issuing s c w) (hf : p → FullService s w) :
    (if p then s.reduced else none) = none := ite_eq_right_iff.2 fun h => reduced_none hi (hf h)

/-! ## FP64 `ldexp` (R208): its second source is one register -/

theorem ldexp64_done (hi : Issuing s c w) (hc : Clear c w ((useSrc a 2).and ((useSrc b 1).and (useV d.toNat 2))))
    (hra : Readable64 s c w true [a]) (hrb : Readable s c w [b]) (hf : FullService s w) :
    execFrndLdexpF64 b a nw d s = .next (laneDone s c w fun t th =>
      wrote64 nw d th (fp64.ldexp (Mode.of w.frm.toNat) (s.val64 c w true t a).toNat (s.val c w t b).toNat)) := by
  unfold execFrndLdexpF64
  rw [reduced_none hi hf]
  refine laneOp_done hi hc fun t ht hm => ?_
  rw [readable_src64 hra ht hm (by simp), readable_src hrb ht hm (by simp)]; rfl

/-! ## Four elements at once (R210, R212) -/

theorem map_range_four {α : Type} (f : Nat → α) : (List.range 4).map f = [f 0, f 1, f 2, f 3] := rfl

theorem qdec4_wide {f : Narrow} (hi : Issuing s c w) (hc : Clear c w (uses2 b a d 1 4)) (hr : Readable s c w [a, b])
    (hf : FullService s w) :
    qdec4 s f fp32 b a nw d = .next (laneDone s c w fun t th =>
      let q := fun i => f.decode fp32 (elementOf 8 (s.val c w t a).toNat i) (s.val c w t b).toNat
      (th.result (nw == 1) d.toNat [BitVec.ofNat 32 (q 0).1, BitVec.ofNat 32 (q 1).1, BitVec.ofNat 32 (q 2).1,
        BitVec.ofNat 32 (q 3).1], ((((Raised.none.or (q 0).2).or (q 1).2).or (q 2).2).or (q 3).2))) := by
  refine (qdec4_done hi (by rwa [if_pos rfl]) hr hf).trans ?_
  simp only [map_range_four, if_true]
  rfl

theorem qdec4_packed {f : Narrow} {dst : Fmt} (hdst : dst ≠ fp32) (hi : Issuing s c w) (hc : Clear c w (uses2 b a d 1 2))
    (hr : Readable s c w [a, b]) (hf : FullService s w) :
    qdec4 s f dst b a nw d = .next (laneDone s c w fun t th =>
      let q := fun i => f.decode dst (elementOf 8 (s.val c w t a).toNat i) (s.val c w t b).toNat
      (th.result (nw == 1) d.toNat [BitVec.ofNat 32 (packElements 16 [(q 0).1, (q 1).1]),
        BitVec.ofNat 32 (packElements 16 [(q 2).1, (q 3).1])], ((((Raised.none.or (q 0).2).or (q 1).2).or (q 2).2).or (q 3).2))) := by
  refine (qdec4_done hi (by rwa [if_neg hdst]) hr hf).trans ?_
  simp only [map_range_four, if_neg hdst]
  rfl

/-! ## Geometry (R217 to R222) -/

section Geometry
variable {x : BitVec 1} {g : BitVec 6} {n dim : Nat} {f : List (List Int) → Option (List Nat) → Int}

theorem format_eq_geoFormat (x : BitVec 1) : (if (x == 1) = true then fp64 else fp32) = geoFormat x := by simp [geoFormat]

/-- In finite coordinates no search finds one that is not (R222). -/
theorem findIdx_finite {th : Thread} (h : ∀ v ∈ coordinates th x g n, v.isSome = true) :
    ((pointWords th (x == 1) g.toNat n).findIdx? fun v => ((geoFormat x).coordinate v).isNone) = none := by
  rw [List.findIdx?_eq_none_iff]
  intro v hv
  have := h _ (List.mem_map_of_mem hv)
  rwa [Option.isNone_eq_false_iff]

theorem pointsOf_words (th : Thread) (x : BitVec 1) (g : BitVec 6) (n dim : Nat) :
    pointsOf dim n ((pointWords th (x == 1) g.toNat (n * dim)).map fun v => ((geoFormat x).coordinate v).getD 0) =
      points th x g n dim := by
  rw [points, coordinates, List.map_map]; rfl

/-- A GEO form without keys (R218, R219). -/
theorem geo_done (hi : Issuing s c w) (hc : Clear c w (geoUses 0 b x g d (n * dim))) (hf : x = 1 → FullService s w)
    (hfin : FiniteCoordinates c w x g (n * dim)) :
    geo s none x g nw d n dim f = .next (laneDone s c w fun _ th =>
      wrote nw d th [BitVec.ofInt 32 (f (points th x g n dim) none)]) := by
  have hservice : (if (x == 1) = true then s.reduced else none) = none := reduced_none_if hi fun h => hf (beq_iff_eq.1 h)
  simp only [geo, hservice]
  refine laneOp_done hi hc fun t ht hm => ?_
  simp only [Option.map_none, format_eq_geoFormat, findIdx_finite (hfin t ht hm), pointsOf_words]
  rfl

/-- A `.sym` form: four bits of its key source for each point (R220, R221). -/
theorem geo_sym (hi : Issuing s c w) (hc : Clear c w (geoUses 1 b x g d (n * dim))) (hr : Readable s c w [b])
    (hf : x = 1 → FullService s w) (hfin : FiniteCoordinates c w x g (n * dim)) :
    geo s (some b) x g nw d n dim f = .next (laneDone s c w fun t th => wrote nw d th
      [BitVec.ofInt 32 (f (points th x g n dim) (some ((List.range n).map (elementOf 4 (s.val c w t b).toNat))))]) := by
  have hservice : (if (x == 1) = true then s.reduced else none) = none := reduced_none_if hi fun h => hf (beq_iff_eq.1 h)
  simp only [geo, hservice]
  refine laneOp_done hi hc fun t ht hm => ?_
  simp only [Option.map_some, readable_src hr ht hm (List.mem_singleton_self b), format_eq_geoFormat,
    findIdx_finite (hfin t ht hm), pointsOf_words]
  rfl

/-- Bit `sym` of a form says whether it has keys (R221). -/
theorem geo_symSource {sym : BitVec 1} (hi : Issuing s c w) (hc : Clear c w (geoUses sym b x g d (n * dim)))
    (hr : sym = 1 → Readable s c w [b]) (hf : x = 1 → FullService s w) (hfin : FiniteCoordinates c w x g (n * dim)) :
    geo s (symSource sym b) x g nw d n dim f = .next (laneDone s c w fun t th => wrote nw d th
      [BitVec.ofInt 32 (f (points th x g n dim)
        (if sym = 1 then some ((List.range n).map (elementOf 4 (s.val c w t b).toNat)) else none))]) := by
  obtain rfl | rfl : sym = 0 ∨ sym = 1 := BitVec.eq_zero_or_eq_one sym
  · exact geo_done hi hc hf hfin
  · exact geo_sym hi hc (hr rfl) hf hfin

end Geometry

end Reals

/-- Settles O8: a form of two sources is `dp2`, one of one source `from64` to a pair, and a fused one `dp3` for its operation;
`ldexp64_done` gives the FP64 `ldexp`. -/
theorem doubleLaneResults : Obligations.DoubleLaneResults := by
  unfold Obligations.DoubleLaneResults
  refine ⟨⟨fun e he s c w b a nw d hi hc hr hf => ?two, fun e he s c w a nw d hi hc hr hf => ?root,
    fun s c w b a nw d hi hc hra hrb hf => ?ldexp⟩, fun e he s c w b a nw d hi hc hr hf => ?fused⟩
  case two =>
    have hexec : exec (e.1 b a nw d) s = dp2 s b a nw d e.2 := by fin_cases he <;> rfl
    exact hexec.trans (dp2_done hi hc hr hf)
  case root =>
    have hexec : exec (e.1 a nw d) s = from64 s true a nw d true e.2 := by fin_cases he <;> rfl
    exact hexec.trans (from64_wide hi hc hr hf)
  case ldexp =>
    have hexec : exec (.frndLdexpF64 b a nw d) s = execFrndLdexpF64 b a nw d s := rfl
    exact hexec.trans (ldexp64_done hi hc hra hrb hf)
  case fused =>
    have hexec : exec (e.1 b a nw d) s = dp3 s b a nw d e.2 := by fin_cases he <;> rfl
    exact hexec.trans (dp3_done hi hc hr hf)

/-- Settles O9: each form is `fp1` for its function. -/
theorem specialFunctionResults : Obligations.SpecialFunctionResults := by
  unfold Obligations.SpecialFunctionResults
  intro e he s c w a nw d hi hc hr
  have hexec : exec (e.1 a nw d) s = fp1 s a nw d e.2 := by fin_cases he <;> rfl
  exact hexec.trans (fp1_done hi hc hr)

/-- Settles O10: each form is `from32` or `from64` for its function in the mode that its selector names, whatever `frm` holds. -/
theorem conversionResults : Obligations.ConversionResults := by
  unfold Obligations.ConversionResults
  refine ⟨fun e he s c w r a nw d hi hc hr hf => ?one, fun e he s c w a nw d hi hc hr hf => ?toPair,
    fun e he s c w r a nw d hi hc hr hf => ?fromPair, fun e he s c w r a nw d hi hc hr hf => ?pair⟩
  case one =>
    have hexec : exec (e.1 r a nw d) s =
        from32 s (if e.2.1 = true then s.reduced else none) a nw d false fun _ => e.2.2 (Mode.of r.toNat) := by
      fin_cases he <;> rfl
    rw [hexec, reduced_none_if hi hf]
    exact from32_done hi hc hr
  case toPair =>
    have hexec : exec (e.1 a nw d) s = from32 s s.reduced a nw d true fun _ => e.2 := by fin_cases he <;> rfl
    rw [hexec, reduced_none hi hf]
    exact from32_wide hi hc hr
  case fromPair =>
    have hexec : exec (e.1 r a nw d) s = from64 s true a nw d false fun _ => e.2 (Mode.of r.toNat) := by fin_cases he <;> rfl
    exact hexec.trans (from64_done hi hc hr hf)
  case pair =>
    have hexec : exec (e.1 r a nw d) s = from64 s e.2.1 a nw d true fun _ => e.2.2 (Mode.of r.toNat) := by
      fin_cases he <;> rfl
    exact hexec.trans (from64_wide hi hc hr hf)

/-- Settles O11: each form is `qcvt4` or `qdec4` for its format, which packs its results where the destination is no FP32
(`qdec4_packed`). -/
theorem narrowFormatResults : Obligations.NarrowFormatResults := by
  unfold Obligations.NarrowFormatResults
  refine ⟨fun e he s c w sat b g r nw d hi hc hr hf => ?quantise, fun e he s c w b a nw d hi hc hr hf => ?wide,
    fun e he s c w b a nw d hi hc hr hf => ?packed⟩
  case quantise =>
    have hexec : exec (e.1 sat b g r nw d) s = qcvt4 s e.2 sat b g r nw d := by fin_cases he <;> rfl
    exact hexec.trans (qcvt4_done hi hc hr hf)
  case wide =>
    have hexec : exec (e.1 b a nw d) s = qdec4 s e.2 fp32 b a nw d := by fin_cases he <;> rfl
    exact hexec.trans (qdec4_wide hi hc hr hf)
  case packed =>
    have hexec : exec (e.1 b a nw d) s = qdec4 s e.2.1 e.2.2 b a nw d := by fin_cases he <;> rfl
    have hdst : e.2.2 ≠ fp32 := by fin_cases he <;> decide
    exact hexec.trans (qdec4_packed hdst hi hc hr hf)

/-- Settles O12: each form is `cmprPair` or `cmprExpand` for its function; a form on FP16 or on 8-bit codes does not trap where the
stack runs at full service (`reduced_none`). -/
theorem twoOfFourResults : Obligations.TwoOfFourResults := by
  unfold Obligations.TwoOfFourResults
  refine ⟨fun s c w f a nw d hi hc hr hf => ?half, fun s c w a nw d hi hc hr hf => ?byte, fun s c w b a nw d hi hc hr => ?expandHalf,
    fun s c w b a nw d hi hc hr hf => ?expandByte⟩
  case half =>
    have hcomp : exec (.cmprComp16 f a nw d) s = cmprPair s (if f = 1 then s.reduced else none) a nw d fun x _ =>
        keptElements 16 (rank16 (halfFormat f)) (group16 x) := rfl
    have hmeta : exec (.cmprMeta16 f a nw d) s = cmprPair s (if f = 1 then s.reduced else none) a nw d fun x old =>
        old.toNat / 2 ^ 4 + 2 ^ 28 * nibbleOf (keptPair (rank16 (halfFormat f)) (group16 x)) := rfl
    rw [hcomp, hmeta, reduced_none_if hi hf]
    exact ⟨cmprPair_done hi hc hr, cmprPair_done hi hc hr⟩
  case byte =>
    have hcomp : exec (.cmprComp8 a nw d) s = cmprPair s s.reduced a nw d fun x _ =>
        keptElements 8 rank8 (group8 (lowWord x)) + 2 ^ 16 * keptElements 8 rank8 (group8 (highWord x)) := rfl
    have hmeta : exec (.cmprMeta8 a nw d) s = cmprPair s s.reduced a nw d fun x old =>
        old.toNat / 2 ^ 8 + 2 ^ 28 * nibbleOf (keptPair rank8 (group8 (highWord x))) +
          2 ^ 24 * nibbleOf (keptPair rank8 (group8 (lowWord x))) := rfl
    rw [hcomp, hmeta, reduced_none hi hf]
    exact ⟨cmprPair_done hi hc hr, cmprPair_done hi hc hr⟩
  case expandHalf =>
    have hexec : exec (.cmprExp16 b a nw d) s = execCmprExp16 b a nw d s := rfl
    exact hexec.trans (cmprExpand_done hi hc hr)
  case expandByte =>
    have hexec : exec (.cmprExp8 b a nw d) s = cmprExpand s s.reduced b a nw d fun x y =>
        [packElements 8 (expandGroup (y % 16) (elementOf 8 x 0) (elementOf 8 x 1)),
         packElements 8 (expandGroup (y / 16 % 16) (elementOf 8 x 2) (elementOf 8 x 3))] := rfl
    rw [hexec, reduced_none hi hf]
    exact cmprExpand_done hi hc hr

/-- Settles O13: a determinant form is `geo` for the sign of its determinant, with the key source that its bit names
(`geo_symSource`), and `segx` is `geo` without keys (`geo_done`). -/
theorem geometricResults : Obligations.GeometricResults := by
  unfold Obligations.GeometricResults
  refine ⟨fun e he s c w sym b x a nw d hi hc hr hf hfin => ?sign, fun s c w x a nw d hi hc hf hfin => ?cross⟩
  case sign =>
    have hexec : exec (e.1 sym b x a nw d) s = geo s (symSource sym b) x a nw d e.2.1 e.2.2.1 (geoSign e.2.2.2) := by
      fin_cases he <;> rfl
    exact hexec.trans (geo_symSource hi hc hr hf hfin)
  case cross =>
    have hexec : exec (.geoSegx x a nw d) s = geo s none x a nw d 4 2 fun p _ => geoCross p := rfl
    exact hexec.trans (geo_done hi hc hf hfin)

end Sys2Proof.Machine

namespace Sys2Proof.Machine

/-! Atomics (R230 to R232): each form is `atomicOp` for its size, its registers and its new value. -/

/-- Settles O22: each form of AMO32 is `amo32` for its function and each form of AMOX is `atomicOp`, and `atomic_done` gives what the
threads' turns leave. -/
theorem atomicResults : Obligations.AtomicResults := by
  unfold Obligations.AtomicResults
  refine ⟨fun e he s c w o q a d t hi hc ht => ?_, fun e he s c w o q a d t hi hc ht => ?_⟩
  · have hexec : exec (e.1 o q a d) s = amo32 s o q a d e.2 := by fin_cases he <;> rfl
    exact hexec.trans (atomic_done hi hc ht)
  · have hexec : exec (e.1 o q a d) s = atomicOp s o q a d e.2.1 e.2.2.1 (e.2.2.2 d.toNat) := by fin_cases he <;> rfl
    exact hexec.trans (atomic_done hi hc ht)

end Sys2Proof.Machine

/-! The scratchpad (R92, R240): what its accesses read, write and leave, and what stops them. -/
namespace Sys2Proof.Machine

section Pad
variable {s : State} {k n : Nat} {v : Dword}

/-! ## Bytes read and written -/

theorem recallAll_ground (s : State) (ws : List Nat) : (s.recallAll ws).ground = s.ground := giveBacks_ground ..

theorem recallAll_nil (s : State) : s.recallAll [] = s := by simp [State.recallAll]

theorem writeTime_spad (s : State) (ws : List Nat) (v : Dword) : (s.writeTime ws v).1.spad = s.spad := by
  unfold State.writeTime
  refine foldl_keeps (fun x : State × Dword => x.1.spad) (fun x w => ?_) ws (s, v)
  rfl

/-- A read brings home what cores own of mapped bytes, and nothing where no mapping entry covers them. -/
theorem padGet_eq (s : State) (v : Dword) (k n : Nat) : ∃ t v', s.padGet v k n = (t, v', memBytes s.spad k n) ∧
    t.spad = s.spad ∧ t.mem = s.mem ∧ (s.padClocks k n = [] → t = s ∧ v' = v) := by
  refine ⟨_, _, rfl, spad_of_ground (recallAll_ground ..), mem_of_contents (recallAll_contents ..), fun h => ?_⟩
  rw [h]
  exact ⟨recallAll_nil s, rfl⟩

/-- A write puts its bytes into a state with the scratchpads and the memory of the one before; where no mapping entry covers them,
into that one. -/
theorem padPut_eq (s : State) (v : Dword) (k : Nat) (bs : List Byte) : ∃ u v', s.padPut v k bs = (u.putPad k bs, v') ∧
    u.spad = s.spad ∧ u.mem = s.mem ∧ (s.padClocks k bs.length = [] → u = s ∧ v' = v) := by
  by_cases h : (s.padClocks k bs.length).isEmpty = true
  · exact ⟨s, v, if_pos h, rfl, rfl, fun _ => ⟨rfl, rfl⟩⟩
  · refine ⟨_, _, if_neg h, ?_, mem_of_contents ?_, fun h0 => absurd (by rw [h0]; rfl) h⟩
    · exact (writeTime_spad ..).trans (spad_of_ground (recallAll_ground ..))
    · exact (writeTime_contents ..).trans (recallAll_contents ..)

/-- Bytes that have been written are poison no more (R89). -/
theorem marked_putPad (s : State) (k : Nat) (bs : List Byte) : marked (s.putPad k bs).spadPoison k bs.length = false := by
  rw [← Bool.not_eq_true, marked_iff]
  rintro ⟨e, he, hlo, hhi⟩
  have hout := (List.mem_filter.1 he).2
  simp [hlo, hhi] at hout

/-! ## Loads and stores (R240) -/

variable {c : Crew} {o : Nat} {bs : List Byte}

theorem padLoad_unaligned (h : o % n ≠ 0) : s.padLoad c v o n = .trap (trapAt 4 n (BitVec.ofNat 64 o)) := if_pos h

theorem padLoad_beyond (ha : o % n = 0) (h : c.size < o + n) : s.padLoad c v o n = .trap (trapAt 0xE 1 (BitVec.ofNat 64 o)) := by
  rw [State.padLoad, if_neg (not_not.2 ha), if_pos h]

/-- A load of bytes that the crew has and that are not lost delivers them, unless they are poison. -/
theorem padLoad_reached (ha : o % n = 0) (h : o + n ≤ c.size) (hl : s.padLost (c.padAt o) n = false) : s.padLoad c v o n =
    if marked s.spadPoison (c.padAt o) n then .trap (trapAt 0xA 0 (BitVec.ofNat 64 o)) else .ok (s.padGet v (c.padAt o) n) := by
  rw [State.padLoad, if_neg (not_not.2 ha), if_neg (Nat.not_lt.2 h)]
  exact if_neg (Bool.eq_false_iff.1 hl)

theorem padStore_unaligned (h : o % bs.length ≠ 0) : s.padStore c v o bs = .trap (trapAt 4 bs.length (BitVec.ofNat 64 o)) := if_pos h

theorem padStore_beyond (ha : o % bs.length = 0) (h : c.size < o + bs.length) :
    s.padStore c v o bs = .trap (trapAt 0xE 1 (BitVec.ofNat 64 o)) := by
  unfold State.padStore
  dsimp only
  rw [if_neg (not_not.2 ha), if_pos h]

theorem padStore_reached (ha : o % bs.length = 0) (h : o + bs.length ≤ c.size) (hl : s.padLost (c.padAt o) bs.length = false) :
    s.padStore c v o bs = .ok (s.padPut v (c.padAt o) bs) := by
  unfold State.padStore
  dsimp only
  rw [if_neg (not_not.2 ha), if_neg (Nat.not_lt.2 h), if_neg (Bool.eq_false_iff.1 hl)]

end Pad

/-- Settles O25: each form is `padLoadOp` or `padStoreOp` for its size; `padGet_eq` and `padPut_eq` say what an access reads, writes and
leaves. -/
theorem scratchpadResults : Obligations.ScratchpadResults := by
  unfold Obligations.ScratchpadResults
  refine ⟨fun e he s c w b a d t hi hc ht => ?loads, fun e he s c w b a d t hi hc ht => ?stores, fun s c v o n => ?load,
    fun s c v o bs => ?store⟩
  case loads =>
    have hexec : exec (e.1 b a d) s = padLoadOp s b a d e.2 := by fin_cases he <;> rfl
    have hsize : groupSize e.2 = e.2 / 4 := by fin_cases he <;> rfl
    exact hexec.trans (padLoad_done hi (by rwa [hsize]) ht)
  case stores =>
    have hexec : exec (e.1 b a d) s = padStoreOp s b a d e.2 := by fin_cases he <;> rfl
    have hsize : groupSize e.2 = e.2 / 4 := by fin_cases he <;> rfl
    exact hexec.trans (padStore_done hi (by rwa [hsize]) ht)
  case load =>
    refine ⟨padLoad_unaligned, padLoad_beyond, fun ha h hl => ?_⟩
    rw [padLoad_reached ha h hl]
    refine ⟨fun hp => if_pos hp, fun hp => ?_⟩
    obtain ⟨t, v', hget, hleft⟩ := padGet_eq s v (c.padAt o) n
    exact ⟨t, v', by rw [hp, ← hget]; rfl, hleft⟩
  case store =>
    refine ⟨padStore_unaligned, padStore_beyond, fun ha h hl => ?_⟩
    obtain ⟨u, v', hput, hspad, hmem, hunmapped⟩ := padPut_eq s v (c.padAt o) bs
    refine ⟨_, v', (padStore_reached ha h hl).trans (congrArg Answer.ok hput), memBytes_memPut .., fun a hout => ?_, hmem,
      marked_putPad .., fun hnone => ?_⟩
    · exact (wget_memPut_outside _ _ _ hout).trans (congrArg (wget · a) hspad)
    · obtain ⟨rfl, rfl⟩ := hunmapped hnone
      exact ⟨rfl, rfl⟩

end Sys2Proof.Machine

namespace Sys2Proof.Machine

/-! `tret` outside a handler (R28, R146, R283). -/

/-- Outside a handler `tret` is a decoding trap of every thread of the group, and no switch point (R146, log 58). -/
theorem exec_tret_outside {s : State} {c : Cur} {w : Warp} {a : BitVec 7} (hi : Issuing s c w) (hc : Clear c w (useUni a 1))
    (h : w.handlerIn c.group = .none) : exec (.tret a) s = .next (s.raiseAll c c.group (trapAt 2 13 0)) := by
  obtain ⟨hcur, hw⟩ := hi
  obtain ⟨hdeclared, -⟩ := hc
  have honly : s.trapOnly = some (2, 13) := by simp [State.trapOnly, hcur, hw, h]
  refine (onIssue_issuing ⟨hcur, hw⟩).trans ?_
  unfold gated
  simp only [hdeclared, honly, Bool.not_true, Bool.false_eq_true, if_false]
  rfl

/-- Refutes O41: its clause on `tret` outside a handler has the trap taken in an issue that has become a switch point
(`State.switched`). The threads of `Tests.fix` run no handler; in the model their trap of cause 0x02, sub-cause 13 is a decoding trap, which
leaves the issue as it was (`exec_tret_outside`). -/
theorem not_returnResults : ¬ Obligations.ReturnResults := by
  unfold Obligations.ReturnResults
  rintro ⟨-, -, -, htret⟩
  have hi : Issuing Tests.fix Tests.cur Tests.warp := ⟨rfl, rfl⟩
  have hc : Clear Tests.cur Tests.warp (useUni 0x64 1) := ⟨by decide, by decide, by decide, by decide, by decide⟩
  have hnone : Tests.warp.handlerIn Tests.cur.group = .none := by decide +kernel
  obtain ⟨hclause, -⟩ := htret Tests.fix Tests.cur Tests.warp 0x64 0 Partition.placed (Tests.fix, 0, []) hi hc
  have hsame := Host.Outcome.next.inj ((exec_tret_outside hi hc hnone).symm.trans (hclause hnone))
  have hmodel : (Tests.fix.raiseAll Tests.cur Tests.cur.group (trapAt 2 13 0)).switch = false := by decide +kernel
  have hstated : (Tests.fix.switched.raiseAll Tests.cur Tests.cur.group (trapAt 2 13 0)).switch = true := by decide +kernel
  rw [hsame, hstated] at hmodel
  exact Bool.noConfusion hmodel

end Sys2Proof.Machine

namespace Sys2Proof.Machine

/-! Commands whose checks pass (R247, R249, R260, R263 to R265, R274, R378): each form submits one, and its issue goes on. -/

section Commands
variable {s t : State} {c : Cur} {w : Warp} {crew : Crew} {r q : BitVec 1} {d : BitVec 6} {a k : BitVec 5} {td td2 : Desc}

/-- A copy has one control register where it fills a buffer, and two in every other form (R258). -/
theorem copyOp_submits {form x : Nat} (hi : Issuing s c w) (hk : s.crewOf w = some crew)
    (hc : Clear c w ((useS a.toNat (if form = 0 ∨ form = 4 then 1 else 2)).and (useD k.toNat 1)))
    (hd : crew.desc d.toNat = .ok td) (hd2 : crew.secondDesc (form == 3) d.toNat = .ok td2) :
    let c1 := if form = 0 ∨ form = 4 then 0 else w.sreg (a.toNat + 1)
    s.copyCheck (s.coreOf w) crew form d.toNat x td td2 (w.sreg a.toNat) c1 = none →
    s.submit c w (some k.toNat) true (q == 1) (r == 1) (.copy form x td td2 (w.sreg a.toNat) c1) = .done t →
    copyOp s form r q d x a k = .next (t.advance c c.group) := by
  intro c1 hcheck hsubmit
  have hwide : ∀ {α : Type} (y z : α), (if form ≠ 0 ∧ form ≠ 4 then y else z) = if form = 0 ∨ form = 4 then z else y := by
    intro α y z
    simp only [ne_eq, ← not_or, ite_not]
  unfold copyOp
  simp only [hwide]
  refine engineOp_done hi hk hc ?_
  simp only [switchIf_false, hd, hd2, Answer.andThen]
  rw [hcheck]
  exact congrArg Answer.ok hsubmit

theorem kvOp_submits {form x : Nat} (hi : Issuing s c w) (hk : s.crewOf w = some crew)
    (hc : Clear c w ((useS a.toNat 4).and (useD k.toNat 1))) (hd : crew.desc d.toNat = .ok td)
    (hcheck : s.kvCheck (s.coreOf w) crew form a.toNat d.toNat x td (w.sreg (a.toNat + 2)) (w.sreg (a.toNat + 3)) = none)
    (hsubmit : s.submit c w (some k.toNat) true (q == 1) (r == 1) (.kv form x td (w.sreg a.toNat) (w.sreg (a.toNat + 1))
      (w.sreg (a.toNat + 2)) (w.sreg (a.toNat + 3))) = .done t) :
    kvOp s form r q d x a k = .next (t.advance c c.group) := by
  refine engineOp_done hi hk hc ?_
  simp only [switchIf_false, hd, Answer.andThen, hcheck, checked, hsubmit]

/-- At full service no format of an operand is refused (R389). -/
theorem mmaReduced_full (hi : Issuing s c w) (hf : FullService s w) (sparse : Bool) (b a : BitVec 5) (y x : BitVec 1) :
    s.mmaReduced sparse b a y x = none := by
  unfold State.mmaReduced
  split
  · split
    · exact reduced_none hi hf
    · rfl
  · rfl

theorem mmaOp_submits {overwrite : Bool} {p u y x : BitVec 1} {b : BitVec 5} {acc : BitVec 3} (hi : Issuing s c w)
    (hk : s.crewOf w = some crew) (hc : Clear c w (mmaUses b a y x)) (hf : FullService s w)
    (hcheck : s.mmaCheck (s.coreOf w) crew (p == 1) (u == 1) overwrite a.toNat b.toNat (w.padOperand x a) (w.padOperand y b)
      acc.toNat = none)
    (hsubmit : s.submit c w none false true false (.mma (p == 1) (u == 1) overwrite a.toNat b.toNat (w.padOperand x a)
      (w.padOperand y b) acc.toNat) = .done t) :
    mmaOp s overwrite p u b a y x acc = .next (t.advance c c.group) := by
  refine unitOp_allowed hi hc (mmaReduced_full hi hf ..) ?_
  simp only [hk, hcheck, hsubmit]

/-- A collective joins the others of its group once it is in the task table (R378). -/
theorem colOp_joins {fn : Nat} (hi : Issuing s c w) (hk : s.crewOf w = some crew)
    (hc : Clear c w ((useS a.toNat 1).and (useD k.toNat 1))) (hd : crew.firstDesc fn d.toNat = .ok td)
    (hd2 : crew.secondDesc (fn == 5) d.toNat = .ok td2)
    (hsubmit : s.submit c w (some k.toNat) true (q == 1) (r == 1) (.col fn td td2 (w.sreg a.toNat)) = .done t) :
    colOp s fn r q d a k = .next ((t.joinCollective (s.coreOf w) (s.pickEntry (s.core (s.coreOf w)))
      (((s.launchOf w).map Prod.fst).getD 0) (w.sreg a.toNat)).advance c c.group) := by
  refine engineOp_done hi hk hc ?_
  simp only [switchIf_false, hd, hd2, Answer.andThen, hsubmit, State.thenJoin]

end Commands

/-- Settles O29: each copy is `copyOp` and each KV transfer `kvOp` for its form; what they submit is done by `submit_done`. -/
theorem transferForms : Obligations.TransferForms := by
  unfold Obligations.TransferForms
  refine ⟨fun e he s cur w crew r q d x a k td td2 hi hk hc hd hd2 => ?copy,
    fun e he s cur w crew r q d x a k td hi hk hc hd => ?kv⟩
  case copy =>
    intro n c1 hcheck hfree
    have hform : exec (e.1 r q d x a k) s = copyOp s e.2 r q d n a k := by fin_cases he <;> rfl
    obtain ⟨u, hsubmit⟩ := submit_done hfree
    exact ⟨u, hsubmit, hform.trans (copyOp_submits hi hk hc hd hd2 hcheck hsubmit)⟩
  case kv =>
    intro n hcheck hfree
    have hform : exec (e.1 r q d x a k) s = kvOp s e.2 r q d n a k := by fin_cases he <;> rfl
    obtain ⟨u, hsubmit⟩ := submit_done hfree
    exact ⟨u, hsubmit, hform.trans (kvOp_submits hi hk hc hd hcheck hsubmit)⟩

/-- Settles O30: both forms are `mmaOp`, one of them overwriting; what they submit is done by `submit_done`. -/
theorem matrixForms : Obligations.MatrixForms := by
  unfold Obligations.MatrixForms
  intro e he s cur w crew p t b a y x acc hi hk hc hf hcheck hfree
  have hform : exec (e.1 p t b a y x acc) s = mmaOp s e.2 p t b a y x acc := by fin_cases he <;> rfl
  obtain ⟨u, hsubmit⟩ := submit_done hfree
  exact ⟨u, hsubmit, hform.trans (mmaOp_submits hi hk hc hf hcheck hsubmit)⟩

/-- Settles O31: each form is `colOp` for its function; that of `bar` names descriptor 0, which it does not read. -/
theorem collectiveForms : Obligations.CollectiveForms := by
  unfold Obligations.CollectiveForms
  intro e he s cur w crew r q d a k td td2 hi hk hc hd hd2 hfree
  have hform : exec (e.1 r q d a k) s = colOp s e.2 r q (if e.2 = 6 then 0 else d) a k := by fin_cases he <;> rfl
  have hnumber : (if e.2 = 6 then 0 else d).toNat = if e.2 = 6 then 0 else d.toNat := by split <;> rfl
  rw [← hnumber] at hd hd2
  obtain ⟨u, hsubmit⟩ := submit_done hfree
  exact ⟨u, hsubmit, hform.trans (colOp_joins hi hk hc hd hd2 hsubmit)⟩

end Sys2Proof.Machine

namespace Sys2Proof.Machine

/-! Accumulators and the cap (R268 to R272): the mitt, the images that move to and from the scratchpad, and `cap.pass`. -/

/-! ## Runs of bytes and of words -/

theorem memBytes_take_drop (m : Memory) (a : Nat) {n i k : Nat} (h : i + k ≤ n) :
    ((memBytes m a n).drop i).take k = memBytes m (a + i) k := by
  induction i generalizing a n with
  | zero =>
    induction k generalizing a n with
    | zero => simp [memBytes]
    | succ k ih =>
      obtain ⟨n, rfl⟩ : ∃ l, n = l + 1 := ⟨n - 1, by omega⟩
      have := ih (a + 1) (n := n) (by omega)
      simpa [memBytes] using this
  | succ i ih =>
    obtain ⟨n, rfl⟩ : ∃ l, n = l + 1 := ⟨n - 1, by omega⟩
    rw [memBytes, List.drop_succ_cons, ih (a + 1) (by omega), Nat.add_assoc, Nat.add_comm 1]

/-- Of runs of one length in a row, the one at a place. -/
theorem flatMap_take_drop {α β : Type} {l : List α} {g : α → List β} {k : Nat} (hg : ∀ a, (g a).length = k) {i : Nat}
    (hi : i < l.length) : ((l.flatMap g).drop (k * i)).take k = g l[i] := by
  induction l generalizing i with
  | nil => cases hi
  | cons a r ih =>
    cases i with
    | zero => simp [hg]
    | succ i =>
      rw [List.flatMap_cons, Nat.mul_succ, Nat.add_comm, ← List.drop_drop, List.drop_left' (hg a)]
      exact ih (Nat.lt_of_succ_lt_succ hi)

/-- A table into which a list of keys has been written. -/
theorem wget_foldl_wput {n : Nat} (g : Nat → BitVec n) (l : List Nat) (t : Tab (BitVec n)) (i : Nat) :
    wget (l.foldl (fun t i => wput t i (g i)) t) i = if i ∈ l then g i else wget t i := by
  induction l generalizing t with
  | nil => simp
  | cons a r ih =>
    rw [List.foldl_cons, ih]
    by_cases h : i = a
    · subst h
      simp [wget_wput_same]
    · simp [h, wget_wput_other _ _ h]

/-! ## What accesses to the scratchpad leave of the cores -/

theorem writeTime_cores (s : State) (ws : List Nat) (v : Dword) : (s.writeTime ws v).1.cores = s.cores := by
  unfold State.writeTime
  refine foldl_keeps (fun x : State × Dword => x.1.cores) (fun x w => ?_) ws (s, v)
  rfl

theorem cores_of_ground {s t : State} (h : t.ground = s.ground) : t.cores = s.cores := (congrArg State.cores h :)

theorem padPut_cores (s : State) (v : Dword) (k : Nat) (bs : List Byte) : (s.padPut v k bs).1.cores = s.cores := by
  unfold State.padPut
  generalize s.padClocks k bs.length = ws
  dsimp only
  split
  · rfl
  · change ((s.recallAll ws).writeTime ws v).1.cores = s.cores
    exact (writeTime_cores ..).trans (cores_of_ground (recallAll_ground ..))

theorem padPut_bytes (s : State) (v : Dword) (k : Nat) (bs : List Byte) : (s.padPut v k bs).1.spad = memPut s.spad k bs := by
  obtain ⟨u, v', hput, hspad, -⟩ := padPut_eq s v k bs
  rw [hput, ← hspad]
  rfl

theorem poisonPad_cores (s : State) (k n : Nat) : (s.poisonPad k n).cores = s.cores := rfl
theorem poisonPad_spad (s : State) (k n : Nat) : (s.poisonPad k n).spad = s.spad := rfl

/-- Threads that acquire a time change their warp alone. -/
theorem acquire_warps (s : State) (wk : Nat) (m : Word) (v : Dword) : ∃ ws, s.acquire wk m v = { s with warps := ws } := by
  unfold State.acquire State.onWarp
  split
  · exact ⟨s.warps, rfl⟩
  · split
    · exact ⟨_, rfl⟩
    · exact ⟨s.warps, rfl⟩

/-! ## Images of an accumulator (R268) -/

/-- The elements that a 4 KiB image gives. -/
def imageWords (bs : List Byte) : Tab Word :=
  (List.range 1024).foldl (fun t i => wput t i (BitVec.ofNat 32 (bytesNat ((bs.drop (4 * i)).take 4)))) []

/-- The image of an accumulator's elements. -/
def imageBytes (el : Tab Word) : List Byte := (List.range 1024).flatMap fun i => natBytes 4 (wget el i).toNat

theorem imageWords_memBytes (m : Memory) (o : Nat) {i : Nat} (hi : i < 1024) :
    wget (imageWords (memBytes m o 4096)) i = BitVec.ofNat 32 (bytesNat (memBytes m (o + 4 * i) 4)) := by
  rw [imageWords, wget_foldl_wput, if_pos (List.mem_range.2 hi), memBytes_take_drop m o (by omega)]

theorem length_imageBytes (el : Tab Word) : (imageBytes el).length = 4096 := by
  simp only [imageBytes, List.length_flatMap, length_natBytes, List.map_const', List.sum_replicate, List.length_range]
  rfl

/-- The word of an element in the image, once it stands in the scratchpad. -/
theorem memBytes_imageBytes (m : Memory) (o : Nat) (el : Tab Word) {i : Nat} (hi : i < 1024) :
    memBytes (memPut m o (imageBytes el)) (o + 4 * i) 4 = natBytes 4 (wget el i).toNat := by
  have himage := memBytes_memPut m o (imageBytes el)
  rw [length_imageBytes] at himage
  rw [← memBytes_take_drop _ o (n := 4096) (by omega), himage, imageBytes,
    flatMap_take_drop (fun _ => length_natBytes ..) (by simpa using hi), List.getElem_range]

section Accumulators
variable {s : State} {c : Cur} {w : Warp} {crew : Crew} {x : BitVec 3}

/-! ## Forms that need the mitt (R268) -/

theorem accOp_bare {f : State → Cur → Warp → Crew → Acc → Nat → State} (hi : Issuing s c w) (hk : s.crewOf w = some crew)
    (hc : Clear c w Uses.none) (hm : ((s.core (s.coreOf w)).acc x.toNat).mitt = some c.warp) :
    accOp s x none f = .next ((f s c w crew ((s.core (s.coreOf w)).acc x.toNat) 0).advance c c.group) := by
  refine engineOp_done hi hk hc ?_
  simp only [switchIf_false, hm, ne_eq, not_true_eq_false, if_false, checked, Option.isSome_none, Bool.false_eq_true,
    Bool.false_and]

theorem exec_azero (hi : Issuing s c w) (hk : s.crewOf w = some crew) (hc : Clear c w Uses.none) :
    let k := s.core (s.coreOf w)
    (k.acc x.toNat).mitt = some c.warp → exec (.azero x) s = .next ((s.setCore (s.coreOf w)
      (k.setAcc x.toNat { k.acc x.toNat with el := [], defined := true, poison := false })).advance c c.group) := by
  intro k hm
  change execAzero x s = _
  exact accOp_bare hi hk hc hm

section Image
variable {a : BitVec 7} (hi : Issuing s c w) (hk : s.crewOf w = some crew) (hc : Clear c w (useUni a 1))
  (hm : ((s.core (s.coreOf w)).acc x.toNat).mitt = some c.warp) (hpad : crew.padTrap (s.uarg c w a).toNat 128 4096 = none)
  (hlost : s.padLost (crew.padAt (s.uarg c w a).toNat) 4096 = false)
include hi hk hc hm hpad hlost

theorem accOp_image {f : State → Cur → Warp → Crew → Acc → Nat → State} :
    accOp s x (some a) f =
      .next ((f s c w crew ((s.core (s.coreOf w)).acc x.toNat) (s.uarg c w a).toNat).advance c c.group) := by
  have hpad' : crew.padTrap ((s.ctx c w).usrc a).toNat 128 4096 = none := hpad
  have hlost' : s.padLost (crew.padAt ((s.ctx c w).usrc a).toNat) 4096 = false := hlost
  refine engineOp_done hi hk hc ?_
  simp only [switchIf_false, hm, ne_eq, not_true_eq_false, if_false, Option.isSome_some, if_true, hpad', hlost', Bool.and_false,
    Bool.false_eq_true, checked]
  rfl

/-- `amov` defines the accumulator by the image, with its poison (R268). -/
theorem exec_amov :
    ∃ t : State, exec (.amov a x) s = .next (t.advance c c.group) ∧
      (t.core (s.coreOf w)).acc x.toNat = { (s.core (s.coreOf w)).acc x.toNat with
        el := imageWords (memBytes s.spad (crew.padAt (s.uarg c w a).toNat) 4096), defined := true,
        poison := marked s.spadPoison (crew.padAt (s.uarg c w a).toNat) 4096 } := by
  have hexec : exec (.amov a x) s = execAmov a x s := rfl
  refine ⟨_, hexec.trans (accOp_image hi hk hc hm hpad hlost), ?_⟩
  dsimp only
  generalize hread : State.onCore _ _ _ = u
  obtain ⟨ws, hws⟩ := acquire_warps u c.warp c.taking (s.padGet (w.viewIn c.taking) (crew.padAt (s.uarg c w a).toNat) 4096).2.1
  rw [hws, ← hread]
  change ((State.setCore _ _ _).core _).acc _ = _
  rw [State.setCore_same, Core.setAcc_same]
  rfl

/-- `ast` puts the image of the accumulator into the scratchpad, and changes no core (R268). -/
theorem exec_ast :
    ∃ t : State, exec (.ast a x) s = .next (t.advance c c.group) ∧ t.cores = s.cores ∧
      t.spad = memPut s.spad (crew.padAt (s.uarg c w a).toNat) (imageBytes ((s.core (s.coreOf w)).acc x.toNat).el) := by
  have hexec : exec (.ast a x) s = execAst a x s := rfl
  refine ⟨_, hexec.trans (accOp_image hi hk hc hm hpad hlost), ?_⟩
  dsimp only
  generalize hput : s.padPut _ _ _ = r
  have hcores : r.1.cores = s.cores := hput ▸ padPut_cores ..
  have hspad : r.1.spad = _ := hput ▸ padPut_bytes ..
  generalize hmarked : (if ((s.core (s.coreOf w)).acc x.toNat).poison = true then _ else r.1) = u
  have hu : u.cores = r.1.cores ∧ u.spad = r.1.spad := by
    rw [← hmarked]
    split
    · exact ⟨poisonPad_cores .., poisonPad_spad ..⟩
    · exact ⟨rfl, rfl⟩
  obtain ⟨ws, hws⟩ := acquire_warps u c.warp c.taking r.2
  rw [hws]
  exact ⟨hu.1.trans hcores, hu.2.trans hspad⟩

end Image

/-! ## The mitt (R269) -/

theorem exec_acq_held (hi : Issuing s c w) (hk : s.crewOf w = some crew) (hc : Clear c w Uses.none)
    (hm : ((s.core (s.coreOf w)).acc x.toNat).mitt = some c.warp) :
    exec (.acq x) s = .next (s.switched.advance c c.group) := by
  refine engineOp_done hi hk hc ?_
  rw [switchIf_true]
  exact if_pos hm

/-- An `acq` that waits alone, for no earlier task, is granted the mitt. -/
theorem grant_first {k : Core} {a wk : Nat} (hm : (k.acc a).mitt = none) (hw : (k.acc a).waiting = [])
    (ht : k.targeted a k.submitted = false) :
    (k.setAcc a { k.acc a with waiting := (k.acc a).waiting ++ [{ warp := wk, upTo := k.submitted }] }).grant a =
      k.setAcc a { k.acc a with mitt := some wk } := by
  have htargeted : ∀ y, (k.setAcc a y).targeted a k.submitted = false := fun _ => ht
  unfold Core.grant
  simp only [Core.setAcc_same, hm, hw, List.nil_append, htargeted, Bool.false_eq_true, if_false]
  rw [Core.setAcc, Core.setAcc, tput_tput, ← hw]
  rfl

theorem exec_acq_free (hi : Issuing s c w) (hk : s.crewOf w = some crew) (hc : Clear c w Uses.none) :
    let k := s.core (s.coreOf w)
    (k.acc x.toNat).mitt = none → (k.acc x.toNat).waiting = [] → k.targeted x.toNat k.submitted = false →
    exec (.acq x) s = .next ((s.switched.setCore (s.coreOf w)
      (k.setAcc x.toNat { k.acc x.toNat with mitt := some c.warp })).advance c c.group) := by
  intro k hm hw ht
  have hgrant := grant_first (wk := c.warp) hm hw ht
  refine engineOp_done hi hk hc ?_
  have hcore : s.switched.core (s.switched.coreOf w) = k := rfl
  have hwaits : ((k.acc x.toNat).waiting.any fun m => m.warp == c.warp) = false := by rw [hw]; rfl
  simp only [switchIf_true, hcore, hwaits, Bool.false_eq_true, if_false, hgrant, Core.setAcc_same, if_true]
  rw [hm, if_neg (by simp), if_neg (by simp)]
  rfl

theorem exec_rel (hi : Issuing s c w) (hk : s.crewOf w = some crew) (hc : Clear c w Uses.none) :
    let k := s.core (s.coreOf w)
    ((k.acc x.toNat).mitt = some c.warp → exec (.rel x) s = .next ((s.setCore (s.coreOf w)
      ((k.setAcc x.toNat { k.acc x.toNat with mitt := none }).grant x.toNat)).advance c c.group)) ∧
    ((k.acc x.toNat).mitt = none → exec (.rel x) s = .next (s.advance c c.group)) := by
  refine ⟨fun hm => engineOp_done hi hk hc ?_, fun hm => engineOp_done hi hk hc ?_⟩
  · rw [switchIf_false]
    exact if_pos hm
  · rw [switchIf_false]
    dsimp only
    rw [hm, if_neg (by simp), if_neg (by simp)]

/-! ## The cap (R272) -/

theorem exec_capPass (hi : Issuing s c w) (hk : s.crewOf w = some crew) (hc : Clear c w Uses.none) :
    exec .capPass s = .next ((if capGroup crew.warps.length w.wix = crew.cap then
      (s.setCrew w.crew { crew with marks := setBit crew.marks w.wix true }).settleCap w.crew else s).advance c c.group) := by
  refine engineOp_done hi hk hc ?_
  rw [switchIf_false, ite_not]
  split <;> rfl

end Accumulators

/-- Settles O32: the mitt by `exec_acq_held`, `exec_acq_free` and `exec_rel`; an image that is read gives its words
(`imageWords_memBytes`), and one that is written stands in the scratchpad (`memBytes_imageBytes`). -/
theorem accumulatorForms : Obligations.AccumulatorForms := by
  unfold Obligations.AccumulatorForms
  intro s c w crew x hi hk core k y goes
  refine ⟨exec_acq_held hi hk, exec_acq_free hi hk, fun hc => (exec_rel hi hk hc).1, fun hc => (exec_rel hi hk hc).2,
    exec_azero hi hk, fun a hc hm hpad hlost => ⟨?_, ?_⟩, exec_capPass hi hk⟩
  · obtain ⟨t, hexec, hacc⟩ := exec_amov hi hk hc hm hpad hlost
    refine ⟨t, hexec, ?_⟩
    dsimp only
    rw [hacc]
    dsimp only
    exact ⟨rfl, rfl, hm, fun i hlt => imageWords_memBytes s.spad (crew.padAt (s.uarg c w a).toNat) hlt⟩
  · obtain ⟨t, hexec, hcores, hspad⟩ := exec_ast hi hk hc hm hpad hlost
    refine ⟨t, hexec, congrArg (fun l => (tfind l core).getD Core.init) hcores, fun i hlt => ?_, fun b hb => ?_⟩
    · rw [hspad, memBytes_imageBytes _ _ _ hlt]
      exact bytesNat_natBytes 4 _ (wget y.el i).isLt
    · rw [hspad]
      exact wget_memPut_outside _ _ _ (by rwa [length_imageBytes])

end Sys2Proof.Machine

namespace Sys2Proof.Machine

/-! Saving and restoring a warp (R276, R283, R302, R303): the forms of a pre-emption handler, and `kv.kvinv`. -/

section Saves
variable {s : State} {c : Cur} {w : Warp}

/-! ## Resume records (R302) -/

/-- The two selectors of an item that a record has. -/
theorem toNat_selects (x : Word) : (x.toNat = 0 ↔ x = 0) ∧ (x.toNat = 1 ↔ x = 1) :=
  ⟨BitVec.toNat_inj (y := 0), BitVec.toNat_inj (y := 1)⟩

theorem recordItem_eq (th : Thread) (x : Word) :
    th.recordItem x.toNat = if x = 0 then th.resume else if x = 1 then BitVec.ofNat 64 th.left else 0 := by
  simp only [Thread.recordItem, toNat_selects]

theorem setRecordItem_eq (th : Thread) (x : Word) (y : Dword) : th.setRecordItem x.toNat y =
    if x = 0 then { th with resume := y &&& 0xC1FFFFFFFFFFFFFE } else if x = 1 then { th with left := y.toNat } else th := by
  simp only [Thread.setRecordItem, toNat_selects]

/-- A lane form whose further decoding condition is met, and none of whose threads traps. -/
theorem laneOp_allowed {u : Uses} {extra : Option (Nat × Nat)} {f : Ctx → Nat → Thread → LaneResult}
    {g : Nat → Thread → Thread × Raised} (hi : Issuing s c w) (hc : Clear c w u) (he : extra = none)
    (h : ∀ t < 32, inMask c.taking t = true → f (s.plain c w) t (w.thread t) = .ok (g t (w.thread t))) :
    laneOp s u extra f = .next (laneDone s c w g) := by
  subst he
  exact laneOp_done hi hc h

theorem exec_pcrd {b : BitVec 7} {nw : BitVec 1} {d : BitVec 6} (hi : Issuing s c w) (hsave : Saving c w)
    (hc : Clear c w ((useSrc b 1).and (useV d.toNat 2))) (hr : Readable s c w [b]) :
    exec (.pcrd b nw d) s = .next (laneDone s c w fun t th =>
      wrote nw d th [lowWord (th.recordItem (s.val c w t b).toNat), highWord (th.recordItem (s.val c w t b).toNat)]) := by
  change execPcrd b nw d s = _
  unfold execPcrd
  refine laneOp_allowed hi hc (preemptOnly_saving hi hsave) fun t ht hm => ?_
  rw [readable_src hr ht hm (List.mem_singleton_self b)]
  rfl

theorem exec_pcwr {b a : BitVec 7} (hi : Issuing s c w) (hsave : Saving c w) (hc : Clear c w ((useSrc b 1).and (useSrc a 2)))
    (hr : Readable s c w [b]) (hr64 : Readable64 s c w false [a]) :
    exec (.pcwr b a) s = .next (laneDone s c w fun t th =>
      (th.setRecordItem (s.val c w t b).toNat (s.val64 c w false t a), Raised.none)) := by
  change execPcwr b a s = _
  unfold execPcwr
  refine laneOp_allowed hi hc (preemptOnly_saving hi hsave) fun t ht hm => ?_
  rw [readable_src hr ht hm (List.mem_singleton_self b), readable_src64 hr64 ht hm (List.mem_singleton_self a)]

/-! ## Convergence barriers (R303) -/

theorem exec_cvbrd {b : BitVec 7} {n : BitVec 4} {d : BitVec 6} (hi : Issuing s c w) (hsave : Saving c w)
    (hc : Clear c w (uniUses1 b d 1 1)) : exec (.cvbrd b n d) s =
      .next ((s.setWarp c.warp (w.setS d.toNat (w.barItem n.toNat (s.uarg c w b).toNat))).advance c c.group) := by
  change execCvbrd b n d s = _
  exact unitOp_allowed hi hc (preemptOnly_saving hi hsave) rfl

theorem exec_cvbwr {b : BitVec 7} {n : BitVec 4} {d : BitVec 6} (hi : Issuing s c w) (hsave : Saving c w)
    (hc : Clear c w ((useUni b 1).and (useS d.toNat 1))) : exec (.cvbwr b n d) s =
      .next ((s.setWarp c.warp (w.setBarItem n.toNat (s.uarg c w b).toNat (w.sreg d.toNat))).advance c c.group) := by
  change execCvbwr b n d s = _
  exact unitOp_allowed hi hc (preemptOnly_saving hi hsave) rfl

/-- The cycles left to a thread's timeout, at least 1 while it has one. -/
theorem barItem_timeout (w : Warp) (n : Nat) {t : Nat} (ht : t < 32) :
    (tfind (w.bar n).expiry t = none → w.barItem n (2 + t) = 0) ∧
      ∀ e, tfind (w.bar n).expiry t = some e → w.barItem n (2 + t) = BitVec.ofNat 32 (max 1 (e - w.pausedAt.getD 0)) := by
  unfold Warp.barItem
  rw [if_neg (by omega), if_neg (by omega), if_pos (by omega), Nat.add_sub_cancel_left]
  exact ⟨fun h => by rw [h], fun e h => by rw [h]⟩

theorem barItem_beyond (w : Warp) (n : Nat) {sel : Nat} (h : 34 ≤ sel) : w.barItem n sel = 0 := by
  unfold Warp.barItem
  rw [if_neg (by omega), if_neg (by omega), if_neg (by omega)]

theorem setBarItem_timeout (w : Warp) (n : Nat) (x : Word) {t : Nat} (ht : t < 32) : w.setBarItem n (2 + t) x =
    w.setBar n { w.bar n with
      expiry := if x = 0 then tdel (w.bar n).expiry t else tput (w.bar n).expiry t (w.pausedAt.getD 0 + x.toNat) } := by
  unfold Warp.setBarItem
  rw [if_neg (by omega), if_neg (by omega), if_pos (by omega), Nat.add_sub_cancel_left]

theorem setBarItem_beyond (w : Warp) (n : Nat) (x : Word) {sel : Nat} (h : 34 ≤ sel) : w.setBarItem n sel x = w := by
  unfold Warp.setBarItem
  rw [if_neg (by omega), if_neg (by omega), if_neg (by omega)]

/-- A word written changes its barrier, or nothing. -/
theorem setBarItem_cases (w : Warp) (n sel : Nat) (x : Word) :
    (∃ b, w.setBarItem n sel x = w.setBar n b) ∨ w.setBarItem n sel x = w := by
  unfold Warp.setBarItem
  dsimp only
  split
  · exact .inl ⟨_, rfl⟩
  · split
    · exact .inl ⟨_, rfl⟩
    · split
      · exact .inl ⟨_, rfl⟩
      · exact .inr rfl

theorem setBarItem_only (w : Warp) (n sel : Nat) (x : Word) : (∀ j, j ≠ n → (w.setBarItem n sel x).bar j = w.bar j) ∧
    w.setBarItem n sel x = { w with bars := (w.setBarItem n sel x).bars } := by
  obtain ⟨b, h⟩ | h := setBarItem_cases w n sel x <;> rw [h]
  · exact ⟨fun j hj => Warp.setBar_other w n b hj, rfl⟩
  · exact ⟨fun _ _ => rfl, rfl⟩

/-- The cycles left to one thread are written, and nothing else of the barrier changes. -/
theorem setBarItem_expiry (w : Warp) (n : Nat) (x : Word) {t : Nat} (ht : t < 32) :
    let b := (w.setBarItem n (2 + t) x).bar n
    b.m = (w.bar n).m ∧ b.z = (w.bar n).z ∧
      tfind b.expiry t = (if x = 0 then none else some (w.pausedAt.getD 0 + x.toNat)) ∧
      ∀ u, u ≠ t → tfind b.expiry u = tfind (w.bar n).expiry u := by
  rw [setBarItem_timeout w n x ht, Warp.setBar_same]
  refine ⟨rfl, rfl, ?_, fun u hu => ?_⟩ <;> by_cases hx : x = 0
  · simp only [if_pos hx, tfind_tdel_same]
  · simp only [if_neg hx, tfind_tput_same]
  · simp only [if_pos hx, tfind_tdel_other _ hu]
  · simp only [if_neg hx, tfind_tput_other _ _ hu]

/-! ## Outside a pre-emption handler (R283) -/

theorem preemptOnly_outside (hi : Issuing s c w) (h : ¬ Saving c w) : s.preemptOnly = some (2, 12) := by
  have hh : (s.cur.bind fun c => (s.warp c.warp).map fun w => w.handlerIn c.group) = some (w.handlerIn c.group) := by
    simp [hi.1, hi.2]
  unfold State.preemptOnly
  rw [hh]
  split
  · next hp => exact absurd (.inl (Option.some.inj hp)) h
  · next hp => exact absurd (.inr (Option.some.inj hp)) h
  · rfl

/-- An instruction whose further decoding condition fails is a decoding trap of its group, when its registers are declared. -/
theorem gated_refused {u : Uses} {extra : Option (Nat × Nat)} {cause sub : Nat} {sw : Bool} {f : Cur → Warp → State → State}
    (hd : u.declared w = true) (he : extra = some (cause, sub)) :
    gated s c w u extra sw f = s.raiseAll c c.group (trapAt cause sub 0) := by
  unfold gated
  rw [hd, he]
  rfl

theorem onIssue_refused {u : Uses} {f : Cur → Warp → Cur → Warp → State → State} (hi : Issuing s c w) (h : ¬ Saving c w)
    (hd : u.declared w = true) : onIssue s (fun c w => gated s c w u s.preemptOnly false (f c w)) =
      .next (s.raiseAll c c.group (trapAt 2 12 0)) :=
  (onIssue_issuing hi).trans (congrArg Host.Outcome.next (gated_refused hd (preemptOnly_outside hi h)))

/-! ## KTBs (R276) -/

theorem exec_kvKvinv {k : Nat} {p : Partition} {n : BitVec 5} (hi : Issuing s c w) (hsup : Privileged c w)
    (hc : Clear c w (useS n.toNat 1)) (hp : s.partOfCore (s.coreOf w) = some (k, p)) (hv : kvinvValid (w.sreg n.toNat) = true) :
    exec (.kvKvinv n) s = .next (({ s with cores := s.cores.map fun e : Nat × Core => if p.holdsCore e.1 then
      (e.1, { e.2 with ktb := e.2.ktb.filter fun b => !kvinvDrops (w.sreg n.toNat) b }) else e }).advance c c.group) := by
  refine unitOp_allowed hi hc (privileged_of_sup hi hsup) ?_
  simp only [hv, hp, Bool.not_true, Bool.false_eq_true, if_false]

end Saves

/-- Settles O40: the forms by the lemma that says what each leaves, what a word of a barrier reads and changes by `barItem_timeout`,
`setBarItem_expiry` and `setBarItem_only`, and the traps by `onIssue_refused`. -/
theorem saveRestoreResults : Obligations.SaveRestoreResults := by
  unfold Obligations.SaveRestoreResults
  intro s c w hi
  refine ⟨fun b nw d hsave hc hr => ?_, fun b a hsave hc hr hr64 => ?_, fun b n d hsave hc => exec_cvbrd hi hsave hc,
    fun b n d hsave hc => exec_cvbwr hi hsave hc, fun n => ⟨rfl, rfl, fun t ht => barItem_timeout w n ht, fun sel h => ?_, fun x => ?_⟩,
    fun hout => ?_, fun k p n hsup hc hp hv => exec_kvKvinv hi hsup hc hp hv⟩
  · simpa only [recordItem_eq] using exec_pcrd hi hsave hc hr
  · simpa only [setRecordItem_eq] using exec_pcwr hi hsave hc hr hr64
  · exact ⟨barItem_beyond w n h, fun x => setBarItem_beyond w n x h⟩
  · exact ⟨Warp.setBar_same .., Warp.setBar_same .., fun t ht => setBarItem_expiry w n x ht, fun sel => setBarItem_only w n sel x⟩
  · exact ⟨fun b nw d hd => onIssue_refused hi hout hd, fun b a hd => onIssue_refused hi hout hd,
      fun b n d hd => onIssue_refused hi hout hd, fun b n d hd => onIssue_refused hi hout hd⟩

end Sys2Proof.Machine

namespace Sys2Proof.Machine

/-! What reset leaves (R359, R387, R388, R394). -/

/-- Settles O60: no table of the reset state lists a record, so that each unit reads as its reset record. -/
theorem resetState : Obligations.ResetState := by
  unfold Obligations.ResetState
  intro s
  have hstack : ∀ k, s.stack k = Stack.init := fun _ => rfl
  have hvf : ∀ v, s.vf v = VfPage.init := fun _ => rfl
  refine ⟨rfl, rfl, rfl, rfl, rfl, rfl, fun k => ?_, fun v => ?_, fun _ => rfl, rfl, rfl, rfl, fun r hr => ?_, fun _ => rfl⟩
  · rw [hstack]
    exact ⟨rfl, rfl⟩
  · rw [hvf]
    exact ⟨rfl, rfl⟩
  · cases hr

end Sys2Proof.Machine

namespace Sys2Proof.Machine

/-! What changes of warps, crews, launches and memory leave of the units: the partitions, and the gates of the cores. -/

/-- The control pages and the cores: what no access to memory changes. -/
def State.units (s : State) : Tab Partition × Tab Core := (s.parts, s.cores)

/-- The power gates of the cores. -/
def State.gates (s : State) (k : Nat) : Gate := (s.core k).gate

theorem part_of_units {s t : State} (h : t.units = s.units) (k : Nat) : t.part k = s.part k :=
  congrArg (fun x : Tab Partition × Tab Core => tfind x.1 k) h

theorem gates_of_cores {s t : State} (h : t.cores = s.cores) : t.gates = s.gates :=
  funext fun k => congrArg (fun x => ((tfind x k).getD Core.init).gate) h

/-! ## Writes at the home slice (R96, R98, R100) and device writes -/

theorem putBytes_units (s : State) (d : Bool) (a : Nat) (bs : List Byte) : (s.putBytes d a bs).units = s.units := by
  induction bs generalizing s a with
  | nil => rfl
  | cons b r ih => exact ih ..

theorem putHome_units (s : State) (t : Target) (bs : List Byte) : (s.putHome t bs).units = s.units := by
  unfold State.putHome
  split
  · dsimp only
    split <;> exact putBytes_units ..
  · exact putBytes_units ..
  · exact putBytes_units ..
  · rfl
  · rfl
  · rfl

theorem writeTime_units (s : State) (ws : List Nat) (v : Dword) : (s.writeTime ws v).1.units = s.units := by
  unfold State.writeTime
  refine foldl_keeps (fun x : State × Dword => x.1.units) (fun x w => ?_) ws (s, v)
  rfl

theorem units_of_ground {s t : State} (h : t.ground = s.ground) : t.units = s.units := (congrArg State.units h :)

theorem writeHome_units (s : State) (v : Dword) (t : Target) (bs : List Byte) : (s.writeHome v t bs).1.units = s.units := by
  have htime : ∀ ws, ((s.recallAll ws).writeTime ws v).1.units = s.units := fun ws =>
    (writeTime_units ..).trans (units_of_ground (recallAll_ground ..))
  unfold State.writeHome State.writeKeep
  dsimp only
  split
  case h_6 => rfl
  all_goals exact (putHome_units ..).trans (htime _)

/-- A device write that is performed, on a peer or at a home slice. -/
theorem deviceWrite_units {s : State} {p : Partition} {v : Dword} {pa : Nat} {bs : List Byte} {r : State × Dword}
    (h : s.deviceWrite p v pa bs = .ok r) : r.1.units = s.units := by
  have hput : ∀ t, (if s.lostTarget t then Answer.trap (trapAt 0xB 0 0) else .ok (s.writeHome v t bs)) = .ok r →
      r.1.units = s.units := by
    intro t h
    split at h
    · cases h
    · cases h
      exact writeHome_units ..
  unfold State.deviceWrite at h
  dsimp only at h
  split at h
  · cases h
  · unfold State.peerStore at h
    dsimp only at h
    split at h
    · cases h
    · cases h
      rfl
  · exact hput _ h
  · exact hput _ h
  · exact hput _ h
  · cases h

/-! ## Changes of one record -/

theorem onWarp_cores (s : State) (k : Nat) (f : Warp → Warp) : (s.onWarp k f).cores = s.cores := by
  unfold State.onWarp
  split <;> rfl

theorem onCrew_cores (s : State) (k : Nat) (f : Crew → Crew) : (s.onCrew k f).cores = s.cores := by
  unfold State.onCrew
  split <;> rfl

theorem onLaunch_cores (s : State) (k : Nat) (f : Launch → Launch) : (s.onLaunch k f).cores = s.cores := by
  unfold State.onLaunch
  split <;> rfl

theorem onPart_cores (s : State) (k : Nat) (f : Partition → Partition) : (s.onPart k f).cores = s.cores := by
  unfold State.onPart
  split <;> rfl

theorem setCore_gates {s : State} {k : Nat} {x : Core} (h : x.gate = (s.core k).gate) : (s.setCore k x).gates = s.gates := by
  funext j
  unfold State.gates
  by_cases hj : j = k
  · subst hj
    rw [State.setCore_same, h]
  · rw [State.setCore_other _ _ _ hj]

/-! ## The ends of threads, warps and launches (R20, R253, R335) -/

theorem passCrew_cores (s : State) (c : Crew) (f : Status → Bool) (v : Dword) : (s.passCrew c f v).cores = s.cores := by
  unfold State.passCrew
  refine foldl_keeps State.cores (fun s k => ?_) _ s
  exact onWarp_cores ..

theorem settleCrew_cores (s : State) (ck : Nat) : (s.settleCrew ck).cores = s.cores := by
  unfold State.settleCrew
  split
  · rfl
  · dsimp only
    split
    · exact passCrew_cores ..
    · rfl

theorem settleGang_cores (s : State) (gk : Nat) : (s.settleGang gk).cores = s.cores := by
  cases hg : s.gang gk with
  | none => rw [State.settleGang, hg]
  | some g =>
    rw [settleGang_eq hg]
    split
    · refine foldl_keeps State.cores (fun s c => ?_) _ _
      exact passCrew_cores ..
    · rfl

theorem settleBarriers_cores (s : State) (w : Warp) : (s.settleBarriers w).cores = s.cores := by
  unfold State.settleBarriers
  split
  · exact (settleGang_cores ..).trans (settleCrew_cores ..)
  · rfl

theorem settleCap_cores (s : State) (ck : Nat) : (s.settleCap ck).cores = s.cores := by
  unfold State.settleCap
  split
  · rfl
  · dsimp only
    split <;> rfl

/-- The mitts that a warp gives up have nothing to do with the gate. -/
theorem dropWarp_gate (c : Core) (wk : Nat) : (c.dropWarp wk).gate = c.gate := by
  unfold Core.dropWarp Core.grantAll
  refine (foldl_keeps Core.gate (fun c a => ?_) _ _).trans rfl
  unfold Core.grant
  dsimp only
  split
  · split <;> rfl
  · rfl

theorem warpEnds_gates (s : State) (wk : Nat) : (s.warpEnds wk).gates = s.gates := by
  unfold State.warpEnds
  split
  · rfl
  · dsimp only
    refine (gates_of_cores (settleCap_cores ..)).trans ?_
    exact setCore_gates (dropWarp_gate ..)

theorem finishThreads_gates (s : State) (wk : Nat) (m : Word) : (s.finishThreads wk m).gates = s.gates := by
  unfold State.finishThreads
  split
  · rfl
  · dsimp only
    refine (gates_of_cores (settleBarriers_cores ..)).trans ?_
    have hstamp : ∀ (t : State) (v : Dword) (w : Warp), (match t.launchOf w with
        | some (lk, l) => t.setLaunch lk { l with stamp := laterOf l.stamp v }
        | none => t).gates = t.gates := by
      intro t v w
      split <;> rfl
    split
    · exact (warpEnds_gates ..).trans (hstamp ..)
    · exact hstamp ..

theorem advanceDisp_cores (s : State) (lk : Nat) : (s.advanceDisp lk).cores = s.cores := by
  unfold State.advanceDisp
  split
  · split
    · split
      · exact onPart_cores ..
      · rfl
    · rfl
  · rfl

theorem settleGangEnd_cores (s : State) (gk : Nat) : (s.settleGangEnd gk).cores = s.cores := by
  unfold State.settleGangEnd
  split
  · rfl
  · split
    · dsimp only
      split
      · exact onLaunch_cores ..
      · rfl
    · rfl

theorem abort_gates (s : State) (lk : Nat) : (s.abort lk).gates = s.gates := by
  unfold State.abort
  split
  · rfl
  · dsimp only
    refine (foldl_keeps State.gates (fun s e => ?_) _ _).trans (gates_of_cores (advanceDisp_cores ..))
    have hwarps : (e.2.warps.foldl (fun s wk => s.finishThreads wk 0xFFFFFFFF) s).gates = s.gates :=
      foldl_keeps State.gates (fun s wk => finishThreads_gates s wk _) _ s
    split
    · split
      · exact (gates_of_cores ((settleGangEnd_cores ..).trans (onCrew_cores ..))).trans hwarps
      · exact hwarps
    · rfl

theorem logFault_cores (s : State) (k : Nat) (r : FaultRec) : (s.logFault k r).cores = s.cores := by
  unfold State.logFault
  split
  · rfl
  · dsimp only
    split
    · rfl
    · split
      · rfl
      · split
        · next hw => exact (onPart_cores ..).trans (congrArg Prod.snd (deviceWrite_units hw))
        · rfl

theorem abortFor_gates (s : State) (lk core : Nat) (t : Trap) : (s.abortFor lk core t).gates = s.gates := by
  unfold State.abortFor
  split
  · rfl
  · exact (abort_gates ..).trans (gates_of_cores (logFault_cores ..))

/-! ## Traps (R330, R334) -/

/-- A trap that raises no alarm leaves the gates as they are, whatever the warp's trap settings make of it. -/
theorem raiseOne_gates {t : Trap} (ht : t.cause ≠ 6) (s : State) (c : Cur) (m : Word) : (s.raiseOne c m t).gates = s.gates := by
  unfold State.raiseOne
  split
  · rfl
  · split
    · rfl
    · have halarm : ¬ (t.cause = 6 ∧ t.sub = 5) := fun h => ht h.1
      dsimp only
      rw [if_neg halarm]
      split
      · rfl
      · split
        · split
          · exact gates_of_cores (onWarp_cores ..)
          · split
            · exact gates_of_cores (onWarp_cores ..)
            · exact abortFor_gates ..
        · split
          · exact gates_of_cores (onWarp_cores ..)
          · exact abortFor_gates ..
        · split
          · exact gates_of_cores (onWarp_cores ..)
          · exact abortFor_gates ..
        · exact abortFor_gates ..

theorem raiseAll_gates {t : Trap} (ht : t.cause ≠ 6) (s : State) (c : Cur) (m : Word) : (s.raiseAll c m t).gates = s.gates := by
  cases h : lowestOf m with
  | none =>
    rw [State.raiseAll, List.head?_eq_none_iff.1 h]
    rfl
  | some i =>
    rw [raiseAll_once h]
    exact raiseOne_gates ht ..

theorem trapBlocked_gates {t : Trap} (ht : t.cause ≠ 6) (s : State) (wk : Nat) (m : Word) (pc : Dword) :
    (s.trapBlocked wk m pc t).gates = s.gates := by
  unfold State.trapBlocked
  split
  · rfl
  · exact raiseAll_gates ht ..

theorem dropSenders_gates (s : State) (core : Nat) : (s.dropSenders core).gates = s.gates := by
  unfold State.dropSenders
  refine foldl_keeps State.gates (fun s e => ?_) _ s
  refine foldl_keeps State.gates (fun s pc => ?_) _ s
  exact trapBlocked_gates (by decide) ..

end Sys2Proof.Machine

namespace Sys2Proof.Machine

/-! Energy and the power gate of an upper core (R289 to R292, R326, R327). -/

section Gate
variable {s : State} {core warp reg : Nat}

/-! ## What a request leaves of its gate (R326) -/

theorem giveToken_cores (s : State) (core : Nat) (r : GateRequest) (code : Nat) : (s.giveToken core r code).cores = s.cores :=
  onWarp_cores ..

theorem setGate_gates (s : State) (core : Nat) (g : Gate) : (s.onCore core fun k => { k with gate := g }).gates core = g :=
  congrArg Core.gate (State.setCore_same ..)

theorem gateOff_gates (s : State) (core : Nat) : (s.gateOff core).gates core = .off := by
  unfold State.gateOff
  rw [dropSenders_gates]
  refine (congrFun (setCore_gates ?_) core).trans (setGate_gates ..)
  rfl

theorem gateIdle_iff (s : State) (core : Nat) :
    s.gateIdle core = true ↔ (s.core core).vacate = .vacated ∨ s.crewsOn core = [] := by
  simp [State.gateIdle]

/-- The table of R326, by the state of the gate and what is asked. -/
theorem gateAsk_gates (s : State) (core warp reg : Nat) (ungate : Bool) : (s.gateAsk core warp reg ungate).gates core =
    match (s.core core).gate, ungate with
    | .on, false => if (s.core core).vacate = .vacated ∨ s.crewsOn core = [] then .off else .drain
    | .on, true => .on
    | .drain, false => .drain
    | .drain, true => .on
    | .off, false => .off
    | .off, true => .wake
    | .wake, false => .off
    | .wake, true => .wake := by
  have htoken : ∀ (t : State) r n, (t.giveToken core r n).gates core = t.gates core := fun t r n =>
    congrFun (gates_of_cores (giveToken_cores ..)) core
  have hlater : ∀ (t : State) r, (t.onCore core fun k => { k with gateRequests := k.gateRequests ++ r }).gates core = t.gates core :=
    fun t r => congrFun (setCore_gates (by rfl)) core
  unfold State.gateAsk
  cases hgate : (s.core core).gate with
  | on =>
    cases ungate with
    | false =>
      simp only [← gateIdle_iff]
      split
      · exact gateOff_gates ..
      · exact setGate_gates ..
    | true => exact (htoken ..).trans hgate
  | drain =>
    cases ungate with
    | false => exact (hlater ..).trans hgate
    | true => exact (htoken ..).trans (setGate_gates ..)
  | off =>
    cases ungate with
    | false => exact (htoken ..).trans hgate
    | true => exact setGate_gates ..
  | wake =>
    cases ungate with
    | false => exact (htoken ..).trans (setGate_gates ..)
    | true => exact (hlater ..).trans hgate

end Gate

/-! ## The forms (R289 to R291) -/

section Energy
variable {s : State} {c : Cur} {w : Warp} {k : Nat} {p : Partition} {a : BitVec 7} {d : BitVec 6}

theorem exec_egyRd (hi : Issuing s c w) (hc : Clear c w (useD d.toNat 2)) (hp : s.partOfCore (s.coreOf w) = some (k, p)) :
    exec (.egyRd d) s = .next ((s.setWarp c.warp
      (w.setSPair d.toNat (pairOf (BitVec.ofNat 32 (wrapInt 32 p.rem)) p.windows))).advance c c.group) := by
  change execEgyRd d s = _
  refine unitOp_done hi hc ?_
  simp only [switchIf_false, hp, Option.map_some, Option.getD_some]

theorem exec_egyReq_granted (hi : Issuing s c w) (hc : Clear c w (uniUses1 a d 1 1))
    (hp : s.partOfCore (s.coreOf w) = some (k, p)) (h : s.uarg c w a ≠ 0 ∧ ((s.uarg c w a).toNat : Int) ≤ p.rem) :
    exec (.egyReq a d) s = .next ((((s.setPart k { p with rem := p.rem - (s.uarg c w a).toNat }).onCrew w.crew
      fun k => { k with cover := k.cover + (s.uarg c w a).toNat }).setWarp c.warp (w.setS d.toNat (s.uarg c w a))).advance c
        c.group) := by
  refine unitOp_done hi hc ?_
  simp only [switchIf_false, hp]
  exact if_pos h

theorem exec_egyReq_refused (hi : Issuing s c w) (hc : Clear c w (uniUses1 a d 1 1))
    (hp : s.partOfCore (s.coreOf w) = some (k, p)) (h : ¬ (s.uarg c w a ≠ 0 ∧ ((s.uarg c w a).toNat : Int) ≤ p.rem)) :
    exec (.egyReq a d) s = .next ((s.setWarp c.warp (w.setS d.toNat 0)).advance c c.group) := by
  refine unitOp_done hi hc ?_
  simp only [switchIf_false, hp]
  exact if_neg h

/-- A word of `pwr.gate` that names an upper core of the partition (R291). -/
def Partition.namesUpper (p : Partition) (x : Nat) : Prop :=
  bits x 14 17 = 0 ∧ bits x 6 2 = 0 ∧ bits x 2 2 = 0 ∧ p.holds (bits x 8 6) = true

theorem namesUpper_iff (p : Partition) (x : Nat) :
    (bits x 14 17 == 0 && bits x 6 2 == 0 && bits x 2 2 == 0 && p.holds (bits x 8 6)) = true ↔ p.namesUpper x := by
  simp [Partition.namesUpper, and_assoc]

theorem exec_pwrGate_asks (hi : Issuing s c w) (hsup : Privileged c w) (hc : Clear c w (uniUses1 a d 1 1))
    (hp : s.partOfCore (s.coreOf w) = some (k, p)) {x core : Nat} (hx : (s.uarg c w a).toNat = x) (h : p.namesUpper x)
    (hcore : 32 * bits x 8 6 + 4 * (4 + bits x 4 2) + bits x 0 2 = core) : exec (.pwrGate a d) s =
      .next (((s.setWarp c.warp { w with pend := tput w.pend d.toNat (.gate core) }).gateAsk core c.warp d.toNat
        (x.testBit 31)).advance c c.group) := by
  subst hx hcore
  refine unitOp_allowed hi hc (privileged_of_sup hi hsup) ?_
  simp only [hp]
  exact if_pos ((namesUpper_iff ..).2 h)

theorem exec_pwrGate_refused (hi : Issuing s c w) (hsup : Privileged c w) (hc : Clear c w (uniUses1 a d 1 1))
    (hp : s.partOfCore (s.coreOf w) = some (k, p)) {x core : Nat} (hx : (s.uarg c w a).toNat = x) (h : ¬ p.namesUpper x)
    (hcore : 32 * bits x 8 6 + 4 * (4 + bits x 4 2) + bits x 0 2 = core) : exec (.pwrGate a d) s =
      .next (((s.setWarp c.warp { w with pend := tput w.pend d.toNat (.gate core) }).giveToken core
        { warp := c.warp, reg := d.toNat, code := 3 } 3).advance c c.group) := by
  subst hx hcore
  refine unitOp_allowed hi hc (privileged_of_sup hi hsup) ?_
  simp only [hp]
  exact if_neg fun hgood => h ((namesUpper_iff ..).1 hgood)

end Energy

/-- Settles O35: each form by the lemma that says what it leaves, and the gate by the table `gateAsk_gates`. -/
theorem energyResults : Obligations.EnergyResults := by
  unfold Obligations.EnergyResults
  intro s c w k p hi hp _
  refine ⟨fun d hc => exec_egyRd hi hc hp, fun a d hc => ⟨?_, fun hsup => ⟨fun hbad => ?_, fun hgood => ⟨?_, ?_⟩⟩⟩⟩
  · split
    · next h => exact exec_egyReq_granted hi hc hp h
    · next h => exact exec_egyReq_refused hi hc hp h
  · exact exec_pwrGate_refused hi hsup hc hp rfl hbad rfl
  · exact exec_pwrGate_asks hi hsup hc hp rfl hgood rfl
  · exact gateAsk_gates ..

end Sys2Proof.Machine

namespace Sys2Proof.Machine

/-! The riser FIFO of a pair of cores (R293 to R295). -/

section Riser
variable {s : State} {c : Cur} {w : Warp}

theorem onIssue_gated {u : Uses} {sw : Bool} {f : Cur → Warp → State → State} (hi : Issuing s c w) (hc : Clear c w u) :
    onIssue s (fun c w => gated s c w u none sw f) = .next (f c w (s.switchIf sw)) := by
  rw [onIssue_issuing hi, gated_clear hc]

theorem switched_coreOf (s : State) (w : Warp) : s.switched.coreOf w = s.coreOf w := rfl
theorem switched_launchOf (s : State) (w : Warp) : s.switched.launchOf w = s.launchOf w := rfl
theorem switched_ctxOf (s : State) (c : Cur) (w : Warp) (t : Nat) : s.switched.ctxOf c w t = s.ctxOf c w t := rfl

/-- A mask names the threads that stand in it, when each of them passes a test. -/
theorem maskOf_taking {m : Word} {f : Nat → Bool} (h : ∀ t < 32, inMask m t = true → f t = true) :
    (maskOf fun t => inMask m t && f t) = m := by
  apply BitVec.eq_of_getLsbD_eq
  intro t ht
  refine (inMask_maskOf _ ht).trans ?_
  change _ = inMask m t
  cases hm : inMask m t with
  | false => rfl
  | true => exact h t ht hm

theorem advance_core (s : State) (c : Cur) (m : Word) (k : Nat) : (s.advance c m).core k = s.core k :=
  congrArg (fun l => (tfind l k).getD Core.init) (onWarp_cores ..)

/-- No thread that takes part reads a stale latch: all of them send, or all wait. -/
theorem exec_rsend {a : BitVec 7} (hi : Issuing s c w) (hc : Clear c w (useSrc a 1)) (hlow : isUpperCore (s.coreOf w) = false)
    (hoff : (s.core (upperCore (s.coreOf w))).gate ≠ .off) (hwake : (s.core (upperCore (s.coreOf w))).gate ≠ .wake)
    (hread : ∀ t < 32, inMask c.taking t = true → ((s.ctxOf c w t).src t (w.reader t) a).isSome = true) :
    let core := s.coreOf w
    let others := s.switched.advance c (c.group &&& ~~~c.taking)
    exec (.rsend a) s = .next (
      if 16 ≤ (s.core core).fifo.length then others.block c c.taking .riserFree
      else (others.setCore core { s.core core with fifo := (s.core core).fifo ++ [(((s.launchOf w).map Prod.fst).getD 0,
        (List.range 32).map fun t => if inMask c.taking t then s.arg c w t a else 0, w.viewIn c.taking)] }).advance c c.taking) := by
  intro core others
  have hgood : (maskOf fun t => inMask c.taking t && ((s.ctxOf c w t).src t (w.reader t) a).isSome) = c.taking :=
    maskOf_taking hread
  have hgate : ¬ ((s.core (upperCore (s.coreOf w))).gate = .off ∨ (s.core (upperCore (s.coreOf w))).gate = .wake) :=
    not_or.2 ⟨hoff, hwake⟩
  have hbad : c.taking &&& ~~~c.taking = 0 := BitVec.and_not_self _
  refine (onIssue_gated hi hc).trans (congrArg _ ?_)
  simp only [switchIf_true, switched_coreOf, switched_launchOf, switched_ctxOf, State.switched_read_core, hlow, Bool.false_eq_true,
    if_false, hgate, hgood, hbad, if_true, if_neg hc.2.2.2.1]
  refine if_congr Iff.rfl rfl ?_
  rw [State.onCore, advance_core]
  rfl

theorem exec_rrecv {nw : BitVec 1} {d : BitVec 6} {launch : Nat} {words : List Word} {stamp : Dword}
    {rest : List (Nat × List Word × Dword)} (hi : Issuing s c w) (hc : Clear c w (useV d.toNat 1))
    (hup : isUpperCore (s.coreOf w) = true) (hfifo : (s.core (lowerCore (s.coreOf w))).fifo = (launch, words, stamp) :: rest)
    (hl : (s.launchOf w).map Prod.fst = some launch) :
    exec (.rrecv nw d) s = .next ((s.switched.setWarp c.warp (w.mapThreads fun t th =>
      if inMask c.taking t then
        { th.result (nw == 1) d.toNat [words.getD t 0] with view := laterOf th.view stamp, pc := c.next, held := none }
      else if inMask c.group t then { th with pc := c.next } else th)).setCore (lowerCore (s.coreOf w))
        { s.core (lowerCore (s.coreOf w)) with fifo := rest }) := by
  refine (onIssue_gated hi hc).trans (congrArg _ ?_)
  simp only [switchIf_true, switched_coreOf, switched_launchOf, State.switched_read_core, hup, Bool.not_true, Bool.false_eq_true,
    if_false, hfifo, hl, ne_eq, not_true_eq_false]
  rfl

end Riser

/-- Settles O36: `exec_rsend` and `exec_rrecv`. -/
theorem riserResults : Obligations.RiserResults := by
  unfold Obligations.RiserResults
  intro s c w hi core others
  refine ⟨fun a hc hlow hoff hwake hread => ?_, fun nw d launch words stamp rest hc hup hfifo hl => exec_rrecv hi hc hup hfifo hl⟩
  have hsend := exec_rsend hi hc hlow hoff hwake hread
  exact ⟨fun hfull => hsend.trans (congrArg _ (if_pos hfull)), fun hroom => hsend.trans (congrArg _ (if_neg (Nat.not_le.2 hroom)))⟩

end Sys2Proof.Machine

namespace Sys2Proof.Machine

/-! Launches and events (R296, R297, R313). -/

/-! ## The status that a queue answers (R313) -/

section Offer
variable {s s1 : State} {core k : Nat} {p : Partition} {view : Dword} {vf : Option Nat} {q : Nat} {bs : List Byte}

theorem offer_unknown (h : 63 < q) : s.offer core k p view vf q bs = .ok (s, 2) := if_pos h

theorem offer_closed (hq : q ≤ 63)
    (h : (p.queue q).en = false ∨ (p.queue q).src = false ∨ ((p.queue q).owned = true ∧ vf ≠ some (p.queue q).owner)) :
    s.offer core k p view vf q bs = .ok (s, 3) := by
  unfold State.offer
  rw [if_neg (Nat.not_lt.2 hq)]
  refine if_pos ?_
  simpa [or_assoc] using h

/-- A queue that takes records of the VF: enabled, device-fed, and its own or nobody's. -/
def Queue.takesFrom (q : Queue) (vf : Option Nat) : Prop := q.en = true ∧ q.src = true ∧ (q.owned = false ∨ vf = some q.owner)

theorem not_closed_of_takesFrom {x : Queue} (h : x.takesFrom vf) :
    ¬ (!x.en || !x.src || (x.owned && vf != some x.owner)) = true := by
  obtain ⟨hen, hsrc, hown | hown⟩ := h <;> simp [hen, hsrc, hown]

theorem offer_refused (hq : q ≤ 63) (hopen : (p.queue q).takesFrom vf) (hex : s.examine core (LaunchRec.ofBytes bs) = .ok (s1, none)) :
    s.offer core k p view vf q bs = .ok (s1, 3) := by
  unfold State.offer
  rw [if_neg (Nat.not_lt.2 hq)]
  refine (if_neg (not_closed_of_takesFrom hopen)).trans ?_
  rw [hex]
  rfl

theorem offer_written {h : Header × List Stage} {r : State × Dword} (hq : q ≤ 63) (hopen : (p.queue q).takesFrom vf)
    (hex : s.examine core (LaunchRec.ofBytes bs) = .ok (s1, some h))
    (hr : s1.deviceWrite p view ((p.queue q).slot (p.queue q).tail) bs = .ok r) :
    s.offer core k p view vf q bs =
      if ((p.queue q).tail - (p.queue q).head).toNat = 2 ^ (p.queue q).logn then .ok (s1, 1)
      else .ok (r.1.onPart k fun p => p.setQueue q { p.queue q with tail := (p.queue q).tail + 1 }, 0) := by
  unfold State.offer
  rw [if_neg (Nat.not_lt.2 hq)]
  refine (if_neg (not_closed_of_takesFrom hopen)).trans ?_
  rw [hex]
  simp only [Answer.andThen, hr]

theorem deviceWrite_dram {p2 : Partition} {pa a i : Nat} (hr : s.reach p 0 a = .dram p2 pa i)
    (hl : s.lostTarget (.dram p2 pa i) = false) :
    s.deviceWrite p view a bs = .ok (s.writeHome view (.dram p2 pa i) bs) := by
  simp [State.deviceWrite, hr, hl]

/-- A record put at the tail of a ring in DRAM: it stands in its slot, and the tail advances. -/
theorem slot_taken {p2 : Partition} (view : Dword) (pa i : Nat) (hp : s.part k = some p) (f : Partition → Partition) :
    let t := (s.writeHome view (.dram p2 pa i) bs).1.onPart k f
    memBytes t.mem i bs.length = bs ∧ t.part k = some (f p) := by
  have hpart : (s.writeHome view (.dram p2 pa i) bs).1.part k = some p := (part_of_units (writeHome_units ..) k).trans hp
  rw [onPart_of_part hpart]
  refine ⟨?_, State.setPart_same ..⟩
  rw [State.setPart_mem, State.writeHome, writeKeep_dram_mem]
  exact memBytes_memPut ..

end Offer

/-! ## The forms (R296, R297) -/

section Forms
variable {s : State} {c : Cur} {w : Warp} {k : Nat} {p : Partition} {b a : BitVec 7} {d : BitVec 6} {m : BitVec 5}

theorem exec_lnch {r : State × Dword × List Byte} {q : State × Nat} (hi : Issuing s c w)
    (hc : Clear c w ((useUni a 2).and ((useUni b 1).and (useD d.toNat 1)))) (hp : s.partOfCore (s.coreOf w) = some (k, p))
    (hr : s.threadLoad { core := s.coreOf w, sup := w.supIn c.taking, view := w.viewIn c.taking } 0 (s.uarg64 c w a) 64 = .ok r)
    (hq : r.1.offer (s.coreOf w) k p r.2.1 ((s.launchOf w).bind fun l => l.2.vf) (s.uarg c w b).toNat r.2.2 = .ok q) :
    exec (.lnch b a d) s = .next (((if q.2 = 0 then q.1.releasedBy c.warp c.taking else q.1).onWarp c.warp fun w =>
      (w.setS d.toNat (BitVec.ofNat 32 q.2)).onThreads c.taking
        fun th => { th with view := laterOf th.view r.2.1 }).advance c c.group) := by
  refine unitOp_done hi hc ?_
  simp only [State.uarg64] at hr
  simp only [State.uarg] at hq
  simp only [switchIf_false, hr, hp, hq]

theorem exec_evtSig (hi : Issuing s c w) (hc : Clear c w ((useUni a 1).and (useUni b 1)))
    (hp : s.partOfCore (s.coreOf w) = some (k, p)) (hn : (s.uarg c w a).toNat < 4096) :
    exec (.evtSig b a m) s = .next (((if m = 0 then s else s.releasedBy c.warp c.taking).signal k (s.uarg c w a).toNat
      (s.uarg c w b) m (w.viewIn c.taking)).advance c c.group) := by
  refine unitOp_done hi hc ?_
  simp only [switchIf_false, hp]
  exact if_neg (Nat.not_le.2 hn)

theorem exec_evtSig_beyond (hi : Issuing s c w) (hc : Clear c w ((useUni a 1).and (useUni b 1)))
    (hn : 4096 ≤ (s.uarg c w a).toNat) :
    exec (.evtSig b a m) s =
      .next ((s.advance c (c.group &&& ~~~c.taking)).raiseAll c c.taking (eventTrap (s.uarg c w a))) := by
  refine (unitOp_trap hi hc (t := eventTrap (s.uarg c w a)) ?_).trans ?_
  · exact if_pos hn
  · rw [switchIf_false]

theorem exec_evtWait_reached (hi : Issuing s c w) (hc : Clear c w ((useUni a 1).and (useUni b 1)))
    (hp : s.partOfCore (s.coreOf w) = some (k, p)) (hn : (s.uarg c w a).toNat < 4096)
    (h : (s.uarg c w b).toNat ≤ (wget p.events (s.uarg c w a).toNat).toNat) :
    exec (.evtWait b a m) s = .next ((s.switched.setWarp c.warp (w.onThreads c.taking fun th =>
      { th with view := laterOf th.view (p.eventStamp (s.uarg c w a).toNat m) })).advance c c.group) := by
  have hp' : s.switched.partOfCore (s.switched.coreOf w) = some (k, p) := hp
  refine unitOp_done hi hc ?_
  simp only [switchIf_true, hp']
  exact (if_neg (Nat.not_le.2 hn)).trans (if_neg (Nat.not_lt.2 h))

theorem exec_evtWait_waits (hi : Issuing s c w) (hc : Clear c w ((useUni a 1).and (useUni b 1)))
    (hp : s.partOfCore (s.coreOf w) = some (k, p)) (hn : (s.uarg c w a).toNat < 4096)
    (h : (wget p.events (s.uarg c w a).toNat).toNat < (s.uarg c w b).toNat) :
    exec (.evtWait b a m) s = .next ((s.switched.advance c (c.group &&& ~~~c.taking)).block c c.taking
      (.event (s.uarg c w a).toNat (s.uarg c w b))) := by
  have hp' : s.switched.partOfCore (s.switched.coreOf w) = some (k, p) := hp
  refine unitOp_waits hi hc (t := s.switched) (x := .event (s.uarg c w a).toNat (s.uarg c w b)) ?_
  simp only [switchIf_true, hp']
  exact (if_neg (Nat.not_le.2 hn)).trans (if_pos h)

theorem exec_evtWait_beyond (hi : Issuing s c w) (hc : Clear c w ((useUni a 1).and (useUni b 1)))
    (hn : 4096 ≤ (s.uarg c w a).toNat) :
    exec (.evtWait b a m) s =
      .next ((s.switched.advance c (c.group &&& ~~~c.taking)).raiseAll c c.taking (eventTrap (s.uarg c w a))) := by
  refine (unitOp_trap hi hc (t := eventTrap (s.uarg c w a)) ?_).trans ?_
  · exact if_pos hn
  · rw [switchIf_true]

end Forms

/-- Settles O37: the forms by what each leaves, and the statuses of a queue by the lemmas on `State.offer`, of which `slot_taken` says
that an accepted record stands in its slot. -/
theorem launchAndEventResults : Obligations.LaunchAndEventResults := by
  unfold Obligations.LaunchAndEventResults
  intro s c w k p hi hp _
  refine ⟨fun b a d r q hc hr hq => exec_lnch hi hc hp hr hq, fun core view vf q bs => ⟨offer_unknown, offer_closed,
    fun hq hen hsrc hown => ⟨fun s1 hex => offer_refused hq ⟨hen, hsrc, hown⟩ hex, fun s1 h p2 pa i hex hpart hlen hreach hlost => ?_⟩⟩,
    fun b a m hc => ⟨exec_evtSig hi hc hp, exec_evtWait_reached hi hc hp, exec_evtWait_waits hi hc hp,
      fun hn => ⟨exec_evtSig_beyond hi hc hn, exec_evtWait_beyond hi hc hn⟩⟩⟩
  have hoffer := offer_written (k := k) (view := view) hq ⟨hen, hsrc, hown⟩ hex (deviceWrite_dram hreach hlost)
  refine ⟨fun hfull => hoffer.trans (if_pos hfull), fun hroom => ⟨_, hoffer.trans (if_neg hroom), ?_⟩⟩
  rw [← hlen]
  exact slot_taken view pa i hpart _

end Sys2Proof.Machine

namespace Sys2Proof.Machine

/-! The commands of PCMD (R337, R338, R340): how a command is asked for and accepted, and what its service leaves. -/

/-! ## The word that asks for a command (R337) -/

section CommandWord
variable {core : Nat}

theorem bitNat_le (b : Bool) : bitNat b ≤ 1 := by cases b <;> decide

theorem toNat_commandWord (ret : Bool) (h : core < 2048) : (commandWord ret core).toNat = 2 ^ 30 * (2 + bitNat ret) + core := by
  have := bitNat_le ret
  rw [commandWord, BitVec.toNat_ofNat]
  omega

/-- The bits of the word: the core below, GO and the kind of the command from bit 30 on. -/
theorem commandWord_bit (ret : Bool) (h : core < 2048) (i : Nat) :
    (commandWord ret core).getLsbD i = if i < 30 then core.testBit i else (2 + bitNat ret).testBit (i - 30) := by
  rw [BitVec.getLsbD, toNat_commandWord ret h]
  exact Nat.testBit_two_pow_mul_add _ (by omega) i

theorem commandWord_ret (ret : Bool) (h : core < 2048) : (commandWord ret core).getLsbD 30 = ret := by
  rw [commandWord_bit ret h]
  cases ret <;> rfl

theorem commandWord_go (ret : Bool) (h : core < 2048) : (commandWord ret core).getLsbD 31 = true := by
  rw [commandWord_bit ret h]
  cases ret <;> rfl

theorem commandWord_core (ret : Bool) (h : core < 2048) : bits (commandWord ret core).toNat 0 11 = core := by
  rw [toNat_commandWord ret h, bits]
  omega

/-- A write of PCMD keeps the whole word. -/
theorem commandWord_kept (ret : Bool) (h : core < 2048) : commandWord ret core &&& 0xC00007FF = commandWord ret core := by
  have hmask : ∀ i < 32, (0xC00007FF : Word).getLsbD i = decide (i < 11 ∨ 30 ≤ i) := by decide
  apply BitVec.eq_of_getLsbD_eq
  intro i hi
  rw [BitVec.getLsbD_and, hmask i hi]
  by_cases hin : i < 11 ∨ 30 ≤ i
  · rw [decide_eq_true hin, Bool.and_true]
  · have hcore : core < 2 ^ i := h.trans_le (Nat.pow_le_pow_right (Nat.zero_lt_two) (show 11 ≤ i by omega))
    rw [commandWord_bit ret h, if_pos (by omega), Nat.testBit_lt_two_pow hcore, Bool.false_and]

/-- PCMD without GO, once the command has been accepted. -/
theorem commandWord_accepted (ret : Bool) (h : core < 2048) :
    commandWord ret core &&& 0x7FFFFFFF = BitVec.ofNat 32 (bitNat ret * 2 ^ 30 + core) := by
  have := bitNat_le ret
  apply BitVec.eq_of_toNat_eq
  rw [BitVec.toNat_and, toNat_commandWord ret h, show (0x7FFFFFFF : Word).toNat = 2 ^ 31 - 1 from rfl,
    Nat.and_two_pow_sub_one_eq_mod, BitVec.toNat_ofNat]
  omega

end CommandWord

/-! ## A command that is asked for, and accepted (R337) -/

section Command
variable {s : State} {n core : Nat} {p q : Partition}

theorem setPart_setPart (s : State) (n : Nat) (p q : Partition) : (s.setPart n p).setPart n q = s.setPart n q := by
  simp [State.setPart, tput_tput]

/-- The control page while a command stands first, and once it has been accepted and none is left. -/
def Partition.asked (p : Partition) (x : Word) : Partition := { p with pcmd := x, pcmdQueue := [x] }
def Partition.accepted (p : Partition) (y : Word) : Partition := { p with pcmd := y, pcmdQueue := [] }

theorem controlWrite_pcmd (hp : s.part n = some p) {x : Word} (hx : x &&& 0xC00007FF = x) (hgo : x.getLsbD 31 = true)
    (hq : p.pcmdQueue = []) : s.controlWrite n none 0x100 x = s.setPart n (p.asked x) := by
  have hpage : s.controlWrite n none 0x100 x = s.setPart n
      { p with pcmd := x &&& 0xC00007FF
               pcmdQueue := if x.getLsbD 31 then p.pcmdQueue ++ [x &&& 0xC00007FF] else p.pcmdQueue } := by
    simp [State.controlWrite, hp]
  rw [hpage, hx, hgo, hq]
  rfl

/-- A command before which nothing stands is asked for, and accepted if it may be. -/
theorem command_idle (hp : s.part n = some p) (hbusy : p.pstat.getLsbD 31 = false) (hq : p.pcmdQueue = []) (ret : Bool)
    (hcore : core < 2048) : s.command n ret core = (s.setPart n (p.asked (commandWord ret core))).acceptCommand n := by
  have hwrite := controlWrite_pcmd hp (commandWord_kept ret hcore) (commandWord_go ret hcore) hq
  unfold State.command
  rw [hp]
  simp only [hbusy, hq, hwrite]
  rfl

/-- The command that stands alone is accepted, unless it is a return whose storage has no room. -/
theorem acceptCommand_asked {x y : Word} {ret : Bool} (hret : x.getLsbD 30 = ret) (hcore : bits x.toNat 0 11 = core)
    (hy : x &&& 0x7FFFFFFF = y) (s : State) (p : Partition) :
    (s.setPart n (p.asked x)).acceptCommand n = if (s.setPart n (p.asked x)).mayReturn x = true then
      if ret = true then (s.setPart n (p.accepted y)).serveReturn n (p.accepted y) core
      else (s.setPart n (p.accepted y)).serveVacate n (p.accepted y) core
      else s.setPart n (p.asked x) := by
  subst hret hcore hy
  unfold State.acceptCommand
  rw [State.setPart_same]
  simp only [Partition.asked, List.isEmpty_nil, if_true, setPart_setPart]
  by_cases hmay : (s.setPart n (p.asked x)).mayReturn x = true
  · have hnot : ¬ (!(s.setPart n (p.asked x)).mayReturn x) = true := by simp [hmay]
    exact (if_neg hnot).trans (if_pos hmay).symm
  · have hnot : (!(s.setPart n (p.asked x)).mayReturn x) = true := by simp [hmay]
    exact (if_pos hnot).trans (if_neg hmay).symm

theorem mayReturn_vacate {x : Word} (h : x.getLsbD 30 = false) (s : State) : s.mayReturn x = true := by
  unfold State.mayReturn
  rw [h]
  rfl

/-- The word that PCMD holds once a command has been accepted. -/
def acceptedWord (ret : Bool) (core : Nat) : Word := BitVec.ofNat 32 (bitNat ret * 2 ^ 30 + core)

theorem command_vacate (hp : s.part n = some p) (hbusy : p.pstat.getLsbD 31 = false) (hq : p.pcmdQueue = []) (hcore : core < 2048) :
    s.command n false core =
      (s.setPart n (p.accepted (acceptedWord false core))).serveVacate n (p.accepted (acceptedWord false core)) core := by
  rw [command_idle hp hbusy hq false hcore, acceptCommand_asked (commandWord_ret false hcore) (commandWord_core false hcore)
    (commandWord_accepted false hcore), if_pos (mayReturn_vacate (commandWord_ret false hcore) _), if_neg Bool.false_ne_true,
    acceptedWord]

theorem command_return (hp : s.part n = some p) (hbusy : p.pstat.getLsbD 31 = false) (hq : p.pcmdQueue = []) (hcore : core < 2048)
    (hready : (s.setPart n (p.asked (commandWord true core))).mayReturn (commandWord true core) = true) :
    s.command n true core =
      (s.setPart n (p.accepted (acceptedWord true core))).serveReturn n (p.accepted (acceptedWord true core)) core := by
  rw [command_idle hp hbusy hq true hcore, acceptCommand_asked (commandWord_ret true hcore) (commandWord_core true hcore)
    (commandWord_accepted true hcore), if_pos hready, if_pos rfl, acceptedWord]

theorem command_return_waits (hp : s.part n = some p) (hbusy : p.pstat.getLsbD 31 = false) (hq : p.pcmdQueue = [])
    (hcore : core < 2048) (hready : ¬ (s.setPart n (p.asked (commandWord true core))).mayReturn (commandWord true core) = true) :
    s.command n true core = s.setPart n (p.asked (commandWord true core)) := by
  rw [command_idle hp hbusy hq true hcore, acceptCommand_asked (commandWord_ret true hcore) (commandWord_core true hcore)
    (commandWord_accepted true hcore), if_neg hready]

theorem commandWord_return (h : core < 2048) : commandWord true core = BitVec.ofNat 32 (2 ^ 31 + 2 ^ 30 + core) := by
  rw [commandWord, Nat.mod_eq_of_lt h, show bitNat true = 1 from rfl, Nat.one_mul]

end Command

/-! ## The service of a command (R337 to R340) -/

section Service
variable {s : State} {n core : Nat} {p : Partition}

theorem serveVacate_outside (hp : s.part n = some p) (h : p.holdsCore core = false) :
    s.serveVacate n p core = s.setPart n { p with pstat := 0x20000000 } := by
  unfold State.serveVacate
  refine (if_pos (by rw [h]; rfl)).trans ?_
  exact onPart_of_part hp _

theorem serveVacate_refused (hp : s.part n = some p) (h : p.holdsCore core = true) (hv : (s.core core).vacate ≠ .inService) :
    s.serveVacate n p core = s.setPart n { p with pstat := 0x40000000 } := by
  unfold State.serveVacate
  refine (if_neg (by rw [h]; exact Bool.false_ne_true)).trans ((if_pos hv).trans ?_)
  exact onPart_of_part hp _

theorem setCore_onPart (hp : s.part n = some p) (core : Nat) (x : Core) (f : Partition → Partition) :
    (s.setCore core x).onPart n f = (s.setCore core x).setPart n (f p) :=
  onPart_of_part ((State.setCore_read_part ..).trans hp) f

/-- No gang that has not started has a crew on the core: none is handed over. -/
theorem handOver_none (h : ∀ e ∈ s.gangs, e.2.state = .assigned → ∀ c ∈ s.crewsOn core, c.2.gang ≠ e.1) :
    s.handOver core = s := by
  unfold State.handOver
  rw [List.filter_eq_nil_iff.2 fun e he => ?_]
  · rfl
  · simp only [Bool.and_eq_true, beq_iff_eq, List.any_eq_true, not_and, not_exists]
    exact fun hs c hc hg => h e he hs c hc hg

theorem serveVacate_empty (hp : s.part n = some p) (h : p.holdsCore core = true) (hv : (s.core core).vacate = .inService)
    (hcrews : s.crewsOn core = []) :
    s.serveVacate n p core = (s.setCore core { s.core core with vacate := .vacated }).setPart n { p with pstat := 0 } := by
  unfold State.serveVacate
  refine (if_neg (by rw [h]; exact Bool.false_ne_true)).trans ((if_neg (not_not.2 hv)).trans ?_)
  rw [handOver_none (by simp [hcrews])]
  refine (if_pos (by simp [hcrews])).trans ?_
  exact setCore_onPart hp ..

theorem serveVacate_asks (hp : s.part n = some p) (h : p.holdsCore core = true) (hv : (s.core core).vacate = .inService)
    (hcrews : s.crewsOn core ≠ []) (hgangs : ∀ e ∈ s.gangs, e.2.state = .assigned → ∀ c ∈ s.crewsOn core, c.2.gang ≠ e.1) :
    s.serveVacate n p core =
      (s.setCore core { s.core core with vacate := .asked (s.handlerMode core), askedAt := s.cycle }).setPart n
        { p with pstat := 0x80000000 } := by
  unfold State.serveVacate
  refine (if_neg (by rw [h]; exact Bool.false_ne_true)).trans ((if_neg (not_not.2 hv)).trans ?_)
  rw [handOver_none hgangs]
  refine (if_neg (by simpa using hcrews)).trans ?_
  exact setCore_onPart hp ..

theorem serveReturn_outside (hp : s.part n = some p) (h : p.holdsCore core = false) :
    s.serveReturn n p core = s.setPart n { p with pstat := 0x20000000 } := by
  unfold State.serveReturn
  refine (if_pos (by rw [h]; rfl)).trans ?_
  exact onPart_of_part hp _

theorem serveReturn_refused (hp : s.part n = some p) (h : p.holdsCore core = true) (hv : (s.core core).vacate = .inService) :
    s.serveReturn n p core = s.setPart n { p with pstat := 0x40000000 } := by
  unfold State.serveReturn
  refine (if_neg (by rw [h]; exact Bool.false_ne_true)).trans ((if_pos hv).trans ?_)
  exact onPart_of_part hp _

theorem serveReturn_empty (hp : s.part n = some p) (h : p.holdsCore core = true) (hv : (s.core core).vacate ≠ .inService)
    (hcrews : s.crewsOn core = []) :
    s.serveReturn n p core = (s.setCore core { s.core core with vacate := .inService }).setPart n { p with pstat := 0 } := by
  have hscan : s.scanAllIn core = some s := by
    rw [State.scanAllIn, hcrews]
    rfl
  unfold State.serveReturn
  refine (if_neg (by rw [h]; exact Bool.false_ne_true)).trans ((if_neg hv).trans ?_)
  simp only [hscan, Option.getD_some, hcrews, List.flatMap_nil, List.foldl_nil]
  exact setCore_onPart hp ..

end Service

end Sys2Proof.Machine

namespace Sys2Proof.Machine

/-! A gang that goes back to its launch (R316, R319, R342). -/

/-- What the threads of a gang have seen. -/
def State.gangSeen (s : State) (g : Gang) : Dword :=
  viewOf ((g.crews.flatMap fun k => ((s.crew k).map Crew.warps).getD []).filterMap fun k => (s.warp k).map fun w => (k, w))

/-- What a list of warps has seen covers each thread of theirs, and what it starts from. -/
theorem view_le_viewOf (ws : List (Nat × Warp)) (v : Dword) :
    let seen := ws.foldl (fun v e => e.2.threads.foldl (fun v t => laterOf v t.view) v) v
    v.toNat ≤ seen.toNat ∧ ∀ e ∈ ws, ∀ th ∈ e.2.threads, th.view.toNat ≤ seen.toNat := by
  induction ws generalizing v with
  | nil => simp
  | cons e r ih =>
    obtain ⟨hbase, hrest⟩ := ih (e.2.threads.foldl (fun v t => laterOf v t.view) v)
    obtain ⟨hfirst, hthreads⟩ := le_foldl_laterOf Thread.view e.2.threads v
    refine ⟨hfirst.trans hbase, fun x hx th hth => ?_⟩
    rcases List.mem_cons.1 hx with rfl | hx
    · exact (hthreads th hth).trans hbase
    · exact hrest x hx th hth

theorem view_le_gangSeen {s : State} {g : Gang} {ck wk : Nat} {c : Crew} {w : Warp} {th : Thread} (hck : ck ∈ g.crews)
    (hc : s.crew ck = some c) (hwk : wk ∈ c.warps) (hw : s.warp wk = some w) (hth : th ∈ w.threads) :
    th.view.toNat ≤ (s.gangSeen g).toNat := by
  refine (view_le_viewOf _ 0).2 (wk, w) (List.mem_filterMap.2 ⟨wk, ?_, by rw [hw]; rfl⟩) th hth
  exact List.mem_flatMap.2 ⟨ck, hck, by rwa [hc]⟩

theorem onLaunch_same (s : State) (k : Nat) (f : Launch → Launch) : (s.onLaunch k f).launch k = (s.launch k).map f := by
  unfold State.onLaunch
  split
  · next l h => rw [State.setLaunch_same, h]; rfl
  · next h => rw [h]; rfl

/-- The launch of a gang that is taken out keeps what the gang's threads have seen. -/
theorem removeGang_launch {s : State} {gk : Nat} {g : Gang} {l : Launch} (hg : s.gang gk = some g)
    (hl : s.launch g.launch = some l) :
    (s.removeGang gk).launch g.launch = some { l with stamp := laterOf l.stamp (s.gangSeen g) } := by
  unfold State.removeGang
  rw [hg]
  refine (congrArg (tfind · g.launch) (leaveCores_work _ _).1).trans ?_
  exact (onLaunch_same ..).trans (congrArg _ hl)

theorem onPart_rem {f : Partition → Partition} (hf : ∀ p, (f p).rem = p.rem) (s : State) (k j : Nat) :
    ((s.onPart k f).part j).map Partition.rem = (s.part j).map Partition.rem := by
  unfold State.onPart
  split
  · next p hp =>
    by_cases hj : j = k
    · rw [hj, State.setPart_same, hp, Option.map_some, hf, Option.map_some]
    · rw [State.setPart_other _ _ _ hj]
  · rfl

/-- The result of a command says nothing of REM. -/
theorem commandDone_rem (s : State) (core res j : Nat) :
    ((s.commandDone core res).part j).map Partition.rem = (s.part j).map Partition.rem := by
  unfold State.commandDone
  split
  · refine onPart_rem (fun p => ?_) ..
    rfl
  · rfl

theorem leftCore_rem (s : State) (core j : Nat) :
    ((s.leftCore core).part j).map Partition.rem = (s.part j).map Partition.rem := by
  unfold State.leftCore
  split
  · dsimp only
    split
    · exact commandDone_rem ..
    · rfl
  · rfl

theorem removeGang_rem (s : State) (gk j : Nat) : ((s.removeGang gk).part j).map Partition.rem = (s.part j).map Partition.rem := by
  unfold State.removeGang
  split
  · rfl
  · refine (foldl_keeps (fun s : State => (s.part j).map Partition.rem) (fun s k => leftCore_rem (s.purgeFifo k) k j) _ _).trans ?_
    exact congrArg (fun t => (tfind t j).map Partition.rem) (onLaunch_parts ..)

theorem requeueGang_eq {s : State} {gk : Nat} {g : Gang} (hg : s.gang gk = some g) : s.requeueGang gk =
    (s.removeGang gk).onLaunch g.launch fun l =>
      if g.stage = 0 ∧ !l.aborted then { l with redo := l.redo ++ [g.index.toNat] } else l := by
  rw [State.requeueGang, hg]

theorem requeueGang_gang {s : State} {gk : Nat} {g : Gang} (hg : s.gang gk = some g) : (s.requeueGang gk).gang gk = none := by
  rw [requeueGang_eq hg, State.gang, onLaunch_gangs, removeGang_gangs hg, tfind_tdel_same]

theorem requeueGang_launch {s : State} {gk : Nat} {g : Gang} {l : Launch} (hg : s.gang gk = some g)
    (hl : s.launch g.launch = some l) (hstage : g.stage = 0) (habort : l.aborted = false) :
    (s.requeueGang gk).launch g.launch =
      some { l with redo := l.redo ++ [g.index.toNat], stamp := laterOf l.stamp (s.gangSeen g) } := by
  rw [requeueGang_eq hg, onLaunch_same, removeGang_launch hg hl, Option.map_some]
  exact congrArg some (if_pos ⟨hstage, by rw [habort]; rfl⟩)

theorem requeueGang_rem {s : State} {gk : Nat} {g : Gang} (hg : s.gang gk = some g) (j : Nat) :
    ((s.requeueGang gk).part j).map Partition.rem = (s.part j).map Partition.rem := by
  rw [requeueGang_eq hg, State.part, onLaunch_parts]
  exact removeGang_rem ..

end Sys2Proof.Machine

namespace Sys2Proof.Machine

/-! Held mode (R339): what a core keeps of its commands and its warps when it stops, and how a held warp goes on. -/

/-! ## Commands (R280, R339) -/

section Commands
variable {s : State} {core : Nat}

theorem tfind_map {α β : Type} (f : α → β) (t : Tab α) (k : Nat) : tfind (t.map fun e => (e.1, f e.2)) k = (tfind t k).map f := by
  induction t with
  | nil => rfl
  | cons e r ih =>
    simp only [List.map_cons, tfind]
    split
    · rfl
    · exact ih

theorem mem_placeTask {t x : Task} {l : List Task} : x ∈ placeTask t l ↔ x = t ∨ x ∈ l := by
  induction l with
  | nil => simp [placeTask]
  | cons u r ih =>
    unfold placeTask
    split
    · simp
    · simp only [List.mem_cons, ih]
      tauto

theorem mem_tasks {k : Core} {ent : Nat} {e : Entry} {t : Task} (he : tfind k.entries ent = some e) (ht : e.task = some t) :
    t ∈ k.tasks := by
  have hplaced : ∀ l : List Task, t ∈ l → t ∈ l.foldr placeTask [] := by
    intro l
    induction l with
    | nil => exact id
    | cons u r ih =>
      intro h
      exact mem_placeTask.2 ((List.mem_cons.1 h).imp id ih)
  exact hplaced _ (List.mem_filterMap.2 ⟨(ent, e), mem_of_tfind he, ht⟩)

/-- An entry of the core whose task, where it waits for another participant, is queued again, and the core with its entries so. -/
def State.unstartedEntry (s : State) (core : Nat) (e : Entry) : Entry :=
  { e with task := e.task.map fun t => { t with started := t.started && !s.waitsForMember core t } }
def State.unstarted (s : State) (core : Nat) : Core :=
  { s.core core with entries := (s.core core).entries.map fun e => (e.1, s.unstartedEntry core e.2) }

theorem unstart_eq (s : State) (core : Nat) : s.unstart core = s.setCore core (s.unstarted core) := rfl

/-- When HELD_STOP is due, no command is left started: what was started waits for another participant. -/
theorem unstarted_task (hdue : s.heldDue core = true) {ent : Nat} {task : Task}
    (h : ((s.unstarted core).entry ent).task = some task) :
    task.started = false ∧ ∃ b, ((s.core core).entry ent).task = some { task with started := b } := by
  have hnone : ∀ t ∈ (s.core core).tasks, (t.started && !s.waitsForMember core t) = false := by
    have hany := (Bool.and_eq_true_iff.1 hdue).2
    simpa using hany
  rw [Core.entry, State.unstarted, tfind_map (s.unstartedEntry core)] at h
  rw [Core.entry]
  cases he : tfind (s.core core).entries ent with
  | none =>
    rw [he] at h
    cases h
  | some e =>
    rw [he] at h
    obtain ⟨t, ht, rfl⟩ := Option.map_eq_some_iff.1 h
    exact ⟨hnone t (mem_tasks he ht), t.started, ht⟩

end Commands

/-! ## Warps that stop (R301, R339) -/

section Hold
variable {s : State} {wk : Nat} {w : Warp}

/-- A warp outside a pre-emption handler as it is held. -/
def Warp.heldAt (w : Warp) (now : Nat) : Warp :=
  { (w.record now).mapThreads (fun _ th => th.clearLatches) with
    run := .held, pausedAt := some (w.pausedAt.getD now), stuck := none }

/-- The state without its warps. -/
def State.unwarped (s : State) : State := { s with warps := [] }

theorem onWarp_unwarped (s : State) (k : Nat) (f : Warp → Warp) : (s.onWarp k f).unwarped = s.unwarped := by
  unfold State.onWarp
  split <;> rfl

theorem holdWarp_stops (hw : s.warp wk = some w) (hrun : w.run = .resident) (hlive : w.unfinished ≠ 0) (hsave : w.saving = false) :
    (s.holdWarp wk).warp wk = some (w.heldAt s.cycle) := by
  refine (onWarp_same ..).trans ?_
  rw [hw, Option.map_some, if_neg (not_or.2 ⟨not_not.2 hrun, hlive⟩), hsave]
  rfl

theorem holdWarp_stays (hw : s.warp wk = some w) (hrun : w.run ≠ .resident) : (s.holdWarp wk).warp wk = some w := by
  refine (onWarp_same ..).trans ?_
  rw [hw, Option.map_some, if_pos (.inl hrun)]

theorem holdWarp_other {j : Nat} (h : wk ≠ j) (s : State) : (s.holdWarp j).warp wk = s.warp wk := onWarp_other _ _ h

theorem holdWarps_unwarped (ks : List Nat) (s : State) : (ks.foldl State.holdWarp s).unwarped = s.unwarped :=
  foldl_keeps State.unwarped (fun s k => onWarp_unwarped s k _) ks s

/-- A warp that is held stays as it is, however often it is stopped again. -/
theorem holdWarps_stays (hrun : w.run ≠ .resident) (ks : List Nat) (s : State) (hw : s.warp wk = some w) :
    (ks.foldl State.holdWarp s).warp wk = some w := by
  induction ks generalizing s with
  | nil => exact hw
  | cons k r ih =>
    refine ih _ ?_
    by_cases hk : wk = k
    · exact hk ▸ holdWarp_stays (hk ▸ hw) hrun
    · rwa [holdWarp_other hk]

theorem holdWarps_stops (hrun : w.run = .resident) (hlive : w.unfinished ≠ 0) (hsave : w.saving = false) (ks : List Nat) (s : State)
    (hmem : wk ∈ ks) (hw : s.warp wk = some w) : (ks.foldl State.holdWarp s).warp wk = some (w.heldAt s.cycle) := by
  induction ks generalizing s with
  | nil => cases hmem
  | cons k r ih =>
    by_cases hk : wk = k
    · subst hk
      exact holdWarps_stays (by exact nofun) r _ (holdWarp_stops hw hrun hlive hsave)
    · have hcycle : (s.holdWarp k).cycle = s.cycle := (congrArg State.cycle (onWarp_unwarped s k _) :)
      rw [List.foldl_cons, ih _ ((List.mem_cons.1 hmem).resolve_left hk) ((holdWarp_other hk s).trans hw), hcycle]

/-- The thread that a held warp holds, with its record (R301). -/
theorem heldAt_thread (w : Warp) (now : Nat) {i : Nat} (hi : i < 32) :
    (w.heldAt now).thread i = (let r := (w.thread i).record (w.subs.filter fun x => !x.nested) i now
      { (w.thread i).clearLatches with resume := r.1, left := r.2 }) := by
  change ((w.record now).mapThreads fun _ th => th.clearLatches).thread i = _
  rw [thread_mapThreads _ _ hi, Warp.record, thread_mapThreads _ _ hi]
  rfl

/-- The record of a thread by its status (R301). -/
theorem record_eq (th : Thread) (subs : List Sub) (i now : Nat) : th.record subs i now =
    (match th.status with
      | .finished => resumeWord th.pc 2
      | .converge _ _ _ => resumeWord th.pc 1
      | .crewBarrier _ => resumeWord th.pc 1
      | .gangBarrier _ => resumeWord th.pc 1
      | .parked => resumeWord (((subs.find? fun x => inMask x.mask i).map Sub.origin).getD th.pc) 3
      | _ => resumeWord th.pc 0,
     match th.status with
      | .ready => if th.timeout = 0 then 0 else max 1 (th.timeout - now)
      | .waiting _ => if th.timeout = 0 then 0 else max 1 (th.timeout - now)
      | _ => 0) := by
  unfold Thread.record
  cases th.status <;> rfl

theorem commandDone_eq {core k : Nat} {p : Partition} (hk : s.partOfCore core = some (k, p)) (hp : s.part k = some p) (res : Nat) :
    s.commandDone core res = s.setPart k { p with pstat := BitVec.ofNat 32 (res * 2 ^ 29) } := by
  rw [State.commandDone, hk]
  exact onPart_of_part hp _

/-- The warps stop, the commands that wait for another participant are queued again, and the command of the partition ends. -/
theorem exec_heldStop {core k : Nat} {p : Partition} (hdue : s.heldDue core = true) (hk : s.partOfCore core = some (k, p))
    (hp : s.part k = some p) : ∃ t : State, exec (.heldStop core) s = .next t ∧
      t.core core = { s.unstarted core with vacate := .vacated } ∧ t.part k = some { p with pstat := 0 } ∧
      t.warps = ((s.warpKeysOn core).foldl State.holdWarp (s.unstart core)).warps := by
  generalize hheld : (s.warpKeysOn core).foldl State.holdWarp (s.unstart core) = u
  have hrest : u.unwarped = (s.unstart core).unwarped := hheld ▸ holdWarps_unwarped ..
  have hcore : u.core core = s.unstarted core :=
    (congrArg (fun t : State => t.core core) hrest).trans (unstart_eq s core ▸ State.setCore_same ..)
  have hparts : u.parts = s.parts := (congrArg State.parts hrest :)
  have hexec : exec (.heldStop core) s = .next ((u.onCore core fun k => { k with vacate := .vacated }).commandDone core 0) := by
    change execHeldStop core s = _
    rw [execHeldStop, hdue, hheld]
    rfl
  rw [commandDone_eq (k := k) (p := p)] at hexec
  · refine ⟨_, hexec, ?_, State.setPart_same .., rfl⟩
    exact (State.setCore_same ..).trans (by rw [hcore])
  · change u.parts.find? _ = _
    rw [hparts]
    exact hk
  · exact (congrArg (fun ps : Tab Partition => tfind ps k) hparts).trans hp

end Hold

/-! ## A held warp goes on (R304, R339) -/

section Resume
variable {s : State} {wk i : Nat} {w : Warp}

theorem release_of_not_converge {th : Thread} (h : ∀ n k x, th.status ≠ .converge n k x) (n : Nat) (b : Bool) :
    th.release n b = th := by
  unfold Thread.release
  split
  · next hs => exact absurd hs (h _ _ _)
  · rfl

/-- A thread that stands in no convergence barrier is released from none. -/
theorem settleBar_thread (hi : i < 32) (h : ∀ n k x, (w.thread i).status ≠ .converge n k x) (n : Nat) :
    (w.settleBar n).thread i = w.thread i := by
  have hout : ∀ m b, (w.onThreads m (Thread.release n b)).thread i = w.thread i := by
    intro m b
    rw [Warp.onThreads, thread_mapThreads _ _ hi, release_of_not_converge h, ite_self]
  unfold Warp.settleBar
  dsimp only
  split
  · exact hout ..
  · split
    · exact hout ..
    · rfl

theorem settleBars_thread (hi : i < 32) (ns : List Nat) (w : Warp) (h : ∀ n k x, (w.thread i).status ≠ .converge n k x) :
    (ns.foldl Warp.settleBar w).thread i = w.thread i := by
  induction ns generalizing w with
  | nil => rfl
  | cons n r ih =>
    have hn := settleBar_thread hi h n
    rw [List.foldl_cons, ih _ (by rwa [hn]), hn]

/-- What the check of the barriers does not touch of a warp. -/
theorem settleAll_rest (w : Warp) : (w.settleAll.run, w.settleAll.pausedAt, w.settleAll.s) = (w.run, w.pausedAt, w.s) := by
  unfold Warp.settleAll
  refine foldl_keeps (fun w : Warp => (w.run, w.pausedAt, w.s)) (fun w n => ?_) _ w
  unfold Warp.settleBar
  dsimp only
  split
  · rfl
  · split <;> rfl

/-- A thread of a held warp as it goes on by its record: one that waited issues its instruction again. -/
def Thread.goesOn (th : Thread) (now : Nat) : Thread :=
  match th.status with
  | .waiting _ => { th with status := .ready, held := none, timeout := if th.left = 0 then 0 else now + th.left }
  | _ => th

/-- A held warp outside a pre-emption handler as it goes on. -/
def Warp.resumedAt (w : Warp) (now : Nat) : Warp :=
  ((({ w with run := .resident }.unpause now).mapThreads fun _ th => th.goesOn now)).settleAll

theorem resumeHeld_eq (hw : s.warp wk = some w) (hrun : w.run = .held) (hsave : w.saving = false) :
    s.resumeHeld wk = s.setWarp wk (w.resumedAt s.cycle) := by
  unfold State.resumeHeld State.onWarp
  rw [hw]
  refine congrArg (s.setWarp wk) ?_
  dsimp only
  rw [if_neg (not_not.2 hrun), hsave]
  rfl

theorem unpause_rest (w : Warp) (now : Nat) : ((w.unpause now).run, (w.unpause now).pausedAt, (w.unpause now).s) = (w.run, none, w.s) := by
  unfold Warp.unpause
  split
  · next h => rw [h]
  · rfl

/-- The end of a pause moves the times of a thread on, and nothing else. -/
theorem unpause_thread (hi : i < 32) (w : Warp) (now : Nat) : ∃ timeout since,
    (w.unpause now).thread i = { w.thread i with timeout := timeout, since := since } := by
  unfold Warp.unpause
  split
  · exact ⟨_, _, rfl⟩
  · next since _ =>
    exact ⟨_, _, thread_mapThreads w (fun _ th => { th with
      timeout := if th.timeout = 0 then 0 else th.timeout + (now - since), since := th.since + (now - since) }) hi⟩

theorem resumedAt_rest (w : Warp) (now : Nat) :
    (w.resumedAt now).run = .resident ∧ (w.resumedAt now).pausedAt = none ∧ (w.resumedAt now).s = w.s := by
  have hrest : ((w.resumedAt now).run, (w.resumedAt now).pausedAt, (w.resumedAt now).s) = (.resident, none, w.s) :=
    (settleAll_rest _).trans (unpause_rest { w with run := .resident } now)
  simpa only [Prod.mk.injEq] using hrest

/-- A thread that stands in no convergence barrier goes on by its record, whatever the barriers come to. -/
theorem resumedAt_thread (hi : i < 32) (now : Nat) (h : ∀ n k x, (w.thread i).status ≠ .converge n k x) : ∃ timeout since,
    (w.resumedAt now).thread i = ({ w.thread i with timeout := timeout, since := since } : Thread).goesOn now := by
  obtain ⟨timeout, since, hth⟩ := unpause_thread hi { w with run := .resident } now
  have hmap := thread_mapThreads ({ w with run := .resident }.unpause now) (fun _ th => th.goesOn now) hi
  rw [hth] at hmap
  refine ⟨timeout, since, (settleBars_thread hi _ _ fun n k x => ?_).trans hmap⟩
  rw [hmap]
  change (({ w.thread i with timeout := timeout, since := since } : Thread).goesOn now).status ≠ _
  unfold Thread.goesOn
  split
  · exact nofun
  · exact h n k x

theorem resumedAt_waiting (hi : i < 32) (now : Nat) {x : Wait} (hx : (w.thread i).status = .waiting x) :
    let th := (w.resumedAt now).thread i
    th.status = .ready ∧ th.pc = (w.thread i).pc ∧ th.held = none ∧
      th.timeout = if (w.thread i).left = 0 then 0 else now + (w.thread i).left := by
  obtain ⟨timeout, since, hth⟩ := resumedAt_thread hi now fun n k y => by rw [hx]; exact nofun
  dsimp only
  rw [hth, Thread.goesOn]
  simp only [hx]
  trivial

theorem resumedAt_status (hi : i < 32) (now : Nat) (h : (w.thread i).status = .ready ∨ (w.thread i).status = .finished) :
    ((w.resumedAt now).thread i).status = (w.thread i).status := by
  rcases h with h | h <;>
  · obtain ⟨timeout, since, hth⟩ := resumedAt_thread hi now fun n k y => by rw [h]; exact nofun
    rw [hth, Thread.goesOn]
    simp only [h]

end Resume

end Sys2Proof.Machine

namespace Sys2Proof.Machine

/-! Handler mode (R340, R341): the save frame of a warp that is to leave, and the restore frame of one that comes back. -/

section Frames
variable {s t : State} {wk : Nat} {v w : Warp}

theorem coreOf_congr (hc : t.crews = s.crews) (hw : v.crew = w.crew) : t.coreOf v = s.coreOf w := by
  unfold State.coreOf State.crew
  rw [hc, hw]

theorem slotOf_congr (hc : t.crews = s.crews) (hw : v.crew = w.crew) (hlane : v.lane = w.lane)
    (hslot : v.slot = w.slot) : t.slotOf v = s.slotOf w := by
  unfold State.slotOf
  rw [coreOf_congr hc hw, hlane, hslot]

theorem viewOver_congr {m : Word} (h : ∀ i < 32, (v.thread i).view = (w.thread i).view) : v.viewOver m = w.viewOver m :=
  foldl_congr_mem (fun i hi x => by rw [h i (mem_threadsOf.1 hi).1]) 0

theorem inMask_all {i : Nat} (hi : i < 32) : inMask 0xFFFFFFFF i = true := by
  revert i
  decide

/-- A warp whose every thread runs its pre-emption handler, by the frame at an offset of the save slots. -/
def Warp.preempted (w : Warp) (o : Nat) (vec v : Dword) : Warp :=
  { (w.setS 31 (BitVec.ofNat 32 o)).mapThreads (fun _ th =>
      { th.clearLatches with status := .ready, handler := .preempt, sup := true, pc := vec, timeout := 0, held := none,
                             view := laterOf th.view v }) with stuck := none }

theorem entered_preempt (w : Warp) (o : Nat) (vec v : Dword) :
    w.entered o 0xFFFFFFFF (fun _ => .preempt) vec v = w.preempted o vec v := by
  unfold Warp.entered Warp.preempted
  rw [mapThreads_congr fun i hi => ?_]
  dsimp only
  rw [if_pos (inMask_all hi)]
  rfl

theorem enterHandler_preempt {k o : Nat} {l : Launch} {p : Partition} {f : Frame} {r : State × Dword} (hw : s.warp wk = some w)
    (hl : s.launchOf w = some (k, l)) (hp : s.part l.part = some p) (ho : s.slotOf w + 64 = o)
    (hr : s.slotWrite (s.coreOf w) wk (w.viewOver 0xFFFFFFFF) (p.savebase + BitVec.ofNat 64 o)
      (dwordsOf { f with mask := 0xFFFFFFFF, view := w.viewOver 0xFFFFFFFF, s31 := w.sreg 31 }.bytes) = .ok r) :
    s.enterHandler wk 64 0xFFFFFFFF (fun _ => .preempt) f =
      (r.1.freeLane wk).onWarp wk fun w => w.preempted o p.trapvec r.2 := by
  subst ho
  rw [enterHandler_written hw hl hp hr]
  simp only [entered_preempt]

/-! ## The save frame (R301, R340) -/

/-- A warp that is to leave, with its threads recorded, and its save frame. -/
def Warp.leavingAt (w : Warp) (now : Nat) : Warp := { w.record now with subs := [], pausedAt := some now }
def Warp.saveFrame (w : Warp) (spill : Dword) : Frame :=
  { cause := 0x11, sub := 1, addr := 0, mask := 0xFFFFFFFF, word := 0, pc := 0, view := w.viewIn 0xFFFFFFFF, detail := spill,
    s31 := w.sreg 31 }

theorem leavingAt_viewOver (w : Warp) (now : Nat) : (w.leavingAt now).viewOver 0xFFFFFFFF = w.viewIn 0xFFFFFFFF :=
  viewOver_congr fun i hi => by
    change ((w.record now).thread i).view = _
    rw [Warp.record, thread_mapThreads _ _ hi]

theorem saveSlot_frame (x : Dword) (o : Nat) : x + BitVec.ofNat 64 (o + 128) - 64 = x + BitVec.ofNat 64 (o + 64) := by
  rw [show o + 128 = o + 64 + 64 from rfl, BitVec.ofNat_add (o + 64) 64, ← BitVec.add_assoc]
  exact BitVec.add_sub_cancel ..

/-- A warp whose save frame is written, with the spill pointer that its save slot holds. -/
theorem enterSave_written {k lk : Nat} {l : Launch} {p : Partition} {q t : State × Dword} {r : State × Dword × List Byte}
    (hw : s.warp wk = some w) (hrun : w.run = .resident) (hlive : w.unfinished ≠ 0)
    (hk : s.partOfCore (s.coreOf w) = some (k, p))
    (hq : (s.setWarp wk (w.leavingAt s.cycle)).slotWrite (s.coreOf w) wk (w.viewIn 0xFFFFFFFF)
      (p.savebase + BitVec.ofNat 64 (s.slotOf w + 64)) (dwordsOf (w.saveFrame 0).bytes) = .ok q)
    (hr : (s.setWarp wk (w.leavingAt s.cycle)).slotRead (s.coreOf w) (w.viewIn 0xFFFFFFFF)
      (p.savebase + BitVec.ofNat 64 (s.slotOf w + 64 + 64)) 1 = .ok r)
    (hleft : r.1.warp wk = some (w.leavingAt s.cycle)) (hcrews : r.1.crews = s.crews)
    (hl : r.1.launchOf (w.leavingAt s.cycle) = some (lk, l)) (hp : r.1.part l.part = some p)
    (ht : r.1.slotWrite (s.coreOf w) wk (w.viewIn 0xFFFFFFFF) (p.savebase + BitVec.ofNat 64 (s.slotOf w + 64))
      (dwordsOf (w.saveFrame (BitVec.ofNat 64 (bytesNat r.2.2))).bytes) = .ok t) :
    s.enterSave wk = (t.1.freeLane wk).onWarp wk fun x => x.preempted (s.slotOf w + 64) p.trapvec t.2 := by
  have hcore : r.1.coreOf (w.leavingAt s.cycle) = s.coreOf w := coreOf_congr hcrews rfl
  have henter : r.1.enterHandler wk 64 0xFFFFFFFF (fun _ => .preempt) (w.saveFrame (BitVec.ofNat 64 (bytesNat r.2.2))) =
      (t.1.freeLane wk).onWarp wk fun x => x.preempted (s.slotOf w + 64) p.trapvec t.2 := by
    refine enterHandler_preempt hleft hl hp (congrArg (· + 64) (slotOf_congr hcrews rfl rfl rfl)) ?_
    rw [hcore, leavingAt_viewOver]
    exact ht
  unfold State.enterSave
  rw [hw]
  dsimp only
  rw [if_neg (not_or.2 ⟨not_not.2 hrun, hlive⟩), hk]
  dsimp only
  rw [saveSlot_frame]
  simp only [Warp.leavingAt, Warp.saveFrame] at hq hr henter
  rw [hq]
  dsimp only
  rw [show s.slotOf w + 128 = s.slotOf w + 64 + 64 from rfl, hr]
  exact henter

/-! ## The restore frame (R341) -/

/-- A thread that comes back with the record of a start, and what its crew has seen. -/
def Thread.returning (th : Thread) (seen : Dword) (draws : Nat) : Thread :=
  { th with resume := resumeWord 0 2, status := .ready, view := seen, fenced := draws }

/-- A warp that comes back: nothing of its registers, and every thread so. -/
def Warp.returningAt (w : Warp) (seen : Dword) (draws now : Nat) : Warp :=
  { w.emptied.mapThreads (fun _ th => th.returning seen draws) with run := .resident, pausedAt := some now }

variable {seen : Dword} {draws now i : Nat}

theorem returningAt_thread (hi : i < 32) : (w.returningAt seen draws now).thread i = (w.emptied.thread i).returning seen draws := by
  change (w.emptied.mapThreads fun _ th => th.returning seen draws).thread i = _
  exact thread_mapThreads _ _ hi

theorem emptied_registers (hi : i < 32) : (w.emptied.thread i).v = [] ∧ (w.emptied.thread i).p = 0 := by
  have hth := thread_mapThreads w (fun _ th => { th.clearLatches with
    v := [], p := 0, count := 0, status := .parked, handler := .none, resume := 0, left := 0, timeout := 0, held := none }) hi
  exact ⟨congrArg Thread.v hth, congrArg Thread.p hth⟩

/-- The latest of one time, however often. -/
theorem foldl_laterOf_same {l : List Nat} (h : l ≠ []) (x : Dword) : l.foldl (fun v _ => laterOf v x) 0 = x := by
  have hsame : ∀ v, (laterOf v x).toNat = max v.toNat x.toNat := fun v => toNat_laterOf ..
  obtain ⟨a, r, rfl⟩ := List.exists_cons_of_ne_nil h
  have hfirst : laterOf 0 x = x := BitVec.eq_of_toNat_eq ((hsame 0).trans (Nat.zero_max ..))
  have hagain : laterOf x x = x := BitVec.eq_of_toNat_eq ((hsame x).trans (Nat.max_self ..))
  rw [List.foldl_cons, hfirst]
  clear h
  induction r with
  | nil => rfl
  | cons b r ih => rwa [List.foldl_cons, hagain]

theorem returningAt_viewOver (w : Warp) : (w.returningAt seen draws now).viewOver 0xFFFFFFFF = seen :=
  (foldl_congr_mem (fun i hi v => by rw [returningAt_thread (mem_threadsOf.1 hi).1, Thread.returning]) 0).trans
    (foldl_laterOf_same (by decide) seen)

theorem freeLane_crews (s : State) (wk : Nat) : (s.freeLane wk).crews = s.crews := by
  unfold State.freeLane
  split <;> rfl

theorem freeLane_warp (s : State) (wk k : Nat) : (s.freeLane wk).warp k = s.warp k := by
  unfold State.freeLane
  split <;> rfl

/-- The frame of a warp that comes back. -/
def restoreFrame (seen spill : Dword) : Frame :=
  { cause := 0x11, sub := 2, addr := 0, mask := 0xFFFFFFFF, word := 0, pc := 0, view := seen, detail := spill, s31 := 0 }

theorem preempted_stuck (w : Warp) (o : Nat) (vec v : Dword) : (w.preempted o vec v).stuck = none := rfl

theorem preempted_saving (w : Warp) (o : Nat) (vec v : Dword) : (w.preempted o vec v).saving = true :=
  List.any_eq_true.2 ⟨_, List.mem_map.2 ⟨0, by decide, rfl⟩, rfl⟩

/-- A warp whose restore frame is written, and then the spill pointer in its save slot. -/
theorem enterRestore_written {lk : Nat} {c : Crew} {l : Launch} {p : Partition} {spill : Dword} {t u : State × Dword}
    (hw : s.warp wk = some w) (hc : s.crew w.crew = some c) (hl : s.launchOf w = some (lk, l)) (hp : s.part l.part = some p)
    (hseen : laterOf (viewOf (s.warpsOf c)) s.latest = seen) (hspill : (tfind c.spill w.wix).getD 0 = spill)
    (ht : (s.setWarp wk (w.returningAt seen s.draws s.cycle)).slotWrite c.core wk seen (p.savebase + BitVec.ofNat 64 (s.slotOf w + 64))
      (dwordsOf (restoreFrame seen spill).bytes) = .ok t)
    (hback : t.1.warp wk = some (w.returningAt seen s.draws s.cycle)) (hcrews : t.1.crews = s.crews)
    (hu : ((t.1.freeLane wk).onWarp wk fun x => x.preempted (s.slotOf w + 64) p.trapvec t.2).slotWrite c.core wk seen
      (p.savebase + BitVec.ofNat 64 (s.slotOf w + 64 + 64)) [spill] = .ok u) :
    s.enterRestore wk = u.1.acquire wk 0xFFFFFFFF u.2 := by
  set w1 := w.returningAt seen s.draws s.cycle with hw1
  set s1 := (t.1.freeLane wk).onWarp wk fun x => x.preempted (s.slotOf w + 64) p.trapvec t.2 with hs1
  have hcore : (s.setWarp wk w1).coreOf w1 = c.core := by
    rw [State.coreOf, show (s.setWarp wk w1).crew w1.crew = s.crew w.crew from rfl, hc]
  have henter : (s.setWarp wk w1).enterHandler wk 64 0xFFFFFFFF (fun _ => .preempt)
      { cause := 0x11, sub := 2, addr := 0, mask := 0, word := 0, pc := 0, view := 0, detail := spill, s31 := 0 } = s1 := by
    refine enterHandler_preempt (State.setWarp_same ..) hl hp (congrArg (· + 64) (slotOf_congr rfl rfl rfl rfl)) ?_
    rw [hcore, hw1, returningAt_viewOver, ← hw1]
    exact ht
  have hwarp : s1.warp wk = some (w1.preempted (s.slotOf w + 64) p.trapvec t.2) := by
    rw [hs1, onWarp_same, freeLane_warp, hback]
    rfl
  have hslot : s1.slotOf w1 + 128 = s.slotOf w + 64 + 64 := by
    have hsame : s1.crews = s.crews :=
      (congrArg State.crews (onWarp_unwarped _ wk _)).trans ((freeLane_crews ..).trans hcrews)
    exact congrArg (· + 128) (slotOf_congr hsame rfl rfl rfl)
  unfold State.enterRestore
  rw [hw]
  dsimp only
  rw [hc, hl]
  dsimp only
  rw [hp]
  dsimp only
  simp only [Warp.returningAt, Thread.returning] at hw1
  rw [hseen, hspill, ← hw1, henter, hwarp]
  simp only [Option.bind_some, Option.map_some, Option.getD_some, preempted_stuck, preempted_saving, Bool.not_true,
    Bool.false_eq_true, if_false, hslot, hu]

end Frames

end Sys2Proof.Machine

namespace Sys2Proof.Machine

/-! Pre-emption (R337 to R342): the events of a core that is vacated, and of a crew that comes back. -/

section Events
variable {s : State} {core : Nat}

theorem exec_preemptSaveEntry_asked (h : (s.core core).vacate = .asked true) : exec (.preemptSaveEntry core) s =
    (let t := s.setCore core { s.core core with vacate := .leaving }
     .next (((t.warpKeysOn core).foldl State.enterSave t).leftCore core)) := by
  change execPreemptSaveEntry core s = _
  unfold execPreemptSaveEntry
  rw [h]
  rfl

theorem exec_phlimExpiry_due (h : s.phlimDue core = true) : exec (.phlimExpiry core) s =
    .next (s.setCore core { s.core core with vacate := .asked false }) :=
  congrArg Host.Outcome.next (if_pos h)

theorem exec_preemptRestoreEntry_resident {n : Nat} {c : Crew} (hc : s.crew n = some c) (hres : c.state = .resident)
    (hcore : c.core = core) : exec (.preemptRestoreEntry n core) s = .next ((s.restoreLate c).foldl State.enterRestore s) := by
  change execPreemptRestoreEntry n core s = _
  unfold execPreemptRestoreEntry
  rw [hc]
  exact if_pos ⟨hres, hcore⟩

/-- Only a suspended crew is resumed. -/
theorem suspended_of_resumeCrew {n : Nat} {t : State} (h : s.resumeCrew n core = some t) :
    ∃ c, s.crew n = some c ∧ c.state = .suspended := by
  unfold State.resumeCrew at h
  split at h
  · cases h
  · next c hc =>
    split at h
    · cases h
    · by_contra hne
      rw [if_pos (.inl fun hs => hne ⟨c, hc, hs⟩)] at h
      cases h

theorem exec_preemptRestoreEntry_resumed {n : Nat} {t : State} (h : s.resumeCrew n core = some t) :
    exec (.preemptRestoreEntry n core) s = .next t := by
  obtain ⟨c, hc, hsus⟩ := suspended_of_resumeCrew h
  change execPreemptRestoreEntry n core s = _
  unfold execPreemptRestoreEntry
  rw [hc]
  refine (if_neg fun hres => ?_).trans ?_
  · rw [hsus] at hres
    exact absurd hres.1 nofun
  · rw [h]
    rfl

end Events

/-- Settles O49: a command before which nothing stands is accepted by `command_idle` and served by the lemmas about
`State.serveVacate` and `State.serveReturn`; the warps of a core stop by `holdWarps_stops`, leave by `enterSave_written` and come
back by `enterRestore_written`. -/
theorem preemptionEvents : Obligations.PreemptionEvents := by
  unfold Obligations.PreemptionEvents
  intro s n core
  refine ⟨fun p hp hbusy hq hcore => ?command, fun g l p hg hl hp hstage _ habort => ?requeue, fun hdue k p hk hp => ?held,
    fun wk w hw hrun hsave => ?resume, exec_preemptSaveEntry_asked, fun wk w k p hw hrun hlive hk => ?save,
    exec_phlimExpiry_due, fun t => exec_preemptRestoreEntry_resumed, fun c => exec_preemptRestoreEntry_resident,
    fun wk w c lk l p hw hc hl hp => ?restore⟩
  case command =>
    intro q asked stands ready
    have hasked : commandWord true core = asked := commandWord_return hcore
    have hvacate : exec (.pcmdVacate n core) s = .next ((s.setPart n (p.accepted (acceptedWord false core))).serveVacate n
      (p.accepted (acceptedWord false core)) core) := congrArg _ (command_vacate hp hbusy hq hcore)
    have hreturn : ready → exec (.pcmdReturn n core) s = .next ((s.setPart n (p.accepted (acceptedWord true core))).serveReturn n
      (p.accepted (acceptedWord true core)) core) := fun h => congrArg _ (command_return hp hbusy hq hcore (by rw [hasked]; exact h))
    have hpage : ∀ y, (s.setPart n (p.accepted y)).part n = some (p.accepted y) := fun y => State.setPart_same ..
    refine ⟨fun h => congrArg _ ((command_return_waits hp hbusy hq hcore (by rw [hasked]; exact h)).trans (by rw [hasked]; rfl)),
      fun hout => ⟨?_, fun h => ?_⟩, fun hin => ⟨fun hv => ?_, fun hv h => ?_, fun hv hc => ?_, fun hv hc hg => ?_, fun hv hc h => ?_⟩⟩
    · rw [hvacate, serveVacate_outside (hpage _) hout, setPart_setPart]
      rfl
    · rw [hreturn h, serveReturn_outside (hpage _) hout, setPart_setPart]
      rfl
    · rw [hvacate, serveVacate_refused (hpage _) hin hv, setPart_setPart]
      rfl
    · rw [hreturn h, serveReturn_refused (hpage _) hin hv, setPart_setPart]
      rfl
    · exact ⟨_, hvacate.trans (congrArg _ (serveVacate_empty (hpage _) hin hv hc)), State.setPart_same .., State.setCore_same .., rfl⟩
    · exact ⟨_, hvacate.trans (congrArg _ (serveVacate_asks (hpage _) hin hv hc hg)), State.setPart_same .., rfl,
        State.setCore_same ..⟩
    · exact ⟨_, (hreturn h).trans (congrArg _ (serveReturn_empty (hpage _) hin hv hc)), State.setPart_same .., State.setCore_same ..⟩
  case requeue =>
    refine ⟨requeueGang_gang hg, ⟨_, requeueGang_launch hg hl hstage habort, ?_, ?_⟩, ?_⟩
    · rw [toNat_laterOf]
      exact Nat.le_max_left ..
    · intro ck hck c hc wk hwk w hw th hth
      rw [toNat_laterOf]
      exact (view_le_gangSeen hck hc hwk hw hth).trans (Nat.le_max_right ..)
    · rw [requeueGang_rem hg, hp, Option.map_some]
  case held =>
    obtain ⟨t, hexec, hcore, hpart, hwarps⟩ := exec_heldStop hdue hk hp
    refine ⟨t, hexec, by rw [hcore]; rfl, fun ent task h => unstarted_task hdue ?_, hpart, fun wk hmem w hw hrun hlive hsave => ?_⟩
    · rw [hcore] at h
      exact h
    · have hheld : t.warp wk = some (w.heldAt s.cycle) :=
        (congrArg (fun ws : Tab Warp => tfind ws wk) hwarps).trans (holdWarps_stops hrun hlive hsave _ _ hmem hw)
      refine ⟨_, hheld, rfl, fun i hi => ?_⟩
      exact (heldAt_thread w s.cycle hi).trans
        (congrArg (fun r : Dword × Nat => { (w.thread i).clearLatches with resume := r.1, left := r.2 }) (record_eq ..))
  case resume =>
    obtain ⟨hres, hpaused, hs⟩ := resumedAt_rest w s.cycle
    exact ⟨_, resumeHeld_eq hw hrun hsave, hres, hpaused, hs, fun i hi =>
      ⟨fun x hx => resumedAt_waiting hi s.cycle hx, resumedAt_status hi s.cycle⟩⟩
  case save =>
    intro v off w1 frame q r t lk l hq hr hleft hcrews hl hp ht
    exact enterSave_written hw hrun hlive hk hq hr hleft hcrews hl hp ht
  case restore =>
    intro spill seen w1 off frame entered
    refine ⟨⟨rfl, rfl, rfl, rfl, rfl, rfl, fun i hi => ?_⟩, fun t u ht hback hcrews hu => ?_⟩
    · have hth : w1.thread i = (w.emptied.thread i).returning seen s.draws := returningAt_thread hi
      obtain ⟨hv, hpred⟩ := emptied_registers (w := w) hi
      rw [hth]
      exact ⟨hv, hpred, rfl, rfl⟩
    · exact enterRestore_written hw hc hl hp rfl rfl ht hback hcrews hu

end Sys2Proof.Machine

/-! Words and the instructions that they encode (R129 to R145). `encode` adds the operands of an instruction to the fixed bits of its
form, each at a place of its own, and the decoder reads a place by a quotient and a remainder: a place gives what was added there. -/
namespace Sys2Proof

/-! ## The places of a word (R131, R132) -/

section Places
variable {w x m n r k : Nat}

/-- An operand above the place that is read. -/
theorem div_mod_add_above (h : m % (n * r) = 0) : (w + x * m) / n % r = w / n % r := by
  obtain ⟨q, rfl⟩ := Nat.dvd_of_mod_eq_zero h
  rcases Nat.eq_zero_or_pos n with rfl | hn
  · simp
  · rw [show x * (n * r * q) = n * (r * (x * q)) by ring, Nat.add_mul_div_left _ _ hn, Nat.add_mul_mod_self_left]

/-- An operand below the place that is read, in bits that were zero. -/
theorem div_add_below (x : BitVec k) (hn : n % (m * 2 ^ k) = 0) (hm : 0 < m) (h : w / m % 2 ^ k = 0) :
    (w + x.toNat * m) / n = w / n := by
  have hcarry : (w / m + x.toNat) / 2 ^ k = w / m / 2 ^ k := by
    obtain ⟨p, hp⟩ := Nat.dvd_of_mod_eq_zero h
    rw [hp, Nat.mul_add_div (Nat.two_pow_pos k), Nat.div_eq_of_lt x.isLt, Nat.mul_div_cancel_left _ (Nat.two_pow_pos k)]
    rfl
  obtain ⟨q, rfl⟩ := Nat.dvd_of_mod_eq_zero hn
  simp only [← Nat.div_div_eq_div_mul, Nat.add_mul_div_right _ _ hm, hcarry]

/-- The operand at the place that is read. -/
theorem ofNat_div_mod_add (x : BitVec k) (hr : r = 2 ^ k) (hm : 0 < m) (h : w / m % r = 0) :
    BitVec.ofNat k ((w + x.toNat * m) / m % r) = x := by
  apply BitVec.eq_of_toNat_eq
  rw [Nat.add_mul_div_right _ _ hm, Nat.add_mod, h, Nat.zero_add, Nat.mod_mod, hr, BitVec.toNat_ofNat, Nat.mod_mod,
    Nat.mod_eq_of_lt x.isLt]

end Places

/-! ## Checks (R145) -/

theorem lowestSub_eq_none_iff {l : List Check} : lowestSub l = none ↔ l.all Prod.snd = true := by
  induction l with
  | nil => exact ⟨fun _ => rfl, fun _ => rfl⟩
  | cons c r ih =>
    obtain ⟨sub, ok⟩ := c
    cases ok with
    | true => exact ih
    | false =>
      cases hr : lowestSub r <;> simp [lowestSub, hr]

/-- A word for which there is a candidate has a major opcode that names a class (R142). -/
theorem majorNamed_of_pick {w : Nat} {c : Candidate} (h : pick w = some c) : majorNamed (major w) = true := by
  unfold pick at h
  split at h
  case h_57 => cases h
  all_goals next hm => rw [hm]; rfl

/-! ## Words (R132, R142): the decoder's candidate for the word of an instruction is that instruction -/

/-- The constructors of `Instr` stand in the order of the opcode table: those from row `lo` on and before row `hi`. -/
def Instr.inRows (i : Instr) (lo hi : Nat) : Bool := decide (lo ≤ i.ctorIdx) && decide (i.ctorIdx < hi)

/-- Rows 0 to 15 are halfwords, 16 to 372 words, and the rest are events. -/
theorem encodedLength_eq (i : Instr) : encodedLength i = if i.ctorIdx < 16 then 2 else if i.ctorIdx < 373 then 4 else 0 := by
  cases i <;> rfl

/-- A word of 32 bits with bit 0 set, for which the decoder has an instruction as its candidate and finds nothing in the places
that the form does not use. -/
def ReadsBack (w : Nat) (i : Instr) : Prop :=
  fieldNat w 0 1 = 1 ∧ w / 2 ^ 32 = 0 ∧
    ∃ c, pick w = some c ∧ c.instr = i ∧ (szChecks w ++ c.wordChecks w).all Prod.snd = true

/-- The function of a GEO word with key bit is not that of `segx` (R217). -/
theorem geoFunction_ne {w : Nat} (h : w / 268435456 % 8 < 4) : (w / 268435456 % 16 = 12) = False :=
  eq_false (by omega)

/-- SALU and VALU and their forms with an immediate. -/
theorem readsBack_alu (i : Instr) (h : i.inRows 16 66 = true) : ReadsBack (encode i) i := by
  cases i with
  | saluAdd | saluSub | saluAnd | saluOr | saluXor | saluShl | saluShr | saluSra | saluMin | saluMax | saluMinn | saluMaxn |
    saluMul | saluMulh | saluDiv | saluRem | valuAdd | valuSub | valuAnd | valuOr | valuXor | valuShl | valuShr | valuSra |
    valuMin | valuMax | valuMinn | valuMaxn | valuMul | valuMulh | valuDiv | valuRem | saddi | vaddi | slogiAnd | slogiOr |
    slogiXor | slogiShl | slogiShr | slogiSra | slogiClr | vlogiAnd | vlogiOr | vlogiXor | vlogiShl | vlogiShr | vlogiSra |
    vlogiClr | slih | vlih =>
    change ReadsBack (_ + _) _
    simp only [pick00, pick08, pick01, pick09, pick02, pick0A, pick03, pick0B, ReadsBack, pick, szChecks, Candidate.wordChecks,
      major, field, fieldNat, div_mod_add_above, div_add_below, ofNat_div_mod_add, Nat.reducePow, Nat.reduceDiv, Nat.reduceMod,
      Nat.reduceMul, Nat.reduceLT, Nat.reduceBEq, Bool.or_self, Bool.false_eq_true, ↓reduceIte, List.nil_append, List.all_cons,
      List.all_nil, Bool.and_self, Option.some.injEq, exists_eq_left', true_and]
  | _ => exact absurd h Bool.false_ne_true

/-- SMISC, VMISC, the compares, the predicates and the exchanges. -/
theorem readsBack_misc (i : Instr) (h : i.inRows 66 135 = true) : ReadsBack (encode i) i := by
  cases i with
  | smiscDivn | smiscRemn | smiscClz | smiscCtz | smiscPopc | smiscBrev | smiscSext8 | smiscSext16 | smiscMulhn | smiscRot |
    smiscAdd64 | smiscSub64 | smiscMad | smiscMad64 | vmiscDivn | vmiscRemn | vmiscClz | vmiscCtz | vmiscPopc | vmiscBrev |
    vmiscSext8 | vmiscSext16 | vmiscMulhn | vmiscRot | vmiscAdd64 | vmiscSub64 | vmiscMad | vmiscMad64 | scmpEq | scmpNe | scmpLt
    | scmpLe | scmpLtn | scmpLen | vcmpEq | vcmpNe | vcmpLt | vcmpLe | vcmpLtn | vcmpLen | vcmpEq64 | vcmpLt64 | vcmpLtn64 |
    predAnd | predOr | predXor | predAndn | predAny | predAll | predUni | predBallot | predTov | predFromv | xchShfl | xchShup |
    xchShdn | xchShxor | xchBcast | xchRadd | xchRmin | xchRmax | xchRminn | xchRmaxn | xchRand | xchRior | xchRxor | xchRfadd |
    xchRfmin | xchRfmax =>
    change ReadsBack (_ + _) _
    simp only [pick04, pick0C, pick05, pick0D, pick0E, pick0F, ReadsBack, pick, szChecks, Candidate.wordChecks, major, field,
      fieldNat, div_mod_add_above, div_add_below, ofNat_div_mod_add, Nat.reducePow, Nat.reduceDiv, Nat.reduceMod, Nat.reduceMul,
      Nat.reduceLT, Nat.reduceBEq, Bool.or_self, Bool.false_eq_true, ↓reduceIte, List.nil_append, List.all_cons, List.all_nil,
      Bool.and_self, Option.some.injEq, exists_eq_left', true_and]
  | _ => exact absurd h Bool.false_ne_true

/-- Branches, control and the forms on binary32. -/
theorem readsBack_single (i : Instr) (h : i.inRows 135 190 = true) : ReadsBack (encode i) i := by
  cases i with
  | br | call | jrJmp | jrJcall | jrRet | cvbArm | cvbWait | cvbDrop | ctrlBrk | ctrlTrap | ctrlClk | guard | faluAdd | faluSub |
    faluMul | faluMin | faluMax | faluCpys | faluAbs | faluNeg | faluAddFtz | faluSubFtz | faluMulFtz | faluMinFtz | faluMaxFtz |
    ffmaFma | ffmaFms | ffmaFnma | ffmaFnms | ffmaFmaFtz | ffmaFmsFtz | ffmaFnmaFtz | ffmaFnmsFtz | fcmpEq | fcmpNe | fcmpLt |
    fcmpLe | fcmpUn | fcmpDeq | fcmpDne | fcmpDlt | fcmpDle | fcmpDun | fspecRcp | fspecRsqrt | fspecSqrt | fspecExp2 | fspecLog2
    | fspecSin | fspecCos | fspecTanh | fspecDiv =>
    change ReadsBack (_ + _) _
    simp only [pick10, pick11, pick12, pick13, pick14, pick18, pick19, pick1A, pick1B, ReadsBack, pick, szChecks,
      Candidate.wordChecks, major, field, fieldNat, div_mod_add_above, div_add_below, ofNat_div_mod_add, Nat.reducePow,
      Nat.reduceDiv, Nat.reduceMod, Nat.reduceMul, Nat.reduceLT, Nat.reduceBEq, Bool.or_self, Bool.false_eq_true, ↓reduceIte,
      List.nil_append, List.all_cons, List.all_nil, Bool.and_self, Option.some.injEq, exists_eq_left', true_and]
  | ctrlNop | ctrlExit | ctrlYield => exact ⟨rfl, rfl, _, rfl, rfl, rfl⟩
  | _ => exact absurd h Bool.false_ne_true

/-- The forms on binary64 and the conversions. -/
theorem readsBack_double (i : Instr) (h : i.inRows 190 238 = true) : ReadsBack (encode i) i := by
  cases i with
  | daluAdd | daluSub | daluMul | daluMin | daluMax | daluDiv | daluSqrt | daluAddFtz | daluSubFtz | daluMulFtz | daluMinFtz |
    daluMaxFtz | daluDivFtz | daluSqrtFtz | dfmaFma | dfmaFms | dfmaFnma | dfmaFnms | dfmaFmaFtz | dfmaFmsFtz | dfmaFnmaFtz |
    dfmaFnmsFtz | fcvtF32F64 | fcvtF64F32 | fcvtF16F32 | fcvtF32F16 | fcvtBf16F32 | fcvtF32Bf16 | fcvtS32F32 | fcvtN32F32 |
    fcvtF32S32 | fcvtF32N32 | fcvtS64F64 | fcvtF64S64 | fcvtS32F64 | fcvtF64S32 | fcvtN64F64 | fcvtF64N64 | frndRnd | frndCls |
    frndFrexpm | frndFrexpe | frndLdexp | frndRndF64 | frndClsF64 | frndFrexpmF64 | frndFrexpeF64 | frndLdexpF64 =>
    change ReadsBack (_ + _) _
    simp only [pick1C, pick1D, pick1E, pick1F, ReadsBack, pick, szChecks, Candidate.wordChecks, major, field, fieldNat,
      div_mod_add_above, div_add_below, ofNat_div_mod_add, Nat.reducePow, Nat.reduceDiv, Nat.reduceMod, Nat.reduceMul,
      Nat.reduceLT, Nat.reduceBEq, Bool.or_self, Bool.false_eq_true, ↓reduceIte, List.nil_append, List.all_cons, List.all_nil,
      Bool.and_self, Option.some.injEq, exists_eq_left', true_and]
  | _ => exact absurd h Bool.false_ne_true

/-- The packed forms, the 8-bit formats, CMPR and GEO. -/
theorem readsBack_packed (i : Instr) (h : i.inRows 238 275 = true) : ReadsBack (encode i) i := by
  cases i with
  | halu2Bf16Add | halu2Bf16Sub | halu2Bf16Mul | halu2Bf16Fma | halu2Bf16Min | halu2Bf16Max | halu2Bf16Pack | halu2F16Add |
    halu2F16Sub | halu2F16Mul | halu2F16Fma | halu2F16Min | halu2F16Max | halu2F16Pack | qcvtE4m3n | qcvtE5m2n | qcvtDm8 |
    qdecE4m3nF32 | qdecE5m2nF32 | qdecDm8F32 | qdecE4m3nBf16 | qdecE5m2nBf16 | qdecDm8Bf16 | qdecE4m3nF16 | qdecE5m2nF16 |
    qdecDm8F16 | cmprComp16 | cmprComp8 | cmprExp16 | cmprExp8 | cmprMeta16 | cmprMeta8 | geoOrient2 | geoOrient3 | geoIncircle |
    geoInsphere | geoSegx =>
    change ReadsBack (_ + _) _
    simp only [pick20, pick21, pick22, pick23, pick24, geoFunction_ne, Nat.reduceEqDiff, ReadsBack, pick, szChecks,
      Candidate.wordChecks, major, field, fieldNat, div_mod_add_above, div_add_below, ofNat_div_mod_add, Nat.reducePow,
      Nat.reduceDiv, Nat.reduceMod, Nat.reduceMul, Nat.reduceLT, Nat.reduceBEq, Bool.or_self, Bool.false_eq_true, ↓reduceIte,
      List.nil_append, List.all_cons, List.all_nil, Bool.and_self, Option.some.injEq, exists_eq_left', true_and]
  | _ => exact absurd h Bool.false_ne_true

/-- Loads, stores, atomics and the lattice forms. -/
theorem readsBack_access (i : Instr) (h : i.inRows 275 300 = true) : ReadsBack (encode i) i := by
  cases i with
  | ld | st | ldo32 | ldo64 | sto32 | sto64 | ldaq | strl | amo32Add | amo32And | amo32Or | amo32Xor | amo32Min | amo32Max |
    amo32Minn | amo32Maxn | amoxXchg | amoxXchg64 | amoxCas | amoxCas64 | amoxFadd | amoxAdd64 | lst | lld | lpoll =>
    change ReadsBack (_ + _) _
    simp only [pick26, pick27, pick28, pick29, pick2A, pick2B, pick2C, pick2D, pick2E, pick2F, pick30, Bool.true_or, Bool.or_true,
      ReadsBack, pick, szChecks, Candidate.wordChecks, major, field, fieldNat, div_mod_add_above, div_add_below,
      ofNat_div_mod_add, Nat.reducePow, Nat.reduceDiv, Nat.reduceMod, Nat.reduceMul, Nat.reduceLT, Nat.reduceBEq, Bool.or_self,
      Bool.false_eq_true, ↓reduceIte, List.nil_append, List.cons_append, List.all_cons, List.all_nil, Bool.and_self,
      Option.some.injEq, exists_eq_left', true_and]
  | _ => exact absurd h Bool.false_ne_true

/-- `seal` is a word of Lean, so no tactic can name its case: it is found by a match and read back apart from its chapter. -/
theorem exists_eq_seal (i : Instr) (h : i.ctorIdx = 324) : ∃ d, i = .seal d :=
  match i, h with
  | .seal d, _ => ⟨d, rfl⟩

theorem readsBack_seal (d : BitVec 6) : ReadsBack (encode (.seal d)) (.seal d) := by
  change ReadsBack (_ + _) _
  simp only [pick35, ReadsBack, pick, szChecks, Candidate.wordChecks, major, field, fieldNat, div_mod_add_above, div_add_below,
    ofNat_div_mod_add, Nat.reducePow, Nat.reduceDiv, Nat.reduceMod, Nat.reduceMul, Nat.reduceLT, Nat.reduceBEq, Bool.or_self,
    Bool.false_eq_true, ↓reduceIte, List.nil_append, List.all_cons, List.all_nil, Bool.and_self, Option.some.injEq,
    exists_eq_left', true_and]

/-- Fences, ranges, tiles, scratchpads, copies, seals and descriptors. -/
theorem readsBack_range (i : Instr) (h : i.inRows 300 328 = true) : ReadsBack (encode i) i := by
  by_cases hseal : i.ctorIdx = 324
  · obtain ⟨d, rfl⟩ := exists_eq_seal i hseal
    exact readsBack_seal d
  have hrest : (i.inRows 300 324 || i.inRows 325 328) = true := by
    simp only [Instr.inRows, Bool.or_eq_true, Bool.and_eq_true, decide_eq_true_eq] at h ⊢
    omega
  cases i with
  | fence | cwb | cinv | discard | zline | pin | unpin | dist | touch | demote | evict | rhset | spadLd32 | spadLd64 | spadLd128 |
    spadSt32 | spadSt64 | spadSt128 | cpyG2b | cpyG2s | cpyS2g | cpyG2g | cpyS2b | cpyS2s | waitn | tdset | tdget =>
    change ReadsBack (_ + _) _
    simp only [pick31, pick32, pick33, pick34, pick35, pick36, ReadsBack, pick, szChecks, Candidate.wordChecks, major, field,
      fieldNat, div_mod_add_above, div_add_below, ofNat_div_mod_add, Nat.reducePow, Nat.reduceDiv, Nat.reduceMod, Nat.reduceMul,
      Nat.reduceLT, Nat.reduceBEq, Bool.or_self, Bool.false_eq_true, ↓reduceIte, List.nil_append, List.all_cons, List.all_nil,
      Bool.and_self, Option.some.injEq, exists_eq_left', true_and]
  | _ => exact absurd hrest Bool.false_ne_true

/-- MMA, accumulators, tasks, KV and collectives. -/
theorem readsBack_engine (i : Instr) (h : i.inRows 328 351 = true) : ReadsBack (encode i) i := by
  cases i with
  | mma | mmaz | acq | rel | amov | azero | ast | tskSub | tskWait | tskBstat | tskBclr | kvKvg | kvKvgs | kvKvs | kvKvinv |
    colSum | colMax | colMin | colTri | colBcast | colGath | colBar =>
    change ReadsBack (_ + _) _
    simp only [pick37, pick38, pick39, pick3A, pick3B, Nat.reduceEqDiff, ReadsBack, pick, szChecks, Candidate.wordChecks, major,
      field, fieldNat, div_mod_add_above, div_add_below, ofNat_div_mod_add, Nat.reducePow, Nat.reduceDiv, Nat.reduceMod,
      Nat.reduceMul, Nat.reduceLT, Nat.reduceBEq, Bool.or_self, Bool.false_eq_true, ↓reduceIte, List.nil_append, List.all_cons,
      List.all_nil, Bool.and_self, Option.some.injEq, exists_eq_left', true_and]
  | capPass => exact ⟨rfl, rfl, _, rfl, rfl, rfl⟩
  | _ => exact absurd h Bool.false_ne_true

/-- Returns, CSRs, energy, rings, events, barriers and queues. -/
theorem readsBack_system (i : Instr) (h : i.inRows 351 373 = true) : ReadsBack (encode i) i := by
  cases i with
  | tret | syscall | csrr | csrw | csrs | csrc | egyRd | egyReq | pwrGate | rsend | rrecv | lnch | evtSig | evtWait | qenq | qdeq
    | pcrd | pcwr | cvbrd | cvbwr =>
    change ReadsBack (_ + _) _
    simp only [pick3C, pick3D, ReadsBack, pick, szChecks, Candidate.wordChecks, major, field, fieldNat, div_mod_add_above,
      div_add_below, ofNat_div_mod_add, Nat.reducePow, Nat.reduceDiv, Nat.reduceMod, Nat.reduceMul, Nat.reduceLT, Nat.reduceBEq,
      Bool.or_self, Bool.false_eq_true, ↓reduceIte, List.nil_append, List.all_cons, List.all_nil, Bool.and_self,
      Option.some.injEq, exists_eq_left', true_and]
  | barCrew | barGang => exact ⟨rfl, rfl, _, rfl, rfl, rfl⟩
  | _ => exact absurd h Bool.false_ne_true

theorem readsBack_encode (i : Instr) (h : encodedLength i = 4) : ReadsBack (encode i) i := by
  have hrow : 16 ≤ i.ctorIdx ∧ i.ctorIdx < 373 := by
    rw [encodedLength_eq] at h
    split at h <;> [omega; (split at h <;> omega)]
  have rows : ∀ lo hi, lo ≤ i.ctorIdx → i.ctorIdx < hi → i.inRows lo hi = true := fun lo hi hlo hhi => by
    simp [Instr.inRows, hlo, hhi]
  rcases Nat.lt_or_ge i.ctorIdx 66 with h1 | h1
  · exact readsBack_alu i (rows _ _ hrow.1 h1)
  rcases Nat.lt_or_ge i.ctorIdx 135 with h2 | h2
  · exact readsBack_misc i (rows _ _ h1 h2)
  rcases Nat.lt_or_ge i.ctorIdx 190 with h3 | h3
  · exact readsBack_single i (rows _ _ h2 h3)
  rcases Nat.lt_or_ge i.ctorIdx 238 with h4 | h4
  · exact readsBack_double i (rows _ _ h3 h4)
  rcases Nat.lt_or_ge i.ctorIdx 275 with h5 | h5
  · exact readsBack_packed i (rows _ _ h4 h5)
  rcases Nat.lt_or_ge i.ctorIdx 300 with h6 | h6
  · exact readsBack_access i (rows _ _ h5 h6)
  rcases Nat.lt_or_ge i.ctorIdx 328 with h7 | h7
  · exact readsBack_range i (rows _ _ h6 h7)
  rcases Nat.lt_or_ge i.ctorIdx 351 with h8 | h8
  · exact readsBack_engine i (rows _ _ h7 h8)
  · exact readsBack_system i (rows _ _ h8 hrow.2)

/-- The decoder takes such a word where the instruction is well formed, behind a guard too if one may stand there (R139). -/
theorem decode32_of_readsBack {w : Nat} {i : Instr} {g : Bool} (h : ReadsBack w i) (hwf : WellFormed i = true)
    (hg : g = true → guardable w = true) : decode32 g w = .ok i := by
  obtain ⟨-, -, c, hpick, rfl, hclear⟩ := h
  rw [WellFormed, Bool.and_eq_true, Option.isNone_iff_eq_none, lowestSub_eq_none_iff] at hwf
  have hguard : (!g || guardable w) = true := by
    cases g with
    | false => rfl
    | true => exact hg rfl
  have hchecks : lowestSub ((9, !g || guardable w) :: szChecks w ++ c.wordChecks w ++ c.instr.checks) = none := by
    rw [lowestSub_eq_none_iff, List.cons_append, List.cons_append, List.all_cons, List.all_append, hclear, hwf.1, hguard]
    rfl
  unfold decode32
  simp only [majorNamed_of_pick hpick, if_true, hpick, hchecks]

/-! ## Halfwords (R131) -/

/-- A halfword with bit 0 clear that decodes to an instruction, if it is not 0x0000. -/
def HalfReadsBack (w : Nat) (i : Instr) : Prop :=
  fieldNat w 0 1 = 0 ∧ w / 2 ^ 16 = 0 ∧ (w ≠ 0 → decode16 w = .ok i)

theorem halfReadsBack_encode (i : Instr) (h : i.inRows 0 16 = true) : HalfReadsBack (encode i) i := by
  cases i with
  | mov | iadd | isub | iand | ior | ixor | ishl | ishr | imin | imax | fadd | fsub | fmul | fmax | fmin | fmac =>
    change HalfReadsBack (_ + _) _
    simp only [HalfReadsBack, decode16, field, fieldNat, div_mod_add_above, div_add_below, ofNat_div_mod_add, Nat.reducePow,
      Nat.reduceDiv, Nat.reduceMod, Nat.reduceMul, Nat.reduceLT, true_and]
    exact fun hne => if_neg hne
  | _ => exact absurd h Bool.false_ne_true

/-- Of the halfwords, that of `mov v0, v0` alone is 0x0000 (R131, R144). -/
theorem encode_ne_zero (i : Instr) (h : i.inRows 0 16 = true) (hz : i.notZeroHalf = true) : encode i ≠ 0 := by
  cases i with
  | mov a d =>
    change (a.toNat != 0 || d.toNat != 0) = true at hz
    rw [Bool.or_eq_true, bne_iff_ne, bne_iff_ne] at hz
    change 0 + a.toNat * 2048 + d.toNat * 32 ≠ 0
    omega
  | iadd | isub | iand | ior | ixor | ishl | ishr | imin | imax | fadd | fsub | fmul | fmax | fmin | fmac =>
    change _ + _ + _ ≠ 0
    omega
  | _ => exact absurd h Bool.false_ne_true

/-! ## Bytes (R129) -/

theorem leNat_natLE (n w : Nat) : leNat (natLE n w) = w % 256 ^ n := by
  induction n generalizing w with
  | zero => rw [natLE, leNat, Nat.pow_zero, Nat.mod_one]
  | succ n ih =>
    rw [natLE, leNat, ih, BitVec.toNat_ofNat, Nat.mod_mod, Nat.pow_succ', Nat.mod_mul]

theorem take_natLE {m n : Nat} (h : m ≤ n) (w : Nat) : (natLE n w).take m = natLE m w := by
  induction m generalizing n w with
  | zero => rfl
  | succ m ih =>
    obtain ⟨n, rfl⟩ := Nat.exists_eq_succ_of_ne_zero (by omega : n ≠ 0)
    rw [natLE, List.take_succ_cons, ih (by omega), natLE]

theorem decodeBytes_word {g : Bool} {n w : Nat} (hn : 4 ≤ n) (hodd : w % 2 = 1) (hw : w < 2 ^ 32) :
    decodeBytes g (natLE n w) = (4, w, decode32 g w) := by
  have hhalf : leNat ((natLE n w).take 2) = w % 65536 := by
    rw [take_natLE (by omega), leNat_natLE]
    rfl
  have hword : leNat ((natLE n w).take 4) = w := by rw [take_natLE hn, leNat_natLE, Nat.mod_eq_of_lt (by omega)]
  unfold decodeBytes
  simp only [hhalf, hword]
  rw [if_neg (by omega)]

theorem decodeBytes_half {g : Bool} {n w : Nat} (hn : 2 ≤ n) (heven : w % 2 = 0) (hw : w < 2 ^ 16) :
    decodeBytes g (natLE n w) = (2, w, decode16 w) := by
  have hhalf : leNat ((natLE n w).take 2) = w := by rw [take_natLE hn, leNat_natLE, Nat.mod_eq_of_lt (by omega)]
  unfold decodeBytes
  simp only [hhalf]
  rw [if_pos heven]

/-- The bytes of a well-formed instruction, and any that follow its word, decode to it. -/
theorem decodeBytes_encode {g : Bool} {n : Nat} {i : Instr} (hn : encodedLength i ≤ n) (hlen : encodedLength i ≠ 0)
    (hwf : WellFormed i = true) (hg : g = true → guardable (encode i) = true) :
    decodeBytes g (natLE n (encode i)) = (encodedLength i, encode i, .ok i) := by
  have hkind := encodedLength_eq i
  by_cases hhalf : i.ctorIdx < 16
  · rw [if_pos hhalf] at hkind
    rw [WellFormed, Bool.and_eq_true] at hwf
    have hrow : i.inRows 0 16 = true := by simp [Instr.inRows, hhalf]
    obtain ⟨heven, hshort, hdecode⟩ := halfReadsBack_encode i hrow
    rw [fieldNat, Nat.pow_zero, Nat.div_one] at heven
    rw [decodeBytes_half (by omega) heven (Nat.lt_of_div_eq_zero (by decide) hshort),
      hdecode (encode_ne_zero i hrow hwf.2), hkind]
  · have hword : encodedLength i = 4 := by
      rw [if_neg hhalf] at hkind
      split at hkind
      · exact hkind
      · exact absurd hkind hlen
    have hreads := readsBack_encode i hword
    have ⟨hodd, hlong, _⟩ := hreads
    rw [fieldNat, Nat.pow_zero, Nat.div_one] at hodd
    rw [decodeBytes_word (by omega) hodd (Nat.lt_of_div_eq_zero (by decide) hlong), decode32_of_readsBack hreads hwf hg, hword]

/-- A word of 32 bits that is that of a well-formed instruction, read as the opcode table numbers its bits. -/
theorem decodeTableWord_encode {i : Instr} (hlen : encodedLength i = 4) (hwf : WellFormed i = true) :
    decodeTableWord 32 (encode i) = some i := by
  obtain ⟨-, hlong, -⟩ := readsBack_encode i hlen
  rw [decodeTableWord, Nat.mod_eq_of_lt (Nat.lt_of_div_eq_zero (by decide) hlong),
    decodeBytes_encode (g := false) (by omega) (by omega) hwf nofun]

/-- Settles O56: each word is the one that `encode` gives for its instruction (`decodeTableWord_encode`). -/
theorem decodesWords : Obligations.DecodesWords := by
  unfold Obligations.DecodesWords
  exact ⟨decodeTableWord_encode (i := .valuSub 5 4 0 3) rfl rfl, decodeTableWord_encode (i := .saddi 100 0 1) rfl rfl,
    decodeTableWord_encode (i := .vcmpLt 0x44 2 1) rfl rfl, decodeTableWord_encode (i := .jrJcall 4 62) rfl rfl,
    decodeTableWord_encode (i := .ffmaFma 6 5 0 4) rfl rfl, decodeTableWord_encode (i := .ld 3 0 0 0x42 4) rfl rfl,
    decodeTableWord_encode (i := .lst 0x46 2 4) rfl rfl, decodeTableWord_encode (i := .ctrlNop) rfl rfl, rfl⟩

/-- Settles O57: `decodeBytes_encode`, for words by the candidate that the decoder has for each (`readsBack_encode`), and for
halfwords by `halfReadsBack_encode`. -/
theorem decodeOfEncode : Obligations.DecodeOfEncode := by
  unfold Obligations.DecodeOfEncode
  intro i hlen hwf
  exact ⟨decodeBytes_encode le_rfl hlen hwf nofun, fun hg => decodeBytes_encode le_rfl hlen hwf fun _ => hg⟩

end Sys2Proof

/-! The 16-bit forms (R131): each is the shape of its 32-bit form with D as first source. -/
namespace Sys2Proof.Machine

section ShortForms
variable {s : State} {c : Cur} {w : Warp} {b a : BitVec 7} {nw : BitVec 1} {d : BitVec 6} {x y : Nat → Thread → Word}

/-- A form of two sources, by what each delivers to a thread. -/
theorem lane2_delivers {f : Word → Word → Word} (hi : Issuing s c w) (hc : Clear c w (uses2 b a d 1 1))
    (hx : ∀ t < 32, inMask c.taking t = true → (s.plain c w).src t (w.thread t) a = some (x t (w.thread t)))
    (hy : ∀ t < 32, inMask c.taking t = true → (s.plain c w).src t (w.thread t) b = some (y t (w.thread t))) :
    lane2 s b a nw d f = .next (laneDone s c w fun t th => wrote nw d th [f (x t th) (y t th)]) := by
  refine laneOp_done hi hc fun t ht hm => ?_
  rw [hx t ht hm, hy t ht hm]
  rfl

theorem fp2_delivers {f : Mode → Nat → Nat → Rounded} (hi : Issuing s c w) (hc : Clear c w (uses2 b a d 1 1))
    (hx : ∀ t < 32, inMask c.taking t = true → (s.plain c w).src t (w.thread t) a = some (x t (w.thread t)))
    (hy : ∀ t < 32, inMask c.taking t = true → (s.plain c w).src t (w.thread t) b = some (y t (w.thread t))) :
    fp2 s none b a nw d f = .next (laneDone s c w fun t th =>
      wrote32 nw d th (f (Mode.of w.frm.toNat) (x t th).toNat (y t th).toNat)) := by
  refine laneOp_done hi hc fun t ht hm => ?_
  rw [hx t ht hm, hy t ht hm]
  rfl

/-- A vector register as a source of a lane form (R134). -/
theorem src_register (v : Ctx) (t : Nat) (th : Thread) (d : BitVec 6) : v.src t th (d.setWidth 7) = some (th.vreg d.toNat) := by
  have hd : (d.setWidth 7).toNat = d.toNat := BitVec.toNat_setWidth_of_le (by decide)
  unfold Ctx.src
  simp only [hd]
  exact if_pos d.isLt

/-- The code `z` (R134). -/
theorem src_zero (v : Ctx) (t : Nat) (th : Thread) : v.src t th 0x64 = some 0 := rfl

end ShortForms

/-- Settles O5: an integer form is `lane2` and a floating-point form `fp2` with D as first source, `mov` is `valu.or` with `z`, and
`fmac` is `ffma.fma` with `l0`. -/
theorem shortFormResults : Obligations.ShortFormResults := by
  unfold Obligations.ShortFormResults
  refine ⟨fun e he s c w a d hi hc hr => ?_, fun s c w a d hi hc hr => ?_, fun e he s c w a d hi hc hr => ?_,
    fun s c w a d hi hc hr => ?_⟩
  · have hexec : exec (e.1 a d) s = lane2 s (shortCode a) (d.setWidth 7) 0 d e.2 := by fin_cases he <;> rfl
    exact hexec.trans (lane2_delivers hi hc (fun t _ _ => src_register _ t _ d)
      fun t ht hm => readable_src hr ht hm List.mem_cons_self)
  · have hexec : exec (.mov a d) s = lane2 s 0x64 (shortCode a) 0 d aluOr := rfl
    have hor : ∀ v, aluOr v 0 = v := fun v => BitVec.or_zero
    rw [hexec, lane2_delivers (x := fun t _ => s.val c w t (shortCode a)) (y := fun _ _ => 0) hi hc (fun t ht hm => readable_src hr ht hm List.mem_cons_self)
      fun t _ _ => src_zero _ t _]
    simp only [hor]
  · have hexec : exec (e.1 a d) s = fp2 s none (shortCode a) (d.setWidth 7) 0 d e.2 := by fin_cases he <;> rfl
    exact hexec.trans (fp2_delivers hi hc (fun t _ _ => src_register _ t _ d)
      fun t ht hm => readable_src hr ht hm List.mem_cons_self)
  · have hexec : exec (.fmac a d) s = fp3 s none 0x60 (shortCode a) 0 d (fp32.fma false false false) := rfl
    exact hexec.trans (fp3_done hi hc hr)

end Sys2Proof.Machine

/-! A word that does not decode (R144 to R146), and the end of the launch whose kernel does not enable that trap (R330, R333 to R335,
R349): an abort finishes the threads of the launch, and what follows from that leaves finished what has finished. -/
namespace Sys2Proof.Machine

/-! ## Finished threads -/

/-- The thread `t` of a warp has finished. -/
def Warp.done (w : Warp) (t : Nat) : Prop := (w.thread t).status = .finished

theorem unfinished_eq_zero_iff {w : Warp} : w.unfinished = 0 ↔ ∀ t < 32, w.done t := by
  have hbit : ∀ t < 32, inMask w.unfinished t = ((w.thread t).status != .finished) := fun t ht => inMask_maskOf _ ht
  constructor
  · intro h t ht
    have hb := hbit t ht
    rw [h] at hb
    simpa [inMask, Warp.done] using hb
  · intro h
    refine BitVec.eq_of_getLsbD_eq fun t ht => ?_
    have hd : (w.thread t).status = .finished := h t ht
    have hb := hbit t ht
    rw [hd] at hb
    simpa [inMask] using hb

/-- A change of threads that leaves finished those that have. -/
theorem done_mapThreads {w : Warp} {f : Nat → Thread → Thread} {t : Nat} (ht : t < 32) (h : w.done t)
    (hf : ∀ th, th.status = .finished → (f t th).status = .finished) : (w.mapThreads f).done t := by
  rw [Warp.done, thread_mapThreads w f ht]
  exact hf _ h

theorem release_finished {th : Thread} (n : Nat) (b : Bool) (h : th.status = .finished) : (th.release n b).status = .finished := by
  simp [Thread.release, h]

theorem pass_finished {th : Thread} (f : Status → Bool) (v : Dword) (h : th.status = .finished) :
    (th.pass f v).status = .finished := by
  unfold Thread.pass
  split
  · simp [h]
  · exact h

theorem done_settleBar {w : Warp} {t : Nat} (n : Nat) (ht : t < 32) (h : w.done t) : (w.settleBar n).done t := by
  have hrelease : ∀ m, (w.onThreads m (Thread.release n false)).done t := fun m =>
    done_mapThreads ht h fun th hth => by
      split
      · exact release_finished n false hth
      · exact hth
  unfold Warp.settleBar
  dsimp only
  split
  · exact hrelease _
  · split
    · exact hrelease _
    · exact h

theorem done_dropBars {w : Warp} {t : Nat} (m : Word) (bars : BitVec 16) (ht : t < 32) (h : w.done t) :
    (w.dropBars m bars).done t := by
  unfold Warp.dropBars
  refine List.foldlRecOn (motive := fun u : Warp => u.done t) _ _ h fun u hu n _ => ?_
  split
  · exact done_settleBar n ht hu
  · exact hu

/-- A warp some of whose threads finish (R20). -/
def Warp.finished (w : Warp) (m : Word) : Warp :=
  (w.onThreads m fun th => { th with status := .finished, timeout := 0, held := none }).dropBars m 0xFFFF

theorem done_finished {w : Warp} {t : Nat} (m : Word) (ht : t < 32) (h : w.done t ∨ inMask m t = true) : (w.finished m).done t := by
  refine done_dropBars m _ ht ?_
  rw [Warp.done, Warp.onThreads, thread_mapThreads w _ ht]
  split
  · rfl
  · next hm => exact h.resolve_right hm

/-- What finishing threads comes to once the warp's record is changed: the view times reach the launch, and what waited for the
threads is checked. -/
def State.afterFinish (s : State) (wk : Nat) (w : Warp) (v : Dword) : State :=
  let t := match s.launchOf w with
    | some (lk, l) => s.setLaunch lk { l with stamp := laterOf l.stamp v }
    | none => s
  (if w.unfinished = 0 then t.warpEnds wk else t).settleBarriers w

theorem finishThreads_none {s : State} {wk : Nat} {m : Word} (hw : s.warp wk = none) : s.finishThreads wk m = s := by
  unfold State.finishThreads
  rw [hw]

theorem finishThreads_eq {s : State} {wk : Nat} {m : Word} {w : Warp} (hw : s.warp wk = some w) : s.finishThreads wk m =
    (s.setWarp wk (w.finished m)).afterFinish wk (w.finished m)
      ((threadsOf m).foldl (fun v t => laterOf v (w.thread t).view) 0) := by
  unfold State.finishThreads
  rw [hw]
  rfl

/-! ## What the end of threads leaves -/

/-- What is left of a launch while its threads end: no more than its view time and its count of gangs change. -/
structure Launch.Carried (l m : Launch) : Prop where
  aborted : m.aborted = l.aborted
  redo : m.redo = l.redo
  next : m.next = l.next
  part : m.part = l.part
  stamp : l.stamp.toNat ≤ m.stamp.toNat

theorem Launch.Carried.refl (l : Launch) : l.Carried l := ⟨rfl, rfl, rfl, rfl, le_rfl⟩

theorem Launch.Carried.trans {l m n : Launch} (h : l.Carried m) (h' : m.Carried n) : l.Carried n :=
  ⟨h'.aborted.trans h.aborted, h'.redo.trans h.redo, h'.next.trans h.next, h'.part.trans h.part, h.stamp.trans h'.stamp⟩

/-- Launches are carried on, warps that have finished stay so, and a crew keeps its state or has finished. -/
structure WindsDown (s t : State) : Prop where
  launch : ∀ k l, s.launch k = some l → ∃ m, t.launch k = some m ∧ l.Carried m
  warp : ∀ k, (∀ w, s.warp k = some w → w.unfinished = 0) → ∀ w, t.warp k = some w → w.unfinished = 0
  crew : ∀ k c, s.crew k = some c → ∃ d, t.crew k = some d ∧ (d.state = c.state ∨ d.state = .finished)

namespace WindsDown
variable {s t u : State}

theorem of_same (hl : t.launches = s.launches) (hw : t.warps = s.warps) (hc : t.crews = s.crews) : WindsDown s t where
  launch k l h := ⟨l, by rwa [State.launch, hl], .refl l⟩
  warp k h w hk := h w (by rwa [State.warp, ← hw])
  crew k c h := ⟨c, by rwa [State.crew, hc], .inl rfl⟩

theorem refl (s : State) : WindsDown s s := of_same rfl rfl rfl
theorem setGang (s : State) (k : Nat) (x : Gang) : WindsDown s (s.setGang k x) := of_same rfl rfl rfl
theorem onCore (s : State) (k : Nat) (f : Core → Core) : WindsDown s (s.onCore k f) := of_same rfl rfl rfl

theorem trans (h : WindsDown s t) (h' : WindsDown t u) : WindsDown s u where
  launch k l hk := by
    obtain ⟨m, hm, hlm⟩ := h.launch k l hk
    obtain ⟨n, hn, hmn⟩ := h'.launch k m hm
    exact ⟨n, hn, hlm.trans hmn⟩
  warp k hk := h'.warp k (h.warp k hk)
  crew k c hk := by
    obtain ⟨d, hd, hcd⟩ := h.crew k c hk
    obtain ⟨e, he, hde⟩ := h'.crew k d hd
    refine ⟨e, he, ?_⟩
    rcases hde with hde | hde
    · rw [hde]
      exact hcd
    · exact .inr hde

theorem foldl {α : Type} {f : State → α → State} (hf : ∀ s a, WindsDown s (f s a)) (l : List α) (s : State) :
    WindsDown s (l.foldl f s) :=
  List.foldlRecOn (motive := WindsDown s) l f (refl s) fun t ht a _ => ht.trans (hf t a)

theorem setLaunch {k : Nat} {l m : Launch} (hk : s.launch k = some l) (h : l.Carried m) : WindsDown s (s.setLaunch k m) where
  launch j x hj := by
    by_cases hjk : j = k
    · subst hjk
      rw [hk] at hj
      cases hj
      exact ⟨m, State.setLaunch_same .., h⟩
    · exact ⟨x, by rwa [State.setLaunch_other _ _ _ hjk], .refl x⟩
  warp _ h := h
  crew _ c h := ⟨c, h, .inl rfl⟩

theorem setWarp {k : Nat} {w x : Warp} (hk : s.warp k = some w) (h : ∀ t < 32, w.done t → x.done t) :
    WindsDown s (s.setWarp k x) where
  launch _ l h := ⟨l, h, .refl l⟩
  warp j hj u hu := by
    by_cases hjk : j = k
    · subst hjk
      rw [State.setWarp_same] at hu
      cases hu
      have hw := unfinished_eq_zero_iff.1 (hj w hk)
      exact unfinished_eq_zero_iff.2 fun t ht => h t ht (hw t ht)
    · rw [State.setWarp_other _ _ _ hjk] at hu
      exact hj u hu
  crew _ c h := ⟨c, h, .inl rfl⟩

theorem setCrew {k : Nat} {c x : Crew} (hk : s.crew k = some c) (h : x.state = c.state ∨ x.state = .finished) :
    WindsDown s (s.setCrew k x) where
  launch _ l h := ⟨l, h, .refl l⟩
  warp _ h := h
  crew j d hj := by
    by_cases hjk : j = k
    · subst hjk
      rw [hk] at hj
      cases hj
      exact ⟨x, State.setCrew_same .., h⟩
    · exact ⟨d, by rwa [State.setCrew_other _ _ _ hjk], .inl rfl⟩

/-! ## The operations by which threads, warps, crews and gangs end (R20, R36, R253, R272, R335) -/

theorem passCrew (s : State) (c : Crew) (f : Status → Bool) (v : Dword) : WindsDown s (s.passCrew c f v) := by
  refine foldl (fun s k => ?_) _ s
  unfold State.onWarp
  split
  · next w hw => exact setWarp hw fun t ht h => done_mapThreads ht h fun th hth => pass_finished f v hth
  · exact refl s

theorem settleCrew (s : State) (ck : Nat) : WindsDown s (s.settleCrew ck) := by
  unfold State.settleCrew
  split
  · exact refl s
  · next c hc =>
    dsimp only
    split
    · exact trans (t := s.setCrew ck { c with arrived := 0 }) (setCrew hc (.inl rfl)) (passCrew ..)
    · exact setCrew hc (.inl rfl)

theorem settleGang (s : State) (gk : Nat) : WindsDown s (s.settleGang gk) := by
  cases hg : s.gang gk with
  | none =>
    rw [State.settleGang, hg]
    exact refl s
  | some g =>
    rw [settleGang_eq hg]
    split
    · exact (setGang ..).trans (foldl (fun t c => passCrew t c _ _) _ _)
    · exact setGang ..

theorem settleBarriers (s : State) (w : Warp) : WindsDown s (s.settleBarriers w) := by
  unfold State.settleBarriers
  split
  · exact (settleCrew ..).trans (settleGang ..)
  · exact refl s

theorem settleCap (s : State) (ck : Nat) : WindsDown s (s.settleCap ck) := by
  unfold State.settleCap
  split
  · exact refl s
  · next c hc =>
    dsimp only
    split
    · exact setCrew hc (.inl rfl)
    · exact refl s

theorem warpEnds (s : State) (wk : Nat) : WindsDown s (s.warpEnds wk) := by
  unfold State.warpEnds
  split
  · exact refl s
  · next w hw =>
    have hwarp : WindsDown s (s.setWarp wk { w.closeBatch none with subs := [] }) := setWarp hw fun t _ h => h
    exact (hwarp.trans (onCore ..)).trans (settleCap ..)

theorem afterFinish (s : State) (wk : Nat) (w : Warp) (v : Dword) : WindsDown s (s.afterFinish wk w v) := by
  have hstamp : WindsDown s (match s.launchOf w with
      | some (lk, l) => s.setLaunch lk { l with stamp := laterOf l.stamp v }
      | none => s) := by
    split
    · next lk l hl =>
      refine setLaunch (launch_of_launchOf hl) ⟨rfl, rfl, rfl, rfl, ?_⟩
      rw [toNat_laterOf]
      exact Nat.le_max_left ..
    · exact refl s
  unfold State.afterFinish
  refine trans ?_ (settleBarriers ..)
  split
  · exact hstamp.trans (warpEnds ..)
  · exact hstamp

theorem finishThreads (s : State) (wk : Nat) (m : Word) : WindsDown s (s.finishThreads wk m) := by
  cases hw : s.warp wk with
  | none =>
    rw [finishThreads_none hw]
    exact refl s
  | some w =>
    rw [finishThreads_eq hw]
    exact (setWarp hw fun t ht h => done_finished m ht (.inl h)).trans (afterFinish ..)

theorem onCrew_finished (s : State) (ck : Nat) : WindsDown s (s.onCrew ck fun c => { c with state := .finished }) := by
  unfold State.onCrew
  split
  · next c hc => exact setCrew hc (.inr rfl)
  · exact refl s

theorem onLaunch_done (s : State) (k : Nat) : WindsDown s (s.onLaunch k fun l => { l with done := l.done + 1 }) := by
  unfold State.onLaunch
  split
  · next l hl => exact setLaunch hl ⟨rfl, rfl, rfl, rfl, le_rfl⟩
  · exact refl s

theorem settleGangEnd (s : State) (gk : Nat) : WindsDown s (s.settleGangEnd gk) := by
  unfold State.settleGangEnd
  split
  · exact refl s
  · next g _ =>
    split
    · dsimp only
      split
      · exact (setGang ..).trans (onLaunch_done ..)
      · exact setGang ..
    · exact refl s

end WindsDown

/-- Where every thread of a warp finishes, the warp has (R335). -/
theorem finishThreads_all {s : State} {wk : Nat} {m : Word} (hm : ∀ t < 32, inMask m t = true) :
    ∀ w, (s.finishThreads wk m).warp wk = some w → w.unfinished = 0 := by
  cases hw : s.warp wk with
  | none =>
    intro w h
    rw [finishThreads_none hw, hw] at h
    cases h
  | some w =>
    rw [finishThreads_eq hw]
    refine (WindsDown.afterFinish ..).warp wk fun u hu => ?_
    rw [State.setWarp_same] at hu
    rw [← Option.some.inj hu]
    exact unfinished_eq_zero_iff.2 fun t ht => done_finished m ht (.inr (hm t ht))

/-! ## The abort of a launch (R335) -/

/-- What an abort does at one crew. -/
def State.abortCrew (lk : Nat) (s : State) (e : Nat × Crew) : State :=
  if e.2.launch = lk then
    let s := e.2.warps.foldl (fun s wk => s.finishThreads wk 0xFFFFFFFF) s
    if e.2.state = .suspended then (s.onCrew e.1 fun c => { c with state := .finished }).settleGangEnd e.2.gang else s
  else s

theorem advanceDisp_tables (s : State) (lk : Nat) :
    ((s.advanceDisp lk).launches, (s.advanceDisp lk).warps, (s.advanceDisp lk).crews) = (s.launches, s.warps, s.crews) := by
  have honPart : ∀ k f, ((s.onPart k f).launches, (s.onPart k f).warps, (s.onPart k f).crews) = (s.launches, s.warps, s.crews) := by
    intro k f
    unfold State.onPart
    split <;> rfl
  unfold State.advanceDisp
  split
  · split
    · split
      · exact honPart ..
      · rfl
    · rfl
  · rfl

/-- A launch as an abort leaves it at first: it starts no further gang. -/
def Launch.cut (l : Launch) : Launch := { l with aborted := true, next := max l.next l.gangs, redo := [] }

/-- The state in which an abort comes to the crews. -/
theorem abort_eq {s : State} {lk : Nat} {l : Launch} (h : s.launch lk = some l) : ∃ t : State,
    t.launch lk = some l.cut ∧ t.warps = s.warps ∧ t.crews = s.crews ∧ s.abort lk = s.crews.foldl (State.abortCrew lk) t := by
  have htables := advanceDisp_tables (s.setLaunch lk l.cut) lk
  simp only [Prod.mk.injEq] at htables
  obtain ⟨hlaunches, hwarps, hcrews⟩ := htables
  refine ⟨(s.setLaunch lk l.cut).advanceDisp lk, ?_, hwarps, hcrews, ?_⟩
  · rw [State.launch, hlaunches]
    exact State.setLaunch_same ..
  · unfold State.abort
    rw [h]
    exact congrArg (fun crews : Tab Crew => crews.foldl (State.abortCrew lk) ((s.setLaunch lk l.cut).advanceDisp lk)) hcrews

theorem WindsDown.abortCrew (lk : Nat) (s : State) (e : Nat × Crew) : WindsDown s (s.abortCrew lk e) := by
  unfold State.abortCrew
  split
  · have hwarps : WindsDown s (e.2.warps.foldl (fun s wk => s.finishThreads wk 0xFFFFFFFF) s) :=
      foldl (fun s wk => finishThreads s wk _) _ s
    dsimp only
    split
    · exact hwarps.trans ((onCrew_finished ..).trans (settleGangEnd ..))
    · exact hwarps
  · exact refl s

/-- What one step of a fold brings about and no step undoes holds at its end. -/
theorem foldl_establishes {α : Type} {P : State → Prop} {f : State → α → State} {l : List α} {s : State} {a : α} (ha : a ∈ l)
    (hwinds : ∀ s a, WindsDown s (f s a)) (hP : ∀ t, WindsDown s t → P (f t a)) (hkeep : ∀ t u, WindsDown t u → P t → P u) :
    P (l.foldl f s) := by
  obtain ⟨before, after, rfl⟩ := List.append_of_mem ha
  rw [List.foldl_append, List.foldl_cons]
  exact hkeep _ _ (.foldl hwinds after _) (hP _ (.foldl hwinds before s))

/-- The threads of the crews of an aborted launch have finished. -/
theorem abort_warps {s : State} {lk : Nat} {l : Launch} (h : s.launch lk = some l) {e : Nat × Crew} (he : e ∈ s.crews)
    (hlk : e.2.launch = lk) {wk : Nat} (hwk : wk ∈ e.2.warps) : ∀ u, (s.abort lk).warp wk = some u → u.unfinished = 0 := by
  obtain ⟨t, -, -, -, habort⟩ := abort_eq h
  rw [habort]
  refine foldl_establishes (P := fun t => ∀ u, t.warp wk = some u → u.unfinished = 0) he (WindsDown.abortCrew lk) (fun t _ => ?_)
    fun t u htu => htu.warp wk
  have hwarps : ∀ u, (e.2.warps.foldl (fun s wk => s.finishThreads wk 0xFFFFFFFF) t).warp wk = some u → u.unfinished = 0 :=
    foldl_establishes (P := fun t => ∀ u, t.warp wk = some u → u.unfinished = 0) hwk (fun s wk => .finishThreads s wk _)
      (fun t _ => finishThreads_all (by decide)) fun t u htu => htu.warp wk
  unfold State.abortCrew
  rw [if_pos hlk]
  dsimp only
  split
  · exact ((WindsDown.onCrew_finished ..).trans (.settleGangEnd ..)).warp wk hwarps
  · exact hwarps

/-- The suspended crews of an aborted launch have finished. -/
theorem abort_suspended {s : State} {lk ck : Nat} {l : Launch} {c : Crew} (h : s.launch lk = some l) (hc : s.crew ck = some c)
    (hlk : c.launch = lk) (hsus : c.state = .suspended) : ∃ d, (s.abort lk).crew ck = some d ∧ d.state = .finished := by
  obtain ⟨t, -, -, hcrews, habort⟩ := abort_eq h
  have hkeep : ∀ t u, WindsDown t u → (∃ d, t.crew ck = some d ∧ d.state = .finished) →
      ∃ d, u.crew ck = some d ∧ d.state = .finished := by
    rintro t u htu ⟨d, hd, hfin⟩
    obtain ⟨x, hx, hstate⟩ := htu.crew ck d hd
    exact ⟨x, hx, hstate.elim (·.trans hfin) id⟩
  rw [habort]
  refine foldl_establishes (P := fun t => ∃ d, t.crew ck = some d ∧ d.state = .finished) (mem_of_tfind hc)
    (WindsDown.abortCrew lk) (fun u htu => ?_) hkeep
  have hstart : t.crew ck = some c := by rwa [State.crew, hcrews]
  obtain ⟨d, hd, -⟩ := (htu.trans (.foldl (fun s wk => .finishThreads s wk 0xFFFFFFFF) c.warps u)).crew ck c hstart
  unfold State.abortCrew
  rw [if_pos hlk]
  dsimp only
  rw [if_pos hsus]
  refine hkeep _ _ (.settleGangEnd ..) ⟨{ d with state := .finished }, ?_, rfl⟩
  unfold State.onCrew
  rw [hd]
  exact State.setCrew_same ..

/-- An aborted launch starts no further gang, and its completion release covers what it covered. -/
theorem abort_launch {s : State} {lk : Nat} {l : Launch} (h : s.launch lk = some l) :
    ∃ m, (s.abort lk).launch lk = some m ∧ l.cut.Carried m := by
  obtain ⟨t, ht, -, -, habort⟩ := abort_eq h
  rw [habort]
  exact (WindsDown.foldl (WindsDown.abortCrew lk) s.crews t).launch lk l.cut ht

theorem abortFor_eq {s : State} {lk : Nat} {l : Launch} (h : s.launch lk = some l) (core : Nat) (x : Trap) :
    s.abortFor lk core x = (s.logFault l.part
      { va := x.addr, cause := x.cause, sub := x.sub, core := core, source := 5, queue := l.queueNo }).abort lk := by
  unfold State.abortFor
  rw [h]

/-! ## The trap (R144, R330, R334) -/

/-- Threads outside handlers that trap with a cause which no instruction names: they park where the kernel enables it, and their
launch is aborted where it does not. -/
theorem raiseOne_outside {s : State} {c : Cur} {w : Warp} {k i : Nat} {l : Launch} {m : Word} {t : Trap}
    (hw : s.warp c.warp = some w) (hl : s.launchOf w = some (k, l)) (hlow : lowestOf m = some i)
    (hnone : (w.thread i).handler = .none) (hlive : l.aborted = false) (ht : ¬ t.named) (hclean : t.cause ≠ 6) :
    s.raiseOne c m t =
      if (s.kernelOf w l).enables t then s.setWarp c.warp (w.parkAs c m t) else s.abortFor k (s.coreOf w) t := by
  have hbrk : (t.cause == 0xF || t.cause == 0x10) = false := by
    rw [Bool.eq_false_iff]
    simpa [Trap.named] using ht
  have hpark : ∀ f : Warp → Warp, s.onWarp c.warp f = s.setWarp c.warp (f w) := fun f => by rw [State.onWarp, hw]
  unfold State.raiseOne
  simp only [hw, hl, hclean, false_and, if_false, launch_of_launchOf hl, hlow, Option.map_some, Option.getD_some, hlive, hnone, hbrk,
    Bool.false_eq_true, hpark]
  rfl

/-- Settles O42: an abort is described by `abortFor_eq`, `abort_launch`, `abort_warps` and `abort_suspended`; a word that does not
decode raises one trap for its group (`raiseAll_once`), which `raiseOne_outside` gives. -/
theorem decodingTraps : Obligations.DecodingTraps := by
  unfold Obligations.DecodingTraps
  refine ⟨fun s k l hl => ⟨abortFor_eq hl, ?_, fun e he hlk wk hwk => abort_warps hl he hlk hwk, fun ck c => abort_suspended hl⟩,
    fun s c w cause sub word k l i hi hl hlow hnone hlive hcause => ?_⟩
  · obtain ⟨m, hm, hcarried⟩ := abort_launch hl
    exact ⟨m, hm, hcarried.aborted, hcarried.redo, hcarried.next ▸ Nat.le_max_right .., hcarried.part, hcarried.stamp⟩
  · have hnamed : ¬ (trapAt cause sub 0).named := by rcases hcause with rfl | rfl <;> simp [Trap.named, trapAt]
    have hclean : (trapAt cause sub 0).cause ≠ 6 := by rcases hcause with rfl | rfl <;> simp [trapAt]
    have hpc : framePc cause c.pc c.next = c.pc := if_neg hnamed
    have hexec : exec (.reservedInstructionWord cause sub word) s =
        .next (s.raiseAll { c with word := word } c.group (trapAt cause sub 0)) := onIssue_issuing hi
    rw [hexec, raiseAll_once hlow, raiseOne_outside (c := { c with word := word }) hi.2 hl hlow hnone hlive hnamed hclean]
    simp only [Warp.parkAs, trapAt, hpc]
    exact apply_ite Host.Outcome.next _ _ _

end Sys2Proof.Machine
